-- ==== Sys2Proof/Word.lean ====
section
/-! DEFINITION. The word types of the DXS-8 and their plainest arithmetic. -/

namespace Sys2Proof

/-- One byte. -/
abbrev Byte := BitVec 8

/-- A 512-bit task descriptor (R246). -/
abbrev Desc := BitVec 512

/-- The bits `[hi:lo]` of a number (R8). -/
def bits (x hi lo : Nat) : Nat := (x >>> lo) % 2 ^ (hi + 1 - lo)

/-- One bit of a number. -/
def bit (x n : Nat) : Bool := bits x n n == 1

/-- `x` reduced modulo `2^n`, as a counter of `n` bits wraps. -/
def wrap (n x : Nat) : Nat := x % 2 ^ n

/-- The integer that `n` bits hold in two's complement. -/
def toSigned (n x : Nat) : Int :=
  if x % 2 ^ n < 2 ^ (n - 1) then (x % 2 ^ n : Nat) else (x % 2 ^ n : Nat) - (2 ^ n : Nat)

/-- The `n`-bit two's complement encoding of an integer. -/
def ofSigned (n : Nat) (i : Int) : Nat := (i % (2 ^ n : Nat)).toNat

/-- The quotient rounded up. -/
def ceilDiv (a b : Nat) : Nat := (a + b - 1) / b

/-- `v` placed at bit `lo`. -/
def at' (lo v : Nat) : Nat := v <<< lo

end Sys2Proof
end

