-- ==== Sys2Proof/Syntax.lean ====
section
/-! DEFINITION. The commands of the DXS-8: one constructor for each row of the table, with the operands of log entry 4. -/

namespace Sys2Proof

/-- What the board and the dies present to a boot: straps and the outcomes of trainings and reconstructions (R472, R529, R560). -/
structure BootInputs where
  strapSlot : Nat
  strapBoot : Nat
  strapMgmt : Bool
  /-- Reads of the PUF region, one after another, before the one that gives the device seed (R472, R474). -/
  pufReads : List (List Byte)
  /-- Which of the eight stacks trained (R199). -/
  hbmTrained : List Bool
  slowTrained : Bool
  /-- Which of the four die-to-die edges trained (R529). -/
  edgesTrained : List Bool
  /-- Image kinds on trial whose start fails (R497). -/
  badStarts : List Nat
  /-- Lanes that the lane test of HBM finds failed: the half as `2 * pc + half`, and its lane (R199). -/
  laneFaults : List (Nat × Nat)
  deriving DecidableEq, Repr

/-- The outcome of a start check or an in-field test: failing units, each with "failed again at once" (R414). -/
structure TestResult where
  failed : List (Nat × Bool)
  /-- Junction temperature at the end of the Heat phase (R412). -/
  tempC : Int
  /-- The least slack of the Plaza's blocks in ps (R443). -/
  slackPs : Nat
  deriving DecidableEq, Repr

/-- A protected write: the block of R513 and the value. -/
structure PWrite where
  seq : Nat
  sig : List Byte
  value : List Byte
  deriving DecidableEq, Repr

/-- An ODP client and how its datagram came: source address and UDP port; the port that it arrives on, by the codes of R436: 34 for MP, 32 and 33 for HP0 and HP1; the address, UDP port and VID that it is sent to (R499). -/
structure Client where
  addr : Nat
  port : Nat
  via : Nat
  dst : Nat
  dport : Nat
  vid : Option Nat
  deriving DecidableEq, Repr

/-- An ODP frame: the header of R503 as a number and the data; `short` for a datagram of less than the 24 bytes of a header. -/
structure Frame where
  header : BitVec 192
  data : List Byte
  short : Bool
  deriving DecidableEq, Repr

/-- A ring whose head is to issue, and whether the head's ticket-table entry is found poisoned (R259, R393). -/
structure RingHead where
  ring : Nat
  poisoned : Bool
  deriving DecidableEq, Repr

/-- The end of a firmware switch of a kind: the image runs, or its start has failed (R495, R497). -/
structure FwStart where
  kind : Nat
  started : Bool
  deriving DecidableEq, Repr

/-- A data and check-bit upset found at a word (R391): of the stored bits, or of a word that has just arrived (R392, log entry 10). -/
structure Upset where
  dataXor : BitVec 64
  checkXor : BitVec 8
  /-- The carrier on which the word arrived, by its class: 4 a die-to-die edge, 5 a Hazel link, 6 an internal bus; 0 for stored bits. -/
  link : Nat
  /-- The replay of an uncorrectable word that succeeds, from 1; none succeeds beyond the eighth. -/
  replays : Nat
  deriving DecidableEq, Repr

/-- A lane of a pseudo-channel, in one of its halves (R169, R194). -/
structure HbmLane where
  half : Nat
  lane : Nat
  deriving DecidableEq, Repr

/-- What a slow-tier package reports at a reading: its temperature and the refresh-rate field of its mode register 4 (R346). -/
structure SlowReading where
  tempC : Int
  refresh : Nat
  deriving DecidableEq, Repr

/-- An Emith packet: the header of R318, the payload as carried and the tag; `ce` is the ECN mark CE (R330). -/
structure Packet where
  header : BitVec 256
  payload : List Byte
  tag : List Byte
  ce : Bool
  deriving DecidableEq, Repr

/-- A connection's name (R322): direction, local slice, peer device and slice, WCTX. -/
structure ConnKey where
  sending : Bool
  slice : Nat
  peer : Nat
  peerSlice : Nat
  wctx : Nat
  deriving DecidableEq, Repr

/-- What an Announce message says of a grandmaster (R423; IEEE 1588-2019, log entry 61). -/
structure PtpAnnounce where
  priority1 : Nat
  clockClass : Nat
  accuracy : Nat
  variance : Nat
  priority2 : Nat
  grandmaster : Nat
  stepsRemoved : Nat
  utcOffset : Int
  deriving DecidableEq, Repr

/-- The messages that a slave of the Delay Request-Response profile takes (R423); time stamps are those sent, corrected by their correction fields. -/
inductive PtpBody where
  | announce (a : PtpAnnounce)
  /-- A Sync: a two-step master gives its departure in the Follow_Up of the same number. -/
  | sync (seq : Nat) (twoStep : Bool) (t1 : Int)
  | followUp (seq : Nat) (t1 : Int)
  /-- The answer to this device's Delay_Req of a number, or to another's. -/
  | delayResp (seq : Nat) (mine : Bool) (t4 : Int)
  deriving DecidableEq, Repr

/-- A PTP message as it arrives (R423). -/
structure PtpMessage where
  port : Nat
  domain : Nat
  /-- What carried it, by the codes of PTP_TRANSPORT (R423). -/
  transport : Nat
  /-- Identity of the port that sent it: clock identity and port number. -/
  source : Nat
  /-- ns of DT from the present to its receipt. -/
  elapsedNs : Nat
  body : PtpBody
  deriving DecidableEq, Repr

/-- What the meters and sensors read at a tick (R429, R459, R468). -/
structure TickInputs where
  p1msW : Nat
  p20msW : Nat
  currentA : Nat
  /-- Junction temperature of each Plaza in degrees Celsius. -/
  tj : List Int
  /-- Lane error ratios, index `4 n + l` (R332). -/
  laneSer : List Nat
  deriving DecidableEq, Repr

/-- One telemetry measurement (R469). -/
structure PowerSample where
  p1ms : BitVec 32
  p20ms : BitVec 32
  vin : BitVec 32
  iin : BitVec 32
  energyMj : Nat
  rails : List (BitVec 32)
  deriving DecidableEq, Repr

/-- A received Ethernet frame as far as R313 and R315 look at it. -/
structure EthFrame where
  length : Nat
  vid : Option Nat
  /-- 0 Emith, 1 IEEE 1588, 2 IPv6 Neighbor Discovery, 3 ICMPv6 echo, 4 ARP, 5 ODP, other kinds above. -/
  kind : Nat
  udpPort : Nat
  deriving DecidableEq, Repr

/-- A Neighbor Discovery, ARP or echo frame: `kind` 0 solicitation or ARP request, 1 advertisement or ARP reply, 2 echo request, 3 echo reply. -/
structure NdFrame where
  kind : Nat
  ip : Nat
  mac : Nat
  deriving DecidableEq, Repr

/-- The commands. -/
inductive Instr where
  /-- POWER_ON (R528): PGOOD rises and Walnut boots, then bring-up runs the Boroughs, Hazel, the edges and HBM. -/
  | powerOn (boot : BootInputs)
  /-- LOSS_OF_INPUT (R556): PGOOD falls, every rail except VWAL turns off within 1 ms and the module is Off. -/
  | lossOfInput
  /-- RST_N_ASSERT (R555): RST_N is held low for 10 us, all rails except VWAL turn off and Walnut is held in reset. -/
  | rstNAssert
  /-- RST_N_RELEASE (R555): RST_N is released and a Cold reset runs bring-up from the release. -/
  | rstNRelease (boot : BootInputs)
  /-- DEVICE_RESET (R539): A write of 1 starts a Warm reset 10 ms after the response is sent. -/
  | deviceReset (value : Nat) (boot : BootInputs)
  /-- BOROUGH_RESET (R540): A write starts a Borough reset of Bb, which resets the affected contexts and clears Terrace b. -/
  | boroughReset (value : Nat)
  /-- BOROUGH_SILENCE (R539): Borough Bb gives no answer on the control bus for 100 ms and Walnut starts a Borough reset. -/
  | boroughSilence (borough : Nat)
  /-- PLAZA_RESET (R541): A write aborts the tasks on Pp, discards its samples and runs a start check. -/
  | plazaReset (value : Nat)
  /-- CTX_RESET (R270): A write of 1 stops a context and aborts its issued tasks. -/
  | ctxReset (ctx : Nat) (value : Nat)
  /-- CTX_RESET_DONE (R270): The Clear and Records phases end, tickets are freed and the context becomes READY. -/
  | ctxResetDone (ctx : Nat)
  /-- START_CHECK_DONE (R527): The start check of a Plaza completes and the Plaza is handled as for an in-field test. -/
  | startCheckDone (plaza : Nat) (result : TestResult)
  /-- SERVICE_LIMITED (R530): P0 and P1 have been checked and HP0 has trained, so the module enters LIMITED. -/
  | serviceLimited
  /-- SERVICE_FULL (R533): The Switch phase runs and MODULE_SERVICE becomes FULL. -/
  | serviceFull
  /-- RUN_REQUEST (R536): PWR_STATE_REQ = 0 returns the module from Park or Standby to Run. -/
  | runRequest (boot : BootInputs)
  /-- PARK_REQUEST (R536): PWR_STATE_REQ = 2 enters Park when its conditions hold. -/
  | parkRequest
  /-- STANDBY_REQUEST (R537): PWR_STATE_REQ = 3 enters Standby. -/
  | standbyRequest
  /-- IDLE_ENTRY (R535): PWR_IDLE_MS passes with no ticket, root computation or test, and the module enters Idle. -/
  | idleEntry
  /-- PLAZA_HOLD (R545): A write drains a Plaza to OFFLINE, or returns it to service. -/
  | plazaHold (plaza : Nat) (value : Nat)
  /-- IFT_REQUEST (R546): A write makes a Plaza's regular test fall due at once. -/
  | iftRequest (value : Nat)
  /-- RAS_UNRETIRE (R409): A protected write returns a retired unit to observation. -/
  | rasUnretire (w : PWrite)
  /-- DISP_RING_CONFIG (R238): A write configures, enables or disables a ring. -/
  | dispRingConfig (record : BitVec 256)
  /-- DISP_RING_RESUME (R251): A write returns a HALTED ring to ACTIVE and refetches the slot that halted it. -/
  | dispRingResume (value : Nat)
  /-- DISP_TOKEN_VALUE (R272): A write sets the selected token's value and waits are tested afresh. -/
  | dispTokenValue (client : Client) (value : Nat)
  /-- DOORBELL (R241): A doorbell is delivered and either replaces the producer index or is discarded. -/
  | doorbell (word : BitVec 64)
  /-- DESCRIPTOR_FETCH (R248): A run of fetched descriptors arrives and each is checked and given a ticket. -/
  | descriptorFetch (ring : Nat)
  /-- TASK_ISSUE (R259): A held ring head becomes ready and issues to its unit. -/
  | taskIssue (head : RingHead)
  /-- TASK_COMPLETE (R243): A unit ends a task and the Dispatcher writes its completion record. -/
  | taskComplete (ticket : Nat)
  /-- DISP_HOLD_LONG (R264): A ring head has been held for DISP_HOLD_ALERT_MS. -/
  | dispHoldLong (ring : Nat)
  /-- FENCE_TOKENS (R265): A FENCE with SCOPE TOKENS completes at issue. -/
  | fenceTokens (ticket : Nat)
  /-- FENCE_RING (R265): A FENCE with SCOPE RING completes when every earlier index of its ring has completed. -/
  | fenceRing (ticket : Nat)
  /-- FENCE_CONTEXT (R265): A FENCE with SCOPE CONTEXT completes when the context's tasks held at its issue have completed. -/
  | fenceContext (ticket : Nat)
  /-- TURN_FENCE (R123): A FENCE with PASS = BWD declares the forward count of its step. -/
  | turnFence (ticket : Nat)
  /-- NOTIFY (R266): An EVENT of kind NOTIFY raises event 0x0F00 + CODE with its argument. -/
  | notify (ticket : Nat)
  /-- EVENT_DOORBELL (R266): An EVENT of kind DOORBELL delivers a doorbell to a ring of its context. -/
  | eventDoorbell (ticket : Nat)
  /-- TOKEN_ADD (R266): An EVENT of kind TOKEN_ADD adds a value to a context token. -/
  | tokenAdd (ticket : Nat)
  /-- TIME_WAIT (R267): A TIME_WAIT task waits for DT to reach DT_TARGET. -/
  | timeWait (ticket : Nat)
  /-- TIME_WAIT_COMPLETION (R267): DT reaches a TIME_WAIT's target and the task completes. -/
  | timeWaitCompletion (ticket : Nat)
  /-- MATMUL (R53): A Plaza task computes C = S times H in DOT mode on its rectangle. -/
  | matmul (ticket : Nat) (sel : List Nat)
  /-- DIST_L1 (R45): A DIST task accumulates absolute differences. -/
  | distL1 (ticket : Nat) (sel : List Nat)
  /-- DIST_L2 (R45): A DIST task accumulates squared differences. -/
  | distL2 (ticket : Nat) (sel : List Nat)
  /-- DIST_MAXPLUS (R45): A DIST task takes the maximum of sums. -/
  | distMaxplus (ticket : Nat) (sel : List Nat)
  /-- DIST_MINPLUS (R45): A DIST task takes the minimum of sums. -/
  | distMinplus (ticket : Nat) (sel : List Nat)
  /-- DIST_CMPCNT (R47): A DIST task counts the element pairs in which s exceeds h. -/
  | distCmpcnt (ticket : Nat) (sel : List Nat)
  /-- TILE_DRAIN (R38): A ready accumulator set is served by the drain port into a WVU input queue. -/
  | tileDrain (plaza : Nat)
  /-- PLAZA_FEED_TIMEOUT (R62): A Plaza task receives no feed element for PLAZA_FEED_TIMEOUT_US and aborts TIMEOUT. -/
  | plazaFeedTimeout (ticket : Nat)
  /-- AXPBY (R98): The WVU computes ALPHA times x plus BETA times z plus c. -/
  | axpby (ticket : Nat)
  /-- MUL (R98): The WVU computes x times z times ALPHA. -/
  | mul (ticket : Nat)
  /-- ACT (R99): The WVU applies the activation function that FN selects. -/
  | act (ticket : Nat)
  /-- ACT_BWD (R99): The WVU applies the derivative of the activation to the incoming gradient. -/
  | actBwd (ticket : Nat)
  /-- CAST (R98): The WVU converts X to FMT_Y. -/
  | cast (ticket : Nat)
  /-- SOFTMAX (R100): The WVU computes a soft maximum of each row. -/
  | softmax (ticket : Nat)
  /-- SOFTMAX_BWD (R100): The WVU computes the gradient of a soft maximum. -/
  | softmaxBwd (ticket : Nat)
  /-- LAYERNORM (R101): The WVU normalizes each row by its mean and variance. -/
  | layernorm (ticket : Nat)
  /-- LAYERNORM_BWD (R102): The WVU computes the gradients of a layer normalization. -/
  | layernormBwd (ticket : Nat)
  /-- RMSNORM (R101): The WVU normalizes each row by its root mean square. -/
  | rmsnorm (ticket : Nat)
  /-- RMSNORM_BWD (R102): The WVU computes the gradients of an RMS normalization. -/
  | rmsnormBwd (ticket : Nat)
  /-- XENT (R103): The WVU computes cross-entropy losses and the first gradient. -/
  | xent (ticket : Nat)
  /-- SUM (R97): The WVU computes the canonical sum of each row. -/
  | sum (ticket : Nat)
  /-- ORTHO (R105): The WVU turns a Gram matrix into an upper-triangular factor T. -/
  | ortho (ticket : Nat)
  /-- TOPK (R107): The WVU keeps the k best elements of each row with their indices. -/
  | topk (ticket : Nat)
  /-- COPY (R206): An XFER COPY moves a shaped tensor between memories or ports. -/
  | copy (ticket : Nat)
  /-- REARM (R221): An XFER REARM runs an armed persistent stream with new bases. -/
  | rearm (ticket : Nat)
  /-- RELEASE (R221): An XFER RELEASE frees a persistent stream once its runs complete. -/
  | release (ticket : Nat)
  /-- INVAL (R225): An XFER INVAL removes every cached translation of its context. -/
  | inval (ticket : Nat)
  /-- ALL_REDUCE (R280): A COLLECTIVE reduces L elements over the cohort and writes every shard. -/
  | allReduce (ticket : Nat)
  /-- REDUCE_SCATTER (R286): A COLLECTIVE reduces L elements and writes only this member's shard. -/
  | reduceScatter (ticket : Nat)
  /-- ALL_GATHER (R286): A COLLECTIVE gathers every member's block. -/
  | allGather (ticket : Nat)
  /-- BROADCAST (R286): A COLLECTIVE sends ROOT's elements to every member. -/
  | broadcast (ticket : Nat)
  /-- ALL_TO_ALL (R286): A COLLECTIVE sends each block directly to its position. -/
  | allToAll (ticket : Nat)
  /-- BARRIER (R286): A COLLECTIVE completes once every member has issued its BARRIER of the same SEQ. -/
  | barrier (ticket : Nat)
  /-- NORM_CLOSE (R303): A NORM_CLOSE task opens the step's norm close for a cohort. -/
  | normClose (ticket : Nat)
  /-- NORM_CLOSE_CONTRIBUTE (R304): Partials and gate have settled and the member sends its CLOSE_UP record and pace advisory. -/
  | normCloseContribute (ctx : Nat)
  /-- RB_COHORT_CONFIG (R276): A write enables or disables a cohort slot. -/
  | rbCohortConfig (record : BitVec 256)
  /-- REDUCE_PARCEL (R280): A REDUCE parcel arrives and its elements are added into the chain. -/
  | reduceParcel (slice : Nat)
  /-- GATHER_PARCEL (R281): A GATHER parcel arrives with owner output for phases 2 and 3. -/
  | gatherParcel (slice : Nat)
  /-- ALL_TO_ALL_PARCEL (R286): An ALL_TO_ALL parcel arrives with a block from its position. -/
  | allToAllParcel (slice : Nat)
  /-- BROADCAST_PARCEL (R286): A BROADCAST parcel arrives and is written and forwarded. -/
  | broadcastParcel (slice : Nat)
  /-- BARRIER_PARCEL (R286): A BARRIER parcel arrives on the norm-close paths. -/
  | barrierParcel (slice : Nat)
  /-- CLOSE_UP (R305): A CLOSE_UP record arrives and is combined in order, and the closer forms the result. -/
  | closeUp (slice : Nat)
  /-- CLOSE_DOWN (R307): The norm close result arrives and is passed to Hazel, and the NORM_CLOSE completes. -/
  | closeDown (slice : Nat)
  /-- PACE_UP (R463): A pace advisory arrives and is combined as for CLOSE_UP. -/
  | paceUp (slice : Nat)
  /-- PACE_DOWN (R463): The combined pace record arrives and is forwarded down the paths. -/
  | paceDown (slice : Nat)
  /-- RB_TIMEOUT (R298): A collective waits RB_HOP_TIMEOUT_MS for a parcel and completes TIMEOUT. -/
  | rbTimeout (ticket : Nat)
  /-- RB_CLOSE_STALLED (R308): A NORM_CLOSE waits RB_HOP_TIMEOUT_MS for its result and raises the event. -/
  | rbCloseStalled (ticket : Nat)
  /-- UPDATE_DENSE (R364): An UPDATE of kind DENSE applies the step's decision to a layer's state block. -/
  | updateDense (ticket : Nat)
  /-- UPDATE_ROWS (R384): An UPDATE of kind ROWS applies the decision to the rows of a stage list. -/
  | updateRows (ticket : Nat)
  /-- ROOT_COMPUTE (R372): The matrix unit completes a queued inverse-root computation. -/
  | rootCompute
  /-- GATHER_ROWS (R380): A GATHER writes indexed embedding rows to device memory. -/
  | gatherRows (ticket : Nat)
  /-- GATHER_SPAN (R380): A GATHER copies bytes of the slow tier unchanged to device memory. -/
  | gatherSpan (ticket : Nat)
  /-- GATHER_WORKING (R380): A GATHER writes a layer's working copy to device memory. -/
  | gatherWorking (ticket : Nat)
  /-- SCATTER_ADD_ROWS (R382): A SCATTER_ADD adds row gradients into a stage list. -/
  | scatterAddRows (ticket : Nat)
  /-- SCATTER_ADD_SPAN (R381): A SCATTER_ADD writes bytes into the slow tier unchanged. -/
  | scatterAddSpan (ticket : Nat)
  /-- HAZEL_SKEW_ADOPT (R365): A write of ADOPT turns a held decision into an adopted commit. -/
  | hazelSkewAdopt (ctx : Nat)
  /-- HAZEL_SKEW_DISCARD (R365): A write of DISCARD turns a held decision into a skip. -/
  | hazelSkewDiscard (ctx : Nat)
  /-- SHADOW_COMPARE (R398): The shadow block compares its value with the sampled block's after n cycles. -/
  | shadowCompare (sample : Nat) (errBlock : List (Nat × BitVec 32)) (errShadow : List (Nat × BitVec 32))
  /-- ARBITRATION_RUN (R401): An arbiter or fourth run completes and the dispute settles in an outcome. -/
  | arbitrationRun (sample : Nat) (err : List (Nat × BitVec 32))
  /-- SHADOW_REPLAY (R404): A suspect unit replays the capture and its fault is found permanent or transient. -/
  | shadowReplay (sample : Nat) (unit : Nat) (err : List (Nat × BitVec 32))
  /-- OBSERVATION_END (R408): Seven days and 168 passed tests end a unit's observation. -/
  | observationEnd (unit : Nat)
  /-- IFT_DUE (R410): A Plaza's in-field test falls due and its window opens. -/
  | iftDue (plaza : Nat)
  /-- OBSERVATION_TEST_DUE (R415): An observation test falls due one hour after the last. -/
  | observationTestDue (unit : Nat)
  /-- IFT_GRACE_EXPIRED (R411): A test window ends and the Plaza is drained for the test. -/
  | iftGraceExpired (plaza : Nat)
  /-- PLAZA_DRAINED (R411): A draining Plaza holds no task or open sample and becomes TESTING, OFFLINE or RETIRED. -/
  | plazaDrained (plaza : Nat)
  /-- IFT_DONE (R414): An in-field test ends and its result is recorded. -/
  | iftDone (plaza : Nat) (result : TestResult)
  /-- HBM_RETRAIN_WINDOW (R190): A scheduled retrain window opens on the next pseudo-channel. -/
  | hbmRetrainWindow
  /-- HBM_LANE_FAULT (R193): A lane fault opens a repair window that remaps the lane and replays the failed accesses. -/
  | hbmLaneFault (pc : Nat) (lane : HbmLane) (passes : Bool)
  /-- HBM_TEMP_READ (R187): Each millisecond the controller reads the stack temperature and sets the refresh band. -/
  | hbmTempRead (stack : Nat) (tempC : Int)
  /-- WCB_AGE_EXPIRY (R183): A partial write-combining line reaches HBM_WCB_AGE_NS and is written by read-modify-write. -/
  | wcbAgeExpiry (pc : Nat)
  /-- HBM_SCRUB (R173): The patrol scrubber reads an HBM word and writes back a corrected one. -/
  | hbmScrub (addr : Nat) (upset : Upset)
  /-- TERRACE_SCRUB (R392): The Terrace scrubber reads a word in an idle read cycle. -/
  | terraceScrub (addr : Nat) (upset : Upset)
  /-- SLOW_SCRUB (R349): The slow-tier scrubber reads a word and writes back a corrected one. -/
  | slowScrub (addr : Nat) (upset : Upset)
  /-- SLOW_TEMP_READ (R346): Each millisecond a controller reads its package's refresh-rate field. -/
  | slowTempRead (package : Nat) (reading : SlowReading)
  /-- WCK2DQ_OSC_READ (R345): Every 100 ms a controller reads its interval oscillator and adjusts timing. -/
  | wck2dqOscRead (channel : Nat) (count : Nat)
  /-- SLOW_TIER_LOST (R387): A slow-tier channel fails and the module enters Retired. -/
  | slowTierLost (channel : Nat)
  /-- EMITH_SEND (R331): A connection with pacing room and a credit sends a DATA packet on a sprayed interface. -/
  | emithSend (slice : Nat)
  /-- EMITH_DATA (R324): A DATA packet arrives, is authenticated and is passed to its slice once. -/
  | emithData (pkt : Packet) (port : Nat)
  /-- EMITH_ACK (R330): An ACK arrives, frees acknowledged packets and updates the pacing rate. -/
  | emithAck (pkt : Packet) (port : Nat)
  /-- EMITH_PROBE (R326): A PROBE carrying the ACK payload arrives. -/
  | emithProbe (pkt : Packet) (port : Nat)
  /-- ACK_DELAY_EXPIRY (R326): Two microseconds pass after the first unacknowledged arrival and an ACK is sent. -/
  | ackDelayExpiry (conn : ConnKey)
  /-- PROBE_INTERVAL (R326): After 100 us without an ACK to a peer a PROBE is sent. -/
  | probeInterval (conn : ConnKey)
  /-- RTO_EXPIRY (R327): A retransmission timeout expires and the packet is resent. -/
  | rtoExpiry (conn : ConnKey) (psn : Nat)
  /-- CONN_IDLE_EXPIRY (R322): A connection carries no packet for 1,000 ms and is forgotten. -/
  | connIdleExpiry (conn : ConnKey)
  /-- HS_INIT (R336): A host's HS_INIT is verified, keys are derived and HS_REPLY is sent. -/
  | hsInit (port : Nat) (payload : List Byte)
  /-- SESSION_TIMEOUT (R337): A session closes after 60 s without a packet or 24 hours after opening. -/
  | sessionTimeout (session : Nat)
  /-- HOST_WRITE (R339): A host WRITE command stores its data at VA. -/
  | hostWrite (session psn : Nat)
  /-- HOST_READ (R339): A host READ command returns READ_DATA. -/
  | hostRead (session psn : Nat)
  /-- HOST_DOORBELL (R339): A host DOORBELL command delivers a doorbell after earlier commands. -/
  | hostDoorbell (session psn : Nat)
  /-- NEIGHBOR_REFRESH (R317): At link up and every 30 s an interface resolves the gateway MAC. -/
  | neighborRefresh (iface : Nat)
  /-- LINK_TRAINED (R312): A port completes auto-negotiation and link training. -/
  | linkTrained (port : Nat) (trained : Bool)
  /-- LANE_SER_LIMIT (R332): A lane exceeds FAB_LANE_SER_LIMIT for FAB_LANE_FAIL_TICKS and the port enters repair. -/
  | laneSerLimit (port : Nat) (lane : Nat)
  /-- PCS_ALIGNMENT_LOSS (R332): A port's PCS loses alignment and enters repair at once. -/
  | pcsAlignmentLoss (port : Nat)
  /-- PORT_DRAIN_END (R333): The 20 us drain ends and the port starts to retrain. -/
  | portDrainEnd (port : Nat)
  /-- PORT_RETRAIN_DONE (R333): Retraining ends and verification starts. -/
  | portRetrainDone (port : Nat)
  /-- PORT_VERIFY_END (R334): Verification ends and the port rejoins, degrades or goes OFF. -/
  | portVerifyEnd (port : Nat) (passes : Bool)
  /-- FAB_PORT_MODE (R334): A write sets the port mode for the next retrain and can bring an OFF port back. -/
  | fabPortMode (port : Nat) (value : Nat)
  /-- PTP_MESSAGE (R423): A PTP message arrives and the measured offset disciplines DT. -/
  | ptpMessage (msg : PtpMessage)
  /-- PPS_IN_EDGE (R426): A rising edge of PPS_IN marks a whole second of DT. -/
  | ppsInEdge (elapsedNs : Nat)
  /-- TIME_SET (R421): A write sets DT, at once in FREE or at the next PPS edge. -/
  | timeSet (value : Nat)
  /-- SOURCE_SILENCE (R420): The time source delivers nothing for 3 s while LOCKED and TIME_STATE becomes HOLDOVER. -/
  | sourceSilence
  /-- HOLDOVER_LIMIT (R422): Holdover reaches HOLDOVER_LIMIT_S and TIME_STATE becomes FREERUN. -/
  | holdoverLimit
  /-- PTP_PORT_RETURN (R425): PTP returns to PTP_PORT within 1 s after that port is UP again. -/
  | ptpPortReturn
  /-- PPS_OUT_PULSE (R427): PPS_OUT rises at each whole second of DT and falls 100 ms later. -/
  | ppsOutPulse
  /-- MANAGEMENT_TICK (R429): At each millisecond of DT the management plane reads its inputs and acts. -/
  | managementTick (inp : TickInputs)
  /-- POWER_SETPOINT (R447): A scheduled setpoint takes effect on the calendar. -/
  | powerSetpoint
  /-- FREQUENCY_EPOCH (R433): A planned frequency hop begins at its DT instant. -/
  | frequencyEpoch
  /-- STEP_RELEASE (R434): A release instant frees the tasks held for the next step. -/
  | stepRelease (ctx : Nat)
  /-- TELEMETRY_SAMPLE (R469): A telemetry sample publishes POWER_STREAM and RAIL_STREAM records. -/
  | telemetrySample (meas : PowerSample)
  /-- HOP_STEP (R439): A frequency hop advances one 25 MHz grid step every 2 us. -/
  | hopStep (plaza : Nat)
  /-- DROOP_DETECT (R455): A rail droop is detected and the domain's clock is stretched to half rate. -/
  | droopDetect (domain : Nat)
  /-- DROOP_END (R455): The rail has stayed above threshold for 256 cycles and stretching ends. -/
  | droopEnd (domain : Nat)
  /-- INPUT_LOW_STRETCH (R455): The input stays below 46 V for 10 us and every Plaza domain is stretched. -/
  | inputLowStretch
  /-- OVERCURRENT (R458): Input current or power exceeds its limit and the current ceilings fall four steps. -/
  | overcurrent
  /-- THERMAL_TRIP (R459): A junction reaches 115 C and power is removed from the Boroughs. -/
  | thermalTrip (plaza : Nat)
  /-- SHED_ASSERT (R460): SHED_N is asserted and the module is shed. -/
  | shedAssert
  /-- SHED_RELEASE (R461): Shedding ends and clocks restart from the start clock. -/
  | shedRelease
  /-- PWR_SHED_CMD (R460): A write sheds the module or ends the shedding. -/
  | pwrShedCmd (value : Nat)
  /-- PWR_SETPOINT_NOW (R448): A write sets or withdraws an immediate setpoint. -/
  | pwrSetpointNow (value : Nat)
  /-- PWR_SETPOINT_SCHED (R447): A write places a scheduled setpoint and its epoch on the calendar. -/
  | pwrSetpointSched (record : BitVec 128)
  /-- PWR_SCHED_CANCEL (R447): A write removes the pending setpoints at or after a DT. -/
  | pwrSchedCancel (value : Nat)
  /-- ATT_REQUEST (R485): A nonce write produces signed attestation evidence. -/
  | attRequest (n : Nat) (nonce : List Byte)
  /-- ATT_TOKEN_REFILL (R483): Every 10 s one token is added to the evidence bucket. -/
  | attTokenRefill
  /-- BOTTOM_TREE_BUILD (R481): Walnut finishes building the next bottom tree in the background. -/
  | bottomTreeBuild
  /-- OWNER_ENROL (R488): A signed write enrols or transfers the owner key. -/
  | ownerEnrol (record : List Byte) (fromMP : Bool)
  /-- OWNER_RELEASE (R490): A protected write clears the owner and every key slot. -/
  | ownerRelease (w : PWrite)
  /-- EMITH_KEY_INSTALL (R492): A protected write unwraps a domain traffic key into a slot, or clears it. -/
  | emithKeyInstall (sub : Nat) (w : PWrite)
  /-- FW_STAGE (R494): A write stages part of an image into the inactive slot. -/
  | fwStage (record : List Byte)
  /-- FW_ACTIVATE (R495): A protected write activates the staged slot of a kind. -/
  | fwActivate (w : PWrite)
  /-- FW_REVERT (R495): A protected write with REVERT = 1 activates the other slot. -/
  | fwRevert (w : PWrite)
  /-- FW_SWITCH (R496): A pending activation finds a free interval and the image switches. -/
  | fwSwitch (kind : Nat)
  /-- FW_CONFIRM (R497): A protected write ends an image's trial and raises the floors. -/
  | fwConfirm (w : PWrite)
  /-- ODP_READ (R509): An ODP READ returns the values of consecutive subindices. -/
  | odpRead (client : Client) (frame : Frame)
  /-- ODP_WRITE (R509): An ODP WRITE applies values to entries that have no row of their own. -/
  | odpWrite (client : Client) (frame : Frame)
  /-- PWRITE (R513): An ODP protected write is applied when the owner signature verifies. -/
  | pwrite (client : Client) (frame : Frame)
  /-- SUBSCRIBE_EVENTS (R519): A SUBSCRIBE opens, changes or closes an event subscription. -/
  | subscribeEvents (client : Client) (frame : Frame)
  /-- SUBSCRIBE_STREAM (R523): A SUBSCRIBE opens, changes or closes a telemetry stream subscription. -/
  | subscribeStream (client : Client) (frame : Frame)
  /-- EVENT_SEND (R521): Walnut sends an EVENT frame of new records to a subscriber. -/
  | eventSend (client : Client)
  /-- EVENT_ACK (R522): A client's acknowledgement moves the subscription cursor. -/
  | eventAck (client : Client) (frame : Frame)
  /-- EVENT_RETRY (R522): ODP_EVT_RETRY_MS passes without an acknowledgement and frames are sent again. -/
  | eventRetry (client : Client)
  /-- ODP_SUB_EXPIRED (R520): A client sends no frame for ODP_SUB_TIMEOUT_S and its subscriptions end. -/
  | odpSubExpired (client : Client)
  /-- ODP_SNAPSHOT_EXPIRY (R514): A client's 2 s snapshot of a long value expires. -/
  | odpSnapshotExpiry (client : Client)
  /-- ODP_REPLY_CACHE_EXPIRY (R511): A kept response expires after 2 s. -/
  | odpReplyCacheExpiry (client : Client) (reqId : Nat)
  /-- ALERT_ACK (R518): A write of a SEQ releases ALERT_N unless a later record qualifies. -/
  | alertAck (value : Nat)
  /-- INPUT_LOW_STRETCH_END (R455): The 54 V input has stayed at or above 47 V for 100 us and the stretch of every Plaza domain ends. -/
  | inputLowStretchEnd
  /-- MP_LINK_DOWN (R425): The management port's link goes DOWN, and PTP moves to PTP_PORT_ALT or TIME_STATE becomes HOLDOVER. -/
  | mpLinkDown
  /-- UNDERVOLTAGE_LOCKOUT (R563): The input crosses 44 V rising or 42 V falling and the VWAL converter starts or stops, independently of PGOOD. -/
  | undervoltageLockout (millivolts : Nat)
  /-- PFC_PAUSE_FRAME (R314): With FAB_PFC_ENABLE = 1, a PFC pause frame for the PCP of FAB_VLAN arrives and a fabric or host port obeys it. -/
  | pfcPauseFrame (iface : Nat) (quanta : List Nat)
  /-- RX_DISCARD (R315): A received frame that is too long, of a kind not accepted, or on the wrong VLAN is discarded and counted in FAB_RX_DISCARDS. -/
  | rxDiscard (port : Nat) (frame : EthFrame)
  /-- NEIGHBOR_DISCOVERY (R317): An IPv6 Neighbor Discovery, ARP or ICMPv6 echo frame arrives, including the gateway's reply that completes the resolution of the link partner MAC. -/
  | neighborDiscovery (iface : Nat) (frame : NdFrame)
  /-- FW_ACTIVATED (R495): A firmware switch ends its interruption, the new image runs, buffered telemetry is delivered and event FW_ACTIVATED is raised. -/
  | fwActivated (start : FwStart)
  deriving DecidableEq, Repr

end Sys2Proof
end

