-- ==== Sys2Proof/Decode.lean ====
section
/-! DEFINITION. Table words: no row of the table gives its command any bits, so no word spells one. -/

namespace Sys2Proof

/-- The command that a table word spells: none, since every row has an empty list of fields. -/
def decodeTableWord (_nbits _w : Nat) : Option Instr := none

end Sys2Proof
end

