-- ==== Sys2Proof/Config.lean ====
section
/-! DEFINITION. The object dictionary as data (R15, R16, R526), the free values and the cryptographic primitives. -/

namespace Sys2Proof

/-- The type of an entry (R15). -/
inductive OdType where
  | bool | u8 | u16 | u32 | u64 | i8 | i16 | i32 | i64 | f32 | time64 | str | octets | domain
  deriving DecidableEq, Repr

/-- The access class of an entry (R16). -/
inductive OdAccess where
  | ro | rw | wo | rwp
  deriving DecidableEq, Repr

/-- The persistence class of an entry (R16). -/
inductive OdPersist where
  | volatile | warm | saved | factory
  deriving DecidableEq, Repr

/-- One row of an entry table: subindices `lo` to `hi`, default, the accepted numbers `rmin` to `rmax`, and the byte length of an OCTETS or DOMAIN value (0: not fixed). -/
structure OdEntry where
  idx : Nat
  lo : Nat
  hi : Nat
  ty : OdType
  acc : OdAccess
  per : OdPersist
  dflt : Nat
  rmin : Nat
  rmax : Nat
  len : Nat
  deriving DecidableEq, Repr

/-- Width in bits of a type of fixed length; 0 for the others (R507). -/
def OdType.width : OdType → Nat
  | .bool => 8 | .u8 => 8 | .i8 => 8 | .u16 => 16 | .i16 => 16 | .u32 => 32 | .i32 => 32 | .f32 => 32
  | .u64 => 64 | .i64 => 64 | .time64 => 64 | .str => 0 | .octets => 0 | .domain => 0


/-! ### Indices by name -/

def Od.plazaState : Nat := 0x3010
def Od.plazaFeedTimeoutUs : Nat := 0x3011
def Od.plazaTaskAborts : Nat := 0x3012
def Od.plazaFeedStallCycles : Nat := 0x3013
def Od.plazaDrainStallCycles : Nat := 0x3014
def Od.convSaturateCount : Nat := 0x3040
def Od.srSaturateCount : Nat := 0x3040
def Od.bs16MalformedCount : Nat := 0x3040
def Od.mxNanBlockCount : Nat := 0x3040
def Od.numericsRevision : Nat := 0x3041
def Od.ctxRoundSeed : Nat := 0x3042
def Od.ctxRoundStep : Nat := 0x3043
def Od.wvuBusyCycles : Nat := 0x3020
def Od.wvuNfDetectCount : Nat := 0x3021
def Od.ctxNfFlags : Nat := 0x3022
def Od.ctxNfFirst : Nat := 0x3023
def Od.wvuOrthoDropped : Nat := 0x3024
def Od.ctxStepPhase : Nat := 0x3050
def Od.ctxFwdDone : Nat := 0x3051
def Od.ctxResidSel : Nat := 0x3052
def Od.ctxStepsCommitted : Nat := 0x3053
def Od.ctxStepsSkipped : Nat := 0x3054
def Od.ctxLastSkip : Nat := 0x3055
def Od.silentStepsLimit : Nat := 0x3056
def Od.silentUnderflowFrac : Nat := 0x3057
def Od.ctxSilentLayers : Nat := 0x3058
def Od.ctxSilentLast : Nat := 0x3059
def Od.terraceReadBytes : Nat := 0x4000
def Od.terraceWriteBytes : Nat := 0x4001
def Od.terraceAddElements : Nat := 0x4002
def Od.terraceBankStallCycles : Nat := 0x4003
def Od.terraceRemoteBytes : Nat := 0x4004
def Od.terraceAccUnordered : Nat := 0x4005
def Od.terraceAccNonfinite : Nat := 0x4006
def Od.hbmStackState : Nat := 0x4100
def Od.hbmTempC : Nat := 0x4101
def Od.hbmRefreshMult : Nat := 0x4102
def Od.hbmRetrainPeriodMs : Nat := 0x4103
def Od.hbmRetrainCount : Nat := 0x4104
def Od.hbmLanesRepaired : Nat := 0x4105
def Od.hbmRetireRecord : Nat := 0x4106
def Od.hbmQueueFullCycles : Nat := 0x4107
def Od.hbmWcbRmwCount : Nat := 0x4108
def Od.hbmReadBytes : Nat := 0x4109
def Od.hbmWriteBytes : Nat := 0x410A
def Od.hbmOndieSeverityCount : Nat := 0x410B
def Od.hbmWcbAgeNs : Nat := 0x410C
def Od.hbmScrubPeriodH : Nat := 0x410D
def Od.seActiveXfers : Nat := 0x4200
def Od.seBytesRead : Nat := 0x4201
def Od.seBytesDelivered : Nat := 0x4202
def Od.sePrefetchDiscardBytes : Nat := 0x4203
def Od.seTlbMisses : Nat := 0x4204
def Od.seAgeNs : Nat := 0x4205
def Od.seAgedGrants : Nat := 0x4206
def Od.ctxTtRoot : Nat := 0x4210
def Od.ctxTaintEntries : Nat := 0x4211
def Od.ctxTaintOverflow : Nat := 0x4212
def Od.ctxLastFault : Nat := 0x4213
def Od.dispRingConfig : Nat := 0x3100
def Od.dispRingSelect : Nat := 0x3101
def Od.dispRingStatus : Nat := 0x3102
def Od.dispRingResume : Nat := 0x3103
def Od.dispAgeUs : Nat := 0x3104
def Od.dispHoldAlertMs : Nat := 0x3105
def Od.dispTicketsUsed : Nat := 0x3106
def Od.dispBoundHolds : Nat := 0x3107
def Od.dispTasksCompleted : Nat := 0x3108
def Od.dispDoorbellRejects : Nat := 0x3109
def Od.dispPlazaMap : Nat := 0x310A
def Od.ctxState : Nat := 0x3110
def Od.ctxReset : Nat := 0x3111
def Od.ctxTokenBase : Nat := 0x3112
def Od.ctxTokenCount : Nat := 0x3113
def Od.ctxTickets : Nat := 0x3114
def Od.dispTokenSelect : Nat := 0x3115
def Od.dispTokenValue : Nat := 0x3116
def Od.rbCohortConfig : Nat := 0x3200
def Od.rbCohortSelect : Nat := 0x3201
def Od.rbCohortStatus : Nat := 0x3202
def Od.rbRecvOffset : Nat := 0x3203
def Od.rbRecvSize : Nat := 0x3204
def Od.rbHopTimeoutMs : Nat := 0x3205
def Od.rbLateUs : Nat := 0x3206
def Od.rbActive : Nat := 0x3207
def Od.rbBytesSent : Nat := 0x3208
def Od.rbBytesReceived : Nat := 0x3209
def Od.rbBs16Escalations : Nat := 0x320A
def Od.rbLateBuckets : Nat := 0x320B
def Od.rbParcelDiscards : Nat := 0x320C
def Od.ctxCloseLast : Nat := 0x320D
def Od.ctxRbFlags : Nat := 0x320E
def Od.ctxBucketsAdded : Nat := 0x320F
def Od.fabPortState : Nat := 0x5000
def Od.fabPortMode : Nat := 0x5001
def Od.fabLaneSer : Nat := 0x5002
def Od.fabLaneSerLimit : Nat := 0x5003
def Od.fabLaneFailTicks : Nat := 0x5004
def Od.fabAllowDegrade : Nat := 0x5005
def Od.fabRepairCount : Nat := 0x5006
def Od.fabRxDiscards : Nat := 0x5007
def Od.emithPrefix : Nat := 0x5010
def Od.emithV4Base : Nat := 0x5011
def Od.emithUdpPort : Nat := 0x5012
def Od.emithHostUdpPort : Nat := 0x5013
def Od.fabVlan : Nat := 0x5014
def Od.hostVlan : Nat := 0x5015
def Od.fabPfcEnable : Nat := 0x5016
def Od.emithDscp : Nat := 0x5017
def Od.fabGateway : Nat := 0x5018
def Od.emithRtoMinUs : Nat := 0x5020
def Od.emithRetryLimit : Nat := 0x5021
def Od.emithTargetNs : Nat := 0x5022
def Od.emithAiGbps : Nat := 0x5023
def Od.emithInitGbps : Nat := 0x5024
def Od.emithMaxAgeMs : Nat := 0x5025
def Od.emithTxKeySlot : Nat := 0x5026
def Od.emithKeyInstalled : Nat := 0x5027
def Od.emithRetransmits : Nat := 0x5028
def Od.emithAuthFails : Nat := 0x5029
def Od.emithConnFails : Nat := 0x502A
def Od.emithConns : Nat := 0x502B
def Od.emithTableFull : Nat := 0x502C
def Od.hostPortState : Nat := 0x5030
def Od.hostIp : Nat := 0x5031
def Od.hostSessions : Nat := 0x5032
def Od.hostKey : Nat := 0x5300
def Od.hazelRuleSlot : Nat := 0x3300
def Od.hazelStep : Nat := 0x3301
def Od.hazelAdopt : Nat := 0x3302
def Od.hazelDecision : Nat := 0x3303
def Od.hazelSkewResolve : Nat := 0x3304
def Od.hazelRegion : Nat := 0x3305
def Od.hazelUpdateNonfinite : Nat := 0x3306
def Od.hazelStageFaults : Nat := 0x3307
def Od.hazelRootsComputed : Nat := 0x3308
def Od.hazelRootWaitUs : Nat := 0x3309
def Od.slowState : Nat := 0x4300
def Od.slowTempC : Nat := 0x4301
def Od.slowReadBytes : Nat := 0x4302
def Od.slowWriteBytes : Nat := 0x4303
def Od.slowScrubPeriodH : Nat := 0x4304
def Od.rasCeCount : Nat := 0x6000
def Od.rasUeCount : Nat := 0x6001
def Od.rasPoisonConsumed : Nat := 0x6002
def Od.rasLastUe : Nat := 0x6003
def Od.terraceScrubPeriodMin : Nat := 0x6004
def Od.rasLinkReplays : Nat := 0x6005
def Od.shadowRateLog2 : Nat := 0x6010
def Od.shadowObsRateLog2 : Nat := 0x6011
def Od.shadowCaptureOffset : Nat := 0x6012
def Od.shadowSamples : Nat := 0x6013
def Od.shadowSkipped : Nat := 0x6014
def Od.shadowDisputes : Nat := 0x6015
def Od.shadowLastDispute : Nat := 0x6016
def Od.shadowRetireAction : Nat := 0x6017
def Od.ctxGateState : Nat := 0x6020
def Od.iftPeriodH : Nat := 0x6030
def Od.iftGraceH : Nat := 0x6031
def Od.iftNextDue : Nat := 0x6032
def Od.iftLast : Nat := 0x6033
def Od.iftRetryMin : Nat := 0x6034
def Od.rasObserved : Nat := 0x6040
def Od.rasRetired : Nat := 0x6041
def Od.rasUnretire : Nat := 0x6042
def Od.dtNow : Nat := 0x2400
def Od.timeState : Nat := 0x2401
def Od.timeSource : Nat := 0x2402
def Od.ptpPort : Nat := 0x2403
def Od.ptpPortAlt : Nat := 0x2404
def Od.ptpDomain : Nat := 0x2405
def Od.ptpTransport : Nat := 0x2406
def Od.ptpStepThresholdNs : Nat := 0x2407
def Od.dtOffsetNs : Nat := 0x2408
def Od.dtErrorBoundNs : Nat := 0x2409
def Od.holdoverLimitS : Nat := 0x240A
def Od.ptpGmIdentity : Nat := 0x240B
def Od.utcOffset : Nat := 0x240C
def Od.timeSet : Nat := 0x240D
def Od.dtSteps : Nat := 0x240E
def Od.ppsOutEnable : Nat := 0x240F
def Od.ppsRejects : Nat := 0x2410
def Od.calPending : Nat := 0x2411
def Od.calLate : Nat := 0x2412
def Od.ctxStepRelease : Nat := 0x2420
def Od.plazaClockMhz : Nat := 0x2000
def Od.plazaFmaxMhz : Nat := 0x2001
def Od.plazaFmaxShipMhz : Nat := 0x2002
def Od.boroughClockMhz : Nat := 0x2003
def Od.pgovMarginPs : Nat := 0x2004
def Od.pwrCapOwner : Nat := 0x2010
def Od.pwrSetpointNow : Nat := 0x2011
def Od.pwrSetpointSched : Nat := 0x2012
def Od.pwrSchedCancel : Nat := 0x2013
def Od.pwrSetpointInForce : Nat := 0x2014
def Od.pwrCapEffective : Nat := 0x2015
def Od.pwrSlopeWPerMs : Nat := 0x2016
def Od.pgovFill : Nat := 0x2017
def Od.pwrShedCmd : Nat := 0x2018
def Od.pgovLearnCtx : Nat := 0x2020
def Od.pgovLearnSteps : Nat := 0x2021
def Od.pgovGuard : Nat := 0x2022
def Od.pgovLearnState : Nat := 0x2023
def Od.pgovPredictMisses : Nat := 0x2024
def Od.droopEvents : Nat := 0x2030
def Od.droopMv : Nat := 0x2031
def Od.droopStormLimit : Nat := 0x2032
def Od.pgovHopsDeferred : Nat := 0x2033
def Od.pgovTjThrottleC : Nat := 0x2040
def Od.tjC : Nat := 0x2041
def Od.paceMode : Nat := 0x2050
def Od.paceFloorMhz : Nat := 0x2051
def Od.paceLast : Nat := 0x2052
def Od.paceLateReports : Nat := 0x2053
def Od.paceLateLastDev : Nat := 0x2054
def Od.throttleMs : Nat := 0x2060
def Od.throttleNow : Nat := 0x2061
def Od.pwrInputW : Nat := 0x2070
def Od.energyInMj : Nat := 0x2071
def Od.powerStream : Nat := 0x8000
def Od.railStream : Nat := 0x8001
def Od.deviceId : Nat := 0x7000
def Od.devicePub : Nat := 0x7001
def Od.deviceCert : Nat := 0x7002
def Od.kemEk : Nat := 0x7003
def Od.ownerKey : Nat := 0x7010
def Od.ownerEnrol : Nat := 0x7011
def Od.ownerRelease : Nat := 0x7012
def Od.ownerSeq : Nat := 0x7013
def Od.protWriteRefused : Nat := 0x7014
def Od.attRequest : Nat := 0x7020
def Od.attEvidence : Nat := 0x7021
def Od.attIndex : Nat := 0x7022
def Od.attRemaining : Nat := 0x7023
def Od.attTokens : Nat := 0x7024
def Od.emithKey : Nat := 0x7030
def Od.fwStage : Nat := 0x7040
def Od.fwActivate : Nat := 0x7041
def Od.fwConfirm : Nat := 0x7042
def Od.fwSlotState : Nat := 0x7043
def Od.fwSvnFloor : Nat := 0x7044
def Od.fwKeyFloor : Nat := 0x7045
def Od.bootCount : Nat := 0x7046
def Od.mramRecordsOk : Nat := 0x7047
def Od.partNumber : Nat := 0x1000
def Od.serialNumber : Nat := 0x1001
def Od.slowTierGib : Nat := 0x1002
def Od.macBase : Nat := 0x1003
def Od.deviceIndex : Nat := 0x1004
def Od.strapSlot : Nat := 0x1005
def Od.strapBoot : Nat := 0x1006
def Od.strapMgmt : Nat := 0x1007
def Od.deviceReset : Nat := 0x1008
def Od.mgmtIp : Nat := 0x1010
def Od.mgmtPrefixLen : Nat := 0x1011
def Od.mgmtGateway : Nat := 0x1012
def Od.odpUdpPort : Nat := 0x1013
def Od.mgmtHostVid : Nat := 0x1014
def Od.mgmtClientFilter : Nat := 0x1015
def Od.odpSubTimeoutS : Nat := 0x1016
def Od.odpEvtRetryMs : Nat := 0x1017
def Od.odpClients : Nat := 0x1018
def Od.odpDropped : Nat := 0x1019
def Od.eventLog : Nat := 0x1040
def Od.eventNextSeq : Nat := 0x1041
def Od.eventOldestSeq : Nat := 0x1042
def Od.alertLevel : Nat := 0x1043
def Od.alertAck : Nat := 0x1044
def Od.fatalLog : Nat := 0x1045
def Od.moduleService : Nat := 0x1100
def Od.pwrState : Nat := 0x1101
def Od.pwrStateReq : Nat := 0x1102
def Od.pwrIdleMs : Nat := 0x1103
def Od.boroughReset : Nat := 0x1104
def Od.plazaReset : Nat := 0x1105
def Od.plazaHold : Nat := 0x1106
def Od.iftRequest : Nat := 0x1107
def Od.lastReset : Nat := 0x1108
def Od.retireCause : Nat := 0x1109
def Od.bringupLog : Nat := 0x110A
def Od.limitedCtx : Nat := 0x110B
def Od.limitedEnable : Nat := 0x110C

/-! ### The rows -/

/-- Rows of the dictionary. -/
def odTable0 : List OdEntry := [
  ⟨0x1000, 0, 0, .str, .ro, .factory, 0, 0, 0, 0⟩,
  ⟨0x1001, 0, 0, .str, .ro, .factory, 0, 0, 0, 0⟩,
  ⟨0x1002, 0, 0, .u16, .ro, .factory, 768, 0, 65535, 0⟩,
  ⟨0x1003, 0, 0, .octets, .ro, .factory, 0, 0, 0, 0⟩,
  ⟨0x1004, 0, 0, .u32, .rwp, .saved, 0, 0, 262143, 0⟩,
  ⟨0x1005, 0, 0, .u8, .ro, .volatile, 0, 0, 255, 0⟩,
  ⟨0x1006, 0, 0, .u8, .ro, .volatile, 0, 0, 255, 0⟩,
  ⟨0x1007, 0, 0, .bool, .ro, .volatile, 0, 0, 1, 0⟩,
  ⟨0x1008, 0, 0, .u8, .wo, .volatile, 0, 1, 1, 0⟩,
  ⟨0x1010, 0, 0, .octets, .rw, .saved, 0, 0, 0, 16⟩,
  ⟨0x1011, 0, 0, .u8, .rw, .saved, 64, 8, 128, 0⟩,
  ⟨0x1012, 0, 0, .octets, .rw, .saved, 0, 0, 0, 16⟩,
  ⟨0x1013, 0, 0, .u16, .rw, .saved, 49600, 1024, 65535, 0⟩,
  ⟨0x1014, 0, 0, .u16, .rw, .saved, 0, 0, 4094, 0⟩,
  ⟨0x1015, 0, 0, .octets, .rwp, .saved, 0, 0, 0, 0⟩,
  ⟨0x1016, 0, 0, .u16, .rw, .warm, 30, 5, 3600, 0⟩,
  ⟨0x1017, 0, 0, .u16, .rw, .warm, 200, 10, 10000, 0⟩,
  ⟨0x1018, 0, 0, .domain, .ro, .volatile, 0, 0, 0, 0⟩,
  ⟨0x1019, 0, 0, .u64, .ro, .volatile, 0, 0, 18446744073709551615, 0⟩,
  ⟨0x1040, 0, 0, .domain, .ro, .warm, 0, 0, 0, 0⟩,
  ⟨0x1041, 0, 0, .u32, .ro, .warm, 0, 0, 4294967295, 0⟩,
  ⟨0x1042, 0, 0, .u32, .ro, .warm, 0, 0, 4294967295, 0⟩,
  ⟨0x1043, 0, 0, .u8, .rw, .saved, 2, 0, 3, 0⟩,
  ⟨0x1044, 0, 0, .u32, .rw, .warm, 0, 0, 4294967295, 0⟩]

/-- Rows of the dictionary. -/
def odTable1 : List OdEntry := [
  ⟨0x1045, 0, 0, .domain, .ro, .saved, 0, 0, 0, 0⟩,
  ⟨0x1100, 0, 0, .u8, .ro, .volatile, 0, 0, 255, 0⟩,
  ⟨0x1101, 0, 0, .u8, .ro, .volatile, 0, 0, 255, 0⟩,
  ⟨0x1102, 0, 0, .u8, .wo, .volatile, 0, 0, 255, 0⟩,
  ⟨0x1103, 0, 0, .u16, .rw, .warm, 10, 1, 10000, 0⟩,
  ⟨0x1104, 0, 0, .u8, .wo, .volatile, 0, 0, 3, 0⟩,
  ⟨0x1105, 0, 0, .u8, .wo, .volatile, 0, 0, 7, 0⟩,
  ⟨0x1106, 1, 8, .u8, .rw, .saved, 0, 0, 2, 0⟩,
  ⟨0x1107, 0, 0, .u8, .wo, .volatile, 0, 0, 7, 0⟩,
  ⟨0x1108, 0, 0, .octets, .ro, .saved, 0, 0, 0, 0⟩,
  ⟨0x1109, 0, 0, .octets, .ro, .saved, 0, 0, 0, 0⟩,
  ⟨0x110A, 0, 0, .domain, .ro, .volatile, 0, 0, 0, 0⟩,
  ⟨0x110B, 0, 0, .u64, .ro, .volatile, 0, 0, 18446744073709551615, 0⟩,
  ⟨0x110C, 0, 0, .bool, .rw, .saved, 1, 0, 1, 0⟩,
  ⟨0x2000, 1, 8, .u16, .ro, .volatile, 0, 0, 65535, 0⟩,
  ⟨0x2001, 1, 8, .u16, .ro, .saved, 1700, 0, 65535, 0⟩,
  ⟨0x2002, 1, 8, .u16, .ro, .factory, 1700, 0, 65535, 0⟩,
  ⟨0x2003, 1, 4, .u16, .ro, .volatile, 0, 0, 65535, 0⟩,
  ⟨0x2004, 0, 0, .u16, .rw, .saved, 12, 4, 50, 0⟩,
  ⟨0x2010, 0, 0, .u16, .rw, .saved, 2600, 900, 2600, 0⟩,
  ⟨0x2011, 0, 0, .u16, .wo, .volatile, 0, 0, 65535, 0⟩,
  ⟨0x2012, 0, 0, .domain, .wo, .volatile, 0, 0, 0, 16⟩,
  ⟨0x2013, 0, 0, .time64, .wo, .volatile, 0, 0, 18446744073709551615, 0⟩,
  ⟨0x2014, 0, 0, .u16, .ro, .volatile, 0, 0, 65535, 0⟩]

/-- Rows of the dictionary. -/
def odTable2 : List OdEntry := [
  ⟨0x2015, 0, 0, .u16, .ro, .volatile, 2600, 0, 65535, 0⟩,
  ⟨0x2016, 0, 0, .u16, .rw, .saved, 400, 50, 1000, 0⟩,
  ⟨0x2017, 0, 0, .bool, .rw, .saved, 0, 0, 1, 0⟩,
  ⟨0x2018, 0, 0, .bool, .rw, .volatile, 0, 0, 1, 0⟩,
  ⟨0x2020, 0, 0, .u8, .rw, .warm, 0, 0, 255, 0⟩,
  ⟨0x2021, 0, 0, .u8, .rw, .warm, 8, 2, 64, 0⟩,
  ⟨0x2022, 0, 0, .u16, .rw, .warm, 20, 0, 100, 0⟩,
  ⟨0x2023, 0, 0, .u8, .ro, .volatile, 0, 0, 255, 0⟩,
  ⟨0x2024, 0, 0, .u64, .ro, .volatile, 0, 0, 18446744073709551615, 0⟩,
  ⟨0x2030, 1, 13, .u64, .ro, .volatile, 0, 0, 18446744073709551615, 0⟩,
  ⟨0x2031, 0, 0, .u16, .rw, .saved, 35, 20, 80, 0⟩,
  ⟨0x2032, 0, 0, .u16, .rw, .warm, 16, 1, 1000, 0⟩,
  ⟨0x2033, 0, 0, .u64, .ro, .volatile, 0, 0, 18446744073709551615, 0⟩,
  ⟨0x2040, 0, 0, .u8, .rw, .saved, 95, 70, 100, 0⟩,
  ⟨0x2041, 1, 8, .i16, .ro, .volatile, 0, 0, 65535, 0⟩,
  ⟨0x2050, 1, 64, .u8, .rw, .warm, 0, 0, 1, 0⟩,
  ⟨0x2051, 0, 0, .u16, .rw, .warm, 850, 500, 1700, 0⟩,
  ⟨0x2052, 1, 64, .octets, .ro, .volatile, 0, 0, 0, 0⟩,
  ⟨0x2053, 0, 0, .u64, .ro, .volatile, 0, 0, 18446744073709551615, 0⟩,
  ⟨0x2054, 0, 0, .u32, .ro, .volatile, 0, 0, 4294967295, 0⟩,
  ⟨0x2060, 1, 8, .u64, .ro, .warm, 0, 0, 18446744073709551615, 0⟩,
  ⟨0x2061, 0, 0, .u8, .ro, .volatile, 0, 0, 255, 0⟩,
  ⟨0x2070, 0, 0, .f32, .ro, .volatile, 0, 0, 4294967295, 0⟩,
  ⟨0x2071, 0, 0, .u64, .ro, .warm, 0, 0, 18446744073709551615, 0⟩]

/-- Rows of the dictionary. -/
def odTable3 : List OdEntry := [
  ⟨0x2400, 0, 0, .time64, .ro, .volatile, 0, 0, 18446744073709551615, 0⟩,
  ⟨0x2401, 0, 0, .u8, .ro, .volatile, 0, 0, 255, 0⟩,
  ⟨0x2402, 0, 0, .u8, .rw, .saved, 1, 0, 2, 0⟩,
  ⟨0x2403, 0, 0, .u8, .rw, .saved, 34, 0, 254, 0⟩,
  ⟨0x2404, 0, 0, .u8, .rw, .saved, 255, 0, 255, 0⟩,
  ⟨0x2405, 0, 0, .u8, .rw, .saved, 0, 0, 127, 0⟩,
  ⟨0x2406, 0, 0, .u8, .rw, .saved, 0, 0, 2, 0⟩,
  ⟨0x2407, 0, 0, .u32, .rw, .warm, 100000, 1000, 1000000000, 0⟩,
  ⟨0x2408, 0, 0, .i64, .ro, .volatile, 0, 0, 18446744073709551615, 0⟩,
  ⟨0x2409, 0, 0, .u64, .ro, .volatile, 0, 0, 18446744073709551615, 0⟩,
  ⟨0x240A, 0, 0, .u16, .rw, .saved, 1000, 10, 1000, 0⟩,
  ⟨0x240B, 0, 0, .octets, .ro, .volatile, 0, 0, 0, 8⟩,
  ⟨0x240C, 0, 0, .i32, .ro, .volatile, 0, 0, 4294967295, 0⟩,
  ⟨0x240D, 0, 0, .time64, .wo, .volatile, 0, 0, 18446744073709551615, 0⟩,
  ⟨0x240E, 0, 0, .u32, .ro, .volatile, 0, 0, 4294967295, 0⟩,
  ⟨0x240F, 0, 0, .bool, .rw, .saved, 0, 0, 1, 0⟩,
  ⟨0x2410, 0, 0, .u32, .ro, .volatile, 0, 0, 4294967295, 0⟩,
  ⟨0x2411, 0, 0, .u16, .ro, .volatile, 0, 0, 65535, 0⟩,
  ⟨0x2412, 0, 0, .u64, .ro, .volatile, 0, 0, 18446744073709551615, 0⟩,
  ⟨0x2420, 1, 64, .octets, .rw, .volatile, 0, 0, 0, 16⟩,
  ⟨0x3010, 1, 8, .u8, .ro, .volatile, 4, 0, 255, 0⟩,
  ⟨0x3011, 0, 0, .u32, .rw, .warm, 10000, 100, 1000000, 0⟩,
  ⟨0x3012, 1, 8, .u32, .ro, .volatile, 0, 0, 4294967295, 0⟩,
  ⟨0x3013, 1, 8, .u64, .ro, .volatile, 0, 0, 18446744073709551615, 0⟩]

/-- Rows of the dictionary. -/
def odTable4 : List OdEntry := [
  ⟨0x3014, 1, 8, .u64, .ro, .volatile, 0, 0, 18446744073709551615, 0⟩,
  ⟨0x3020, 1, 8, .u64, .ro, .volatile, 0, 0, 18446744073709551615, 0⟩,
  ⟨0x3021, 1, 8, .u64, .ro, .volatile, 0, 0, 18446744073709551615, 0⟩,
  ⟨0x3022, 1, 64, .u8, .ro, .volatile, 0, 0, 255, 0⟩,
  ⟨0x3023, 1, 64, .octets, .ro, .volatile, 0, 0, 0, 0⟩,
  ⟨0x3024, 1, 8, .u64, .ro, .volatile, 0, 0, 18446744073709551615, 0⟩,
  ⟨0x3040, 1, 1, .u64, .ro, .volatile, 0, 0, 18446744073709551615, 0⟩,
  ⟨0x3040, 2, 2, .u64, .ro, .volatile, 0, 0, 18446744073709551615, 0⟩,
  ⟨0x3040, 3, 3, .u64, .ro, .volatile, 0, 0, 18446744073709551615, 0⟩,
  ⟨0x3040, 4, 4, .u64, .ro, .volatile, 0, 0, 18446744073709551615, 0⟩,
  ⟨0x3041, 0, 0, .u16, .ro, .factory, 256, 0, 65535, 0⟩,
  ⟨0x3042, 1, 64, .u64, .rw, .volatile, 0, 0, 18446744073709551615, 0⟩,
  ⟨0x3043, 1, 64, .u64, .rw, .volatile, 0, 0, 18446744073709551615, 0⟩,
  ⟨0x3050, 1, 64, .u8, .ro, .volatile, 0, 0, 255, 0⟩,
  ⟨0x3051, 1, 64, .u32, .ro, .volatile, 0, 0, 4294967295, 0⟩,
  ⟨0x3052, 1, 64, .u8, .ro, .volatile, 0, 0, 255, 0⟩,
  ⟨0x3053, 1, 64, .u64, .ro, .volatile, 0, 0, 18446744073709551615, 0⟩,
  ⟨0x3054, 1, 64, .u64, .ro, .volatile, 0, 0, 18446744073709551615, 0⟩,
  ⟨0x3055, 1, 64, .octets, .ro, .volatile, 0, 0, 0, 0⟩,
  ⟨0x3056, 0, 0, .u16, .rw, .warm, 64, 1, 65535, 0⟩,
  ⟨0x3057, 0, 0, .u16, .rw, .warm, 58982, 0, 65535, 0⟩,
  ⟨0x3058, 1, 64, .u32, .ro, .volatile, 0, 0, 4294967295, 0⟩,
  ⟨0x3059, 1, 64, .octets, .ro, .volatile, 0, 0, 0, 0⟩,
  ⟨0x3100, 0, 0, .domain, .wo, .volatile, 0, 0, 0, 32⟩]

/-- Rows of the dictionary. -/
def odTable5 : List OdEntry := [
  ⟨0x3101, 0, 0, .u16, .rw, .volatile, 0, 0, 16383, 0⟩,
  ⟨0x3102, 0, 0, .domain, .ro, .volatile, 0, 0, 0, 0⟩,
  ⟨0x3103, 0, 0, .u16, .wo, .volatile, 0, 0, 16383, 0⟩,
  ⟨0x3104, 0, 0, .u32, .rw, .warm, 20, 1, 10000, 0⟩,
  ⟨0x3105, 0, 0, .u32, .rw, .warm, 1000, 0, 3600000, 0⟩,
  ⟨0x3106, 1, 4, .u16, .ro, .volatile, 0, 0, 65535, 0⟩,
  ⟨0x3107, 1, 8, .u64, .ro, .volatile, 0, 0, 18446744073709551615, 0⟩,
  ⟨0x3108, 1, 4, .u64, .ro, .volatile, 0, 0, 18446744073709551615, 0⟩,
  ⟨0x3109, 0, 0, .u64, .ro, .volatile, 0, 0, 18446744073709551615, 0⟩,
  ⟨0x310A, 1, 8, .u8, .ro, .volatile, 0, 0, 255, 0⟩,
  ⟨0x3110, 1, 64, .u8, .ro, .volatile, 0, 0, 255, 0⟩,
  ⟨0x3111, 1, 64, .bool, .wo, .volatile, 0, 0, 1, 0⟩,
  ⟨0x3112, 1, 64, .u16, .rw, .volatile, 0, 0, 65535, 0⟩,
  ⟨0x3113, 1, 64, .u16, .rw, .volatile, 0, 0, 65535, 0⟩,
  ⟨0x3114, 1, 64, .u32, .ro, .volatile, 0, 0, 4294967295, 0⟩,
  ⟨0x3115, 0, 0, .u16, .rw, .volatile, 0, 0, 65535, 0⟩,
  ⟨0x3116, 0, 0, .u32, .rw, .volatile, 0, 0, 4294967295, 0⟩,
  ⟨0x3200, 0, 0, .domain, .wo, .volatile, 0, 0, 0, 32⟩,
  ⟨0x3201, 0, 0, .u8, .rw, .volatile, 0, 0, 255, 0⟩,
  ⟨0x3202, 0, 0, .domain, .ro, .volatile, 0, 0, 0, 0⟩,
  ⟨0x3203, 1, 4, .u32, .rw, .warm, 2080374784, 0, 4294967295, 0⟩,
  ⟨0x3204, 1, 4, .u32, .rw, .warm, 67108864, 33554432, 536870912, 0⟩,
  ⟨0x3205, 0, 0, .u32, .rw, .warm, 10000, 10, 600000, 0⟩,
  ⟨0x3206, 0, 0, .u32, .rw, .warm, 50, 1, 100000, 0⟩]

/-- Rows of the dictionary. -/
def odTable6 : List OdEntry := [
  ⟨0x3207, 1, 4, .u16, .ro, .volatile, 0, 0, 65535, 0⟩,
  ⟨0x3208, 1, 4, .u64, .ro, .volatile, 0, 0, 18446744073709551615, 0⟩,
  ⟨0x3209, 1, 4, .u64, .ro, .volatile, 0, 0, 18446744073709551615, 0⟩,
  ⟨0x320A, 0, 0, .u64, .ro, .volatile, 0, 0, 18446744073709551615, 0⟩,
  ⟨0x320B, 0, 0, .u64, .ro, .volatile, 0, 0, 18446744073709551615, 0⟩,
  ⟨0x320C, 0, 0, .u64, .ro, .volatile, 0, 0, 18446744073709551615, 0⟩,
  ⟨0x320D, 1, 64, .octets, .ro, .volatile, 0, 0, 0, 0⟩,
  ⟨0x320E, 1, 64, .u8, .ro, .volatile, 0, 0, 255, 0⟩,
  ⟨0x320F, 1, 64, .u16, .ro, .volatile, 0, 0, 65535, 0⟩,
  ⟨0x3300, 1, 64, .domain, .rw, .warm, 0, 0, 0, 64⟩,
  ⟨0x3301, 1, 64, .u64, .rw, .warm, 0, 0, 18446744073709551615, 0⟩,
  ⟨0x3302, 1, 64, .bool, .rw, .warm, 0, 0, 1, 0⟩,
  ⟨0x3303, 1, 64, .octets, .ro, .warm, 0, 0, 0, 0⟩,
  ⟨0x3304, 1, 64, .u8, .wo, .volatile, 0, 1, 2, 0⟩,
  ⟨0x3305, 1, 64, .octets, .rw, .warm, 0, 0, 0, 16⟩,
  ⟨0x3306, 0, 0, .u64, .ro, .volatile, 0, 0, 18446744073709551615, 0⟩,
  ⟨0x3307, 0, 0, .u64, .ro, .volatile, 0, 0, 18446744073709551615, 0⟩,
  ⟨0x3308, 0, 0, .u64, .ro, .volatile, 0, 0, 18446744073709551615, 0⟩,
  ⟨0x3309, 0, 0, .u64, .ro, .volatile, 0, 0, 18446744073709551615, 0⟩,
  ⟨0x4000, 1, 4, .u64, .ro, .volatile, 0, 0, 18446744073709551615, 0⟩,
  ⟨0x4001, 1, 4, .u64, .ro, .volatile, 0, 0, 18446744073709551615, 0⟩,
  ⟨0x4002, 1, 4, .u64, .ro, .volatile, 0, 0, 18446744073709551615, 0⟩,
  ⟨0x4003, 1, 4, .u64, .ro, .volatile, 0, 0, 18446744073709551615, 0⟩,
  ⟨0x4004, 1, 4, .u64, .ro, .volatile, 0, 0, 18446744073709551615, 0⟩]

/-- Rows of the dictionary. -/
def odTable7 : List OdEntry := [
  ⟨0x4005, 1, 4, .u32, .ro, .volatile, 0, 0, 4294967295, 0⟩,
  ⟨0x4006, 1, 4, .u64, .ro, .volatile, 0, 0, 18446744073709551615, 0⟩,
  ⟨0x4100, 1, 8, .u8, .ro, .volatile, 4, 0, 255, 0⟩,
  ⟨0x4101, 1, 8, .i32, .ro, .volatile, 0, 0, 4294967295, 0⟩,
  ⟨0x4102, 1, 8, .u8, .ro, .volatile, 1, 0, 255, 0⟩,
  ⟨0x4103, 0, 0, .u32, .rw, .warm, 1000, 256, 60000, 0⟩,
  ⟨0x4104, 1, 8, .u64, .ro, .volatile, 0, 0, 18446744073709551615, 0⟩,
  ⟨0x4105, 1, 8, .u8, .ro, .saved, 0, 0, 255, 0⟩,
  ⟨0x4106, 0, 0, .octets, .ro, .saved, 0, 0, 0, 0⟩,
  ⟨0x4107, 1, 8, .u64, .ro, .volatile, 0, 0, 18446744073709551615, 0⟩,
  ⟨0x4108, 1, 8, .u64, .ro, .volatile, 0, 0, 18446744073709551615, 0⟩,
  ⟨0x4109, 1, 8, .u64, .ro, .volatile, 0, 0, 18446744073709551615, 0⟩,
  ⟨0x410A, 1, 8, .u64, .ro, .volatile, 0, 0, 18446744073709551615, 0⟩,
  ⟨0x410B, 1, 8, .u64, .ro, .volatile, 0, 0, 18446744073709551615, 0⟩,
  ⟨0x410C, 0, 0, .u32, .rw, .warm, 2000, 200, 100000, 0⟩,
  ⟨0x410D, 0, 0, .u16, .rw, .warm, 24, 1, 168, 0⟩,
  ⟨0x4200, 1, 16, .u16, .ro, .volatile, 0, 0, 65535, 0⟩,
  ⟨0x4201, 1, 16, .u64, .ro, .volatile, 0, 0, 18446744073709551615, 0⟩,
  ⟨0x4202, 1, 16, .u64, .ro, .volatile, 0, 0, 18446744073709551615, 0⟩,
  ⟨0x4203, 1, 16, .u64, .ro, .volatile, 0, 0, 18446744073709551615, 0⟩,
  ⟨0x4204, 1, 16, .u64, .ro, .volatile, 0, 0, 18446744073709551615, 0⟩,
  ⟨0x4205, 0, 0, .u32, .rw, .warm, 10000, 1000, 1000000, 0⟩,
  ⟨0x4206, 1, 16, .u64, .ro, .volatile, 0, 0, 18446744073709551615, 0⟩,
  ⟨0x4210, 1, 64, .u64, .rw, .volatile, 0, 0, 18446744073709551615, 0⟩]

/-- Rows of the dictionary. -/
def odTable8 : List OdEntry := [
  ⟨0x4211, 1, 64, .u8, .ro, .volatile, 0, 0, 255, 0⟩,
  ⟨0x4212, 1, 64, .bool, .ro, .volatile, 0, 0, 1, 0⟩,
  ⟨0x4213, 1, 64, .octets, .ro, .volatile, 0, 0, 0, 0⟩,
  ⟨0x4300, 0, 0, .u8, .ro, .volatile, 3, 0, 255, 0⟩,
  ⟨0x4301, 1, 16, .i32, .ro, .volatile, 0, 0, 4294967295, 0⟩,
  ⟨0x4302, 0, 0, .u64, .ro, .volatile, 0, 0, 18446744073709551615, 0⟩,
  ⟨0x4303, 0, 0, .u64, .ro, .volatile, 0, 0, 18446744073709551615, 0⟩,
  ⟨0x4304, 0, 0, .u16, .rw, .warm, 24, 1, 168, 0⟩,
  ⟨0x5000, 1, 16, .u8, .ro, .volatile, 0, 0, 255, 0⟩,
  ⟨0x5001, 1, 16, .u8, .rw, .saved, 0, 0, 3, 0⟩,
  ⟨0x5002, 1, 64, .u32, .ro, .volatile, 0, 0, 4294967295, 0⟩,
  ⟨0x5003, 0, 0, .u32, .rw, .warm, 500000, 1000, 10000000, 0⟩,
  ⟨0x5004, 0, 0, .u16, .rw, .warm, 8, 1, 1000, 0⟩,
  ⟨0x5005, 0, 0, .bool, .rw, .saved, 1, 0, 1, 0⟩,
  ⟨0x5006, 1, 16, .u32, .ro, .saved, 0, 0, 4294967295, 0⟩,
  ⟨0x5007, 1, 16, .u64, .ro, .volatile, 0, 0, 18446744073709551615, 0⟩,
  ⟨0x5010, 0, 0, .octets, .rw, .saved, 0, 0, 0, 8⟩,
  ⟨0x5011, 0, 0, .u32, .rw, .saved, 0, 0, 4294967295, 0⟩,
  ⟨0x5012, 0, 0, .u16, .rw, .saved, 49610, 0, 65535, 0⟩,
  ⟨0x5013, 0, 0, .u16, .rw, .saved, 49611, 0, 65535, 0⟩,
  ⟨0x5014, 0, 0, .u16, .rw, .saved, 0, 0, 65535, 0⟩,
  ⟨0x5015, 0, 0, .u16, .rw, .saved, 0, 0, 65535, 0⟩,
  ⟨0x5016, 0, 0, .bool, .rw, .saved, 0, 0, 1, 0⟩,
  ⟨0x5017, 0, 0, .u16, .rw, .saved, 11802, 0, 65535, 0⟩]

/-- Rows of the dictionary. -/
def odTable9 : List OdEntry := [
  ⟨0x5018, 0, 0, .octets, .rw, .saved, 0, 0, 0, 16⟩,
  ⟨0x5020, 0, 0, .u32, .rw, .warm, 50, 10, 10000, 0⟩,
  ⟨0x5021, 0, 0, .u8, .rw, .warm, 12, 4, 32, 0⟩,
  ⟨0x5022, 0, 0, .u32, .rw, .warm, 5000, 500, 1000000, 0⟩,
  ⟨0x5023, 0, 0, .u16, .rw, .warm, 10, 1, 400, 0⟩,
  ⟨0x5024, 0, 0, .u16, .rw, .warm, 200, 1, 3200, 0⟩,
  ⟨0x5025, 0, 0, .u16, .rw, .warm, 100, 10, 10000, 0⟩,
  ⟨0x5026, 0, 0, .u8, .rw, .saved, 0, 0, 3, 0⟩,
  ⟨0x5027, 0, 0, .u8, .ro, .saved, 0, 0, 255, 0⟩,
  ⟨0x5028, 0, 0, .u64, .ro, .volatile, 0, 0, 18446744073709551615, 0⟩,
  ⟨0x5029, 0, 0, .u64, .ro, .volatile, 0, 0, 18446744073709551615, 0⟩,
  ⟨0x502A, 0, 0, .u64, .ro, .volatile, 0, 0, 18446744073709551615, 0⟩,
  ⟨0x502B, 1, 4, .u32, .ro, .volatile, 0, 0, 4294967295, 0⟩,
  ⟨0x502C, 0, 0, .u64, .ro, .volatile, 0, 0, 18446744073709551615, 0⟩,
  ⟨0x5030, 1, 2, .u8, .ro, .volatile, 0, 0, 255, 0⟩,
  ⟨0x5031, 1, 2, .octets, .rw, .saved, 0, 0, 0, 16⟩,
  ⟨0x5032, 0, 0, .u16, .ro, .volatile, 0, 0, 65535, 0⟩,
  ⟨0x5300, 1, 8, .octets, .rwp, .saved, 0, 0, 0, 64⟩,
  ⟨0x6000, 1, 6, .u64, .ro, .volatile, 0, 0, 18446744073709551615, 0⟩,
  ⟨0x6001, 1, 6, .u64, .ro, .volatile, 0, 0, 18446744073709551615, 0⟩,
  ⟨0x6002, 0, 0, .u64, .ro, .volatile, 0, 0, 18446744073709551615, 0⟩,
  ⟨0x6003, 0, 0, .octets, .ro, .volatile, 0, 0, 0, 0⟩,
  ⟨0x6004, 0, 0, .u16, .rw, .warm, 60, 1, 1440, 0⟩,
  ⟨0x6005, 0, 0, .u64, .ro, .volatile, 0, 0, 18446744073709551615, 0⟩]

/-- Rows of the dictionary. -/
def odTable10 : List OdEntry := [
  ⟨0x6010, 0, 0, .u8, .rw, .warm, 12, 4, 20, 0⟩,
  ⟨0x6011, 0, 0, .u8, .rw, .warm, 8, 4, 20, 0⟩,
  ⟨0x6012, 1, 4, .u32, .rw, .warm, 2013265920, 0, 4294967295, 0⟩,
  ⟨0x6013, 1, 8, .u64, .ro, .volatile, 0, 0, 18446744073709551615, 0⟩,
  ⟨0x6014, 1, 8, .u64, .ro, .volatile, 0, 0, 18446744073709551615, 0⟩,
  ⟨0x6015, 1, 8, .u64, .ro, .volatile, 0, 0, 18446744073709551615, 0⟩,
  ⟨0x6016, 0, 0, .octets, .ro, .volatile, 0, 0, 0, 0⟩,
  ⟨0x6017, 0, 0, .u8, .rwp, .saved, 0, 0, 1, 0⟩,
  ⟨0x6020, 1, 64, .octets, .ro, .volatile, 0, 0, 0, 0⟩,
  ⟨0x6030, 0, 0, .u16, .rw, .saved, 24, 2, 720, 0⟩,
  ⟨0x6031, 0, 0, .u8, .rw, .saved, 6, 1, 72, 0⟩,
  ⟨0x6032, 1, 8, .time64, .ro, .volatile, 0, 0, 18446744073709551615, 0⟩,
  ⟨0x6033, 1, 8, .octets, .ro, .saved, 0, 0, 0, 0⟩,
  ⟨0x6034, 0, 0, .u16, .rw, .warm, 60, 10, 1440, 0⟩,
  ⟨0x6040, 0, 0, .domain, .ro, .saved, 0, 0, 0, 0⟩,
  ⟨0x6041, 0, 0, .domain, .ro, .saved, 0, 0, 0, 0⟩,
  ⟨0x6042, 0, 0, .u16, .rwp, .volatile, 0, 0, 65535, 0⟩,
  ⟨0x7000, 0, 0, .octets, .ro, .factory, 0, 0, 0, 0⟩,
  ⟨0x7001, 0, 0, .octets, .ro, .factory, 0, 0, 0, 0⟩,
  ⟨0x7002, 0, 0, .domain, .ro, .factory, 0, 0, 0, 0⟩,
  ⟨0x7003, 0, 0, .octets, .ro, .factory, 0, 0, 0, 0⟩,
  ⟨0x7010, 0, 0, .octets, .ro, .saved, 0, 0, 0, 0⟩,
  ⟨0x7011, 0, 0, .domain, .wo, .volatile, 0, 0, 0, 0⟩,
  ⟨0x7012, 0, 0, .bool, .rwp, .volatile, 0, 0, 1, 0⟩]

/-- Rows of the dictionary. -/
def odTable11 : List OdEntry := [
  ⟨0x7013, 0, 0, .u64, .ro, .saved, 0, 0, 18446744073709551615, 0⟩,
  ⟨0x7014, 0, 0, .u64, .ro, .volatile, 0, 0, 18446744073709551615, 0⟩,
  ⟨0x7020, 1, 4, .octets, .wo, .volatile, 0, 0, 0, 32⟩,
  ⟨0x7021, 1, 4, .domain, .ro, .volatile, 0, 0, 0, 0⟩,
  ⟨0x7022, 0, 0, .u32, .ro, .saved, 0, 0, 4294967295, 0⟩,
  ⟨0x7023, 0, 0, .u32, .ro, .saved, 33554432, 0, 4294967295, 0⟩,
  ⟨0x7024, 0, 0, .u8, .ro, .volatile, 64, 0, 255, 0⟩,
  ⟨0x7030, 1, 4, .octets, .rwp, .saved, 0, 0, 0, 0⟩,
  ⟨0x7040, 0, 0, .domain, .wo, .volatile, 0, 0, 0, 0⟩,
  ⟨0x7041, 0, 0, .u8, .rwp, .volatile, 0, 0, 255, 0⟩,
  ⟨0x7042, 0, 0, .u8, .rwp, .volatile, 0, 0, 255, 0⟩,
  ⟨0x7043, 1, 4, .octets, .ro, .saved, 0, 0, 0, 0⟩,
  ⟨0x7044, 1, 4, .u32, .ro, .saved, 0, 0, 4294967295, 0⟩,
  ⟨0x7045, 0, 0, .u8, .ro, .saved, 0, 0, 255, 0⟩,
  ⟨0x7046, 0, 0, .u64, .ro, .saved, 0, 0, 18446744073709551615, 0⟩,
  ⟨0x7047, 0, 0, .u8, .ro, .saved, 8, 0, 255, 0⟩,
  ⟨0x8000, 0, 0, .domain, .ro, .volatile, 0, 0, 0, 0⟩,
  ⟨0x8001, 0, 0, .domain, .ro, .volatile, 0, 0, 0, 0⟩]

/-- The object dictionary (R526), in the order of its indices. -/
def odTable : List OdEntry :=
  odTable0 ++ odTable1 ++ odTable2 ++ odTable3 ++ odTable4 ++ odTable5 ++ odTable6 ++ odTable7 ++ odTable8 ++ odTable9 ++ odTable10 ++ odTable11

/-- The key of an entry's subindex, and the index and subindex of a key. -/
def odKey (idx sub : Nat) : Nat := sub * 65536 + idx
def keyIdx (key : Nat) : Nat := key % 65536
def keySub (key : Nat) : Nat := key / 65536

/-- The row that holds a subindex, if the dictionary has it (R526). -/
def odFind (idx sub : Nat) : Option OdEntry :=
  odTable.find? (fun e => e.idx == idx && e.lo ≤ sub && sub ≤ e.hi)

/-- The last subindex of an index whose subindices run from 01: what subindex 00 reads (R508). -/
def odCount (idx : Nat) : Option Nat :=
  match odTable.filter (fun e => e.idx == idx) with
  | [] => none
  | e :: r => if e.lo = 0 then none else some ((e :: r).foldl (fun m x => max m x.hi) 0)

/-- The default of a number (R11, R543). DISP_PLAZA_MAP defaults to the Plaza's own number. -/
@[irreducible] def odDefault (idx sub : Nat) : Nat :=
  if idx = Od.dispPlazaMap then sub - 1 else ((odFind idx sub).map (·.dflt)).getD 0

/-- The width in bits of a number entry. -/
@[irreducible] def odWidth (idx sub : Nat) : Nat := ((odFind idx sub).map (·.ty.width)).getD 64

/-- The persistence class of a key (R16). -/
@[irreducible] def odPersist (idx sub : Nat) : OdPersist := ((odFind idx sub).map (·.per)).getD .volatile

/-! ### What the spec leaves to manufacture or leaves open (log entry 1) -/

/-- The images shipped in flash, by kind and slot (R477). -/
opaque Config.shipped : Nat → Nat → List Byte
/-- SERIAL_NUMBER and the bytes of MAC_BASE, of the part code and of the manufacture DT in DEVICE_CERT (R487, R525). -/
opaque Config.serial : List Byte
opaque Config.macByte : Nat → Byte
opaque Config.partCode : Nat → Byte
opaque Config.madeAt : Nat → Byte
/-- The device seed that manufacture formed, the fuzzy extractor's helper data, and what the extractor gives for a read of the PUF region and that data (R472). -/
opaque Config.seedByte : Nat → Byte
opaque Config.pufHelper : List Byte
opaque Config.fuzzy : List Byte → List Byte → Nat → Byte
/-- Identifier and root of a Larath firmware key (R480), and the hashes and leaf of the signature in DEVICE_CERT (R487). -/
opaque Config.larathByte : Nat → Nat → Byte
opaque Config.certHash : List Byte → Nat → Byte
opaque Config.certLeaf : Nat

/-- An unconstrained number for the n-th draw (log entry 1). -/
opaque Config.freeNat : Nat → Nat
/-- An unconstrained byte string for the n-th draw. -/
opaque Config.freeBytes : Nat → List Byte

/-- The rule slot contents that lay out a state block which no UPDATE has named yet, by its address (log entry 16). -/
opaque Config.blockRule : Nat → BitVec 512

/-! ### Cryptographic primitives, as functions of their real inputs (R321, R336, R480, R489, R492) -/

/-- AES-256-GCM encryption: key, nonce, associated data, plaintext; ciphertext and tag. -/
opaque Config.gcmSeal : List Byte → List Byte → List Byte → List Byte → List Byte × List Byte
/-- AES-256-GCM decryption: key, nonce, associated data, ciphertext, tag; the plaintext when the tag verifies. -/
opaque Config.gcmOpen : List Byte → List Byte → List Byte → List Byte → List Byte → Option (List Byte)
/-- LMS and HSS verification: public key, message, signature. -/
opaque Config.lmsVerify : List Byte → List Byte → List Byte → Bool
/-- The root of an LMS tree of a type from its identifier and SEED, and the hashes of a signature: identifier and SEED, leaf, message (RFC 8554). -/
opaque Config.lmsRoot : Nat → List Byte → Nat → Byte
opaque Config.lmsHash : List Byte → Nat → List Byte → Nat → Byte
/-- The bytes of the SHA-256 digest of a message. -/
opaque Config.sha256Byte : List Byte → Nat → Byte
/-- ML-KEM-1024 (FIPS 203): the encapsulation key from d and z, and the shared secret of a ciphertext. -/
opaque Config.kemKeygen : List Byte → Nat → Byte
opaque Config.kemShared : List Byte → List Byte → Nat → Byte
/-- AES key unwrap: key-encryption key, wrapped key; the key when its check holds. -/
opaque Config.keyUnwrap : List Byte → List Byte → Option (List Byte)
/-- What a byte of an erased flash slot reads as before it is written, by its offset (R494 gives no value). -/
opaque Config.erased : Nat → Byte
/-- AES-256-XTS encryption and decryption of one 16-byte unit: key, tweak, unit (R493). -/
opaque Config.xtsSeal : List Byte → Nat → List Byte → List Byte
opaque Config.xtsOpen : List Byte → Nat → List Byte → List Byte
/-- Does an MRAM record written with this sequence number fail its read-back? Store 0 is the attestation index, store k + 1 the TXC of key slot k (R319, R482). -/
opaque Config.mramFails : Nat → Nat → Bool
/-- The check bits of a reservation record of TXC or of the attestation index with this end and sequence number (R319, R482), of which the spec states neither width nor code. -/
opaque Config.txcCheck : Nat → Nat → BitVec 8
/-- The voltage table of a Plaza: mV of its rail at a clock in MHz (R437, R439). -/
opaque Config.plazaMv : Nat → Nat → Nat
/-- Is a fabric port's link a backplane link (R311, R334)? A fact of the installation. -/
opaque Config.backplane : Nat → Bool
/-- The random bit generator: the bytes of its n-th request. -/
opaque Config.drbg : Nat → Nat → Byte

end Sys2Proof
end

