-- ==== Sys2Proof/Machine/Numerics.lean ====
section
/-! DEFINITION. Number formats, exact arithmetic, roundings and conversions (03_numeric_formats.md, R64 to R88). -/

namespace Sys2Proof.Machine

/-- An FP32 encoding. -/
abbrev F32 := BitVec 32
/-- An FP64 encoding. -/
abbrev F64 := BitVec 64

/-- The exact value of an encoding: NaN, an infinity, or plus or minus `m` times 2 to the `e`. -/
inductive Num where
  | nan
  | inf (neg : Bool)
  | fin (neg : Bool) (m : Nat) (e : Int)
  deriving DecidableEq, Repr

/-- A floating-point format of R64. `top` is the largest finite magnitude encoding. -/
structure Fmt where
  ebits : Nat
  mbits : Nat
  bias : Nat
  top : Nat
  infEnc : Option Nat
  nanEnc : Option Nat
  deriving DecidableEq, Repr

def fmt64 : Fmt := ⟨11, 52, 1023, 0x7FEFFFFFFFFFFFFF, some 0x7FF0000000000000, some 0x7FF8000000000000⟩
def fmt32 : Fmt := ⟨8, 23, 127, 0x7F7FFFFF, some 0x7F800000, some 0x7FC00000⟩
def fmtBF16 : Fmt := ⟨8, 7, 127, 0x7F7F, some 0x7F80, some 0x7FC0⟩
def fmtFP16 : Fmt := ⟨5, 10, 15, 0x7BFF, some 0x7C00, some 0x7E00⟩
def fmtE5M2 : Fmt := ⟨5, 2, 15, 0x7B, some 0x7C, some 0x7E⟩
def fmtE4M3 : Fmt := ⟨4, 3, 7, 0x7E, none, some 0x7F⟩
def fmtE2M1 : Fmt := ⟨2, 1, 1, 0x7, none, none⟩

/-- The width of an encoding in bits. -/
def Fmt.width (f : Fmt) : Nat := 1 + f.ebits + f.mbits

/-- The exact value that an encoding stands for (R64, R65). -/
def Fmt.decode (f : Fmt) (w : Nat) : Num :=
  let neg := bit w (f.ebits + f.mbits)
  let mag := w % 2 ^ (f.ebits + f.mbits)
  if mag > f.top then (if f.infEnc == some mag then .inf neg else .nan)
  else
    let ex := mag >>> f.mbits
    let fr := mag % 2 ^ f.mbits
    if ex = 0 then .fin neg fr (1 - (f.bias : Int) - f.mbits)
    else .fin neg (fr + 2 ^ f.mbits) ((ex : Int) - f.bias - f.mbits)

/-- `m * 2^k`, rounded to nearest with ties to even when `k` is negative. -/
def shiftRNE (m : Nat) (k : Int) : Nat :=
  if 0 ≤ k then m <<< k.toNat
  else
    let d := (-k).toNat
    let q := m >>> d
    let r := m % 2 ^ d
    let half := 2 ^ (d - 1)
    if r > half ∨ (r = half ∧ q % 2 = 1) then q + 1 else q

/-- The magnitude encoding nearest to `m * 2^e`, and whether it lies beyond the largest finite value. -/
def Fmt.roundMag (f : Fmt) (m : Nat) (e : Int) : Nat × Bool :=
  if m = 0 then (0, false)
  else
    let emin : Int := 1 - (f.bias : Int)
    let ex := max ((m.log2 : Int) + e) emin
    let enc := ((ex - emin).toNat <<< f.mbits) + shiftRNE m (e - (ex - f.mbits))
    if enc > f.top then (f.top, true) else (enc, false)

/-- A sign bit in front of a magnitude encoding. -/
def Fmt.withSign (f : Fmt) (neg : Bool) (mag : Nat) : Nat :=
  if neg then mag + 2 ^ (f.ebits + f.mbits) else mag

/-- The canonical NaN (R66); formats without NaN never reach it. -/
def Fmt.nan (f : Fmt) : Nat := f.nanEnc.getD 0

/-- A value rounded to nearest even; an overflow gives infinity where the format has one (R75, R96). -/
def Fmt.encode (f : Fmt) : Num → Nat
  | .nan => f.nan
  | .inf neg => match f.infEnc with
    | some i => f.withSign neg i
    | none => f.nan
  | .fin neg m e =>
    let r := f.roundMag m e
    match r.2, f.infEnc with
    | true, some i => f.withSign neg i
    | _, _ => f.withSign neg r.1

/-- A value rounded to nearest even; an overflow takes the largest finite value, and the flag says so (R75, FP8). -/
def Fmt.encodeSat (f : Fmt) : Num → Nat × Bool
  | .nan => (f.nan, false)
  | .inf neg => match f.infEnc with
    | some i => (f.withSign neg i, false)
    | none => (f.nan, false)
  | .fin neg m e =>
    let r := f.roundMag m e
    (f.withSign neg r.1, r.2)

/-! ### Exact arithmetic -/

namespace Num

def neg : Num → Num
  | .nan => .nan
  | .inf s => .inf (!s)
  | .fin s m e => .fin (!s) m e

def abs : Num → Num
  | .nan => .nan
  | .inf _ => .inf false
  | .fin _ m e => .fin false m e

def isNan : Num → Bool
  | .nan => true
  | _ => false

def isFinite : Num → Bool
  | .fin _ _ _ => true
  | _ => false

def isZero : Num → Bool
  | .fin _ 0 _ => true
  | _ => false

/-- The signed integer `±m`. -/
def sgn (s : Bool) (m : Nat) : Int := if s then -(m : Int) else m

/-- A signed integer times `2^e` as a value; an exact zero is +0 (R67). -/
def ofInt (i : Int) (e : Int) : Num := .fin (i < 0) i.natAbs e

/-- Exact sum. A zero sum is +0 unless both addends are -0 (R67). -/
def add : Num → Num → Num
  | .nan, _ => .nan
  | _, .nan => .nan
  | .inf a, .inf b => if a = b then .inf a else .nan
  | .inf a, .fin _ _ _ => .inf a
  | .fin _ _ _, .inf b => .inf b
  | .fin a m e, .fin b n g =>
    let q := min e g
    let i := sgn a (m <<< (e - q).toNat) + sgn b (n <<< (g - q).toNat)
    if i = 0 then .fin (a && b && (m == 0) && (n == 0)) 0 q else ofInt i q

def sub (a b : Num) : Num := add a b.neg

/-- Exact product; an infinity times zero is NaN. -/
def mul : Num → Num → Num
  | .nan, _ => .nan
  | _, .nan => .nan
  | .inf a, .inf b => .inf (a != b)
  | .inf a, .fin b m _ => if m = 0 then .nan else .inf (a != b)
  | .fin a m _, .inf b => if m = 0 then .nan else .inf (a != b)
  | .fin a m e, .fin b n g => .fin (a != b) (m * n) (e + g)

/-- Exact scaling by a power of two. -/
def scale (k : Int) : Num → Num
  | .fin s m e => .fin s m (e + k)
  | x => x

/-- Exact comparison `a < b`; false when either is NaN. -/
def lt : Num → Num → Bool
  | .nan, _ => false
  | _, .nan => false
  | .inf a, .inf b => a && !b
  | .inf a, .fin _ _ _ => a
  | .fin _ _ _, .inf b => !b
  | .fin a m e, .fin b n g =>
    let q := min e g
    decide (sgn a (m <<< (e - q).toNat) < sgn b (n <<< (g - q).toNat))

/-- Exact equality of values; +0 and -0 are equal, NaN equals nothing. -/
def eqv (a b : Num) : Bool := !a.isNan && !b.isNan && !(lt a b) && !(lt b a)

def le (a b : Num) : Bool := lt a b || eqv a b

/-- The maximum of R77: NaN propagates, and of +0 and -0 the result is +0. -/
def max : Num → Num → Num
  | .nan, _ => .nan
  | _, .nan => .nan
  | a, b => if lt a b then b else if lt b a then a else
    match a, b with
    | .fin true 0 _, y => y
    | x, _ => x

/-- The minimum of R77: NaN propagates, and of +0 and -0 the result is -0. -/
def min (a b : Num) : Num := (max a.neg b.neg).neg

/-- The exact sum of a list. -/
def sum : List Num → Num
  | [] => .fin false 0 0
  | x :: [] => x
  | x :: xs => add x (sum xs)

end Num

/-! ### FP32 and FP64 operations, each rounded once (R76, R80, R96) -/

def f32 (x : F32) : Num := fmt32.decode x.toNat
def toF32 (x : Num) : F32 := BitVec.ofNat 32 (fmt32.encode x)
def f64 (x : F64) : Num := fmt64.decode x.toNat
def toF64 (x : Num) : F64 := BitVec.ofNat 64 (fmt64.encode x)

def nan32 : F32 := 0x7FC00000#32
def inf32 : F32 := 0x7F800000#32
def negInf32 : F32 := 0xFF800000#32
def one32 : F32 := 0x3F800000#32

def fadd (a b : F32) : F32 := toF32 (Num.add (f32 a) (f32 b))
def fsub (a b : F32) : F32 := toF32 (Num.sub (f32 a) (f32 b))
def fmul (a b : F32) : F32 := toF32 (Num.mul (f32 a) (f32 b))
def ffma (a b c : F32) : F32 := toF32 (Num.add (Num.mul (f32 a) (f32 b)) (f32 c))
def fmax (a b : F32) : F32 := toF32 (Num.max (f32 a) (f32 b))
def fmin (a b : F32) : F32 := toF32 (Num.min (f32 a) (f32 b))
def fneg (a : F32) : F32 := toF32 (f32 a).neg
def flt (a b : F32) : Bool := Num.lt (f32 a) (f32 b)
def isNonFinite (a : F32) : Bool := !(f32 a).isFinite

/-- Extra quotient bits kept before the one rounding of a division. -/
def guardBits : Nat := 80

/-- A quotient with its inexact tail folded into a sticky bit, exact enough for one rounding. -/
def Num.div : Num → Num → Num
  | .nan, _ => .nan
  | _, .nan => .nan
  | .inf _, .inf _ => .nan
  | .inf a, .fin b _ _ => .inf (a != b)
  | .fin a _ _, .inf b => .fin (a != b) 0 0
  | .fin a m e, .fin b n g =>
    if n = 0 then (if m = 0 then .nan else .inf (a != b))
    else
      let k := guardBits + n.log2
      let q := (m <<< k) / n
      let r := (m <<< k) % n
      .fin (a != b) (2 * q + (if r = 0 then 0 else 1)) (e - g - (k + 1 : Nat))

def fdiv (a b : F32) : F32 := toF32 (Num.div (f32 a) (f32 b))

/-- The integer square root, one bit at a time from bit `k` down. -/
def isqrtAux (n : Nat) : Nat → Nat → Nat
  | 0, r => r
  | k + 1, r =>
    let t := r + 2 ^ k
    isqrtAux n k (if t * t ≤ n then t else r)

def isqrt (n : Nat) : Nat := isqrtAux n (n.log2 / 2 + 1) 0

/-- A square root with a sticky bit; the root of -0 is -0, of a negative number NaN. -/
def Num.sqrt : Num → Num
  | .nan => .nan
  | .inf false => .inf false
  | .inf true => .nan
  | .fin s m e =>
    if m = 0 then .fin s 0 e
    else if s then .nan
    else
      let (m', e') := if e % 2 = 0 then (m, e) else (2 * m, e - 1)
      let w := m' <<< (2 * guardBits)
      let r := isqrt w
      .fin false (2 * r + (if r * r = w then 0 else 1)) (e' / 2 - (guardBits + 1 : Nat))

def fsqrt (a : F32) : F32 := toF32 (f32 a).sqrt

def dadd (a b : F64) : F64 := toF64 (Num.add (f64 a) (f64 b))
def dmul (a b : F64) : F64 := toF64 (Num.mul (f64 a) (f64 b))
def ddiv (a b : F64) : F64 := toF64 (Num.div (f64 a) (f64 b))
def dsqrt (a : F64) : F64 := toF64 (f64 a).sqrt
/-- An FP32 value widened exactly (R75). -/
def f32to64 (a : F32) : F64 := toF64 (f32 a)
/-- An FP64 value narrowed with RNE (R75). -/
def f64to32 (a : F64) : F32 := toF32 (f64 a)
/-- An integer converted to FP32 with RNE. -/
def f32ofNat (n : Nat) : F32 := toF32 (.fin false n 0)

/-! ### exp and ln, correctly rounded (R96; log entry 5) -/

/-- Fraction bits of the fixed-point evaluation. -/
def fixBits : Nat := 240
def fixOne : Nat := 2 ^ fixBits

/-- The Taylor sum of e to the `y`, `y` a fixed-point fraction, `n` terms, `t` the current term. -/
def expTaylor (y : Nat) : Nat → Nat → Nat → Nat
  | 0, _, _ => 0
  | n + 1, k, t => t + expTaylor y n (k + 1) (((t * y) >>> fixBits) / (k + 1))

/-- Squares a fixed-point number `n` times. -/
def fixSquare : Nat → Nat → Nat
  | 0, v => v
  | n + 1, v => fixSquare n ((v * v) >>> fixBits)

/-- e to the `y`, for a fixed-point `y` below 128, by halving the argument 16 times. -/
def expFix (y : Nat) : Nat := fixSquare 16 (expTaylor (y >>> 16) 64 0 fixOne)

/-- e to the `x` as a dyadic with a sticky bit. -/
def Num.exp : Num → Num
  | .nan => .nan
  | .inf false => .inf false
  | .inf true => .fin false 0 0
  | .fin s m e =>
    if m = 0 then .fin false 1 0
    else if (m.log2 : Int) + e ≥ 7 then (if s then .fin false 1 (-400) else .inf false)
    else
      let y := if 0 ≤ e + fixBits then m <<< (e + fixBits).toNat else m >>> (-(e + fixBits)).toNat
      let v := expFix y
      if s then .fin false (2 * ((fixOne * fixOne) / v) + 1) (-(fixBits : Int) - 1)
      else .fin false (2 * v + 1) (-(fixBits : Int) - 1)

def fexp (a : F32) : F32 := toF32 (f32 a).exp

/-- The series of the inverse hyperbolic tangent of `z`: the sum of `z^(2k+1)/(2k+1)`. -/
def atanhSeries (z2 : Nat) : Nat → Nat → Nat → Nat
  | 0, _, _ => 0
  | n + 1, k, t => t / (2 * k + 1) + atanhSeries z2 n (k + 1) ((t * z2) >>> fixBits)

def atanhFix (z : Nat) : Nat := atanhSeries ((z * z) >>> fixBits) 110 0 z

/-- The natural logarithm of 2 in fixed point. -/
def ln2Fix : Nat := 2 * atanhFix (fixOne / 3)

/-- ln x as a dyadic with a sticky bit. -/
def Num.ln : Num → Num
  | .nan => .nan
  | .inf false => .inf false
  | .inf true => .nan
  | .fin s m e =>
    if m = 0 then .inf true
    else if s then .nan
    else
      let ex : Int := (m.log2 : Int) + e
      if m = 2 ^ m.log2 ∧ ex = 0 then .fin false 0 0
      else
        let one := 2 ^ m.log2
        let z := ((m - one) <<< fixBits) / (m + one)
        let i : Int := ex * ln2Fix + 2 * atanhFix z
        .fin (i < 0) (2 * i.natAbs + 1) (-(fixBits : Int) - 1)

def fln (a : F32) : F32 := toF32 (f32 a).ln

/-! ### Storage formats by code (R50, R113) -/

/-- The scalar format of a code of R113; codes 4 to 6 are the element formats of the MX formats. -/
def fmtOf : Nat → Fmt
  | 0 => fmtBF16
  | 1 => fmtFP16
  | 2 => fmtE4M3
  | 3 => fmtE5M2
  | 4 => fmtE4M3
  | 5 => fmtE5M2
  | 6 => fmtE2M1
  | _ => fmt32

/-- Is the code a Microscaling format? -/
def isMX (c : Nat) : Bool := c == 4 || c == 5 || c == 6

/-- Element pairs per cell and cycle (R50); FP32 takes three cycles for one pair. -/
def pairsPerCycle (c : Nat) : Nat :=
  if c == 0 || c == 1 || c == 7 then 1 else if c == 6 then 4 else 2

/-- Element size in half bytes (R206). -/
def elemNibbles (c : Nat) : Nat :=
  if c == 7 then 8 else if c == 0 || c == 1 then 4 else if c == 6 then 1 else 2

/-- The scale factor exponent of an E8M0 scale; 0xFF is NaN (R69). -/
def e8m0 (s : Nat) : Option Int := if s % 256 = 255 then none else some ((s % 256 : Nat) - 127)

/-- An MX element scaled exactly by its block scale (R69). -/
def mxValue (c s w : Nat) : Num :=
  match e8m0 s with
  | none => .nan
  | some k => ((fmtOf c).decode w).scale k

/-! ### Conversions (R75) -/

/-- An FP32 value narrowed to a scalar format with RNE; the flag says that the FP8 conversion saturated. -/
def narrow (c : Nat) (x : F32) : Nat × Bool :=
  if c == 7 then (if (f32 x).isNan then fmt32.nan else x.toNat, false)
  else if c == 2 || c == 3 then (fmtOf c).encodeSat (f32 x)
  else ((fmtOf c).encode (f32 x), false)

/-- A scalar encoding widened exactly to FP32; NaN becomes canonical (R75). -/
def widen (c w : Nat) : F32 := toF32 ((fmtOf c).decode w)

/-- The largest exponent of an element format, `emax` of R71. -/
def mxEmax (c : Nat) : Int := if c == 4 then 8 else if c == 5 then 15 else 2

/-- floor(log2) of a finite non-zero magnitude. -/
def floorLog2 : Num → Int
  | .fin _ m e => (m.log2 : Int) + e
  | _ => 0

/-- The largest magnitude of a list. -/
def maxMag : List Num → Num
  | [] => .fin false 0 0
  | x :: xs => let r := maxMag xs; if Num.lt r x.abs then x.abs else r

/-- The largest power-of-two exponent `k ≤ 127` with `2^k` at most each element's scale: the block scale of R71. -/
def mxScale (c : Nat) (xs : List F32) : Nat :=
  let v := xs.map f32
  if v.any (fun x => !x.isFinite) then 255
  else
    let a := maxMag v
    if a.isZero then 127
    else
      let s := floorLog2 a - mxEmax c + 127
      if s < 0 then 0 else if s > 254 then 254 else s.toNat

/-- One MX block: the scale, the element encodings, and how many elements saturated (R71). -/
def mxEncode (c : Nat) (xs : List F32) : Nat × List Nat × Nat :=
  let s := mxScale c xs
  if s = 255 ∨ xs.all (fun x => (f32 x).isZero) then (s, xs.map (fun _ => 0), 0)
  else
    let r := xs.map (fun x => (fmtOf c).encodeSat ((f32 x).scale (127 - (s : Int))))
    (s, r.map (·.1), (r.filter (·.2)).length)

/-! ### Stochastic rounding (R82 to R85) -/

def phi : BitVec 64 := 0x9E3779B97F4A7C15#64

def mix (z : BitVec 64) : BitVec 64 :=
  let z := (z ^^^ (z >>> 30)) * 0xBF58476D1CE4E5B9#64
  let z := (z ^^^ (z >>> 27)) * 0x94D049BB133111EB#64
  z ^^^ (z >>> 31)

def stepKey (seed dev step : Nat) : BitVec 64 :=
  mix (mix (BitVec.ofNat 64 seed ^^^ (BitVec.ofNat 64 dev * phi)) + BitVec.ofNat 64 step * phi)

def streamKey (sk : BitVec 64) (site q tag : Nat) : BitVec 64 :=
  mix (sk ^^^ (BitVec.ofNat 64 site <<< 60) ^^^ (BitVec.ofNat 64 q <<< 40) ^^^ BitVec.ofNat 64 tag)

def rw (key : BitVec 64) (e : Nat) : BitVec 64 := mix (key + BitVec.ofNat 64 (e + 1) * phi)

/-- The inputs of R84 that stay fixed over one operation. -/
structure RoundKey where
  seed : Nat
  dev : Nat
  step : Nat
  site : Nat
  tag : Nat
  deriving DecidableEq, Repr

def siteWvuGrad : Nat := 1
def siteTerraceAcc : Nat := 2
def siteRbWire : Nat := 3
def siteRbBs16 : Nat := 4
def siteLrFactor : Nat := 5
def siteHazelRem : Nat := 6
def siteHazelEmb : Nat := 7

/-- The draw `u := rw[63:64-d]` of R83 for hop or micro-batch `q` and element `e`. -/
def RoundKey.draw (k : RoundKey) (q e d : Nat) : Nat :=
  (rw (streamKey (stepKey k.seed k.dev k.step) k.site (q % 2 ^ 20) (k.tag % 2 ^ 32)) e).toNat >>> (64 - d)

/-- Rounds a magnitude encoding by its low `d` bits and the draw `u` (R83). -/
def srMag (mag d u : Nat) : Nat :=
  (mag >>> d) + (if mag % 2 ^ d + u ≥ 2 ^ d then 1 else 0)

/-- FP32 to BF16 with the draw `u` of 16 bits; the flag counts a saturation (R75, R83). -/
def srBF16 (x : F32) (u : Nat) : Nat × Bool :=
  let neg := bit x.toNat 31
  let mag := x.toNat % 2 ^ 31
  match f32 x with
  | .nan => (0x7FC0, false)
  | .inf s => (fmtBF16.withSign s 0x7F80, false)
  | .fin _ _ _ =>
    let r := srMag mag 16 u
    if r > 0x7F7F then (fmtBF16.withSign neg 0x7F7F, true) else (fmtBF16.withSign neg r, false)

/-- A BF16 encoding as FP32. -/
def bf16to32 (w : Nat) : F32 := widen 0 w

/-- The integer part of `m * 2^k` after `sr_int` with `d = 32` (R83). -/
def srInt (m : Nat) (k : Int) (u : Nat) : Nat :=
  let fx := if 0 ≤ k + 32 then m <<< (k + 32).toNat else m >>> (-(k + 32)).toNat
  (fx + u) >>> 32

/-! ### BS16 (R72 to R74) -/

/-- A BS16 block: the header fields and 64 signed mantissas. -/
structure BS16 where
  esc : Nat
  nf : Bool
  e : Nat
  ms : List Int
  deriving DecidableEq, Repr

/-- The block encoding of R74 with floor exponent `ef` and the draw of each element; the count says how many mantissas saturated. -/
def bs16Encode (xs : List F32) (ef esc : Nat) (draw : Nat → Nat) : BS16 × Nat :=
  let v := xs.map f32
  if v.any (fun x => !x.isFinite) then (⟨esc, true, 255, xs.map (fun _ => 0)⟩, 0)
  else
    let a := maxMag v
    let ec : Int := if a.isZero then 0 else min 254 (max 0 (floorLog2 a + 128))
    let e := max ec.toNat ef
    let one := fun (p : F32 × Nat) =>
      match f32 p.1 with
      | .fin s m g =>
        let r := srInt m (g + 141 - e) (draw p.2)
        (Num.sgn s (if r > 32767 then 32767 else r), decide (r > 32767))
      | _ => (0, false)
    let r := (xs.zipIdx).map one
    (⟨esc, false, e, r.map (·.1)⟩, (r.filter (·.2)).length)

/-- Element values of a block as FP32 (R73). -/
def bs16Decode (b : BS16) : List F32 :=
  if b.nf then b.ms.map (fun _ => nan32)
  else b.ms.map (fun m => toF32 (.fin (m < 0) m.natAbs ((b.e : Int) - 141)))

/-- A list padded with `d` to length `n`. -/
def padTo {α : Type} (n : Nat) (d : α) (l : List α) : List α := l ++ List.replicate (n - l.length) d

/-- Lists of at most `n` elements each; `fuel` bounds their number. -/
def chunks {α : Type} (n : Nat) : Nat → List α → List (List α)
  | 0, _ => []
  | k + 1, l => if l.isEmpty then [] else l.take n :: chunks n k (l.drop n)

/-- The bytes of a number, least significant first (R9). -/
def leBytes : Nat → Nat → List Byte
  | 0, _ => []
  | n + 1, x => BitVec.ofNat 8 x :: leBytes n (x / 256)

/-- The number that bytes in ascending address order hold (R9). -/
def ofLE : List Byte → Nat
  | [] => 0
  | b :: r => b.toNat + 256 * ofLE r

/-- The bytes of a number, most significant first (R10). -/
def beBytes (n x : Nat) : List Byte := (leBytes n x).reverse

/-- The number that big-endian bytes hold (R10). -/
def ofBE (l : List Byte) : Nat := ofLE l.reverse

/-- A block in its 132 bytes (R72). -/
def bs16Bytes (b : BS16) : List Byte :=
  leBytes 4 (b.e + (if b.nf then 256 else 0) + b.esc * 512)
    ++ (padTo 64 0 b.ms).flatMap (fun m => leBytes 2 (ofSigned 16 m))

/-- Mantissas of a list of bytes. -/
def bs16Mantissas : Nat → List Byte → List Int
  | 0, _ => []
  | n + 1, l => toSigned 16 (ofLE (l.take 2)) :: bs16Mantissas n (l.drop 2)

/-- A received block; the flag says that it is malformed and treated as NF (R73). -/
def bs16Parse (l : List Byte) : BS16 × Bool :=
  let h := ofLE (l.take 4)
  let ms := bs16Mantissas 64 (l.drop 4)
  let nf := bit h 8
  let e := bits h 7 0
  let bad := bits h 31 12 != 0 || (!nf && (e == 255 || ms.any (· == -32768)))
  (⟨bits h 11 9, nf || bad, if nf || bad then 255 else e, if nf || bad then ms.map (fun _ => 0) else ms⟩, bad)

/-! ### The remainder tensor (R86, R87) -/

/-- The unit of R86, as an exponent of two, for a BF16 magnitude encoding and the sign of `q`. -/
def remUnit (mag : Nat) (qNeg : Bool) : Int :=
  if mag = 0 then -141
  else if mag = 0x7F7F ∧ !qNeg then 112
  else
    let low := if qNeg then mag - 1 else mag
    let ex := low >>> 7
    (if ex = 0 then (-133 : Int) else (ex : Int) - 134) - 8

/-- The exact master weight of a BF16 weight and its remainder (R86). -/
def masterExact (wb : Nat) (q : Int) : Num :=
  let neg := bit wb 15
  let mag := wb % 2 ^ 15
  match fmtBF16.decode mag with
  | .fin _ m e => (Num.add (.fin false m e) (Num.ofInt q (remUnit mag (q < 0)))) |> fun v =>
      if neg then v.neg else v
  | .inf _ => .inf neg
  | .nan => .nan

def master32 (wb : Nat) (q : Int) : F32 := toF32 (masterExact wb q)

/-- BF16 magnitude of an FP32 magnitude with ties away from zero (R87 step 4). -/
def bf16TiesAway (mag : Nat) : Nat := (mag + 2 ^ 15) >>> 16

/-- The exact `q` with `|w_b| + q u = |v|`, for a magnitude `vmag` on the grid of 1/256 spacing. -/
def remOf (wmag vmag : Nat) : Int :=
  -- the grid unit of FP32 encodings is 2^8 encodings on either side of w_b
  ((vmag : Int) - (wmag : Int) * 2 ^ 16) / 2 ^ 8

/-- New BF16 weight and remainder from `w'` and the draw `u` of 8 bits; the last number counts saturations and clamps (R87 steps 3 and 4, R91). R87 speaks of finite values: beside an infinity or a NaN, which stay in the weight, the remainder is 0 (log entry 53). -/
def remUpdate (w : F32) (u : Nat) : Nat × Int × Nat :=
  let neg := bit w.toNat 31
  let mag := w.toNat % 2 ^ 31
  match f32 w with
  | .nan => (0x7FC0, 0, 0)
  | .inf s => (fmtBF16.withSign s 0x7F80, 0, 0)
  | .fin _ _ _ =>
    let r := srMag mag 8 u
    let sat := r > 0x7F7FFF
    let v := (if sat then 0x7F7FFF else r) <<< 8
    let n := if sat then 1 else 0
    let wb := bf16TiesAway v
    if wb > 0x7F7F then
      let q := remOf 0x7F7F v
      if q ≥ 128 then (fmtBF16.withSign neg 0x7F7F, 127, n + 1) else (fmtBF16.withSign neg 0x7F7F, q, n)
    else (fmtBF16.withSign neg wb, remOf wb v, n)

end Sys2Proof.Machine
end

