-- ==== Sys2Proof/Machine/Identity.lean ====
section
/-! DEFINITION. The module's identity and its cryptographic forms: hashes and derived keys, LMS signatures, and the factory entries (R471 to R473, R480, R481, R487, R498, R525). -/

namespace Sys2Proof

/-- `n` bytes, given one by one. -/
def bytesOf (n : Nat) (f : Nat → Byte) : List Byte := (List.range n).map f

/-! ### SHA-256 and HKDF (R473) -/

/-- SHA-256 of a message. -/
def Config.sha256 (m : List Byte) : List Byte := bytesOf 32 (Config.sha256Byte m)

/-- HMAC-SHA-256 (RFC 2104). -/
def hmac (key m : List Byte) : List Byte :=
  let k := Machine.padTo 64 0 (if key.length > 64 then Config.sha256 key else key)
  Config.sha256 (k.map (· ^^^ 0x5C) ++ Config.sha256 (k.map (· ^^^ 0x36) ++ m))

/-- The blocks of HKDF-Expand from block `i` on, after block `t` (RFC 5869). -/
def expandFrom (prk info : List Byte) : Nat → Nat → List Byte → List Byte
  | 0, _, _ => []
  | n + 1, i, t =>
    let t' := hmac prk (t ++ info ++ [BitVec.ofNat 8 i])
    t' ++ expandFrom prk info n (i + 1) t'

/-- HKDF-Expand. -/
def hkdfExpand (prk info : List Byte) (n : Nat) : List Byte := (expandFrom prk info (ceilDiv n 32) 1 []).take n

/-- HKDF-SHA-256: input key material, salt, information, length. -/
def Config.hkdf (ikm salt info : List Byte) (n : Nat) : List Byte := hkdfExpand (hmac salt ikm) info n

/-! ### LMS (R480, R481) -/

/-- The type codes of RFC 8554 (log entry 59): LMOTS_SHA256_N32_W8, and LMS_SHA256_M32_H5 to H25 with their heights. -/
def otsW8 : Nat := 4
def lmsHeight (type : Nat) : Option Nat := if 5 ≤ type ∧ type ≤ 9 then some (5 * (type - 4)) else none

/-- Bytes of an LMS signature of a tree of height `h`. -/
def lmsSize (h : Nat) : Nat := 1132 + 32 * h

/-- An LMS signature: its leaf, the one-time signature, the type and the path; `f` gives the hashes. -/
def lmsSig (type h leaf : Nat) (f : Nat → Byte) : List Byte :=
  Machine.beBytes 4 leaf ++ Machine.beBytes 4 otsW8 ++ bytesOf 1120 f ++ Machine.beBytes 4 type ++ bytesOf (32 * h) (fun i => f (1132 + i))

/-- The number that `n` bytes of a list hold from byte `i` on. -/
def u32At (l : List Byte) (i : Nat) : Nat := Machine.ofBE ((l.drop i).take 4)

/-- A key and a signature have the types and sizes that R480 allows: a tree height from `lo` to `hi`, with W8. -/
def lmsFits (lo hi : Nat) (key sig : List Byte) : Bool :=
  match lmsHeight (u32At key 0) with
  | none => false
  | some h => decide (lo ≤ h) && decide (h ≤ hi) && key.length == 56 && u32At key 4 == otsW8
      && sig.length == lmsSize h && u32At sig 4 == otsW8 && u32At sig 1128 == u32At key 0

/-- A signature verifies under a key of a height from `lo` to `hi`. -/
def lmsAccepts (lo hi : Nat) (key msg sig : List Byte) : Bool := lmsFits lo hi key sig && Config.lmsVerify key msg sig

/-- An LMS public key: types, identifier and root. -/
def lmsPublic (type : Nat) (secret : List Byte) : List Byte :=
  Machine.beBytes 4 type ++ Machine.beBytes 4 otsW8 ++ secret.take 16 ++ bytesOf 32 (Config.lmsRoot type secret)

/-! ### The device seed and the keys derived from it (R472, R473) -/

/-- K_dev as formed at manufacture. -/
def Config.deviceSeed : List Byte := bytesOf 32 Config.seedByte

/-- The check value in Factory data: "check" in ASCII after K_dev. -/
def seedCheck (k : List Byte) : List Byte := Config.sha256 (k ++ [99, 104, 101, 99, 107])

/-- K_dev reconstructed from a read of the 8 KiB PUF region and the helper data; none where the check value does not match (R472). -/
def reconstruct (read : List Byte) : Option (List Byte) :=
  let k := bytesOf 32 (Config.fuzzy read Config.pufHelper)
  if read.length = 8192 ∧ seedCheck k = seedCheck Config.deviceSeed then some k else none

/-- The pseudo-random key of R473. -/
def identityPrk (seed : List Byte) : List Byte := hmac (List.replicate 32 0) seed

/-- Identifier and SEED of the top tree and of a bottom tree; d and z of ML-KEM: "hss top", "hss bottom" and "mlkem" in ASCII (R473). -/
def topSecret (seed : List Byte) : List Byte := hkdfExpand (identityPrk seed) [104, 115, 115, 32, 116, 111, 112] 48
def bottomSecret (seed : List Byte) (j : Nat) : List Byte :=
  hkdfExpand (identityPrk seed) ([104, 115, 115, 32, 98, 111, 116, 116, 111, 109] ++ Machine.beBytes 2 j) 48
def kemSecret (seed : List Byte) : List Byte := hkdfExpand (identityPrk seed) [109, 108, 107, 101, 109] 64

/-- The 60-byte HSS public key of the top tree, of two levels (R473, R481). -/
def devicePublic (seed : List Byte) : List Byte := Machine.beBytes 4 2 ++ lmsPublic 6 (topSecret seed)

/-- KEM_EK (R473). -/
def kemPublic (seed : List Byte) : List Byte := bytesOf 1568 (Config.kemKeygen (kemSecret seed))

/-- The shared secret of a ciphertext under the device's decapsulation key. -/
def kemDecaps (seed ct : List Byte) : List Byte := bytesOf 32 (Config.kemShared (kemSecret seed) ct)

/-- The HSS signature of the device at index `q`: the top tree's of the bottom tree's public key, that key, and the bottom tree's of the message (R481). -/
def hssSign (seed : List Byte) (q : Nat) (m : List Byte) : List Byte :=
  let j := q / 2 ^ 15
  let pub := lmsPublic 7 (bottomSecret seed j)
  Machine.beBytes 4 1 ++ lmsSig 6 10 j (Config.lmsHash (topSecret seed) j pub) ++ pub
    ++ lmsSig 7 15 (q % 2 ^ 15) (Config.lmsHash (bottomSecret seed j) (q % 2 ^ 15) m)

/-! ### Factory data (R487, R498, R525) -/

/-- The Larath firmware key of an index, of which the ROM holds the SHA-256: H20 with W8 (R480). -/
def larathKey (k : Nat) : List Byte := Machine.beBytes 4 8 ++ Machine.beBytes 4 otsW8 ++ bytesOf 48 (Config.larathByte k)

/-- DEVICE_CERT: DEVICE_PUB, part code, manufacture DT, SIG_LEN and the manufacturing key's signature of the 72 bytes before (R487). -/
def deviceCert : List Byte :=
  let body := devicePublic Config.deviceSeed ++ bytesOf 4 Config.partCode ++ bytesOf 8 Config.madeAt
  body ++ Machine.beBytes 2 1772 ++ lmsSig 8 20 Config.certLeaf (Config.certHash body)

/-- The octet strings written at manufacture; SERIAL_NUMBER has at most 32 characters, MAC_BASE six bytes. -/
def factoryOct (idx : Nat) : List Byte :=
  if idx = Od.deviceId then Config.sha256 (devicePublic Config.deviceSeed)
  else if idx = Od.devicePub then devicePublic Config.deviceSeed
  else if idx = Od.deviceCert then deviceCert
  else if idx = Od.kemEk then kemPublic Config.deviceSeed
  else if idx = Od.macBase then bytesOf 6 Config.macByte
  else if idx = Od.serialNumber then Config.serial.take 32
  else []

/-- The default of an octet string: zeros of its length where the table says zero, the factory value, or empty. -/
@[irreducible] def octDefault (idx sub : Nat) : List Byte :=
  match odFind idx sub with
  | none => []
  | some e =>
    if e.per == .factory then factoryOct idx
    else if idx == Od.hostKey then []
    else if e.acc == .wo then []
    else List.replicate e.len 0#8

end Sys2Proof
end

