-- ==== Sys2Proof/Machine/State.lean ====
section
/-! DEFINITION. The state of the DXS-8 (INVENTORY.md, State): plain data, one structure per unit. -/

namespace Sys2Proof.Machine

/-- Why the machine stops with a fault. -/
inductive Fault where
  /-- The input stands above its absolute maximum (R563), or the spec gives no further behaviour: raised by UNDERVOLTAGE_LOCKOUT. Safe: nothing is claimed of a damaged module. -/
  | inputAbsoluteMaximum
  deriving DecidableEq, Repr

/-- Why a command has no meaning. -/
inductive Refusal where
  /-- No meaning yet: raised by an arm of exec. Safe. -/
  | notModelled (mnemonic : String)
  deriving DecidableEq, Repr

/-- One record of the event log (R515); `arg` is ARG from its most significant byte, unpadded. -/
structure EventRec where
  seq : Nat
  code : Nat
  ctx : Nat
  dt : Nat
  arg : List Byte
  deriving DecidableEq, Repr

/-- The sideband pins and the always-on converter (R552, R553, R563); inputs are levels as the device accepted them. -/
structure Pins where
  pgood : Bool
  /-- RST_N accepted as asserted (R555). -/
  rst : Bool
  /-- SHED_N accepted as asserted (R557). -/
  shed : Bool
  ppsOut : Bool
  /-- ALERT_N asserted (R518). -/
  alert : Bool
  /-- THERM_N asserted (R459, R559). -/
  therm : Bool
  /-- Walnut has enabled the outputs (R553). -/
  enabled : Bool
  /-- The VWAL converter runs (R563). -/
  vwal : Bool
  deriving DecidableEq, Repr

/-- Where the module is between Off and service (R528, R534, R555). -/
inductive Phase where
  /-- PGOOD low (R556). -/
  | off
  /-- PGOOD high with RST_N asserted (R555). -/
  | held
  /-- Walnut serves and the module comes up or runs. -/
  | up
  /-- Recovery under R479. -/
  | recovery
  deriving DecidableEq, Repr

/-- What a start check returns its Plaza to (R533, R540, R541, R545). -/
inductive CheckFor where
  | bringup
  /-- The flag: started by silence on the control bus (R539). -/
  | boroughReset (silent : Bool)
  | plazaReset
  | hold
  deriving DecidableEq, Repr

/-- Resets and service (R527 to R548). -/
structure Sys where
  phase : Phase
  /-- Plazas whose start check is pending, and why (R527). -/
  checks : List (Nat × CheckFor)
  /-- Plazas that passed their start check in this bring-up. -/
  passed : List Nat
  /-- HP0 has finished link training in this bring-up (R530). -/
  hp0Trained : Bool
  /-- DT at the last instant at which a ticket, root computation or test was present (R535). -/
  busyAt : Nat
  /-- Standby was entered by the thermal trip (R559). -/
  tripped : Bool
  /-- DT from which the bring-up in progress is counted, and the kind and cause that LAST_RESET records at its end (R528, R539, R548). -/
  start : Nat
  kind : Nat
  cause : Nat
  /-- Outcomes of the trainings of this bring-up (R529). -/
  hbmOk : List Bool
  slowOk : Bool
  edgesOk : List Bool
  /-- Lanes that its lane test finds failed, by half `2 * pc + half` (R199). -/
  laneFaults : List (Nat × Nat)
  deriving DecidableEq, Repr

/-- An event subscription (R519, R521). -/
structure EventSub where
  mask : Nat
  start : Nat
  cursor : Nat
  /-- The next SEQ to send; records from `cursor` to here are unacknowledged. -/
  sent : Nat
  frames : Nat
  /-- An overrun of the present loss has been raised (R522). -/
  overrun : Bool
  /-- DT at which the cursor last moved or a frame was last sent again. -/
  moved : Nat
  deriving DecidableEq, Repr

/-- A stream subscription (R523, R524). -/
structure StreamSub where
  idx : Nat
  decim : Nat
  batch : Nat
  seen : Nat
  frames : Nat
  /-- Records waiting for a full frame: the DT of each and its bytes. -/
  buf : List (Nat × List Byte)
  deriving DecidableEq, Repr

/-- What Walnut keeps of one client (R511, R512, R514). -/
structure OdpClient where
  id : Client
  last : Nat
  ringSel : Nat
  cohortSel : Nat
  tokenSel : Nat
  events : Option EventSub
  streams : List StreamSub
  /-- Snapshot: index, subindex, bytes, DT (R514). -/
  snap : Option (Nat × Nat × List Byte × Nat)
  /-- Kept responses: REQ_ID, DT, frame (R511). -/
  replies : List (Nat × Nat × Frame)
  deriving DecidableEq, Repr

/-- An ODP frame that Walnut has sent: the client, and the address and UDP port that it left from (R499, R501). -/
structure OdpSent where
  client : Client
  addr : Nat
  port : Nat
  frame : Frame
  deriving DecidableEq, Repr

/-- ODP: clients, the request rate of R511, frames sent, the status of the last management write (R506), and telemetry records held through a switch of the WALNUT image: stream, DT, record (R495). -/
structure Odp where
  clients : List OdpClient
  second : Nat
  requests : Nat
  tx : List OdpSent
  status : Nat
  held : List (Nat × Nat × List Byte)
  deriving DecidableEq, Repr

/-- A pending calendar event of rank 1 (setpoint) or 2 (frequency epoch) (R431, R447). -/
structure CalEvent where
  at_ : Nat
  rank : Nat
  watts : Nat
  /-- The planned clock of an epoch, once planned. -/
  clock : Option Nat
  order : Nat
  deriving DecidableEq, Repr

/-- A master heard on the PTP port (R423): the identity of its port, its last Announce, the DT of that one and of the one before. -/
structure PtpMaster where
  source : Nat
  ann : PtpAnnounce
  at_ : Nat
  prev : Option Nat
  deriving DecidableEq, Repr

/-- An exchange with the chosen master (R423): the number of its Sync, the departure of the Sync, its arrival, and number and departure of the Delay_Req. -/
structure PtpExchange where
  seq : Nat
  t1 : Option Int
  t2 : Nat
  req : Option (Nat × Nat)
  deriving DecidableEq, Repr

/-- The calendar and the time source (R419 to R435). -/
structure Cal where
  events : List CalEvent
  placed : Nat
  /-- Consecutive measurements within 1 us (R420). -/
  good : Nat
  lastMeas : Nat
  /-- Offset bound at the last measurement while LOCKED (R422). -/
  e0 : Nat
  /-- TIME_SET waiting for a PPS edge (R421). -/
  timeSet : Option Nat
  /-- The port that PTP runs on (R425). -/
  ptpAt : Nat
  mpUp : Bool
  /-- Masters heard on it, the exchange of time stamps under way, and the number of the next Delay_Req (R423). -/
  masters : List PtpMaster
  exch : Option PtpExchange
  reqSeq : Nat
  deriving DecidableEq, Repr

/-- The ceilings of one Plaza in MHz (R440). `noCeil` stands for none. -/
structure Ceil where
  current : Nat
  storm : Nat
  thermal : Nat
  cap : Nat
  rise : Nat
  deriving DecidableEq, Repr

/-- A ceiling that binds nothing. -/
def noCeil : Nat := 65535

/-- The Power Governor (R437 to R470). -/
structure Gov where
  ceils : List Ceil
  /-- Base clocks of the Plazas, before droop stretching. -/
  clock : List Nat
  /-- Settings of the Plaza rails, in units of 0.01 mV (R437, R439). -/
  volts : List Nat
  /-- Clocks that the hops under way lead to (R439). -/
  target : List Nat
  /-- Active droop events: Plaza domains 0 to 7, Borough domains 8 to 11, the input 12 (R455). -/
  droop : List Bool
  /-- Droop events of each domain since the last tick (R457). -/
  droopTick : List Nat
  /-- DT of the last storm or restoration step of each Plaza (R457). -/
  stormAt : List Nat
  /-- Ticks for which each Plaza has been cool (R459). -/
  cool : List Nat
  shed : Bool
  /-- DT at which the present shedding began, and the intervals of earlier ones, for which timeouts do not run (R460). -/
  shedAt : Nat
  sheds : List (Nat × Nat)
  /-- Thermal requests of the HBM stacks (R189) and the slow-tier packages (R346). -/
  hbmHot : List Bool
  slowHot : List Bool
  /-- Second of DT in which 0x4424 and 0x4422 were last raised, plus one. -/
  currentEvt : Nat
  thermalEvt : Nat
  /-- Immediate setpoints waiting for their ticks, oldest first: watts and DT of receipt (R448). -/
  now : List (Nat × Nat)
  /-- c in units of 10^-6 W at the DT of its last evaluation, and its integral over ns since the last tick (R445, R454). -/
  cap : Nat
  capAt : Nat
  capArea : Nat
  /-- An epoch has fired, and hops follow c at ticks until it reaches C (R447). -/
  following : Bool
  /-- The planned cap ceiling of R453. -/
  fplan : Nat
  /-- The integral of c over each of the last 20 ticks, newest first (R446, R454). -/
  cHist : List Nat
  /-- Pace ceiling of each context, 0 for none, and its last combined RATE (R464, R465). -/
  pace : List Nat
  paceRate : List Nat
  /-- The first late index of the step has been raised, per context (R465). -/
  paceLate : List Bool
  /-- Learned activity profile, bins as FP64 (R452); durations of consecutive steps; the last boundary. -/
  profile : List (BitVec 64)
  durations : List Nat
  boundary : Option Nat
  /-- Telemetry: records counted, gap flag, droop seen since the last sample, DT of the last sample (R469). -/
  seq : Nat
  gap : Bool
  droopSeen : Bool
  sampled : Nat
  /-- Latest records of POWER_STREAM and RAIL_STREAM. -/
  power : List Byte
  rail : List Byte
  /-- Blocks on which the fill pattern runs, by unit code, and its watts (R451). -/
  fill : List Nat
  fillW : Nat
  /-- Throttle reasons that held since the last tick and may have ended (R466). -/
  reasons : List Nat
  deriving DecidableEq, Repr

/-- A memory: bytes by address, and the words that are poisoned (R390). An unlisted byte is 0, an unlisted word is not poisoned. The bytes under a poisoned word are the ones that writes not yet covering it have left (R185). -/
structure Mem where
  data : List Host.Cell
  poison : List (Nat × Bool)
  deriving DecidableEq, Repr

/-- A line of a write-combining buffer (R182): pseudo-channel, 64 B line, valid-byte mask, DT of allocation. The bytes themselves stand in the memory, which reads see merged (R184). -/
structure WcbLine where
  pc : Nat
  line : Nat
  mask : Nat
  /-- Valid bytes written since the last poisoned byte of their word: a word that they cover whole is not poisoned (R185, R393). -/
  clean : Nat
  at_ : Nat
  deriving DecidableEq, Repr

/-- The HBM controllers (R169 to R200). -/
structure Hbm where
  /-- Buffered lines, oldest first. -/
  wcb : List WcbLine
  /-- The lane that the spare of each half stands for, by `2 * pc + half` (R169, R194). -/
  spares : List (Nat × Nat)
  /-- Next pseudo-channel to retrain, and the DT after its predecessor's window (R190). -/
  nextPc : Nat
  nextAt : Nat
  /-- DT at which the window opened last ends (R191, R193). -/
  openUntil : Nat
  deriving DecidableEq, Repr

/-- An entry of a context's taint table (R229); entries are listed in order of entry. -/
structure Taint where
  ctx : Nat
  lo : Nat
  hi : Nat
  origin : Nat
  deriving DecidableEq, Repr

/-- An armed persistent stream (R220): engine, number, context, the arming descriptor and its shape record. -/
structure PStream where
  engine : Nat
  num : Nat
  ctx : Nat
  desc : Desc
  shape : BitVec 512
  deriving DecidableEq, Repr

/-- A valid entry that a Stream Engine holds (R225): engine, context, page, its frame and whether writes are permitted. -/
structure TlbEntry where
  engine : Nat
  ctx : Nat
  page : Nat
  frame : Nat
  write : Bool
  deriving DecidableEq, Repr

/-- The Stream Engines' own state: cached translations, newest first; armed streams; taint tables. -/
structure SeState where
  tlb : List TlbEntry
  streams : List PStream
  taints : List Taint
  /-- Contexts and steps for which TERRACE_ACC_UNORDERED has been raised, until a Context reset (R161). -/
  unordEvt : List (Nat × Nat)
  deriving DecidableEq, Repr

/-- One element in a port queue: its encoding, the scale byte of its block (R210), and whether its word is poisoned (R390). -/
structure Elem where
  v : Nat
  scale : Nat
  poison : Bool
  deriving DecidableEq, Repr

/-- A port: unit, kind (0 S, 1 H, 2 C feed of a Plaza; 3 stream input, 4 stream output of a WVU), number. -/
structure PortId where
  unit : Nat
  kind : Nat
  num : Nat
  deriving DecidableEq, Repr

/-- An XFER queued on a port (R211, R212): its ticket, the elements read and not yet taken, whether it has read all it will, and the status that ended it early. -/
structure PortEntry where
  port : PortId
  ticket : Nat
  ctx : Nat
  elems : List Elem
  done : Bool
  status : Nat
  /-- Elements that tasks have taken here, and those that are still missing of a transfer that has ended (R231). -/
  taken : Nat
  missing : Nat
  /-- DT at which elements last came (R62). -/
  at_ : Nat
  deriving DecidableEq, Repr

/-- State of a ring (R236). -/
inductive RingState where
  | disabled | active | halted
  deriving DecidableEq, Repr

/-- One ring (R236 to R252). -/
structure Ring where
  /-- The latched record of R237. -/
  cfg : BitVec 256
  state : RingState
  producer : Nat
  fetch : Nat
  reason : Nat
  failVA : Nat
  /-- One more than the DT from which its work has been published and not fetched; 0 for not at all (R260). -/
  workAt : Nat
  deriving DecidableEq, Repr

def Ring.empty : Ring := ⟨0, .disabled, 0, 0, 0, 0, 0⟩

/-- A hold of a ring: its reason as DISP_RING_STATUS codes it, the DT at which it began, and whether its length has been reported (R262, R264, R272). -/
structure Hold where
  reason : Nat
  since : Nat
  alerted : Bool
  deriving DecidableEq, Repr

def Hold.none : Hold := ⟨0, 0, false⟩

/-- What the read of a shape record gives (R205, R220): its contents, contents that R205 refuses, or a failed read. -/
inductive ShapeRead where
  | ok (raw : BitVec 512)
  | invalid (raw : BitVec 512) (va : Nat)
  | fail (cause va : Nat)
  | poison (va : Nat)
  deriving DecidableEq, Repr

/-- How far a transfer has come (R209, R210, R217, R227). -/
structure Flow where
  /-- Elements written, or read for ports, in delivery order. -/
  pos : Nat
  /-- Scale bytes delivered last: inner index, value, poison (R210). -/
  scales : List (Nat × Nat × Bool)
  /-- The group whose elements are staged, by its outer and inner starts, where no whole stream is; and the elements staged for repetitions so far (R209). -/
  group : Option (Nat × Nat)
  staged : List Elem
  /-- Half bytes written of poisoned words that the transfer has not yet covered whole: unit, address, value (R163, R393, R493). -/
  pend : List (Nat × Nat × Nat)
  /-- The shape record has been counted as read. -/
  begun : Bool
  /-- Destinations that have taken every element (R215). -/
  served : Nat
  deriving DecidableEq, Repr

def Flow.empty : Flow := ⟨0, [], none, [], [], false, 0⟩

/-- Where a task stands: fetched, issued to its unit, or ended by its unit with a status and the unit part of its record (R243, R258). -/
inductive TaskPhase where
  | held
  | running
  | ended (status : Nat) (unit : Nat)
  deriving DecidableEq, Repr

/-- One ticket-table entry (R254). -/
structure Task where
  ticket : Nat
  desc : Desc
  ring : Nat
  ctx : Nat
  index : Nat
  phase : TaskPhase
  issued : Nat
  /-- Rounding step of the context at issue. -/
  step : Nat
  /-- Physical unit: Plaza, WVU, Stream Engine or slice. -/
  unit : Nat
  /-- Rectangle of a Plaza task: ROW0, COL0, rows, columns (R41). -/
  rect : Nat × Nat × Nat × Nat
  /-- The SIG token has been signalled before completion (R257). -/
  signalled : Bool
  /-- The fence's witnesses: tickets it waits for (R265). -/
  waits : List Nat
  /-- 0 before the unit has worked, 1 once its results wait to leave, 2 for an UPDATE that signals at its completion (R369, R375). -/
  stage : Nat
  /-- CTX_RESID_SEL at issue (R223). -/
  sel : Nat
  /-- Rule slot contents that an UPDATE latched at issue (R357), and the decision record that it applies with Hazel's counter after that decision, empty while it waits for one (R362). -/
  rule : BitVec 512
  decided : List Byte
  counter : Nat
  /-- Place in the order of issues of the module (R221, R383). -/
  order : Nat
  /-- The descriptor whose options an XFER runs with, the armed one for a REARM, and its shape record, as its issue found them (R220, R221). -/
  opts : Desc
  shape : Option ShapeRead
  flow : Flow
  /-- The ring record under which it was fetched, which places its completion record (R238, R243). -/
  cfg : BitVec 256
  deriving DecidableEq, Repr

/-- The Dispatchers, rings, tickets, tokens and contexts (R236 to R272). -/
structure Disp where
  rings : List (Nat × Ring)
  /-- Rings that are held, and one more than the DT from which each ready head has been ready, by ring (R260, R262, R264). -/
  holds : List (Nat × Hold)
  ready : List (Nat × Nat)
  tasks : List Task
  /-- Next generation count of each used entry, by Borough and entry (R253). -/
  gens : List (Nat × Nat)
  tokens : List (Nat × Nat)
  /-- Plaza map that each context has taken for its passes (R261). -/
  maps : List (Nat × List Nat)
  /-- Records that failed to translate: ring and ticket (R252). -/
  stuck : List (Nat × Nat)
  /-- First turn fences: context, step, ticket (R125). -/
  turns : List (Nat × Nat × Nat)
  /-- Contexts and physical Plazas on which they have had a FWD or BWD task since their step boundary (R411). -/
  used : List (Nat × Nat)
  /-- Release instant plus one for which the tasks of a context wait (R434). -/
  release : List (Nat × Nat)
  /-- Tasks issued so far. -/
  issues : Nat
  /-- Of each Borough, the ring number from which round robin goes on, for issues and for fetches (R260). -/
  turnIssue : List (Nat × Nat)
  turnFetch : List (Nat × Nat)
  deriving DecidableEq, Repr

/-- An accumulator set of one block (R33): the context of the last task that wrote it, none when there is no record, and its cells other than +0 by `32 * row + lane`. -/
structure AccSet where
  ctx : Option Nat
  cells : List (Nat × BitVec 32)
  deriving DecidableEq, Repr

def AccSet.empty : AccSet := ⟨none, []⟩

/-- A drained block set (R38): its task, the output coordinates of its first cell, its valid rows and columns, its values row by row, and the EMPTY_K tag (R55). -/
structure Drained where
  ticket : Nat
  ctx : Nat
  row : Nat
  col : Nat
  rows : Nat
  cols : Nat
  vals : List (BitVec 32)
  emptyK : Bool
  /-- The producing task aborted (R61, R111). -/
  aborted : Bool
  deriving DecidableEq, Repr

/-- A block set ready for the drain port: Plaza, WVU input queue, what it drains (R38). -/
structure DrainJob where
  plaza : Nat
  queue : Nat
  /-- The accumulator set that drains (R43). -/
  key : Nat
  set_ : Drained
  deriving DecidableEq, Repr

/-- A set held in a WVU input queue (R94). -/
structure QueuedSet where
  wvu : Nat
  queue : Nat
  set_ : Drained
  deriving DecidableEq, Repr

/-- Output of a running VECTOR task that waits on a stream output port (R212). -/
structure OutEntry where
  wvu : Nat
  port : Nat
  ticket : Nat
  elems : List Elem
  deriving DecidableEq, Repr

/-- What a running Plaza or VECTOR task has taken from its ports (R36, R93, R211): for its S, H and C feeds, or its X, Z and C streams, the elements not yet used, the count taken, and the DT at which elements last came (R62). -/
structure Intake where
  ticket : Nat
  bufs : List (List Elem)
  got : List Nat
  heard : List Nat
  /-- The held rows of the present tile column, and the next tile (R36, R37). -/
  held : List Elem
  tile : Nat
  deriving DecidableEq, Repr

def Intake.empty (ticket : Nat) : Intake := ⟨ticket, [[], [], []], [0, 0, 0], [0, 0, 0], [], 0⟩

/-- The Plazas, the WVUs and the ports between them and the Stream Engines (R31 to R115). -/
structure Plz where
  /-- Sets by `((plaza * 144 + block) * 16 + set)`. -/
  sets : List (Nat × AccSet)
  drains : List DrainJob
  queues : List QueuedSet
  /-- Feed and stream ports with their queued XFERs, in issue order (R211, R212). -/
  ports : List PortEntry
  outs : List OutEntry
  /-- Sets that a running VECTOR task has taken from its input queue: the task's ticket and the set. -/
  gathered : List (Nat × Drained)
  /-- What running tasks have taken from their ports, by ticket. -/
  intake : List Intake
  deriving DecidableEq, Repr

/-- A sample's capture (R395): the initial set, the reduction elements as exact FP32 pairs, and the mode. -/
structure Sample where
  id : Nat
  plaza : Nat
  /-- Block code 12 row + column. -/
  block : Nat
  ticket : Nat
  ctx : Nat
  bank : Nat
  mode : Nat
  /-- Formats of the broadcast and the held elements (R50). -/
  fmt : Nat
  fmtH : Nat
  /-- Capture slot of the Plaza, 0 or 1 (R396). -/
  slot : Nat
  rows : Nat
  cols : Nat
  init : List (BitVec 32)
  /-- Broadcast and held elements of each reduction index, with their scales applied: encodings and scales. -/
  s : List (List (Nat × Nat))
  h : List (List (Nat × Nat))
  n : Nat
  /-- The block's values v_n once compared. -/
  vn : List (BitVec 32)
  vs : List (BitVec 32)
  v3 : List (BitVec 32)
  /-- 0 open, 1 arbiter run due, 2 fourth run due, 3 settled with replays due. -/
  stage : Nat
  arbiter : Nat
  fourth : Nat
  /-- Suspect units still to replay. -/
  suspects : List Nat
  outcome : Nat
  /-- A Context reset cleared its bank (R407). -/
  detached : Bool
  deriving DecidableEq, Repr

/-- An observation record (R408): unit code, cause, tests passed, entry DT, due DT of its next test. -/
structure Obs where
  unit : Nat
  cause : Nat
  passed : Nat
  since : Nat
  due : Nat
  deriving DecidableEq, Repr

/-- A test of a Plaza that is due, draining or running (R410 to R415). -/
structure Test where
  plaza : Nat
  observation : Bool
  due : Nat
  draining : Bool
  droops : Nat
  deriving DecidableEq, Repr

/-- The gate banks of one context (R405): open counts, dispute bits, the gate of the step has been read; that the non-finite bank of the step has been read; and of each non-finite bank, whether a WVU has reported its first detection there (R109, R304). -/
structure Gate where
  open0 : Nat
  open1 : Nat
  disp0 : Bool
  disp1 : Bool
  read : Bool
  nfRead : Bool
  told0 : Bool
  told1 : Bool
  deriving DecidableEq, Repr

def Gate.empty : Gate := ⟨0, 0, false, false, false, false, false, false⟩

/-- The reliability subsystem (R389 to R416). -/
structure Ras where
  samples : List Sample
  nextSample : Nat
  gates : List (Nat × Gate)
  observed : List Obs
  retired : List Nat
  /-- Units whose retirement has taken their Plazas out of service, whatever SHADOW_RETIRE_ACTION becomes (R409). -/
  out : List Nat
  tests : List Test
  /-- Plazas DRAINING to RETIRED or OFFLINE. -/
  leaving : List Nat
  /-- Events per second of R392 and R393: second, count. -/
  ueSecond : Nat
  ueCount : Nat
  poisonSecond : Nat
  poisonCount : Nat
  deriving DecidableEq, Repr

/-- A parcel (R295) on its way: the local slice, the peer device, WCTX, its header and its elements. -/
structure Parcel where
  slice : Nat
  dev : Nat
  wctx : Nat
  header : BitVec 128
  body : List Byte
  /-- DT of its arrival (R294); of one that waits to be sent, 1 once its wait for a connection has been counted, 0 before (R322). -/
  at_ : Nat
  deriving DecidableEq, Repr

/-- A running COLLECTIVE (R280 to R298): what the slice holds of it. -/
structure Coll where
  ticket : Nat
  slot : Nat
  slice : Nat
  ctx : Nat
  seq : Nat
  /-- Rounding step of the context at issue; its parity is SP. -/
  step : Nat
  /-- Source elements: FP32 encodings for a reduction, encodings as stored for a copy. -/
  x : List Nat
  /-- Phase-0 partials by element, and the ESC kept with each block (R285). -/
  part : List (Nat × Option Nat)
  esc : List (Nat × Nat)
  /-- Output encodings by element of the result. -/
  out : List (Nat × Option Nat)
  /-- Elements that have passed through phases 0 and 1 on this member. -/
  n0 : Nat
  n1 : Nat
  /-- First substitution cause as a status, its ORIGIN, its CAUSE and address (R297). -/
  status : Nat
  origin : Nat
  cause : Nat
  va : Nat
  flags : Nat
  ssq : BitVec 64
  /-- The partial has entered the reorder table (R292). -/
  entered : Bool
  escalations : Nat
  /-- Predecessors heard from (R294), and the senders of a BARRIER (R286). -/
  heard : List Nat
  /-- A BARRIER's record has been passed on. -/
  passed : Bool
  /-- The task has failed: it sends nothing more and waits only for its place in the reorder table (R292, R298). -/
  stopped : Bool
  /-- DT since which the task waits for a parcel (R298). -/
  since : Nat
  /-- Parcel slots taken for partials (R286). -/
  room : Nat
  deriving DecidableEq, Repr

/-- A CLOSE_UP record (R304). -/
structure CloseRec where
  ssq : BitVec 64
  anchor : Nat
  lo : Nat
  hi : Nat
  members : Nat
  flags : Nat
  deriving DecidableEq, Repr

/-- A pace record (R463). -/
structure PaceRec where
  rate : Nat
  cause : Nat
  dev : Nat
  deriving DecidableEq, Repr

/-- A running NORM_CLOSE (R303 to R308, R463). -/
structure Close where
  ticket : Nat
  ctx : Nat
  slot : Nat
  step : Nat
  /-- DT at issue, and whether its stall has been reported (R308). -/
  since : Nat
  stalled : Bool
  /-- This member has contributed, with this non-finite contribution (R304). -/
  sent : Bool
  nf : Bool
  /-- Records received and formed, by sender position (R305, R463). -/
  ups : List (Nat × CloseRec)
  paces : List (Nat × PaceRec)
  /-- The combined records have been passed on. -/
  upDone : Bool
  paceDone : Bool
  /-- The result and the combined pace record, once received. -/
  result : Option (List Byte)
  pace : Option PaceRec
  deriving DecidableEq, Repr

/-- The norm kernel's state of one context (R292): step sum, reorder table, one more than the highest bucket number seen. -/
structure NormSum where
  sum : BitVec 64
  table : List (Nat × BitVec 64)
  top : Nat
  deriving DecidableEq, Repr

def NormSum.empty : NormSum := ⟨0, [], 0⟩

/-- The Roundabout (R273 to R310). -/
structure Rb where
  /-- Latched cohort records by slot (R275). -/
  cfgs : List (Nat × BitVec 256)
  /-- Device indices kept at enable, by `slot * 2^18 + position` (R276). -/
  devs : List (Nat × Nat)
  colls : List Coll
  closes : List Close
  /-- Parcels received and not yet consumed, early ones among them, and parcels waiting to be sent. -/
  rx : List Parcel
  tx : List Parcel
  sums : List (Nat × NormSum)
  /-- One more than the step for which 0x0376 was raised, by context. -/
  escEvt : List (Nat × Nat)
  /-- Parcels sent of each flow beyond the credits received since its slot was enabled, and credits granted to each flow, by `(4 * slot + slice) * 2^18 + device` (R296). -/
  spent : List (Nat × Nat)
  granted : List (Nat × Nat)
  deriving DecidableEq, Repr

/-- An unacknowledged DATA packet (R324, R327). -/
structure SentPkt where
  psn : Nat
  payload : List Byte
  at_ : Nat
  tries : Nat
  iface : Nat
  deriving DecidableEq, Repr

/-- A sending connection (R322 to R331). -/
structure TxConn where
  key : ConnKey
  cgen : Nat
  next : Nat
  unacked : List SentPkt
  /-- Pacing rate in Mb/s, and the instants of the last cut and increase (R330). -/
  rate : Nat
  cutAt : Nat
  incAt : Nat
  /-- The two 5 s bins of DMAX: index of the bin and its least delay. -/
  bins : List (Nat × Nat)
  /-- Smoothed round trip and its variation in ns, and the timeout in force (R327). -/
  srtt : Nat
  rttvar : Nat
  rto : Nat
  /-- Last interface used, the half taken last of two (R329), DT of the last packet, DT from which pacing lets the next leave (R330). -/
  iface : Nat
  half : Nat
  usedAt : Nat
  freeAt : Nat
  deriving DecidableEq, Repr

/-- A receiving connection (R324 to R326). -/
structure RxConn where
  key : ConnKey
  cgen : Nat
  cum : Nat
  marks : List Nat
  /-- Arrivals since the last ACK, DT of the first of them, and what the next ACK reports of them. -/
  since : Nat
  firstAt : Option Nat
  dmax : Nat
  ce : Nat
  covered : Nat
  usedAt : Nat
  /-- DT of the last ACK or PROBE, its interface, and the half taken last of two (R326, R329). -/
  sentAt : Nat
  iface : Nat
  half : Nat
  deriving DecidableEq, Repr

/-- A reservation record in MRAM (R319): the end of its block, its sequence number and its check bits. -/
structure TxcRecord where
  stop : Nat
  seq : Nat
  check : BitVec 8
  deriving DecidableEq, Repr

/-- TXC of a key slot (R319): the next value, the end of the block in use, the usable reservation records, none where nothing has been written, and the next record to write. -/
structure Txc where
  next : Nat
  stop : Nat
  records : List (Option TxcRecord)
  turn : Nat
  deriving DecidableEq, Repr

def Txc.fresh : Txc := ⟨0, 0, List.replicate 16 none, 0⟩

/-- A command of a host that its connection has delivered and that is not yet in effect (R338, R339): its session, the generation and PSN of its packet, the host port it came by, and the payload. -/
structure HostCmd where
  session : Nat
  cgen : Nat
  psn : Nat
  port : Nat
  text : List Byte
  deriving DecidableEq, Repr

/-- An open host session (R336 to R339). -/
structure Session where
  num : Nat
  slot : Nat
  granted : Nat
  h2d : List Byte
  d2h : List Byte
  opened : Nat
  usedAt : Nat
  txc : Nat
  /-- A command has failed in this session (R339). -/
  failed : Bool
  port : Nat
  deriving DecidableEq, Repr

/-- A port in repair, or waiting for it (R332, R333): phase 0 waiting, 1 drain, 2 retrain, 3 verify. -/
structure Repair where
  port : Nat
  lane : Option Nat
  phase : Nat
  /-- DT at which the phase began. -/
  at_ : Nat
  deriving DecidableEq, Repr

/-- A packet put on an interface: interface, link partner MAC (0 while it is not resolved), 802.1Q tag (0 for none), DSCP, the peer's interface it is addressed to, UDP source port, the packet (R313, R316 to R318). -/
structure WireFrame where
  iface : Nat
  mac : Nat
  tag : Nat
  dscp : Nat
  /-- ECN codepoint (R330). -/
  ecn : Nat
  dest : Nat
  sport : Nat
  /-- DT at which it leaves the queue of its interface, as pauses known so far have it (R314, R329). -/
  leaves : Nat
  pkt : Packet
  /-- Its payload in clear, with the key and the IV that seal it as it leaves; no key for an HS_REPLY (R318, R319, R336). -/
  plain : List Byte
  key : List Byte
  iv : List Byte
  deriving DecidableEq, Repr

/-- A Neighbor Discovery, ARP or echo frame on an interface: its IEEE 802.1Q tag, 0 for none, and the DT at which it leaves (R313, R314). -/
structure NdSent where
  iface : Nat
  tag : Nat
  leaves : Nat
  frame : NdFrame
  deriving DecidableEq, Repr

/-- Ports and transport (R311 to R340). Host connections stand beside those of the slices under slice number 4. -/
structure Emith where
  tx : List TxConn
  rx : List RxConn
  /-- CGEN last used for a receiving device and slice (R323), by `dev * 4 + slice`. -/
  cgens : List (Nat × Nat)
  txc : List (Nat × Txc)
  /-- Packets put on an interface, in order (log entry 3). -/
  wire : List WireFrame
  /-- Neighbor Discovery, ARP and echo frames put on an interface (R315, R317). -/
  ndTx : List NdSent
  /-- Answers of the host gateway that wait to be sent (R338). -/
  hostTx : List Parcel
  /-- Commands of hosts that are not yet in effect, in order of arrival (R339). -/
  hostRx : List HostCmd
  /-- Last PMASK of each peer device, plus one (R329). -/
  masks : List (Nat × Nat)
  /-- Mode in which each fabric port runs since its last training (R340). -/
  modes : List (Nat × Nat)
  sessions : List Session
  /-- Second and count of HS_INIT packets (R335); second of the last 0x4384, plus one (R321). -/
  hsSecond : Nat
  hsCount : Nat
  authEvt : Nat
  /-- Resolved link partner MAC addresses by interface, plus one (R317). -/
  macs : List (Nat × Nat)
  repairs : List Repair
  /-- DT of the last repair of each lane plus one, by `4 * port + lane` (R334); ticks over the limit. -/
  laneAt : List (Nat × Nat)
  laneTicks : List (Nat × Nat)
  /-- DT until which PFC pauses an interface (R314), and the time at which the frames queued on it have been sent, in units of 10 ps of DT (R329). -/
  paused : List (Nat × Nat)
  txFree : List (Nat × Nat)
  /-- The connection that each slice served last (R331). -/
  served : List (Nat × ConnKey)
  deriving DecidableEq, Repr

/-- A queued inverse-root computation (R372): context, slow-tier address of the block, its sizes and settings. -/
structure RootJob where
  ctx : Nat
  block : Nat
  rule : BitVec 512
  deriving DecidableEq, Repr

/-- A layer under the silent-layer monitor (R144, R145): consecutive silent committed steps before the last one that named it and with it, that step plus one, of the gradient applied in it the elements, those that are ±0 and those below 2^-126, and whether the present run has been reported. -/
structure Silent where
  before : Nat
  count : Nat
  step : Nat
  total : Nat
  zeros : Nat
  small : Nat
  told : Bool
  deriving DecidableEq, Repr

/-- Hazel's own state (R341 to R388); counters, decisions, rule slots and regions stand in the dictionary. -/
structure Hazel where
  /-- What the silent-layer monitor holds of each layer, by `ctx * 2^16 + layer` (R144, R145). -/
  silent : List (Nat × Silent)
  roots : List RootJob
  /-- Stage lists used by each context: context and offset (R386). -/
  stages : List (Nat × Nat)
  /-- One more than the step for which 0x4391 was raised, by context (R369). -/
  nfEvt : List (Nat × Nat)
  /-- Oscillator readings by channel (R345), and the refresh rate that each package asks for in its mode register 4 (R346). -/
  osc : List (Nat × Nat)
  refresh : List (Nat × Nat)
  /-- The AES-256-XTS key of this boot (R493). -/
  key : List Byte
  /-- Rule slot contents with which each state block was last updated, by its address (log entry 16). -/
  rules : List (Nat × BitVec 512)
  /-- Hazel has stopped starting tasks (R387). -/
  stopped : Bool
  deriving DecidableEq, Repr

/-- One of the eight MRAM records of the attestation index (R482): its contents, none before its first write, and whether it is still usable. -/
structure IndexRecord where
  held : Option TxcRecord
  ok : Bool
  deriving DecidableEq, Repr

/-- One image kind (R476, R495 to R497): active slot, slot running now, trial, pending activation, consecutive failed starts. -/
structure FwKind where
  active : Nat
  running : Nat
  trial : Bool
  pending : Option Nat
  /-- An activation has switched and FW_ACTIVATED is due. -/
  switching : Bool
  /-- DT of the switch (R495). -/
  since : Nat
  fails : Nat
  /-- The first 128 bytes of the image that runs, as it was verified (R477, R486). -/
  header : List Byte
  deriving DecidableEq, Repr

/-- Walnut (R471 to R498). -/
structure Wal where
  /-- The device seed K_dev as reconstructed at the last boot, empty where no reconstruction succeeded; the private keys follow from it (R471 to R474). -/
  seed : List Byte
  records : List IndexRecord
  /-- Bottom tree built last (R481). -/
  tree : Nat
  attLow : Bool
  attExhausted : Bool
  /-- DT of the last token refill (R483). -/
  refillAt : Nat
  kinds : List FwKind
  /-- Flash contents that differ from shipment, by `2 * kind + slot` (R477, R494). -/
  flash : List (Nat × List Byte)
  /-- Emith traffic keys by slot (R492). -/
  keys : List (Nat × List Byte)
  /-- Second of the last 0x4720, plus one (R489). -/
  protEvt : Nat
  /-- Draws made from the DRBG. -/
  draws : Nat
  deriving DecidableEq, Repr

/-- The two parts, fixed at manufacture (R3). -/
inductive Part where
  | a | b
  deriving DecidableEq, Repr

/-- SLOW_TIER_GIB of a part: 16 packages of 48 or of 24 GiB (R3). -/
def Part.gib : Part → Nat
  | .a => 768
  | .b => 384

/-- PART_NUMBER: "DXS-8A" or "DXS-8B" (R5). -/
def Part.name : Part → List Byte
  | .a => [68, 88, 83, 45, 56, 65]
  | .b => [68, 88, 83, 45, 56, 66]

/-- The block: everything the spec gives the machine. -/
structure Block where
  /-- Which part the module is: PART_NUMBER, and with it SLOW_TIER_GIB (R3, R5). -/
  part : Part
  /-- Device time in ns (R417). -/
  dt : Nat
  /-- Number entries of the object dictionary that differ from their defaults, by `odKey` (R16). -/
  od : List (Nat × Nat)
  /-- Octet-string entries that differ from their defaults, by `odKey`. -/
  odb : List (Nat × List Byte)
  pins : Pins
  sys : Sys
  /-- The event log, oldest first (R516). -/
  log : List EventRec
  fatal : List EventRec
  odp : Odp
  cal : Cal
  gov : Gov
  disp : Disp
  plz : Plz
  se : SeState
  /-- HBM and the Terrace windows, by physical byte address (R149, R174). -/
  mem : Mem
  /-- The slow tier, by byte offset (R342). -/
  slow : Mem
  hbm : Hbm
  ras : Ras
  rb : Rb
  emith : Emith
  hazel : Hazel
  wal : Wal
  /-- The model's own counter of free values drawn (log entry 1). -/
  freeCount : Nat
  deriving DecidableEq, Repr

/-- The machine: the block and the commands that wait, first in, first out. -/
structure State extends Block where
  pending : List Instr
  deriving DecidableEq, Repr

def Pins.reset : Pins := ⟨false, false, false, false, false, false, false, false⟩
def Sys.reset : Sys := ⟨.off, [], [], false, 0, false, 0, 0, 0, [], false, [], []⟩
def Odp.reset : Odp := ⟨[], 0, 0, [], 0, []⟩
def Cal.reset : Cal := ⟨[], 0, 0, 0, 0, none, 34, false, [], none, 0⟩
def Ceil.none_ : Ceil := ⟨noCeil, noCeil, noCeil, noCeil, noCeil⟩
def Gov.reset : Gov :=
  { ceils := List.replicate 8 Ceil.none_, clock := List.replicate 8 0, volts := List.replicate 8 0, target := List.replicate 8 0,
    droop := List.replicate 13 false, droopTick := List.replicate 13 0, stormAt := List.replicate 8 0,
    cool := List.replicate 8 0, shed := false, shedAt := 0, sheds := [], hbmHot := List.replicate 8 false, slowHot := List.replicate 16 false,
    currentEvt := 0, thermalEvt := 0, now := [], cap := 2600 * 10 ^ 6, capAt := 0, capArea := 0, following := false, fplan := noCeil, cHist := [], pace := List.replicate 64 0,
    paceRate := List.replicate 64 0, paceLate := List.replicate 64 false, profile := List.replicate 64 0, durations := [],
    boundary := none, seq := 0, gap := false, droopSeen := false, sampled := 0, power := [], rail := [], fill := [], fillW := 0, reasons := [] }
def Disp.reset : Disp := ⟨[], [], [], [], [], [], [], [], [], [], [], 0, [], []⟩
def Plz.reset : Plz := ⟨[], [], [], [], [], [], []⟩
def SeState.reset : SeState := ⟨[], [], [], []⟩
def Mem.reset : Mem := ⟨[], []⟩
def Hbm.reset : Hbm := ⟨[], [], 0, 0, 0⟩
def Ras.reset : Ras := ⟨[], 0, [], [], [], [], [], [], 0, 0, 0, 0⟩
def Rb.reset : Rb := ⟨[], [], [], [], [], [], [], [], [], []⟩
def Emith.reset : Emith :=
  { tx := [], rx := [], cgens := [], txc := [], wire := [], ndTx := [], hostTx := [], hostRx := [], masks := [], modes := [], sessions := [],
    hsSecond := 0, hsCount := 0, authEvt := 0, macs := [], repairs := [], laneAt := [], laneTicks := [], paused := [], txFree := [], served := [] }
def Hazel.reset : Hazel := ⟨[], [], [], [], [], [], [], [], false⟩
def FwKind.reset : FwKind := ⟨0, 0, false, none, false, 0, 0, []⟩
def Wal.reset : Wal :=
  { seed := [], records := List.replicate 8 ⟨none, true⟩, tree := 0, attLow := false, attExhausted := false, refillAt := 0,
    kinds := List.replicate 4 FwKind.reset, flash := [], keys := [], protEvt := 0, draws := 0 }

/-- The machine before its first Power-on: Off, every entry at its default, nothing listed in memory (R11, R534, R543). -/
def Block.reset : Block :=
  { part := .a, dt := 0, od := [], odb := [], pins := Pins.reset, sys := Sys.reset, log := [], fatal := [], odp := Odp.reset,
    cal := Cal.reset, gov := Gov.reset, disp := Disp.reset, plz := Plz.reset, se := SeState.reset, mem := Mem.reset,
    slow := Mem.reset, hbm := Hbm.reset, ras := Ras.reset, freeCount := 0,
    rb := Rb.reset, emith := Emith.reset, hazel := Hazel.reset, wal := Wal.reset }

/-- The state right after reset: an empty queue before a block that is Off. -/
def State.reset : State := { Block.reset with pending := [] }

end Sys2Proof.Machine
end

