-- ==== Sys2Proof/Machine/Ops.lean ====
section
/-! DEFINITION. Named operations over the register file, the event log, the pins and sparse data. -/

namespace Sys2Proof.Machine

/-! ### Sparse data: keys strictly rising, no entry equal to its default -/

/-- The value at a key; `d` where nothing is listed. -/
def sget {α : Type} (d : α) : List (Nat × α) → Nat → α
  | [], _ => d
  | (k, v) :: r, n => if n = k then v else sget d r n

/-- Lists a value at its place among rising keys. -/
def sput {α : Type} : List (Nat × α) → Nat → α → List (Nat × α)
  | [], n, x => [(n, x)]
  | (k, v) :: r, n, x =>
    if n < k then (n, x) :: (k, v) :: r else if n = k then (n, x) :: r else (k, v) :: sput r n x

/-- Sets a key, listing nothing where the value is `d`. -/
def sset {α : Type} [DecidableEq α] (d : α) (l : List (Nat × α)) (n : Nat) (x : α) : List (Nat × α) :=
  if x = d then l.filter (fun e => decide (e.1 ≠ n)) else sput l n x

/-- The canonical form: keys strictly rising, no listed default. -/
def swf {α : Type} [DecidableEq α] (d : Nat → α) : List (Nat × α) → Bool
  | [] => true
  | [(k, v)] => v != d k
  | (k, v) :: (k', v') :: r => v != d k && decide (k < k') && swf d ((k', v') :: r)

/-- An element of a list, `d` beyond its end. -/
def nth {α : Type} (d : α) (l : List α) (i : Nat) : α := l.getD i d

/-- `f` applied `n` times. -/
def iter {α : Type} (f : α → α) : Nat → α → α
  | 0, x => x
  | n + 1, x => iter f n (f x)

/-- Is `a` at or after `b` in serial arithmetic modulo 2^32 (R256, R518)? -/
def serialGe (a b : Nat) : Bool := (a + 2 ^ 32 - b % 2 ^ 32) % 2 ^ 32 < 2 ^ 31

/-! ### The register file -/

/-- A number entry. -/
def Block.reg (b : Block) (idx sub : Nat) : Nat := sget (odDefault idx sub) b.od (odKey idx sub)

/-- Sets a number entry, reduced to the width of its type. -/
def Block.setReg (b : Block) (idx sub v : Nat) : Block :=
  { b with od := sset (odDefault idx sub) b.od (odKey idx sub) (wrap (odWidth idx sub) v) }

/-- Advances a counter, which wraps at the width of its type (R525). -/
def Block.bump (b : Block) (idx sub n : Nat) : Block := b.setReg idx sub (b.reg idx sub + n)

/-- An octet-string entry. -/
def Block.oct (b : Block) (idx sub : Nat) : List Byte := sget (octDefault idx sub) b.odb (odKey idx sub)

/-- Sets an octet-string entry. -/
def Block.setOct (b : Block) (idx sub : Nat) (v : List Byte) : Block :=
  { b with odb := sset (octDefault idx sub) b.odb (odKey idx sub) v }

/-- Drops the entries whose key does not satisfy `keep`: they return to their defaults (R543). -/
def Block.keepRegs (b : Block) (keep : Nat → Bool) : Block :=
  { b with od := b.od.filter (fun e => keep e.1), odb := b.odb.filter (fun e => keep e.1) }

/-! ### Events (R515 to R518) -/

/-- How many records the event log and the fatal log hold (R516). -/
def logDepth : Nat := 4096
def fatalDepth : Nat := 64

/-- The last `n` elements of a list. -/
def lastN {α : Type} (n : Nat) (l : List α) : List α := l.drop (l.length - n)

/-- The context field of an event that concerns no context (R515). -/
def noCtx : Nat := 255

/-- Writes one event record (R515, R516). -/
@[irreducible] def Block.raise (b : Block) (code ctx : Nat) (arg : List Byte) : Block :=
  let r : EventRec := ⟨b.reg Od.eventNextSeq 0, code, ctx, b.dt, arg⟩
  let b := b.setReg Od.eventNextSeq 0 (r.seq + 1)
  { b with log := lastN logDepth (b.log ++ [r]),
           fatal := if code ≥ 0xC000 then lastN fatalDepth (b.fatal ++ [r]) else b.fatal }

/-- The oldest SEQ held, or the next one when the log is empty (R516). -/
def Block.oldestSeq (b : Block) : Nat :=
  match b.log with
  | [] => b.reg Od.eventNextSeq 0
  | r :: _ => r.seq

/-- Does the log hold a record that ALERT_N reports (R518)? -/
def Block.alertDue (b : Block) : Bool :=
  b.log.any (fun r => decide (r.code / 2 ^ 14 ≥ b.reg Od.alertLevel 0) && serialGe r.seq (b.reg Od.alertAck 0))

/-! ### Time states (R420) -/

def tsFreerun : Nat := 0
def tsAcquiring : Nat := 1
def tsLocked : Nat := 2
def tsHoldover : Nat := 3

/-- May PPS_OUT be driven (R427)? -/
def Block.ppsAllowed (b : Block) : Bool :=
  (b.reg Od.timeState 0 == tsLocked || b.reg Od.timeState 0 == tsHoldover) && b.reg Od.ppsOutEnable 0 == 1

/-- A ticket is held, a root computation is queued or a Plaza is TESTING (R535). -/
def Block.busy (b : Block) : Bool :=
  !b.disp.tasks.isEmpty || !b.hazel.roots.isEmpty || (List.range 8).any (fun p => b.reg Od.plazaState (p + 1) == 2)

/-- What holds at every moment: ALERT_N follows the log (R518), PPS_OUT is released where R427 does not drive it and 100 ms after each whole second, no output is driven until Walnut enables it (R553), and the time for which the module has had nothing to do runs only while it has nothing to do (R535). -/
def settle (b : Block) : Block :=
  { b with
    pins := { b.pins with
      alert := b.pins.enabled && b.alertDue,
      ppsOut := b.pins.ppsOut && b.pins.enabled && b.ppsAllowed && decide (b.dt % 10 ^ 9 < 10 ^ 8),
      therm := b.pins.therm && b.pins.enabled },
    sys := { b.sys with busyAt := if b.busy then b.dt else b.sys.busyAt } }

/-- A command's effect on the block; the queue is untouched. -/
def State.run (s : State) (f : Block → Block) : State := { s with toBlock := settle (f s.toBlock) }

/-! ### Free values (log entry 1) -/

/-- Draws an unconstrained number and counts the draw. -/
def Block.draw (b : Block) : Nat × Block := (Config.freeNat b.freeCount, { b with freeCount := b.freeCount + 1 })

/-! ### Management writes (R506, R509, R538) -/

def stOK : Nat := 0
def stNoEntry : Nat := 1
def stReadRefused : Nat := 2
def stWriteRefused : Nat := 3
def stRange : Nat := 4
def stLength : Nat := 5
def stSigRequired : Nat := 6
def stSigInvalid : Nat := 7
def stLimit : Nat := 8
def stMalformed : Nat := 9

/-- Records the status of a management write's response (log entry 6). -/
def Block.answer (b : Block) (st : Nat) : Block := { b with odp := { b.odp with status := st } }

def svcManagement : Nat := 0
def svcLimited : Nat := 1
def svcFull : Nat := 2
def svcRetired : Nat := 3

def pwrRun : Nat := 0
def pwrIdle : Nat := 1
def pwrPark : Nat := 2
def pwrStandby : Nat := 3
def pwrRetired : Nat := 4

def Block.service (b : Block) : Nat := b.reg Od.moduleService 0
def Block.power (b : Block) : Nat := b.reg Od.pwrState 0

/-- Walnut serves ODP: fully, or in recovery (R502, R530). -/
def Block.serving (b : Block) : Bool := b.sys.phase == .up || b.sys.phase == .recovery

/-- The units of the module run: Walnut is up, outside recovery and outside Retired and Standby. -/
def Block.live (b : Block) : Bool := b.sys.phase == .up && b.power != pwrRetired && b.power != pwrStandby

/-- DT of a phase of bring-up: its time after Power-on or Cold reset, at a Warm reset, or at exit from Standby, in ms (R528). -/
def Block.phaseAt (b : Block) (cold warm : Nat) : Nat :=
  b.sys.start + 10 ^ 6 * (if b.sys.kind = 2 then warm else if b.sys.kind = 5 then cold - 236 else cold)

/-- Has a unit whose training passes reached its service, at the bounds of R528, in ms? A shed module waits (R542). -/
def Block.trained (b : Block) (passes : Bool) (cold warm : Nat) : Bool :=
  passes && decide (b.phaseAt cold warm ≤ if b.gov.shed then b.gov.shedAt else b.dt)

/-- The entries that accept a write in Retired (R538): RAS_UNRETIRE, FW_STAGE, FW_ACTIVATE, FW_CONFIRM, ALERT_ACK and those of the management port. -/
def retiredWritable (idx : Nat) : Bool :=
  [Od.rasUnretire, Od.fwStage, Od.fwActivate, Od.fwConfirm, Od.alertAck, Od.mgmtIp, Od.mgmtPrefixLen, Od.mgmtGateway,
   Od.odpUdpPort, Od.mgmtHostVid, Od.mgmtClientFilter].contains idx

/-- The WALNUT image is switching: its services are interrupted (R495). -/
def Block.walnutBusy (b : Block) : Bool := (nth FwKind.reset b.wal.kinds 0).switching

/-- A write of an entry while ODP serves: refused in Retired and in recovery where R538 and R502 refuse it. -/
def Block.onWrite (b : Block) (idx : Nat) (recoveryOk : Bool) (f : Block → Block) : Block :=
  if !b.serving || b.walnutBusy then b
  else if b.sys.phase == .recovery && !recoveryOk then b.answer stNoEntry
  else if b.service == svcRetired && !retiredWritable idx then b.answer stWriteRefused
  else f b

/-- Two names of one client: its address and its UDP port (R499). -/
def Client.same (a c : Client) : Bool := a.addr == c.addr && a.port == c.port

def Block.client? (b : Block) (c : Client) : Option OdpClient := b.odp.clients.find? (fun x => Client.same x.id c)

/-! ### Plaza states (R63) -/

def plInService : Nat := 0
def plDraining : Nat := 1
def plTesting : Nat := 2
def plLimited : Nat := 3
def plOffline : Nat := 4
def plRetired : Nat := 5

def Block.plaza (b : Block) (p : Nat) : Nat := b.reg Od.plazaState (p + 1)
def Block.setPlaza (b : Block) (p v : Nat) : Block := b.setReg Od.plazaState (p + 1) v

/-- Does a Plaza run tasks (R394, R438)? -/
def Block.plazaRuns (b : Block) (p : Nat) : Bool :=
  b.plaza p == plInService || b.plaza p == plLimited || b.plaza p == plDraining

/-- Has bring-up started Borough `k`, by the bounds of R528 (log entry 60)? -/
def Block.boroughStarted (b : Block) (k : Nat) : Bool :=
  if k = 0 then b.trained true 476 220 else b.trained true (800 + 40 * k) 340

/-- Is Borough `k` in Borough reset, or not yet started (R156, R531)? -/
def Block.boroughDown (b : Block) (k : Nat) : Bool :=
  b.sys.checks.any (fun c => (c.2 == .boroughReset true || c.2 == .boroughReset false) && c.1 / 2 == k)
    || ((b.service == svcLimited || b.service == svcManagement) && !b.boroughStarted k)

/-- A PTP port code names a port that is UP (R425, R436). -/
def Block.portUp (b : Block) (code : Nat) : Bool :=
  if code = 34 then b.cal.mpUp
  else if code < 16 then b.reg Od.fabPortState (code + 1) == 2
  else if code = 32 ∨ code = 33 then b.reg Od.hostPortState (code - 31) == 2
  else false

/-- The learned profile is cleared: LEARNING afresh, or OFF with no learned context (R452, R543; log entry 25). -/
def Block.forgetProfile (b : Block) : Block :=
  ({ b with gov := { b.gov with profile := List.replicate 64 0, durations := [], boundary := none } }).setReg Od.pgovLearnState 0
    (if b.reg Od.pgovLearnCtx 0 = 255 then 0 else 1)

end Sys2Proof.Machine
end

