-- ==== Sys2Proof/Machine/Flags.lean ====
section
/-! DEFINITION. The flags of a context's step: non-finite banks, gate banks (R109, R110, R162, R359, R383, R405). -/

namespace Sys2Proof.Machine

def Block.roundStep (b : Block) (c : Nat) : Nat := b.reg Od.ctxRoundStep (c + 1)

/-! ### Non-finite banks (R109, R110, R162) -/

/-- Sets bank `s mod 2` of a context for a detection of step `s`, or LATE when it comes too late; the flag says that the bank was clear and is now set. -/
def Block.setNonfinite (b : Block) (c s : Nat) (read : Bool) : Bool × Block :=
  let f := b.reg Od.ctxNfFlags (c + 1)
  let bankBit := 1 <<< (s % 2)
  if b.roundStep c > s then
    (false, (b.setReg Od.ctxNfFlags (c + 1) (f ||| 4)).raise 0x8311 c [])
  else
    let wasClear := !bit f (s % 2)
    let b := b.setReg Od.ctxNfFlags (c + 1) (f ||| bankBit)
    if read then (wasClear, (b.setReg Od.ctxNfFlags (c + 1) (f ||| bankBit ||| 4)).raise 0x8311 c [])
    else (wasClear, b)

/-! ### Gate banks (R405) -/

def Block.gate (b : Block) (c : Nat) : Gate := sget Gate.empty b.ras.gates c

def Block.setGate (b : Block) (c : Nat) (g : Gate) : Block :=
  { b with ras := { b.ras with gates := sset Gate.empty b.ras.gates c g } }

/-- Adds to the open count of a bank. -/
def Gate.opened (g : Gate) (bank : Nat) : Gate := if bank = 0 then { g with open0 := g.open0 + 1 } else { g with open1 := g.open1 + 1 }

def Gate.closed (g : Gate) (bank : Nat) : Gate := if bank = 0 then { g with open0 := g.open0 - 1 } else { g with open1 := g.open1 - 1 }

/-- Has a WVU reported a detection in a bank (R109)? -/
def Gate.told (g : Gate) (bank : Nat) : Bool := if bank = 0 then g.told0 else g.told1

/-- A WVU reports its first detection in a bank. -/
def Gate.tell (g : Gate) (bank : Nat) : Gate := if bank = 0 then { g with told0 := true } else { g with told1 := true }

def Gate.dispute (g : Gate) (bank : Nat) : Gate := if bank = 0 then { g with disp0 := true } else { g with disp1 := true }

/-- Unit code of the shadow block of a Plaza, and of a working block (R409). -/
def unitCode (p block : Nat) : Nat := p * 256 + block

/-- A detection of a non-finite value in step `s`: it is late once the norm close has read the step's bank (R110, R304). -/
def Block.nonfinite (b : Block) (c s : Nat) : Bool × Block := b.setNonfinite c s (b.gate c).nfRead

end Sys2Proof.Machine
end

