-- ==== Sys2Proof/Machine/Memory.lean ====
section
/-! DEFINITION. HBM, the Terraces and the slow tier as addressed memory (06, 07), the error code (13) and address translation (R224 to R226). -/

namespace Sys2Proof.Machine

/-! ### Bytes and poison -/

/-- The data of a poisoned word (R390). -/
def poisonWord : Nat := 0x7FC00BAD7FC00BAD

/-- Is a 64-bit word poisoned? -/
def Mem.poisoned (m : Mem) (w : Nat) : Bool := sget false m.poison w

/-- The byte at an address; bytes of a poisoned word are those of P. -/
def Mem.byte (m : Mem) (a : Nat) : Byte :=
  if m.poisoned (a / 8) then BitVec.ofNat 8 (poisonWord >>> (8 * (a % 8))) else sget 0#8 m.data a

/-- Bytes from an address on. -/
def Mem.bytes (m : Mem) (a n : Nat) : List Byte := (List.range n).map (fun i => m.byte (a + i))

/-- The words that `n` bytes from `a` touch. -/
def wordsOf (a n : Nat) : List Nat :=
  if n = 0 then [] else (List.range ((a + n - 1) / 8 - a / 8 + 1)).map (fun i => a / 8 + i)

/-- Does any of the bytes lie in a poisoned word? -/
def Mem.anyPoison (m : Mem) (a n : Nat) : Bool := (wordsOf a n).any m.poisoned

def Mem.setByte (m : Mem) (a : Nat) (v : Byte) : Mem := { m with data := sset 0#8 m.data a v }

def Mem.setPoison (m : Mem) (w : Nat) (p : Bool) : Mem := { m with poison := sset false m.poison w p }

/-- Marks a word poisoned; nothing of its bytes stays listed. -/
def Mem.poisonAt (m : Mem) (w : Nat) : Mem :=
  (List.range 8).foldl (fun m i => m.setByte (8 * w + i) 0#8) (m.setPoison w true)

/-- The words that a write covers whole are no longer poisoned (R393). -/
def Mem.clearFull (m : Mem) (unit a n : Nat) : Mem :=
  (wordsOf a n).foldl (fun m w =>
    let lo := 8 * w / unit * unit
    if a ≤ lo ∧ lo + unit ≤ a + n then m.setPoison w false else m) m

/-- Sets the bytes of a list that do not lie in a poisoned word. -/
def Mem.putBytes (m : Mem) (a : Nat) : List Byte → Mem
  | [] => m
  | v :: r => (if m.poisoned (a / 8) then m else m.setByte a v).putBytes (a + 1) r

/-- A plain write: a poisoned unit of `unit` bytes is replaced only where the write covers it whole (R163, R393). -/
def Mem.write (m : Mem) (unit a : Nat) (v : List Byte) : Mem := (m.clearFull unit a v.length).putBytes a v

/-- Every byte of a range of cells dropped: the range reads +0 with valid check bits (R167). -/
def Mem.clear (m : Mem) (lo hi : Nat) : Mem :=
  { data := m.data.filter (fun c => c.1 < lo || hi ≤ c.1),
    poison := m.poison.filter (fun c => c.1 < lo / 8 || hi / 8 ≤ c.1) }

/-- The canonical form of a memory. -/
def Mem.wf (m : Mem) : Bool := swf (fun _ => 0#8) m.data && swf (fun _ => false) m.poison

/-! ### The error code (R389 to R391) -/

/-- Number of set bits of a byte. -/
def weight8 (x : Nat) : Nat := ((List.range 8).filter (fun i => bit x i)).length

/-- The columns of the 64 data bits (R389). -/
def dataColumns : List Nat :=
  (List.range 256).filter (fun x => weight8 x == 3) ++ [0x1F, 0x2F, 0x37, 0x3B, 0x3D, 0x3E, 0x4F, 0x57]

/-- The check bits of a data word (R389). -/
def checkBits (d : Nat) : Nat :=
  (dataColumns.zipIdx).foldl (fun acc c => if bit d c.2 then acc ^^^ c.1 else acc) 0

/-- What a receiver makes of a word (R391). -/
inductive Decoded where
  /-- Poisoned; the flag says that one bit was in error. -/
  | poison (corrected : Bool)
  | clean (d : Nat)
  | checkBit (d : Nat)
  | corrected (d : Nat)
  | bad (syndrome : Nat)
  deriving DecidableEq, Repr

/-- Decodes received data and check bits by the first case of R391 that holds. -/
def decodeWord (d c : Nat) : Decoded :=
  let s := c ^^^ checkBits d
  let t := s ^^^ 0xFF
  if (t = 0 ∨ weight8 t = 1) ∧ d = poisonWord then .poison (t != 0)
  else match dataColumns.findIdx? (· == t) with
    | some i => if d ^^^ (1 <<< i) = poisonWord then .poison true else decodeRest d s
    | none => decodeRest d s
where
  /-- Cases 2 to 5 of R391. -/
  decodeRest (d s : Nat) : Decoded :=
    if s = 0 then .clean d
    else if weight8 s = 1 then .checkBit d
    else match dataColumns.findIdx? (· == s) with
      | some i => .corrected (d ^^^ (1 <<< i))
      | none => .bad s

/-- A stored word as data and check bits (R390). -/
def Mem.stored (m : Mem) (w : Nat) : Nat × Nat :=
  if m.poisoned w then (poisonWord, checkBits poisonWord ^^^ 0xFF)
  else let d := ofLE (m.bytes (8 * w) 8); (d, checkBits d)

/-- Counts and events of R392, at most 100 per second of DT. -/
def Block.limitUE (b : Block) : Bool × Block :=
  let sec := b.dt / 10 ^ 9
  let n := if b.ras.ueSecond = sec then b.ras.ueCount else 0
  (n < 100, { b with ras := { b.ras with ueSecond := sec, ueCount := n + 1 } })

/-- An uncorrectable word of a class at an address (R392). -/
def Block.uncorrectable (b : Block) (cls addr syn : Nat) : Block :=
  let b := (b.bump Od.rasUeCount cls 1).setOct Od.rasLastUe 0
    (beBytes 8 b.dt ++ beBytes 8 addr ++ beBytes 1 cls ++ beBytes 1 syn ++ List.replicate 6 0)
  let r := b.limitUE
  if r.1 then r.2.raise 0x43A0 noCtx [] else r.2

/-- Poison consumed by a task (R393). -/
def Block.consumePoison (b : Block) (ctx ticket : Nat) : Block :=
  let b := b.bump Od.rasPoisonConsumed 0 1
  let sec := b.dt / 10 ^ 9
  let n := if b.ras.poisonSecond = sec then b.ras.poisonCount else 0
  let b := { b with ras := { b.ras with poisonSecond := sec, poisonCount := n + 1 } }
  if n < 100 then b.raise 0x83A1 ctx (beBytes 4 ticket) else b

/-- A memory reads the word `w` with an upset: it delivers, corrects or poisons it (R391, R392). `size` is the bytes poisoned together. -/
def scrubWord (m : Mem) (w : Nat) (u : Upset) (unitWords : Nat) : Mem × Decoded :=
  let st := m.stored w
  let r := decodeWord (st.1 ^^^ u.dataXor.toNat) (st.2 ^^^ u.checkXor.toNat)
  let base := w / unitWords * unitWords
  match r with
  | .bad _ => ((List.range unitWords).foldl (fun m i => m.poisonAt (base + i)) m, r)
  | .clean d => (if m.poisoned w then m else m.write 8 (8 * w) (leBytes 8 d), r)
  | .checkBit d => (if m.poisoned w then m else m.write 8 (8 * w) (leBytes 8 d), r)
  | .corrected d => (if m.poisoned w then m else m.write 8 (8 * w) (leBytes 8 d), r)
  | .poison _ => (m.poisonAt w, r)

/-- The counters of a memory read that found `r` (R392). -/
def Block.countScrub (b : Block) (cls addr : Nat) (r : Decoded) : Block :=
  match r with
  | .clean _ => b
  | .checkBit _ => b.bump Od.rasCeCount cls 1
  | .corrected _ => b.bump Od.rasCeCount cls 1
  | .poison c => if c then b.bump Od.rasCeCount cls 1 else b
  | .bad s => b.uncorrectable cls addr s

/-- Replays of an uncorrectable word on a link (R392). -/
def replayMax : Nat := 8

/-- A word read, or one that has just arrived, with what its memory or its carrier makes of it (R392): `mend` is what becomes of the stored word. A link corrects in flight and replays what it cannot correct; an internal bus
delivers that poisoned at once. -/
def Block.foundWord (b : Block) (u : Upset) (cls addr : Nat) (r : Decoded) (mend : Block → Block) : Block :=
  if u.link = 0 then (mend b).countScrub cls addr r
  else match r with
    | .bad s =>
      if u.link = 6 then (mend b).uncorrectable 6 addr s
      else
        let b := b.bump Od.rasLinkReplays 0 (min replayMax (max 1 u.replays))
        if u.replays ≤ replayMax then b else (mend b).uncorrectable u.link addr s
    | x => b.countScrub u.link addr x

/-! ### The physical address map (R149, R174, R175) -/

def hbmSize : Nat := 288 * 2 ^ 30
def terraceBase : Nat := 0x040000000000
def terraceSize : Nat := 2 ^ 31

/-- The Terrace that an address lies in. -/
def terraceOf (a : Nat) : Option Nat :=
  if terraceBase ≤ a ∧ a < terraceBase + 4 * terraceSize then some ((a - terraceBase) / terraceSize) else none

/-- Where a byte of a Terrace lies (R147, R150): one of 1,024 banks, one of its 8,192 granules of 256 B, the byte of the granule. -/
structure TerracePlace where
  bank : Nat
  granule : Nat
  byte : Nat
  deriving DecidableEq, Repr

/-- The place of a Terrace offset (R150). -/
def terracePlace (a : Nat) : TerracePlace := ⟨bits a 17 8 ^^^ bits a 27 18, bits a 30 18, bits a 7 0⟩

/-- The offset of a place (R150). -/
def TerracePlace.offset (p : TerracePlace) : Nat := at' 18 p.granule + at' 8 (p.bank ^^^ p.granule % 1024) + p.byte

/-- The bank of a physical address in a Terrace, by `1024 * terrace + bank`; none outside the Terraces. -/
def bankOf (a : Nat) : Option Nat :=
  (terraceOf a).map (fun t => 1024 * t + (terracePlace (a - terraceBase - t * terraceSize)).bank)

/-- The pseudo-channel of an HBM offset (R175). -/
def pcOf (a : Nat) : Nat :=
  let g := a >>> 9
  let r := g >>> 8
  (bits g 7 0) ^^^ (bits r 7 0) ^^^ (bits r 15 8) ^^^ (bits r 21 16)

/-- Where a byte of HBM lies (R169, R175). -/
structure HbmPlace where
  stack : Nat
  channel : Nat
  pch : Nat
  half : Nat
  bg : Nat
  ba : Nat
  sid : Nat
  row : Nat
  byte : Nat
  deriving DecidableEq, Repr

/-- The place of an HBM offset (R175). -/
def hbmPlace (a : Nat) : HbmPlace :=
  let pc := pcOf a
  let r := a >>> 17
  { stack := bits pc 7 5, channel := bits pc 4 1, pch := bits pc 0 0, half := bits r 0 0, bg := bits r 2 1 ^^^ bits r 6 5,
    ba := bits r 4 3 ^^^ bits r 8 7, sid := (r >>> 5) % 3, row := (r >>> 5) / 3, byte := bits a 8 0 }

/-- The stack of an HBM offset. -/
def stackOf (a : Nat) : Nat := (hbmPlace a).stack

/-- The 512 B granules of HBM that `n` bytes from `a` touch, each with the bytes in it: one request each (R177). -/
def requests (a n : Nat) : List (Nat × Nat) :=
  if n = 0 then []
  else (List.range ((a + n - 1) / 512 - a / 512 + 1)).map (fun i =>
    let lo := max a (512 * (a / 512 + i))
    (lo, min (a + n) (512 * (a / 512 + i) + 512) - lo))

def stInService : Nat := 0
def stTraining : Nat := 1
def stSelfRefresh : Nat := 2
def stLost : Nat := 3
def stOff : Nat := 4

/-- HBM_STACK_STATE: a stack in training is OFF until bring-up powers HBM, and in service from 3,870 ms after HBM start on (R199, R528; log entry 60). -/
def Block.stackState (b : Block) (k : Nat) : Nat :=
  let st := b.reg Od.hbmStackState (k + 1)
  if st != stTraining then st
  else if b.trained (nth true b.sys.hbmOk k) 5790 4890 then stInService
  else if b.trained true 1720 0 then stTraining else stOff

/-- A stack is TRAINING or OFF, so HBM accesses fault (R181). -/
def Block.hbmDown (b : Block) : Bool :=
  (List.range 8).any (fun k => b.stackState k == stTraining || b.stackState k == stOff)

/-- The pseudo-channel's stack is LOST: reads are poisoned and writes discarded (R196). -/
def Block.lostAt (b : Block) (a : Nat) : Bool := decide (a < hbmSize) && b.stackState (stackOf a) == stLost

/-- Bytes at a physical address, and whether any of them is poisoned. -/
def Block.readPhys (b : Block) (a n : Nat) : List Byte × Bool :=
  if b.lostAt a then ((List.range n).map (fun i => BitVec.ofNat 8 (poisonWord >>> (8 * ((a + i) % 8)))), true)
  else (b.mem.bytes a n, b.mem.anyPoison a n)

/-- Counts bytes read at a physical address (R168, R200). -/
def Block.countRead (b : Block) (a n : Nat) : Block :=
  match terraceOf a with
  | some t => b.bump Od.terraceReadBytes (t + 1) n
  | none => (requests a n).foldl (fun b q => b.bump Od.hbmReadBytes (stackOf q.1 + 1) q.2) b

/-- Counts bytes that a unit on Borough `k` moves to or from the Terrace of another Borough (R155, R168). -/
def Block.countRemote (b : Block) (k a n : Nat) : Block :=
  match terraceOf a with
  | some t => if t = k then b else b.bump Od.terraceRemoteBytes (t + 1) n
  | none => b

/-- Counts a read by a unit on Borough `k`. -/
def Block.countReadFrom (b : Block) (k a n : Nat) : Block := (b.countRead a n).countRemote k a n

/-! ### Write-combining buffers (R182 to R185) -/

/-- Mask bits of `n` bytes from `a` within its 64 B line. -/
def lineMask (a n : Nat) : Nat := (List.range n).foldl (fun m i => m ||| (1 <<< ((a + i) % 64))) 0

/-- Words of a line that its mask covers whole. -/
def coveredWords (line mask : Nat) : List Nat :=
  ((List.range 8).filter (fun i => bits mask (8 * i + 7) (8 * i) == 255)).map (fun i => 8 * line + i)

def wcbDepth : Nat := 32

/-- The oldest partial line of a pseudo-channel leaves (R182, R183). -/
def Block.evictOldest (b : Block) (pc : Nat) : Block :=
  match b.hbm.wcb.findIdx? (fun l => l.pc == pc) with
  | none => b
  | some i => ({ b with hbm := { b.hbm with wcb := b.hbm.wcb.eraseIdx i } }).bump Od.hbmWcbRmwCount (pc / 32 + 1) 1

/-- Enters the bytes of one line into its buffer: merge, or a free line, evicting the oldest partial one (R182). -/
def Block.enterLine (b : Block) (a n : Nat) : Block :=
  let line := a / 64
  let pc := pcOf a
  let m := lineMask a n
  match b.hbm.wcb.find? (fun l => l.line == line) with
  | some l =>
    let m' := l.mask ||| m
    let c' := l.clean ||| m
    let rest := b.hbm.wcb.map (fun x => if x.line == line then { x with mask := m', clean := c' } else x)
    let wcb := if m' = 2 ^ 64 - 1 then rest.filter (fun x => x.line != line) else rest
    { b with hbm := { b.hbm with wcb := wcb },
             mem := (coveredWords line c').foldl (fun x w => x.setPoison w false) b.mem }
  | none =>
    let b := if (b.hbm.wcb.filter (fun l => l.pc == pc)).length ≥ wcbDepth then b.evictOldest pc else b
    let wcb := if m = 2 ^ 64 - 1 then b.hbm.wcb else b.hbm.wcb ++ [⟨pc, line, m, m, b.dt⟩]
    { b with hbm := { b.hbm with wcb := wcb },
             mem := (coveredWords line m).foldl (fun x w => x.setPoison w false) b.mem }

/-- Bytes stored in HBM whatever their words' poison: a buffer holds them until its mask covers the word (R185). -/
def Mem.putRaw (m : Mem) (a : Nat) : List Byte → Mem
  | [] => m
  | v :: r => (m.setByte a v).putRaw (a + 1) r

/-- The part of a write within the first line, and the rest. -/
def lineCount (a n : Nat) : Nat := min n (64 - a % 64)

/-- A write to HBM through the write-combining buffers, line by line; `fuel` bounds the lines. -/
def Block.writeHbm (b : Block) (a : Nat) (v : List Byte) : Nat → Block
  | 0 => b
  | k + 1 =>
    if v.isEmpty then b
    else
      let n := lineCount a v.length
      let b := if b.lostAt a then b
        else ({ b with mem := b.mem.putRaw a (v.take n) }).enterLine a n
      b.writeHbm (a + n) (v.drop n) k

/-- Stores bytes at a physical address (R152, R178). -/
def Block.storePhys (b : Block) (a : Nat) (v : List Byte) : Block :=
  match terraceOf a with
  | some _ => { b with mem := b.mem.write 8 a v }
  | none => b.writeHbm a v (v.length / 64 + 2)

/-- Counts bytes written at a physical address (R168, R200). -/
def Block.countWrite (b : Block) (a n : Nat) : Block :=
  match terraceOf a with
  | some t => b.bump Od.terraceWriteBytes (t + 1) n
  | none => (requests a n).foldl (fun b q => b.bump Od.hbmWriteBytes (stackOf q.1 + 1) q.2) b

/-- A plain write at a physical address. -/
def Block.writePhys (b : Block) (a : Nat) (v : List Byte) : Block := (b.countWrite a v.length).storePhys a v

/-- Mask bits of a line without those of the words listed. -/
def dropWords (line mask : Nat) (ws : List Nat) : Nat :=
  (List.range 64).foldl (fun m i => if bit mask i && !ws.contains (8 * line + i / 8) then m + 2 ^ i else m) 0

/-- Marks the words that a write of poisoned bytes touches; bytes buffered for them stay valid and are no longer clean (R183, R185, R390). -/
def Block.poisonPhys (b : Block) (pa n : Nat) : Block :=
  if b.lostAt pa then b
  else
    let ws := wordsOf pa n
    { b with mem := ws.foldl (fun m w => m.poisonAt w) b.mem,
             hbm := { b.hbm with wcb := b.hbm.wcb.map (fun l =>
               if ws.any (fun w => w / 8 == l.line) then { l with clean := dropWords l.line l.clean ws } else l) } }

/-- Advances a counter by a free number. -/
def Block.bumpFree (b : Block) (e k : Nat) : Block := b.draw.2.bump e k b.draw.1

/-- Did a counter move since a former state? -/
def Block.moved (b was : Block) (e k : Nat) : Bool := b.reg e k != was.reg e k

/-- Waiting for banks and queues and on-die reports while the memories served what moved their counters since `was`, of which the spec fixes no number (R154, R171, R177). -/
def Block.contention (b now was : Block) : Block :=
  let b := (List.range 4).foldl (fun b k =>
    if now.moved was Od.terraceReadBytes (k + 1) || now.moved was Od.terraceWriteBytes (k + 1) || now.moved was Od.terraceAddElements (k + 1)
    then b.bumpFree Od.terraceBankStallCycles (k + 1) else b) b
  (List.range 8).foldl (fun b h =>
    if now.moved was Od.hbmReadBytes (h + 1) || now.moved was Od.hbmWriteBytes (h + 1) then
      (b.bumpFree Od.hbmQueueFullCycles (h + 1)).bumpFree Od.hbmOndieSeverityCount (h + 1)
    else b) b

/-- A command with the waiting that its memory accesses saw. -/
def Block.contended (b : Block) (f : Block → Block) : Block := let b' := f b; b'.contention b' b

/-! ### Translation (R224 to R226, R532) -/

/-- The outcome of a walk: a physical address, a fault cause of R226, or a poisoned table word (R393). -/
inductive Walk where
  | ok (pa : Nat)
  | fail (cause : Nat)
  | poison
  deriving DecidableEq, Repr

/-- Is a context a limited context (R532)? -/
def Block.limitedCtx (b : Block) (c : Nat) : Bool := bit (b.reg Od.limitedCtx 0) c

/-- May a table of the context lie at an address: in HBM, or in Terrace 0 for a limited context? -/
def Block.tableAt (b : Block) (c a n : Nat) : Bool :=
  if b.limitedCtx c then decide (terraceBase ≤ a ∧ a + n ≤ terraceBase + terraceSize) else decide (a + n ≤ hbmSize)

/-- May a frame of the context lie at an address (cause 4)? -/
def Block.frameAt (b : Block) (c a : Nat) : Bool :=
  (terraceOf a).isSome || (!b.limitedCtx c && decide (a < hbmSize))

/-- An access to the address is not served now (cause 8). -/
def Block.unserved (b : Block) (a : Nat) : Bool :=
  match terraceOf a with
  | some t => b.boroughDown t
  | none => b.hbmDown

/-- The tests of the frame that a valid entry names, and the address in it (causes 3, 7 and 8 of R226). -/
def Block.useFrame (b : Block) (va frame : Nat) (mayWrite write adding : Bool) : Walk :=
  if write && !mayWrite then .fail 3
  else if adding && (terraceOf frame).isNone then .fail 7
  else if b.unserved frame then .fail 8
  else .ok (frame + bits va 20 0)

/-- The second level of the walk, for a table at `t`. -/
def Block.walk2 (b : Block) (c va t : Nat) (write adding : Bool) : Walk :=
  let ea := t + 8 * bits va 33 21
  if b.unserved ea then .fail 8
  else
    let r := b.readPhys ea 8
    if r.2 then .poison
    else
      let e := ofLE r.1
      let frame := at' 21 (bits e 47 21)
      if !bit e 0 then .fail 2
      else if bits e 63 48 != 0 || bits e 20 2 != 0 then .fail 5
      else if !b.frameAt c frame then .fail 4
      else b.useFrame va frame (bit e 1) write adding

/-- The walk of one virtual address (R224, R226). Cause 6 for an address of 2^48 or more is the caller's. -/
def Block.walk (b : Block) (c va : Nat) (write adding : Bool) : Walk :=
  let root := b.reg Od.ctxTtRoot (c + 1)
  let ea := root + 8 * bits va 47 34
  if !b.tableAt c ea 8 then .fail 4
  else if b.unserved ea then .fail 8
  else
    let r := b.readPhys ea 8
    if r.2 then .poison
    else
      let e := ofLE r.1
      let t := at' 16 (bits e 47 16)
      if !bit e 0 then .fail 1
      else if bits e 63 48 != 0 || bits e 15 1 != 0 then .fail 5
      else if !b.tableAt c t (2 ^ 16) then .fail 4
      else b.walk2 c va t write adding

/-- The frame of the page of a virtual address and whether it may be written, where both levels are valid and in place (R224, R226). -/
def Block.pageEntry (b : Block) (c va : Nat) : Option (Nat × Bool) :=
  let e1 := b.readPhys (b.reg Od.ctxTtRoot (c + 1) + 8 * bits va 47 34) 8
  let e2 := b.readPhys (at' 16 (bits (ofLE e1.1) 47 16) + 8 * bits va 33 21) 8
  match b.walk c va false false with
  | .ok _ => some (at' 21 (bits (ofLE e2.1) 47 21), bit (ofLE e2.1) 1)
  | _ => none

/-- The table entries that the walk of a virtual address reads (R224, R225). -/
def Block.walkReads (b : Block) (c va : Nat) : List Nat :=
  let ea := b.reg Od.ctxTtRoot (c + 1) + 8 * bits va 47 34
  if !b.tableAt c ea 8 || b.unserved ea then []
  else
    let r := b.readPhys ea 8
    let e := ofLE r.1
    let t := at' 16 (bits e 47 16)
    let ea2 := t + 8 * bits va 33 21
    if r.2 || !bit e 0 || bits e 63 48 != 0 || bits e 15 1 != 0 || !b.tableAt c t (2 ^ 16) || b.unserved ea2 then [ea] else [ea, ea2]

/-- Counts the bytes that a unit on Borough `k`, or one on none, moves to or from another Borough's Terrace (R155). -/
def Block.countAcross (b : Block) (k : Option Nat) (a n : Nat) : Block :=
  match k with
  | some k => b.countRemote k a n
  | none => b

/-- Counts the table entries that a unit without a translation cache reads to translate (R200, R224). -/
def Block.countWalk (b : Block) (k : Option Nat) (c va : Nat) : Block :=
  (b.walkReads c va).foldl (fun b a => (b.countRead a 8).countAcross k a 8) b

/-- Status of a fault cause (R226, R268). -/
def causeStatus (cause : Nat) : Nat := if cause = 1 ∨ cause = 2 then 0x14 else 0x13

end Sys2Proof.Machine
end

