-- ==== Sys2Proof/Machine/Operands.lean ====
section
/-! DEFINITION. The fields of task descriptors and records (R49, R112, R203, R237, R240, R243, R246, R265 to R267). -/

namespace Sys2Proof.Machine

/-- Bits `[hi:lo]` of a descriptor. -/
def fld (d : Desc) (hi lo : Nat) : Nat := bits d.toNat hi lo

/-! ### The common header (R246) -/

def opcodeOf (d : Desc) : Nat := fld d 127 124
def passOf (d : Desc) : Nat := fld d 123 122
def spOf (d : Desc) : Nat := fld d 121 121
def orderedOf (d : Desc) : Bool := fld d 120 120 == 1
def sigOf (d : Desc) : Nat := fld d 119 104
def wait0Of (d : Desc) : Nat × Nat := (fld d 103 88, fld d 87 56)
def wait1Of (d : Desc) : Nat × Nat := (fld d 55 40, fld d 39 8)
def unitOf (d : Desc) : Nat := fld d 7 4

def opFence : Nat := 1
def opMatmul : Nat := 2
def opDist : Nat := 3
def opVector : Nat := 4
def opXfer : Nat := 5
def opCollective : Nat := 6
def opNormClose : Nat := 7
def opUpdate : Nat := 8
def opGather : Nat := 9
def opScatter : Nat := 10
def opEvent : Nat := 11
def opTimeWait : Nat := 12

def passNone : Nat := 0
def passFwd : Nat := 1
def passBwd : Nat := 2

/-! ### MATMUL and DIST (R49) -/

/-- The body of a Plaza task. -/
structure MM where
  mode : Nat
  fmtS : Nat
  fmtH : Nat
  plaza : Nat
  place : Bool
  hold : Bool
  init : Nat
  drain : Bool
  order : Nat
  row0 : Nat
  col0 : Nat
  h : Nat
  w : Nat
  aset : Nat
  ns : Nat
  m : Nat
  n : Nat
  k : Nat
  sPort : Nat
  hPort : Nat
  cPort : Nat
  outQ : Nat
  deriving DecidableEq, Repr

def mmOf (d : Desc) : MM :=
  { mode := fld d 511 508, fmtS := fld d 507 504, fmtH := fld d 503 500, plaza := fld d 499 496, place := fld d 495 495 == 1,
    hold := fld d 494 494 == 1, init := fld d 493 492, drain := fld d 491 491 == 1, order := fld d 490 489, row0 := fld d 479 476,
    col0 := fld d 475 472, h := fld d 471 468 + 1, w := fld d 467 464 + 1, aset := fld d 463 460, ns := fld d 459 456 + 1,
    m := fld d 447 428, n := fld d 427 408, k := fld d 407 384, sPort := fld d 383 380, hPort := fld d 379 376,
    cPort := fld d 375 372, outQ := fld d 371 368 }

/-- Accumulation cycles per tile (R53), for `k` reduction elements. -/
def cyclesOf (fmt k : Nat) : Nat :=
  if fmt = 7 then 3 * k
  else if isMX fmt then ceilDiv k 32 * 32 / pairsPerCycle fmt
  else ceilDiv k (pairsPerCycle fmt)

def MM.tileRows (x : MM) : Nat := ceilDiv x.m (32 * x.h)
def MM.tileCols (x : MM) : Nat := ceilDiv x.n (32 * x.w)
def MM.tiles (x : MM) : Nat := x.tileRows * x.tileCols

/-! ### VECTOR (R112) -/

/-- The body of a VECTOR task. -/
structure Vec where
  op : Nat
  fn : Nat
  fmtX : Nat
  fmtZ : Nat
  fmtY : Nat
  grad : Nat
  nfIn : Bool
  nfOut : Bool
  srcX : Nat
  xPort : Nat
  zEn : Bool
  zPort : Nat
  cEn : Bool
  cPort : Nat
  yPort : Nat
  y2En : Bool
  y2Port : Nat
  len : Nat
  rows : Nat
  param : Nat
  alpha : BitVec 32
  beta : BitVec 32
  eps : BitVec 32
  tag : Nat
  eBase : Nat
  deriving DecidableEq, Repr

def vecOf (d : Desc) : Vec :=
  { op := fld d 511 506, fn := fld d 505 502, fmtX := fld d 501 498, fmtZ := fld d 497 494, fmtY := fld d 493 490,
    grad := fld d 489 488, nfIn := fld d 486 486 == 1, nfOut := fld d 487 487 == 1, srcX := fld d 485 485, xPort := fld d 484 481,
    zEn := fld d 480 480 == 1, zPort := fld d 479 477, cEn := fld d 476 476 == 1, cPort := fld d 475 473, yPort := fld d 472 470,
    y2En := fld d 469 469 == 1, y2Port := fld d 468 466, len := fld d 455 432, rows := fld d 431 408, param := fld d 407 400,
    alpha := BitVec.ofNat 32 (fld d 399 368), beta := BitVec.ofNat 32 (fld d 367 336), eps := BitVec.ofNat 32 (fld d 335 304),
    tag := fld d 303 272, eBase := fld d 271 224 }

/-! ### XFER (R203, R205) -/

/-- The body of an XFER task. -/
structure Xfer where
  xop : Nat
  dmode : Nat
  accFmt : Nat
  transpose : Bool
  fmt : Nat
  dst : Nat
  src : Nat
  port : Nat
  mcast : Nat
  resid : Nat
  residEnd : Nat
  residPages : Nat
  persist : Bool
  stream : Nat
  prefetch : Nat
  engine : Nat
  split : Nat
  srcBase : Nat
  dstBase : Nat
  shape : Nat
  tag : Nat
  mb : Nat
  eBase : Nat
  go : Nat
  gi : Nat
  grep : Nat
  srep : Nat
  deriving DecidableEq, Repr

def xferOf (d : Desc) : Xfer :=
  { xop := fld d 511 509, dmode := fld d 508 507, accFmt := fld d 506 506, transpose := fld d 505 505 == 1, fmt := fld d 504 501,
    dst := fld d 500 498, src := fld d 497 495, port := fld d 494 491, mcast := fld d 490 483, resid := fld d 482 481,
    residEnd := fld d 480 480, residPages := fld d 479 470, persist := fld d 469 469 == 1, stream := fld d 468 463,
    prefetch := fld d 462 459, engine := fld d 458 454, split := fld d 453 451, srcBase := fld d 447 400, dstBase := fld d 399 352,
    shape := fld d 351 304, tag := fld d 303 272, mb := fld d 271 256, eBase := fld d 255 208, go := fld d 207 192,
    gi := fld d 191 176, grep := fld d 175 160, srep := fld d 159 144 }

/-- A shape record (R205); strides are signed, dimension 0 first, stride 0 being the element size. -/
structure Shape where
  wmulV : Nat
  wmulU : Nat
  extV : Nat
  extU : Nat
  loV : Int
  loU : Int
  dstStride : List Int
  srcStride : List Int
  n : List Nat
  reserved : Nat
  deriving DecidableEq, Repr

def shapeOf (x : BitVec 512) : Shape :=
  let f := fun hi lo => bits x.toNat hi lo
  { wmulV := f 511 508, wmulU := f 507 504, extV := f 503 492, extU := f 491 480, loV := toSigned 16 (f 479 464),
    loU := toSigned 16 (f 463 448), dstStride := (List.range 4).map (fun i => toSigned 40 (f (327 + 40 * i) (288 + 40 * i))),
    srcStride := (List.range 4).map (fun i => toSigned 40 (f (167 + 40 * i) (128 + 40 * i))),
    n := (List.range 5).map (fun i => f (24 * i + 23) (24 * i)), reserved := f 127 120 }

/-! ### COLLECTIVE and NORM_CLOSE (R287, R303) -/

/-- The body of a COLLECTIVE task. -/
structure Col where
  kind : Nat
  op : Nat
  wfmt : Nat
  sfmt : Nat
  dfmt : Nat
  acct : Nat
  dst : Nat
  slice : Nat
  cohort : Nat
  seq : Nat
  root : Nat
  len : Nat
  srcBase : Nat
  dstBase : Nat
  post : BitVec 32
  tag : Nat
  deriving DecidableEq, Repr

def colOf (d : Desc) : Col :=
  { kind := fld d 511 508, op := fld d 507 506, wfmt := fld d 505 504, sfmt := fld d 503 503, dfmt := fld d 502 502,
    acct := fld d 501 500, dst := fld d 499 498, slice := fld d 497 496, cohort := fld d 495 488, seq := fld d 479 464,
    root := fld d 463 446, len := fld d 439 414, srcBase := fld d 399 352, dstBase := fld d 351 304,
    post := BitVec.ofNat 32 (fld d 303 272), tag := fld d 271 240 }

/-- Element sizes of source and destination (R286). -/
def Col.zs (x : Col) : Nat := if x.sfmt = 0 then 4 else 2
def Col.zd (x : Col) : Nat := if x.dfmt = 0 then 4 else 2

def closeCohort (d : Desc) : Nat := fld d 511 504
def closeBuckets (d : Desc) : Nat := fld d 503 488
def closeMaxNorm (d : Desc) : BitVec 32 := BitVec.ofNat 32 (fld d 487 456)

/-! ### UPDATE, GATHER and SCATTER_ADD (R376, R379, R381) -/

def updRule (d : Desc) : Nat := fld d 511 506
def updKind (d : Desc) : Nat := fld d 505 504
def updLayer (d : Desc) : Nat := fld d 503 488
def updState (d : Desc) : Nat := fld d 479 432
def updStage (d : Desc) : Nat := fld d 431 384
def updWork (d : Desc) : Nat := fld d 383 336
def updLr (d : Desc) : BitVec 32 := BitVec.ofNat 32 (fld d 335 304)
def updTag (d : Desc) : Nat := fld d 303 272

/-- GATHER and SCATTER_ADD share the places of these fields. -/
def gsKind (d : Desc) : Nat := fld d 511 510
def gsFmt (d : Desc) : Nat := fld d 509 509
def gsCount (d : Desc) : Nat := fld d 495 456
/-- SRC of a GATHER, DST of a SCATTER_ADD. -/
def gsBlock (d : Desc) : Nat := fld d 455 408
def gsIdx (d : Desc) : Nat := fld d 407 360
/-- DST_VA of a GATHER, SRC_VA of a SCATTER_ADD. -/
def gsVa (d : Desc) : Nat := fld d 359 312
def gsStage (d : Desc) : Nat := fld d 311 264

/-! ### Dispatcher tasks (R265 to R267) -/

def fenceScope (d : Desc) : Nat := fld d 511 510
/-- FWD_COUNT of a turn fence (R122). -/
def fwdCountOf (d : Desc) : Nat := fld d 511 480
def eventKind (d : Desc) : Nat := fld d 511 510
def eventCode (d : Desc) : Nat := fld d 509 502
def eventRing (d : Desc) : Nat := fld d 501 488
def eventProducer (d : Desc) : Nat := fld d 487 472
def eventToken (d : Desc) : Nat := fld d 471 456
def eventAdd (d : Desc) : Nat := fld d 455 424
def eventArg (d : Desc) : Nat := fld d 423 360
def timeTarget (d : Desc) : Nat := fld d 511 448

/-! ### Rings (R237, R240) -/

/-- Fields of a ring's latched record. -/
def cfgRing (r : BitVec 256) : Nat := bits r.toNat 255 242
def cfgCtx (r : BitVec 256) : Nat := bits r.toNat 239 234
def cfgPriority (r : BitVec 256) : Nat := bits r.toNat 233 231
def cfgLog (r : BitVec 256) : Nat := bits r.toNat 230 227
def cfgEnable (r : BitVec 256) : Bool := bits r.toNat 226 226 == 1
def cfgBase (r : BitVec 256) : Nat := bits r.toNat 191 144
def cfgRecord (r : BitVec 256) : Nat := bits r.toNat 127 80
def cfgReserved (r : BitVec 256) : Bool :=
  bits r.toNat 241 240 != 0 || bits r.toNat 225 192 != 0 || bits r.toNat 143 128 != 0 || bits r.toNat 79 0 != 0

/-- The phase of an index (R239). -/
def phaseOf (log index : Nat) : Nat := index / 2 ^ log % 2

/-! ### Status codes (R268) -/

def sOK : Nat := 0
def sEmptyK : Nat := 1
def sNonfiniteSkip : Nat := 2
def sStepSkew : Nat := 3
def sAborted : Nat := 0x10
def sPoisoned : Nat := 0x11
def sTainted : Nat := 0x12
def sAddrFault : Nat := 0x13
def sPageFault : Nat := 0x14
def sTimeout : Nat := 0x15
def sShadowDispute : Nat := 0x16
def sMalformed : Nat := 0x1F

/-- A completion record as 512 bits (R243). -/
def recordBits (ticket status opcode phase ring slot ctx issued done unit : Nat) : Nat :=
  at' 480 ticket + at' 472 status + at' 468 opcode + at' 467 phase + at' 452 ring + at' 440 slot + at' 434 ctx
    + at' 320 issued + at' 256 done + unit

/-- A transfer report (R228). -/
def reportBits (coords : List Nat) (cause va origin done : Nat) : Nat :=
  at' 136 (coords.zipIdx.foldl (fun s p => s + at' (24 * p.2) (wrap 24 p.1)) 0) + at' 128 cause + at' 80 (wrap 48 va)
    + at' 48 (wrap 32 origin) + wrap 48 done

end Sys2Proof.Machine
end

