-- ==== Sys2Proof/Machine/Tasks.lean ====
section
/-! DEFINITION. Tickets, tokens, taint and the extents of transfers: what several units share of a task (R207, R229 to R233, R253 to R257). -/

namespace Sys2Proof.Machine

/-! ### Tasks and rings -/

def Block.task? (b : Block) (t : Nat) : Option Task := b.disp.tasks.find? (fun x => x.ticket == t)

/-- Changes the task of a ticket. -/
def Block.setTask (b : Block) (t : Nat) (f : Task → Task) : Block :=
  { b with disp := { b.disp with tasks := b.disp.tasks.map (fun x => if x.ticket == t then f x else x) } }

/-- A task issued to its unit and not yet ended. -/
def Task.isRunning (t : Task) : Bool := t.phase == .running

/-- The running task of a ticket whose unit has not worked yet, if it has the opcode. -/
def Block.starting (b : Block) (t op : Nat) : Option Task :=
  match b.task? t with
  | some x => if x.isRunning && x.stage == 0 && opcodeOf x.desc == op then some x else none
  | none => none

/-- The unit ends a task with a status and the unit-specific part of its record (R243). -/
def Block.endTask (b : Block) (t status unit : Nat) : Block :=
  b.setTask t (fun x => if x.isRunning then { x with phase := .ended status unit } else x)

def Block.ring (b : Block) (r : Nat) : Ring := sget Ring.empty b.disp.rings r

def Block.setRing (b : Block) (r : Nat) (v : Ring) : Block :=
  { b with disp := { b.disp with rings := sset Ring.empty b.disp.rings r v } }

/-- Tickets that a context holds. -/
def Block.ctxTasks (b : Block) (c : Nat) : List Task := b.disp.tasks.filter (fun t => t.ctx == c)

/-- Does a context hold any ticket? -/
def Block.ctxBusy (b : Block) (c : Nat) : Bool := b.disp.tasks.any (fun t => t.ctx == c)

/-- Is a context resetting (R269)? -/
def Block.resetting (b : Block) (c : Nat) : Bool := b.reg Od.ctxState (c + 1) == 1

/-- The rounding inputs of a context for a site and tag, with the step `s` (R84). -/
def Block.roundKey (b : Block) (c s site tag : Nat) : RoundKey :=
  ⟨b.reg Od.ctxRoundSeed (c + 1), b.reg Od.deviceIndex 0, s, site, tag⟩

/-! ### Tokens (R255 to R257) -/

def Block.token (b : Block) (n : Nat) : Nat := sget 0 b.disp.tokens n

def Block.setToken (b : Block) (n v : Nat) : Block :=
  { b with disp := { b.disp with tokens := sset 0 b.disp.tokens n (wrap 32 v) } }

/-- The module token of a context token `t ≥ 1`. -/
def Block.moduleToken (b : Block) (c t : Nat) : Nat := b.reg Od.ctxTokenBase (c + 1) + t - 1

/-- Adds to a context token; token 0 means none. -/
def Block.signal (b : Block) (c t n : Nat) : Block :=
  if t = 0 then b else b.setToken (b.moduleToken c t) (b.token (b.moduleToken c t) + n)

/-- A wait is satisfied (R256). -/
def Block.waitMet (b : Block) (c : Nat) (w : Nat × Nat) : Bool :=
  w.1 == 0 || serialGe (b.token (b.moduleToken c w.1)) w.2

/-! ### Taint (R229 to R233) -/

/-- The origin that stands for none. -/
def noTicket : Nat := 0xFFFFFFFF

def taintDepth : Nat := 64

/-- Do two byte ranges overlap? -/
def overlaps (a b : Nat × Nat) : Bool := decide (a.1 < b.2) && decide (b.1 < a.2)

/-- Enters one range: merged into an entry of the same origin that it overlaps or adjoins, or a new entry, or the overflow of R233. -/
def Block.taint1 (b : Block) (c origin : Nat) (r : Nat × Nat) : Block :=
  if r.2 ≤ r.1 ∨ b.reg Od.ctxTaintOverflow (c + 1) = 1 then b
  else
    let joins := fun (e : Taint) => e.ctx == c && e.origin == origin && decide (e.lo ≤ r.2) && decide (r.1 ≤ e.hi)
    match b.se.taints.findIdx? joins with
    | some i => { b with se := { b.se with taints := b.se.taints.modify i (fun e => { e with lo := min e.lo r.1, hi := max e.hi r.2 }) } }
    | none =>
      if (b.se.taints.filter (fun e => e.ctx == c)).length ≥ taintDepth then
        (b.setReg Od.ctxTaintOverflow (c + 1) 1).raise 0x8351 c []
      else { b with se := { b.se with taints := b.se.taints ++ [⟨c, r.1, r.2, origin⟩] } }

/-- Taints the ranges of an extent (R229). -/
def Block.addTaint (b : Block) (c origin : Nat) (ext : List (Nat × Nat)) : Block :=
  ext.foldl (fun b r => b.taint1 c origin r) b

/-- Removes the entries that a rewritten range covers whole (R232). -/
def Block.untaint (b : Block) (c : Nat) (ext : List (Nat × Nat)) : Block :=
  { b with se := { b.se with taints := b.se.taints.filter (fun e =>
      !(e.ctx == c && ext.any (fun r => decide (r.1 ≤ e.lo ∧ e.hi ≤ r.2)))) } }

/-- The cause and ORIGIN with which a source extent is tainted (R230, R233). -/
def Block.tainted (b : Block) (c : Nat) (ext : List (Nat × Nat)) : Option (Nat × Nat) :=
  if ext.isEmpty then none
  else if b.reg Od.ctxTaintOverflow (c + 1) = 1 then some (12, noTicket)
  else match b.se.taints.find? (fun e => e.ctx == c && ext.any (fun r => overlaps r (e.lo, e.hi))) with
    | some e => some (9, e.origin)
    | none => none

/-! ### Ports (R44, R93, R211, R212) -/

def kindS : Nat := 0
def kindH : Nat := 1
def kindC : Nat := 2
def kindSP : Nat := 3
def kindOP : Nat := 4

/-- The queue of a port, oldest first. -/
def Block.queue (b : Block) (p : PortId) : List PortEntry := b.plz.ports.filter (fun e => e.port == p)

/-- All elements that a port's queue holds now, up to the first transfer still to deliver or ended early. -/
def portElems : List PortEntry → List Elem
  | [] => []
  | e :: r => if e.done && e.status == 0 then e.elems ++ portElems r else e.elems

/-- The status of the first transfer of a queue that ended early, before `n` elements are reached; none when `n` are there or may still come. -/
def portBroken (n : Nat) : List PortEntry → Option (Nat × Nat)
  | [] => none
  | e :: r =>
    if n ≤ e.elems.length then none
    else if e.status != 0 then some (e.status, e.ticket)
    else if e.done then portBroken (n - e.elems.length) r
    else none

/-- Takes `n` elements from the front of a queue's entries; an emptied finished entry leaves. -/
def takePorts (p : PortId) : Nat → List PortEntry → List PortEntry
  | _, [] => []
  | n, e :: r =>
    if e.port != p then e :: takePorts p n r
    else
      let k := min n e.elems.length
      let e' := { e with elems := e.elems.drop k, taken := e.taken + k }
      if e'.elems.isEmpty && e.done && e.status == 0 then takePorts p (n - k) r else e' :: takePorts p (n - k) r

/-- The elements of a port's queue without the first `n`. -/
def Block.takeRaw (b : Block) (p : PortId) (n : Nat) : Block :=
  { b with plz := { b.plz with ports := takePorts p n b.plz.ports } }

/-- DT at which the last of the elements came that a port's queue holds for the task that takes from it, 0 for none. -/
def portHeard : List PortEntry → Nat
  | [] => 0
  | e :: r =>
    let here := if e.elems.isEmpty then 0 else e.at_
    if e.done && e.status == 0 then max here (portHeard r) else here

/-- Transfers that a port queues: those that have not ended (R211, R212). -/
def Block.queued (b : Block) (p : PortId) : Nat := ((b.queue p).filter (fun e => e.status == 0)).length

/-- What a task has taken from its ports. -/
def Block.intake (b : Block) (t : Nat) : Intake := (b.plz.intake.find? (fun x => x.ticket == t)).getD (Intake.empty t)

def Block.setIntake (b : Block) (t : Nat) (v : Intake) : Block :=
  { b with plz := { b.plz with intake := b.plz.intake.filter (fun x => x.ticket != t) ++ [v] } }

/-- Nothing that a task has taken is kept. -/
def Block.dropIntake (b : Block) (t : Nat) : Block := { b with plz := { b.plz with intake := b.plz.intake.filter (fun x => x.ticket != t) } }

/-! ### Extents of transfers (R207) -/

/-- Sizes in delivery order (R206). -/
def deliverySizes (transpose : Bool) (n : List Nat) : List Nat :=
  if transpose then [nth 1 n 1, nth 1 n 0] ++ n.drop 2 else n

/-- The byte range of a base, sizes, strides of dimensions 1 to 4 and the bytes of dimension 0. -/
def strideRange (base : Nat) (n : List Nat) (strides : List Int) (row : Nat) : Nat × Nat :=
  let t := ((n.drop 1).zip strides).map (fun p => ((p.1 : Int) - 1) * p.2)
  let lo := (t.map (fun x => min x 0)).sum
  let hi := (t.map (fun x => max x 0)).sum
  (((base : Int) + lo).toNat, ((base : Int) + hi + row).toNat)

/-- Bytes of `n` elements of a format. -/
def elemBytes (fmt n : Nat) : Nat := ceilDiv (n * elemNibbles fmt) 2

/-- Element size at the destination (R206). -/
def Xfer.dstFmt (x : Xfer) : Nat := if x.dmode = 0 then x.fmt else if x.accFmt = 0 then 7 else 0

/-- Inner and outer lengths of a feed (R209). -/
def feedLens (split : Nat) (n : List Nat) : Nat × Nat := ((n.take split).foldl (· * ·) 1, (n.drop split).foldl (· * ·) 1)

/-- Is the destination a Plaza feed port? -/
def Xfer.isFeed (x : Xfer) : Bool := x.dst == 1 || x.dst == 2 || x.dst == 3

/-- The destination extent (R207). -/
def Xfer.dstExtent (x : Xfer) (s : Shape) : List (Nat × Nat) :=
  if x.dst != 0 then []
  else
    let n := deliverySizes x.transpose s.n
    [strideRange x.dstBase n s.dstStride (elemBytes x.dstFmt (nth 1 n 0))]

/-- The scale range of an MX feed (R210). -/
def Xfer.scaleExtent (x : Xfer) (s : Shape) : List (Nat × Nat) :=
  if isMX x.fmt && (x.dst == 1 || x.dst == 2) then
    let l := feedLens x.split s.n
    let n := if x.dst = 1 then l.2 * ceilDiv l.1 32 else ceilDiv l.2 32 * l.1
    [(x.dstBase, x.dstBase + n)]
  else []

/-- The source extent (R207): for ADD the destination too, for an MX feed the scales too. -/
def Xfer.srcExtent (x : Xfer) (s : Shape) : List (Nat × Nat) :=
  (if x.src = 0 then [strideRange x.srcBase s.n s.srcStride (elemBytes x.fmt (nth 1 s.n 0))] else [])
    ++ x.scaleExtent s ++ (if x.dmode = 1 then x.dstExtent s else [])

/-- A residual pair's buffer chosen at issue (R223). -/
def Xfer.resolve (x : Xfer) (sel : Nat) : Xfer :=
  if x.resid = 0 then x
  else
    let k := (if x.resid = 1 then sel else 1 - sel) * x.residPages * 2 ^ 21
    if x.residEnd = 0 then { x with srcBase := x.srcBase + k } else { x with dstBase := x.dstBase + k }

/-- Bytes of a page of virtual memory (R224). -/
def pageSize : Nat := 2 ^ 21

/-- The entry that an engine holds for a page of a context (R225). -/
def Block.cached (b : Block) (engine c va : Nat) : Option TlbEntry :=
  b.se.tlb.find? (fun e => e.engine == engine && e.ctx == c && e.page == va / pageSize)

/-- The translation of a read by an engine: by the entry that it holds, or by a walk (R225). -/
def Block.lookup (b : Block) (engine c va : Nat) : Walk :=
  match b.cached engine c va with
  | some e => b.useFrame va e.frame e.write false false
  | none => b.walk c va false false

/-- Reads a shape record for an engine at a virtual address (R205, R225). -/
def Block.readShape (b : Block) (engine c va : Nat) : ShapeRead :=
  match b.lookup engine c va with
  | .fail k => .fail k va
  | .poison => .poison va
  | .ok pa =>
    let r := b.readPhys pa 64
    if r.2 then .poison va
    else
      let raw := BitVec.ofNat 512 (ofLE r.1)
      let s := shapeOf raw
      if s.reserved != 0 || s.n.any (· == 0) then .invalid raw va else .ok raw

/-- The armed stream of an engine (R220). -/
def Block.stream? (b : Block) (engine num : Nat) : Option PStream :=
  b.se.streams.find? (fun x => x.engine == engine && x.num == num)

/-- The transfer that arms a stream for a REARM about to issue: the last COPY with PERSIST issued and still running, and else the armed stream (R220, R221). -/
def Block.arming (b : Block) (c : Nat) (x : Xfer) : Option (Desc × Option ShapeRead) :=
  let runs := b.disp.tasks.filter (fun y => y.isRunning && opcodeOf y.desc == opXfer && y.ctx == c && y.unit == x.engine
    && (xferOf y.desc).xop == 0 && (xferOf y.desc).persist && (xferOf y.desc).stream == x.stream)
  match runs.foldl (fun (best : Option Task) y => if best.any (fun z => decide (y.order < z.order)) then best else some y) none with
  | some y => some (y.desc, y.shape)
  | none => (b.stream? x.engine x.stream).bind (fun p => if p.ctx = c then some (p.desc, some (.ok p.shape)) else none)

/-- What an XFER latches at its issue to an engine: the descriptor whose options it runs with, and its shape record (R220, R221); none for a REARM of a stream that is not armed. -/
def Block.latch (b : Block) (engine c : Nat) (d : Desc) : Desc × Option ShapeRead :=
  let x := xferOf d
  if x.xop = 0 then (d, some (b.readShape engine c x.shape))
  else if x.xop = 1 then (b.arming c x).getD (d, none)
  else (d, none)

/-- An XFER as it runs: the latched options, and of a REARM its own bases, tags and offset, with the residual pair resolved (R220 to R223). -/
def Task.xfer (t : Task) : Xfer :=
  let x := xferOf t.desc
  if x.xop = 1 then
    ({ xferOf t.opts with srcBase := x.srcBase, dstBase := x.dstBase, tag := x.tag, mb := x.mb, eBase := x.eBase }).resolve t.sel
  else x.resolve t.sel

/-- The contents of the shape record as far as they are known. -/
def Task.shapeRaw (t : Task) : Option (BitVec 512) :=
  match t.shape with
  | some (.ok raw) => some raw
  | some (.invalid raw _) => if (shapeOf raw).n.any (· == 0) then none else some raw
  | _ => none

/-- Source and destination extents of an XFER; none where its shape is not known (R207). -/
def Task.xferExtents (t : Task) : List (Nat × Nat) × List (Nat × Nat) :=
  match t.shapeRaw with
  | some raw => (t.xfer.srcExtent (shapeOf raw), t.xfer.dstExtent (shapeOf raw))
  | none => ([], [])

/-- The taint that an XFER meets (R230, R233): after an overflow every COPY, which reads its shape record at the least. -/
def Block.xferTaint (b : Block) (t : Task) : Option (Nat × Nat) :=
  if (xferOf t.desc).xop = 0 ∧ b.reg Od.ctxTaintOverflow (t.ctx + 1) = 1 then some (12, noTicket)
  else b.tainted t.ctx t.xferExtents.1

/-! ### Delivery order and scales of a transfer (R206, R209, R210) -/

/-- The digits of a linear index over dimension sizes, dimension 0 first. -/
def digits : List Nat → Nat → List Nat
  | [], _ => []
  | n :: r, i => (i % n) :: digits r (i / n)

/-- Source coordinates of delivery coordinates, and back. -/
def swap01 (transpose : Bool) (i : List Nat) : List Nat :=
  if transpose then [nth 0 i 1, nth 0 i 0] ++ i.drop 2 else i

/-- Ceil-split of a range into groups of `g`, one group for `g = 0`. -/
def groups (g n : Nat) : List (Nat × Nat) :=
  let g := if g = 0 then n else g
  (List.range (ceilDiv n g)).map (fun i => (i * g, min n ((i + 1) * g)))

/-- The 32-element chunks of a range of inner indices. -/
def feedChunks (lo hi : Nat) : List (Nat × Nat) :=
  (List.range (ceilDiv (hi - lo) 32)).map (fun c => (lo + 32 * c, min hi (lo + 32 * c + 32)))

/-- One element of a transfer in delivery order: its delivery coordinates, the scale bytes sent just before it with the keys under which they hold (R210), the key of its own scale, whether it is the first of its scale block, and its place in its group and in the stream without repetitions (R209). -/
structure Move where
  j : List Nat
  scales : List (Nat × Nat)
  key : Nat
  first : Bool
  group : Nat × Nat
  idx : Nat
  all : Nat
  deriving DecidableEq, Repr

/-- Does a transfer send scales (R210)? -/
def Xfer.scaled (x : Xfer) : Bool := isMX x.fmt && (x.dst == 1 || x.dst == 2)

/-- The scale bytes sent before a segment (R210): of the broadcast feed the one of its row and chunk; of the held feed, before the first row of a block, those of the chunk's columns. -/
def Xfer.segmentScales (x : Xfer) (il o : Nat) (c : Nat × Nat) : List (Nat × Nat) :=
  if !x.scaled then []
  else if x.dst = 1 then [(0, x.dstBase + o * ceilDiv il 32 + c.1 / 32)]
  else if o % 32 = 0 then (List.range (c.2 - c.1)).map (fun k => (c.1 + k, x.dstBase + o / 32 * il + c.1 + k))
  else []

/-- The elements of one segment (R209). -/
def Xfer.segment (x : Xfer) (n : List Nat) (il o : Nat) (c : Nat × Nat) : List Move :=
  (List.range (c.2 - c.1)).map (fun k =>
    { j := digits (n.take x.split) (c.1 + k) ++ digits (n.drop x.split) o,
      scales := if k = 0 then x.segmentScales il o c else [],
      key := if x.dst = 1 then 0 else c.1 + k,
      first := if x.dst = 1 then k == 0 else o % 32 == 0, group := (0, 0), idx := 0, all := 0 })

/-- One pass over a group (R209). -/
def Xfer.pass (x : Xfer) (n : List Nat) (il : Nat) (og ig : Nat × Nat) : List Move :=
  let rows := (List.range (og.2 - og.1)).map (fun k => og.1 + k)
  let cs := feedChunks ig.1 ig.2
  let l := if x.dst = 1 then cs.flatMap (fun c => rows.flatMap (fun o => x.segment n il o c))
    else rows.flatMap (fun o => cs.flatMap (fun c => x.segment n il o c))
  l.zipIdx.map (fun m => { m.1 with group := (og.1, ig.1), idx := m.2 })

/-- Numbers the elements of successive groups through. -/
def numberPasses : Nat → List (List Move) → List (List Move)
  | _, [] => []
  | n, p :: r => p.map (fun m => { m with all := n + m.idx }) :: numberPasses (n + p.length) r

/-- The groups of a feed in order, one pass over each (R209). -/
def Xfer.passes (x : Xfer) (s : Shape) : List (List Move) :=
  let n := deliverySizes x.transpose s.n
  let l := feedLens x.split n
  numberPasses 0 ((groups x.go l.2).flatMap (fun og => (groups x.gi l.1).map (fun ig => x.pass n l.1 og ig)))

/-- The elements of a transfer in the order of delivery (R206, R209). -/
def Xfer.moves (x : Xfer) (s : Shape) : List Move :=
  let n := deliverySizes x.transpose s.n
  if x.isFeed then
    (List.range (x.srep + 1)).flatMap (fun _ => (x.passes s).flatMap (fun p => (List.range (x.grep + 1)).flatMap (fun _ => p)))
  else (List.range (n.foldl (· * ·) 1)).map (fun i => ⟨digits n i, [], 0, false, (0, 0), 0, 0⟩)

/-- The elements of one pass over the group that starts at `g` (R209). -/
def Xfer.groupMoves (x : Xfer) (s : Shape) (g : Nat × Nat) : List Move :=
  let n := deliverySizes x.transpose s.n
  let l := feedLens x.split n
  let og := if x.go = 0 then l.2 else x.go
  let ig := if x.gi = 0 then l.1 else x.gi
  x.pass n l.1 (g.1, min l.2 (g.1 + og)) (g.2, min l.1 (g.2 + ig))

/-- Half bytes that a transfer moves for some of its elements, the scales sent with them among them. -/
def Xfer.nibbles (x : Xfer) (l : List Move) : Nat := (l.map (fun m => elemNibbles x.fmt + 2 * m.scales.length)).sum

/-- Does what a repetition of the whole stream sends again fit within a depth of `d` bytes (R209)? -/
def Xfer.staysAll (x : Xfer) (s : Shape) (d : Nat) : Bool :=
  x.isFeed && x.srep != 0 && decide (ceilDiv (x.nibbles (x.passes s).flatten) 2 ≤ d)

/-- All elements of an XFER; none where its shape is not known. -/
def Task.moves (t : Task) : List Move :=
  match t.shapeRaw with
  | some raw => t.xfer.moves (shapeOf raw)
  | none => []

/-- Bytes of `n` elements of a transfer from its element `from_` on, scales among them (R217, R219, R235). -/
def Task.span (t : Task) (from_ n : Nat) : Nat := ceilDiv (t.xfer.nibbles ((t.moves.drop from_).take n)) 2

/-- Prefetch depth D in bytes (R203, R217). -/
def Task.depth (t : Task) : Nat := (t.xfer.prefetch + 1) * 65536

end Sys2Proof.Machine
end

