-- ==== Sys2Proof/Machine/Slow.lean ====
section
/-! DEFINITION. The slow tier as Hazel reaches it: regions, reads, writes and deliveries (R342 to R351, R358, R359, R493). -/

namespace Sys2Proof.Machine

def slInService : Nat := 0
def slTraining : Nat := 1
def slSelfRefresh : Nat := 2
def slOff : Nat := 3
def slLost : Nat := 4

/-- ms from Power-on at which the slow tier reaches service at the latest (R344, R528). -/
def Block.slowReadyMs (b : Block) : Nat := if b.part = .b then 1925 else 2330

/-- SLOW_STATE: a tier in training is OFF until bring-up powers it, and in service once its time has passed (R344, R350, R528; log entry 60). -/
def Block.slowTier (b : Block) : Nat :=
  let st := b.reg Od.slowState 0
  if st != slTraining then st
  else if b.trained b.sys.slowOk b.slowReadyMs 220 then slInService
  else if b.trained true 720 0 then slTraining else slOff

/-- Capacity in bytes (R342). -/
def Block.slowCapacity (b : Block) : Nat := b.part.gib * 2 ^ 30

/-- The part that Hazel keeps to itself (R342). -/
def slowReserved : Nat := 2 ^ 30

/-- Base and size in bytes of a context's region (R351). -/
def Block.region (b : Block) (c : Nat) : Nat × Nat :=
  let r := b.oct Od.hazelRegion (c + 1)
  (ofBE (r.take 8) * 2 ^ 21, ofBE ((r.drop 8).take 8) * 2 ^ 21)

/-- Does the range of `n` bytes at a region offset lie in the region? -/
def Block.inRegion (b : Block) (c off n : Nat) : Bool := decide (off + n ≤ (b.region c).2)

/-- Bytes of the slow tier and whether one lies in a poisoned word; all poison once the tier is lost (R387). -/
def Block.slowPeek (b : Block) (a n : Nat) : List Byte × Bool :=
  if b.reg Od.slowState 0 = slLost then
    ((List.range n).map (fun i => BitVec.ofNat 8 (poisonWord >>> (8 * ((a + i) % 8)))), decide (0 < n))
  else (b.slow.bytes a n, b.slow.anyPoison a n)

/-- The channel of a slow-tier offset (R347). -/
def slowChannel (a : Nat) : Nat :=
  let g := a >>> 8
  bits g 5 0 ^^^ bits g 11 6 ^^^ bits g 17 12

/-- The 256 B granules that an access of `n` bytes at `a` is split into, each with its channel and its bytes (R347). -/
def slowSplit (a n : Nat) : List (Nat × Nat × Nat) :=
  if n = 0 then []
  else (List.range ((a + n - 1) / 256 - a / 256 + 1)).map (fun i =>
    let lo := max a (256 * (a / 256 + i))
    (slowChannel lo, lo, min (a + n) (256 * (a / 256 + i) + 256) - lo))

/-- Counts bytes read (R388). -/
def Block.slowCount (b : Block) (n : Nat) : Block := b.bump Od.slowReadBytes 0 n

/-- Writes bytes; a poisoned XTS unit is replaced only where it is covered whole (R493). -/
def Block.slowWrite (b : Block) (a : Nat) (v : List Byte) : Block :=
  let b := b.bump Od.slowWriteBytes 0 v.length
  if b.reg Od.slowState 0 = slLost then b else { b with slow := b.slow.write 16 a v }

/-- Marks the words of a range poisoned, with the other word of each XTS unit; the bytes have been counted (R493). -/
def Block.slowMark (b : Block) (a n : Nat) : Block :=
  let units := (wordsOf a n).map (fun w => w / 2)
  if b.reg Od.slowState 0 = slLost then b
  else { b with slow := units.foldl (fun m u => (m.poisonAt (2 * u)).poisonAt (2 * u + 1)) b.slow }

/-- Stores bytes with the poison of each as one write: the words of poisoned bytes are stored poisoned (R369, R393, R493). -/
def Block.storeRun (b : Block) (a : Nat) (l : List (Byte × Bool)) : Block :=
  let ws := (((l.zipIdx).filter (fun x => x.1.2)).map (fun x => (a + x.2) / 8)).dedup
  ws.foldl (fun b w => b.slowMark (8 * w) 8) (b.slowWrite a (l.map (·.1)))

/-- A failed delivery (R359). -/
def Block.stageFault (b : Block) (c s : Nat) : Block :=
  let b := (b.nonfinite c s).2
  (b.bump Od.hazelStageFaults 0 1).raise 0x8392 c []

/-- BF16 elements delivered to the slow tier from a region offset on, as one write: how many lie in the region, and the tier with those stored (R358, R359). -/
def Block.deliver (b : Block) (c off : Nat) (vs : List (Nat × Bool)) : Nat × Block :=
  let fit := min vs.length (((b.region c).2 - off) / 2)
  let a := (b.region c).1 + off
  (fit, if fit = 0 then b else b.storeRun a ((vs.take fit).flatMap (fun v => (leBytes 2 v.1).map (fun y => (y, v.2)))))

/-- Does Hazel run tasks now (R341, R387)? -/
def Block.hazelRuns (b : Block) : Bool :=
  b.live && b.power != pwrPark && !b.hazel.stopped && b.slowTier == slInService

end Sys2Proof.Machine
end

