-- ==== Sys2Proof/Machine/Block.lean ====
section
/-! DEFINITION. State blocks in the slow tier: header, rule slot, arrays, and what Hazel's tasks read and write (R352, R353, R355, R382, R385). -/

namespace Sys2Proof.Machine

/-- The fields of a rule slot (R355). -/
structure Rule where
  wfmt : Nat
  mom : Nat
  second : Nat
  dir : Nat
  bias : Bool
  nest : Bool
  clip : Bool
  proot : Nat
  every : Nat
  lag : Nat
  niter : Nat
  b1 : F32
  a1 : F32
  b2 : F32
  a2 : F32
  eps : F32
  eps1 : F32
  wdC : F32
  wdD : F32
  bs : F32
  as_ : F32
  reserved : Bool
  deriving DecidableEq, Repr

def ruleOf (r : BitVec 512) : Rule :=
  let f := fun hi lo => bits r.toNat hi lo
  let w := fun hi lo => BitVec.ofNat 32 (f hi lo)
  { wfmt := f 511 510, mom := f 509 508, second := f 507 505, dir := f 504 503, bias := f 502 502 == 1, nest := f 501 501 == 1,
    clip := f 500 500 == 1, proot := 2 ^ f 499 498, every := f 495 480, lag := f 479 472, niter := f 471 464, b1 := w 463 432,
    a1 := w 431 400, b2 := w 399 368, a2 := w 367 336, eps := w 335 304, eps1 := w 303 272, wdC := w 271 240,
    wdD := w 239 208, bs := w 207 176, as_ := w 175 144, reserved := f 497 496 != 0 || f 143 0 != 0 }

/-- The header of a state block (R352). -/
structure Header where
  step : Nat
  rows : Nat
  cols : Nat
  table : Bool
  selL : Nat
  selR : Nat
  rootState : Nat
  due : Nat
  /-- Reserved bits as stored. -/
  rest : Nat
  deriving DecidableEq, Repr

def headerOf (h : Nat) : Header :=
  { step := bits h 511 448, rows := bits h 447 416, cols := bits h 415 384, table := bit h 383, selL := bits h 382 382,
    selR := bits h 381 381, rootState := bits h 380 379, due := bits h 319 256, rest := at' 320 (bits h 378 320) + bits h 255 0 }

def Header.num (h : Header) : Nat :=
  at' 448 h.step + at' 416 h.rows + at' 384 h.cols + at' 383 (if h.table then 1 else 0) + at' 382 h.selL + at' 381 h.selR
    + at' 379 h.rootState + at' 256 h.due + h.rest

/-- The arrays of a state block. -/
inductive Arr where
  | w | q | m | v | r | c | rs | sl | xl0 | xl1 | sr | xr0 | xr1 | ws | mark
  deriving DecidableEq, Repr

/-- The arrays present with their sizes in bytes, in order (R353). -/
def arrays (u : Rule) (h : Header) : List (Arr × Nat) :=
  let n := h.rows * h.cols
  let mx := max h.rows h.cols
  (if u.wfmt = 0 then [(.w, 4 * n)] else [(.w, 2 * n), (.q, n)])
    ++ (if u.mom = 1 then [(.m, 4 * n)] else if u.mom = 2 then [(.m, 2 * n)] else [])
    ++ (match u.second with
      | 1 => [(.v, 4 * n)]
      | 2 => [(.v, 2 * n)]
      | 3 => [(.r, 4 * h.rows), (.c, 4 * h.cols)]
      | 4 => [(.rs, 4 * h.rows)]
      | 5 => [(.sl, 4 * h.rows ^ 2), (.xl0, 4 * h.rows ^ 2), (.xl1, 4 * h.rows ^ 2), (.sr, 4 * h.cols ^ 2),
              (.xr0, 4 * h.cols ^ 2), (.xr1, 4 * h.cols ^ 2), (.ws, 4 * (3 * mx ^ 2 + n))]
      | _ => [])
    ++ (if h.table then [(.mark, 4 * h.rows)] else [])

/-- The next 4 KiB boundary. -/
def pageUp (a : Nat) : Nat := ceilDiv a 4096 * 4096

/-- Start of an array within its block, searching from offset `at`; and the end of the last array. -/
def placeOf (x : Arr) : Nat → List (Arr × Nat) → Nat
  | at_, [] => at_
  | at_, (y, n) :: r => if x = y then pageUp at_ else placeOf x (pageUp at_ + n) r

def endOf : Nat → List (Arr × Nat) → Nat
  | at_, [] => at_
  | at_, (_, n) :: r => endOf (pageUp at_ + n) r

/-- Offset of an array in its block. -/
def arrayAt (u : Rule) (h : Header) (x : Arr) : Nat := placeOf x 64 (arrays u h)

/-- Bytes of the whole block. -/
def blockSize (u : Rule) (h : Header) : Nat := endOf 64 (arrays u h)

/-- Reads the header at a region offset: none outside the region, with its poison. -/
def Block.header (b : Block) (c off : Nat) : Option (Header × Bool) :=
  if !b.inRegion c off 64 then none
  else let r := b.slowPeek ((b.region c).1 + off) 64; some (headerOf (ofLE r.1), r.2)

/-- The rule slot contents that lay out a block named by a GATHER or SCATTER_ADD (log entry 16). -/
def Block.blockRule (b : Block) (addr : Nat) : BitVec 512 :=
  match b.hazel.rules.find? (fun r => r.1 == addr) with
  | some r => r.2
  | none => Config.blockRule addr

def Block.ruleSlot (b : Block) (k : Nat) : BitVec 512 := BitVec.ofNat 512 (ofBE (b.oct Od.hazelRuleSlot (k + 1)))

/-- Columns of the block that a task names, 0 where it has no readable header. -/
def Block.colsOf (b : Block) (c off : Nat) : Nat :=
  match b.header c off with
  | some (h, false) => h.cols
  | _ => 0

/-- The index list of a ROWS task as a range (R385). -/
def idxExtent (d : Desc) : List (Nat × Nat) := if gsKind d = 0 then [(gsIdx d, gsIdx d + 4 * gsCount d)] else []

/-- Bytes of the device-memory side of a GATHER or SCATTER_ADD. -/
def Block.gsBytes (b : Block) (t : Task) : Nat :=
  if gsKind t.desc = 0 then gsCount t.desc * b.colsOf t.ctx (gsBlock t.desc) * (if gsFmt t.desc = 0 then 2 else 4)
  else if gsKind t.desc = 1 then gsCount t.desc
  else match b.header t.ctx (gsBlock t.desc) with
    | some (h, false) => 2 * h.rows * h.cols
    | _ => 0

/-- The range that a GATHER writes (R385, R380). -/
def Block.gatherDst (b : Block) (t : Task) : List (Nat × Nat) := [(gsVa t.desc, gsVa t.desc + b.gsBytes t)]

/-- The range that a SCATTER_ADD reads (R385). -/
def Block.scatterSrc (b : Block) (t : Task) : List (Nat × Nat) := idxExtent t.desc ++ [(gsVa t.desc, gsVa t.desc + b.gsBytes t)]

/-- A stage list is one of its context's lists from its first task on (R386). -/
def Block.noteStage (b : Block) (c off : Nat) : Block :=
  if b.hazel.stages.contains (c, off) then b else { b with hazel := { b.hazel with stages := b.hazel.stages ++ [(c, off)] } }

/-- LEN of the stage list that a task names, for the record of a SCATTER_ADD ROWS; 0 for another task or where the list leaves the region (R382, R385). -/
def Block.scatterLen (b : Block) (t : Task) : Nat :=
  if opcodeOf t.desc = opScatter ∧ gsKind t.desc = 0 ∧ b.inRegion t.ctx (gsStage t.desc) 4 then
    ofLE (b.slowPeek ((b.region t.ctx).1 + gsStage t.desc) 4).1
  else 0

/-- The unit-specific part of a GATHER or SCATTER_ADD record (R385). -/
def gsUnit (done cause va bad len : Nat) : Nat :=
  at' 216 (wrap 40 done) + at' 208 cause + at' 160 (wrap 48 va) + at' 128 (wrap 32 bad) + at' 96 (wrap 32 len)

end Sys2Proof.Machine
end

