-- ==== Sys2Proof/Machine/Service.lean ====
section
/-! DEFINITION. Which Plazas serve, and the Plaza map (R261, R409 to R411, R531, R533, R545). -/

namespace Sys2Proof.Machine

/-- Substitutes of a Plaza in the order of R261. -/
def substitutes (q : Nat) : List Nat :=
  let k := q / 2
  let pair := fun (n : Nat) => [2 * n, 2 * n + 1]
  [q ^^^ 1] ++ pair (k ^^^ 1) ++ pair (k ^^^ 2) ++ pair (k ^^^ 3)

/-- The physical Plaza of a logical one now (R261). -/
def Block.mapNow (b : Block) (p : Nat) : Nat := b.reg Od.dispPlazaMap (p + 1)

/-- The whole map now. -/
def Block.mapList (b : Block) : List Nat := (List.range 8).map b.mapNow

/-- The map that a context has taken. -/
def Block.ctxMap (b : Block) (c : Nat) : List Nat :=
  match b.disp.maps.find? (fun m => m.1 == c) with
  | some m => m.2
  | none => b.mapList

/-- The physical Plaza that a task of a context uses: its pass decides which map (R261), unless the Plaza is held with value 2 (R545). -/
def Block.mapFor (b : Block) (c pass p : Nat) : Nat :=
  let q := nth p (b.ctxMap c) p
  if pass = passNone || b.reg Od.plazaHold (q + 1) == 2 then b.mapNow p else q

/-- Changes the map; contexts keep what they had until they take the change (R261). -/
def Block.setMap (b : Block) (m : List Nat) : Block :=
  if m = b.mapList then b
  else
    let old := b.mapList
    let fresh := (List.range 64).filter (fun c => !b.disp.maps.any (fun e => e.1 == c))
    let b := { b with disp := { b.disp with maps := b.disp.maps ++ fresh.map (fun c => (c, old)) } }
    (m.zipIdx).foldl (fun b v => b.setReg Od.dispPlazaMap (v.2 + 1) v.1) b

/-- A context takes the map in force (R261, R121). -/
def Block.takeMap (b : Block) (c : Nat) : Block :=
  { b with disp := { b.disp with maps := b.disp.maps.filter (fun e => e.1 != c) } }

/-- The substitute of a Plaza that leaves service; none when no Plaza is in service (R261, R545). -/
def Block.substitute (b : Block) (q : Nat) : Option Nat := (substitutes q).find? (fun p => b.plaza p == plInService)

/-- Logical Plazas served by `q` move to its substitute. -/
def Block.remapAway (b : Block) (q : Nat) : Block :=
  match b.substitute q with
  | none => b
  | some r => b.setMap (b.mapList.map (fun p => if p = q then r else p))

/-- `q` serves its own logical Plaza again. -/
def Block.remapBack (b : Block) (q : Nat) : Block :=
  b.setMap ((b.mapList.zipIdx).map (fun v => if v.2 = q then q else v.1))

/-- A Plaza leaves service for a new state and is remapped. -/
def Block.leaveService (b : Block) (q st : Nat) : Block := (b.setPlaza q st).remapAway q

/-- A Plaza returns to service. -/
def Block.returnService (b : Block) (q : Nat) : Block :=
  if b.service = svcLimited then b.setPlaza q plLimited else (b.setPlaza q plInService).remapBack q

/-- Does a Plaza hold a task, or a set of one that has yet to drain? -/
def Block.plazaHolds (b : Block) (q : Nat) : Bool :=
  b.disp.tasks.any (fun t => t.isRunning && t.unit == q && (opcodeOf t.desc == opMatmul || opcodeOf t.desc == opDist))
    || b.plz.drains.any (fun j => j.plaza == q)

/-- Does a Plaza hold a task or an open sample (R411)? A sample is open until its dispute settles. -/
def Block.plazaBusy (b : Block) (q : Nat) : Bool := b.plazaHolds q || b.ras.samples.any (fun s => s.plaza == q && s.stage != 3)

/-- A Plaza holds the place of the module's one test (R410). -/
def Block.testPlace (b : Block) : Bool :=
  (List.range 8).any (fun p => b.plaza p == plTesting) || b.ras.tests.any (·.draining)

/-- The Plaza of a due test starts to drain for it when no other holds the place (R410, R411). -/
def Block.drainForTest (b : Block) (q : Nat) : Block :=
  if b.testPlace || b.plaza q != plInService then b
  else
    let b := { b with ras := { b.ras with tests := b.ras.tests.map (fun (x : Test) => if x.plaza == q then { x with draining := true } else x) } }
    b.leaveService q plDraining

/-- At a step boundary of a context, the Plazas it has used that have a test due start to drain (R411). -/
def Block.boundaryTests (b : Block) (c : Nat) : Block :=
  let qs := (b.ras.tests.filter (fun x => decide (x.due ≤ b.dt) && !x.draining && b.disp.used.contains (c, x.plaza))).map (·.plaza)
  let b := qs.foldl (fun b q => b.drainForTest q) b
  let now := (b.disp.tasks.filter (fun t => t.ctx == c && t.isRunning && passOf t.desc != passNone
    && (opcodeOf t.desc == opMatmul || opcodeOf t.desc == opDist))).map (fun t => (c, t.unit))
  { b with disp := { b.disp with used := b.disp.used.filter (fun u => u.1 != c) ++ now.dedup } }

end Sys2Proof.Machine
end

