-- ==== Sys2Proof/Machine/Units.lean ====
section
/-! DEFINITION. How transfers, Plaza tasks and VECTOR tasks end early, and what that does to the ports between them (R61, R111, R215, R219, R227 to R231). -/

namespace Sys2Proof.Machine

/-! ### The end of a transfer -/

/-- Elements of a transfer; one where its shape is not known, so that a task which waits for them ends (log entry 52). -/
def Task.total (t : Task) : Nat := if t.shapeRaw.isSome then t.moves.length else 1

/-- The ports of an XFER with their physical units (R203, R214). -/
def Block.xferPorts (b : Block) (t : Task) (x : Xfer) : List PortId :=
  let units := ((List.range 8).filter (bit x.mcast)).map (fun p => b.mapFor t.ctx (passOf t.desc) p)
  if x.xop > 1 then []
  else if x.src = 1 then units.map (fun u => ⟨u, kindOP, x.port⟩)
  else if x.dst = 4 then units.map (fun u => ⟨u, kindSP, x.port⟩)
  else if x.isFeed then units.map (fun u => ⟨u, x.dst - 1, x.port⟩)
  else []

/-- The XFER whose ports and options a task uses: the armed one for a REARM (R221). -/
def Block.xferOptions (b : Block) (t : Task) : Xfer :=
  let x := xferOf t.desc
  if x.xop = 1 then
    match b.arming t.ctx x with
    | some p => xferOf p.1
    | none => { x with xop := 2 }
  else x

/-- A transfer is queued on its ports, oldest first (R211, R212). -/
def Block.joinPorts (b : Block) (t : Task) (ports : List PortId) : Block :=
  { b with plz := { b.plz with ports := b.plz.ports ++ ports.map (fun (p : PortId) => (⟨p, t.ticket, t.ctx, [], false, 0, 0, 0, 0⟩ : PortEntry)) } }

/-- A feed that never runs is missing on its ports, so that no task takes the elements of the next one in their place (R231; log entry 53). -/
def Block.breakPorts (b : Block) (t : Task) (ports : List PortId) (status : Nat) : Block :=
  { b with plz := { b.plz with ports := b.plz.ports ++ ((ports.filter (fun p => p.kind != kindOP && t.total != 0)).map
      (fun (p : PortId) => (⟨p, t.ticket, t.ctx, [], true, status, 0, t.total, 0⟩ : PortEntry))) } }

/-- Does a transfer deliver to ports? -/
def Xfer.toPorts (x : Xfer) : Bool := x.isFeed || x.dst == 4

/-- The places of a transfer on the ports of destinations that have not taken all of it. -/
def Block.feeding (b : Block) (t : Nat) : List PortEntry :=
  b.plz.ports.filter (fun e => e.ticket == t && e.port.kind != kindOP && e.status == 0)

/-- Elements delivered (R227): to ports, those that every destination has taken. -/
def Block.delivered (b : Block) (x : Task) : Nat :=
  if !x.xfer.toPorts then x.flow.pos
  else match b.feeding x.ticket with
    | [] => x.flow.pos
    | e :: r => r.foldl (fun n f => min n f.taken) e.taken

/-- Bytes that a destination has staged and not taken (R217). -/
def Task.waiting (t : Task) (e : PortEntry) : Nat := t.span e.taken e.elems.length

/-- Bytes that a transfer has read ahead of its slowest destination (R215, R217). -/
def Block.ahead (b : Block) (x : Task) : Nat := ((b.feeding x.ticket).map x.waiting).foldl max 0

/-- A port entry at the end of its transfer: a drain leaves; of a feed nothing more comes, what was staged is discarded, and what is missing stays missing (R212, R219, R231). -/
def Task.leavePort (x : Task) (status : Nat) (e : PortEntry) : List PortEntry :=
  if e.ticket != x.ticket || e.status != 0 then [e]
  else
    let miss := x.total - e.taken
    if e.port.kind = kindOP ∨ status = sOK ∨ miss = 0 then [] else [{ e with elems := [], done := true, status := status, missing := miss }]

def Block.leavePorts (b : Block) (x : Task) (status : Nat) : Block :=
  { b with plz := { b.plz with ports := b.plz.ports.flatMap (x.leavePort status) } }

/-- A COPY with PERSIST that completes arms or replaces its stream; one that did not run has no contents to keep (R220). -/
def Block.arm (b : Block) (t : Task) (status : Nat) : Block :=
  let x := xferOf t.desc
  match t.shape with
  | some (.ok raw) =>
    if x.xop = 0 ∧ x.persist ∧ status ≠ sTainted then
      { b with se := { b.se with streams := b.se.streams.filter (fun p => !(p.engine == t.unit && p.num == x.stream))
          ++ [⟨t.unit, x.stream, t.ctx, t.desc, raw⟩] } }
    else b
  | _ => b

/-- What the end of a transfer does to the taint table and to a delivery (R229, R232, R359). -/
def Block.xferMark (b : Block) (x : Task) (status origin : Nat) : Block :=
  if status = sOK then (if x.xfer.dst = 0 ∧ x.xfer.dmode ≠ 1 then b.untaint x.ctx x.xferExtents.2 else b)
  else
    let b := b.addTaint x.ctx origin x.xferExtents.2
    if x.xfer.dst = 5 then b.stageFault x.ctx x.step else b

/-- Ends a transfer: its record's report, the end of its places on ports with the discard of what is staged, the stream that it arms, and the taint (R219, R220, R227 to R232). -/
def Block.endXfer (b : Block) (t status : Nat) (coords : List Nat) (cause va origin : Nat) : Block :=
  match b.task? t with
  | none => b
  | some x =>
    if !x.isRunning then b
    else
      let done := b.delivered x
      let report := if status = sOK then wrap 48 done else reportBits coords cause va origin done
      let b := b.bump Od.sePrefetchDiscardBytes (x.unit + 1) (b.ahead x)
      (((b.leavePorts x status).endTask t status report).arm x status).xferMark x status origin

/-- A faulting transfer also raises 0x8350 and fills CTX_LAST_FAULT (R227). -/
def Block.faultXfer (b : Block) (t : Nat) (coords : List Nat) (cause va : Nat) : Block :=
  match b.task? t with
  | none => b
  | some x =>
    let report := reportBits coords cause va t (b.delivered x)
    ((b.setOct Od.ctxLastFault (x.ctx + 1) (beBytes 4 t ++ beBytes 32 report)).raise 0x8350 x.ctx []).endXfer
      t (causeStatus cause) coords cause va t

/-- A transfer that consumes a poisoned shape or table word (R393). -/
def Block.poisonXfer (b : Block) (t : Nat) (coords : List Nat) (va : Nat) : Block :=
  match b.task? t with
  | none => b
  | some x => (b.consumePoison x.ctx t).endXfer t sPoisoned coords 0 va t

/-- Ends an XFER by an abort: cause 0, ORIGIN itself (R228, R229). -/
def Block.abortXfer (b : Block) (t : Task) : Block := b.endXfer t.ticket sAborted [] 0 0 t.ticket

/-! ### Destinations of feeds -/

/-- A transfer has read all that it will, and what its last destination wanted is taken: it ends OK, or TAINTED where its source has become tainted (R211, R214, R227, R230). -/
def Block.feedDone (b : Block) (x : Task) : Block :=
  if !x.isRunning || !(b.feeding x.ticket).isEmpty then b
  else match b.xferTaint x with
    | some (cause, origin) => b.endXfer x.ticket sTainted [] cause 0 origin
    | none => b.endXfer x.ticket sOK [] 0 0 0

/-- One destination of a transfer has taken every element. -/
def Block.feedServed (b : Block) (t : Nat) : Block :=
  let b := b.setTask t (fun y => { y with flow := { y.flow with served := y.flow.served + 1 } })
  match b.task? t with
  | some x => b.feedDone x
  | none => b

/-- What a destination takes of one queue entry is delivered: its bytes, the MX blocks received with scale 0xFF, one for each delivery of a block to a destination (log entry 53), and the end of the transfer there (R91, R211, R235). -/
def Block.received (b : Block) (e : PortEntry) (n : Nat) : Block :=
  let k := min n e.elems.length
  match b.task? e.ticket with
  | none => b
  | some x =>
    let ms := (x.moves.drop e.taken).take k
    let nan := ((ms.zip e.elems).filter (fun p => x.xfer.scaled && p.1.first && p.2.scale == 255)).length
    let b := (b.bump Od.seBytesDelivered (x.unit + 1) (ceilDiv (x.xfer.nibbles ms) 2)).bump Od.mxNanBlockCount 4 nan
    if e.done && e.status == 0 && decide (e.elems.length ≤ k) then b.feedServed e.ticket else b

/-- `n` elements taken from a port's entries, entry by entry. -/
def Block.receivedAll (b : Block) : Nat → List PortEntry → Block
  | _, [] => b
  | n, e :: r => (b.received e n).receivedAll (n - min n e.elems.length) r

/-- A consumer takes `n` elements from a port (R211). -/
def Block.takeElems (b : Block) (p : PortId) (n : Nat) : Block := (b.takeRaw p n).receivedAll n (b.queue p)

/-- What a transfer still has for a destination, or will not have any more. -/
def Block.entryRest (b : Block) (e : PortEntry) : Nat :=
  if e.status != 0 then e.missing
  else match b.task? e.ticket with
    | some x => x.total - e.taken
    | none => 0

/-- One transfer loses a destination whose consumer ended (R215, R219): it goes on for the others, those among them that have taken all, or ends ABORTED where none is left. -/
def Block.dropDest (b : Block) (consumer : Nat) (e : PortEntry) : Block :=
  match b.task? e.ticket with
  | none => b
  | some x =>
    let others := (b.feeding e.ticket).filter (fun y => y.port != e.port)
    if others.isEmpty && x.flow.served == 0 then b.endXfer e.ticket sAborted [] 10 0 consumer
    else
      let lost := x.waiting e - (others.map x.waiting).foldl max 0
      let b := { b with plz := { b.plz with ports := b.plz.ports.filter (fun y => !(y.port == e.port && y.ticket == e.ticket)) } }
      ((b.bump Od.sePrefetchDiscardBytes (x.unit + 1) lost).raise 0x4352 x.ctx []).feedDone x

/-- How many of `n` elements each transfer of a queue would have brought, from the tickets and what each still had. -/
def shares : Nat → List (Nat × Nat) → List (Nat × Nat)
  | _, [] => []
  | n, e :: r => (e.1, min n e.2) :: shares (n - min n e.2) r

/-- Missing elements that are no longer awaited, by ticket; a transfer none of whose elements is awaited leaves (R231). -/
def forget (p : PortId) (gone : List (Nat × Nat)) (e : PortEntry) : List PortEntry :=
  if e.port != p || e.status == 0 then [e]
  else
    let u := sget 0 gone e.ticket
    if e.missing ≤ u then [] else [{ e with missing := e.missing - u }]

/-- A consumer bound to a feed or stream input port ended when it still lacked `n` elements: every transfer queued there loses the destination, and no later task awaits the elements that it lacked (R61, R219, R231). -/
def Block.dropPort (b : Block) (consumer : Nat) (p : PortId) (n : Nat) : Block :=
  let q := b.queue p
  let gone := shares n (q.map (fun e => (e.ticket, b.entryRest e)))
  let b := (q.filter (fun e => e.status == 0)).foldl (fun b e => b.dropDest consumer e) b
  { b with plz := { b.plz with ports := b.plz.ports.flatMap (forget p gone) } }

/-- The status with which a consumer ends when a feed ended early with `st` (R231). -/
def feedStatus (st : Nat) : Nat := if st = sPageFault then sAddrFault else st

/-- The early end that what a task would take imposes, from its ports with the place of their elements and the number wanted: poison taken comes first, then the first port whose feed ended (R60, R111, R231, R393; log entry 53). -/
def Block.takeFault (b : Block) (l : List (PortId × Nat × Nat)) : Option Nat :=
  if l.any (fun u => ((portElems (b.queue u.1)).take u.2.2).any (·.poison)) then some sPoisoned
  else (l.findSome? (fun u => portBroken u.2.2 (b.queue u.1))).map (fun r => feedStatus r.1)

/-- A task takes what a port holds of the elements that it wants (R36, R211). -/
def Block.takeInto (b : Block) (t : Nat) (u : PortId × Nat × Nat) : Block :=
  let q := b.queue u.1
  let av := (portElems q).take u.2.2
  if av.isEmpty then b
  else
    let k := b.intake t
    (b.takeElems u.1 av.length).setIntake t { k with
      bufs := k.bufs.modify u.2.1 (· ++ av), got := k.got.modify u.2.1 (· + av.length), heard := k.heard.modify u.2.1 (max · (portHeard q)) }

/-! ### Plaza tasks -/

/-- The tiles of a task in the order it visits them: tile row, tile column (R37). -/
def MM.visit (x : MM) : List (Nat × Nat) :=
  if x.order = 0 then (List.range x.tileRows).flatMap (fun i => (List.range x.tileCols).map (fun j => (i, j)))
  else (List.range x.tileCols).flatMap (fun j => (List.range x.tileRows).map (fun i => (i, j)))

/-- Valid rows and columns of a tile. -/
def MM.rowsIn (x : MM) (i : Nat) : Nat := min (32 * x.h) (x.m - 32 * x.h * i)
def MM.colsIn (x : MM) (j : Nat) : Nat := min (32 * x.w) (x.n - 32 * x.w * j)

/-- Does a tile take new held rows? In the resident dataflow only the first tile of a tile column does (R36). -/
def MM.takesH (x : MM) (t : Nat × Nat) : Bool := !x.hold || t.1 == 0

/-- Elements that a tile takes from the S, H and C feeds. -/
def MM.tileNeeds (x : MM) (t : Nat × Nat) : List Nat :=
  [x.rowsIn t.1 * x.k, if x.takesH t then x.colsIn t.2 * x.k else 0, if x.init = 1 then x.rowsIn t.1 * x.colsIn t.2 else 0]

/-- Elements that a task takes from its S, H and C feeds. -/
def MM.needs (x : MM) : List Nat :=
  (List.range 3).map (fun i => ((x.visit).map (fun t => nth 0 (x.tileNeeds t) i)).sum)

/-- The feed ports that a Plaza task binds (R44). -/
def feedPorts (p : Nat) (x : MM) : List PortId :=
  [⟨p, kindS, x.sPort⟩, ⟨p, kindH, x.hPort⟩] ++ (if x.init = 1 then [⟨p, kindC, x.cPort⟩] else [])

/-- The blocks of a rectangle, row by row. -/
def rectBlocks (r : Nat × Nat × Nat × Nat) : List Nat :=
  (List.range r.2.2.1).flatMap (fun i => (List.range r.2.2.2).map (fun j => 12 * (r.1 + i) + r.2.1 + j))

/-- The fill pattern runs on the given blocks only, with the given watts (R451). -/
def Block.setFill (b : Block) (blocks : List Nat) (w : Nat) : Block :=
  { b with gov := { b.gov with fill := blocks, fillW := if blocks = [] then 0 else w } }

/-- The fill pattern stops on the blocks of a rectangle on which a task starts (R451). -/
def Block.stopFill (b : Block) (p : Nat) (r : Nat × Nat × Nat × Nat) : Block :=
  b.setFill (b.gov.fill.filter (fun u => !(rectBlocks r).any (fun k => unitCode p k == u))) b.gov.fillW

/-- Key of an accumulator set. -/
def setKey (p block set : Nat) : Nat := (p * 144 + block) * 16 + set

def Block.accSet (b : Block) (p block set : Nat) : AccSet := sget AccSet.empty b.plz.sets (setKey p block set)

def Block.setAcc (b : Block) (p block set : Nat) (v : AccSet) : Block :=
  { b with plz := { b.plz with sets := sset AccSet.empty b.plz.sets (setKey p block set) v } }

/-- Clears the named sets of a rectangle's blocks and erases their records (R33, R61). -/
def Block.clearSets (b : Block) (p : Nat) (r : Nat × Nat × Nat × Nat) (aset ns : Nat) : Block :=
  { b with plz := { b.plz with sets := b.plz.sets.filter (fun e =>
      !((rectBlocks r).any (fun k => decide (setKey p k aset ≤ e.1 ∧ e.1 < setKey p k aset + ns)))) } }

/-- Unit-specific part of a Plaza task's record (R245). -/
def plazaUnit (t : Task) : Nat := at' 252 t.rect.1 + at' 248 t.rect.2.1 + at' 244 t.unit

/-- A sample's count in its gate bank is released (R405, R407). -/
def Block.releaseSample (b : Block) (x : Sample) : Block := if x.detached then b else b.setGate x.ctx ((b.gate x.ctx).closed x.bank)

/-- The samples of a task that ends before their comparison settle clean (R399). -/
def Block.settleEnded (b : Block) (ticket : Nat) : Block :=
  let mine := b.ras.samples.filter (fun x => x.ticket == ticket && x.stage == 0)
  let b := mine.foldl (fun b x => b.releaseSample x) b
  { b with ras := { b.ras with samples := b.ras.samples.filter (fun (x : Sample) => !(x.ticket == ticket && x.stage == 0)) } }

/-- A drained set, tagged where its task aborts (R61, R111). -/
def Drained.abort (t : Nat) (d : Drained) : Drained := if d.ticket = t then { d with aborted := true } else d

/-- What the ports of a task still owe it, port by port. -/
def Block.lacks (b : Block) (t : Task) (ports : List PortId) (needs : List Nat) : List (PortId × Nat) :=
  let got := (b.intake t.ticket).got
  ((ports.zip needs).zipIdx).map (fun e => (e.1.1, e.1.2 - nth 0 got e.2))

/-- Ends a Plaza task early (R61); the tiles that had drained stay, tagged as aborted, in the queue and with the tasks that have taken them. -/
def Block.abortPlaza (b : Block) (t : Task) (status : Nat) : Block :=
  let x := mmOf t.desc
  let owed := b.lacks t (feedPorts t.unit x) x.needs
  let b := (b.endTask t.ticket status (plazaUnit t)).dropIntake t.ticket
  let b := { b with plz := { b.plz with
      drains := b.plz.drains.filter (fun j => j.set_.ticket != t.ticket),
      queues := b.plz.queues.map (fun (q : QueuedSet) => { q with set_ := q.set_.abort t.ticket }),
      gathered := b.plz.gathered.map (fun (g : Nat × Drained) => (g.1, g.2.abort t.ticket)) } }
  let b := (b.clearSets t.unit t.rect x.aset x.ns).settleEnded t.ticket
  owed.foldl (fun b p => b.dropPort t.ticket p.1 p.2) b

/-- A Plaza task aborts under R60. -/
def Block.faultPlaza (b : Block) (t : Task) (status : Nat) : Block :=
  (b.abortPlaza t status).bump Od.plazaTaskAborts (t.unit + 1) 1

/-! ### VECTOR tasks -/

/-- Elements of C that an operation takes (R98, R103). -/
def Vec.cCount (v : Vec) : Nat :=
  if !v.cEn then 0 else if v.op = 0x10 then v.rows else if v.op = 0x0A then 2 * v.len else v.len

/-- The stream input ports that a VECTOR task binds (R93), in the order X, Z, C, each with the place of its elements in the intake and the number of them. -/
def Vec.takes (v : Vec) (p : Nat) : List (PortId × Nat × Nat) :=
  (if v.srcX = 1 then [(⟨p, kindSP, v.xPort⟩, 0, v.rows * v.len)] else [])
    ++ (if v.zEn then [(⟨p, kindSP, v.zPort⟩, 1, v.rows * v.len)] else [])
    ++ (if v.cEn then [(⟨p, kindSP, v.cPort⟩, 2, v.cCount)] else [])

def inPorts (p : Nat) (v : Vec) : List PortId := (v.takes p).map (·.1)

/-- The stream output ports that a VECTOR task binds. -/
def outPorts (p : Nat) (v : Vec) : List PortId :=
  [⟨p, kindOP, v.yPort⟩] ++ (if v.y2En then [⟨p, kindOP, v.y2Port⟩] else [])

/-- Unit-specific part of a VECTOR task's record (R245). -/
def vectorUnit (t : Task) : Nat := at' 244 t.unit

/-- Every transfer queued on the output ports of a VECTOR task that does not end OK completes TAINTED with cause 11 (R231). -/
def Block.taintOuts (b : Block) (t : Task) : Block :=
  ((outPorts t.unit (vecOf t.desc)).flatMap b.queue).foldl (fun b e => b.endXfer e.ticket sTainted [] 11 0 t.ticket) b

/-- Ends a VECTOR task with a status other than OK: what it holds is discarded, the transfers queued on its output ports end, its input queues are dropped (R111, R231). -/
def Block.failVector (b : Block) (t : Task) (status : Nat) : Block :=
  let got := (b.intake t.ticket).got
  let owed := ((vecOf t.desc).takes t.unit).map (fun u => (u.1, u.2.2 - nth 0 got u.2.1))
  let b := (b.endTask t.ticket status (vectorUnit t)).dropIntake t.ticket
  let b := { b with plz := { b.plz with outs := b.plz.outs.filter (fun o => o.ticket != t.ticket),
                                         gathered := b.plz.gathered.filter (fun g => g.1 != t.ticket) } }
  owed.foldl (fun b p => b.dropPort t.ticket p.1 p.2) (b.taintOuts t)

end Sys2Proof.Machine
end

