-- ==== Sys2Proof/Machine/Virt.lean ====
section
/-! DEFINITION. Byte ranges of a context's virtual memory, page by page (R224, R226, R393). -/

namespace Sys2Proof.Machine

/-- Bytes at a physical address with the poison of each. -/
def Block.bytesAt (b : Block) (pa n : Nat) : List (Byte × Bool) :=
  (List.range n).map (fun i => (nth 0 (b.readPhys (pa + i) 1).1 0, (b.readPhys (pa + i) 1).2))

/-- What a range access ended with: all of it, or a cause and address after some bytes. -/
inductive Ended where
  | all
  | fault (cause va : Nat)
  | poison (va : Nat)
  deriving DecidableEq, Repr

/-- Reads bytes from a virtual address on; `fuel` bounds the pages. -/
def Block.readVirt (b : Block) (c : Nat) : Nat → Nat → Nat → List (Byte × Bool) × Ended
  | 0, _, _ => ([], .all)
  | k + 1, va, n =>
    if n = 0 then ([], .all)
    else if va ≥ 2 ^ 48 then ([], .fault 6 va)
    else match b.walk c va false false with
      | .fail e => ([], .fault e va)
      | .poison => ([], .poison va)
      | .ok pa =>
        let m := min n (pageSize - va % pageSize)
        let r := b.readVirt c k (va + m) (n - m)
        (b.bytesAt pa m ++ r.1, r.2)

/-- Writes bytes from a virtual address on, for a unit on Borough `from_` if on any; poisoned bytes are stored poisoned. The number is of the bytes written. -/
def Block.writeVirt (b : Block) (from_ : Option Nat) (c : Nat) : Nat → Nat → List (Byte × Bool) → Block × Nat × Ended
  | 0, _, _ => (b, 0, .all)
  | k + 1, va, v =>
    if v.isEmpty then (b, 0, .all)
    else if va ≥ 2 ^ 48 then (b, 0, .fault 6 va)
    else match b.walk c va true false with
      | .fail e => (b.countWalk from_ c va, 0, .fault e va)
      | .poison => (b.countWalk from_ c va, 0, .poison va)
      | .ok pa =>
        let m := min v.length (pageSize - va % pageSize)
        let part := v.take m
        let b := ((b.countWalk from_ c va).countAcross from_ pa m).writePhys pa (part.map (·.1))
        let ws := (((part.zipIdx).filter (fun x => x.1.2)).map (fun x => (pa + x.2) / 8)).dedup
        let b := ws.foldl (fun b w => b.poisonPhys (8 * w) 8) b
        let r := b.writeVirt from_ c k (va + m) (v.drop m)
        (r.1, m + r.2.1, r.2.2)

/-- Counts the bytes read of a range and the table entries that its pages take, page by page up to the first that fails to translate (R168, R200, R224). -/
def Block.countVirt (b : Block) (from_ : Option Nat) (c : Nat) : Nat → Nat → Nat → Block
  | 0, _, _ => b
  | k + 1, va, n =>
    if n = 0 ∨ va ≥ 2 ^ 48 then b
    else match b.walk c va false false with
      | .ok pa =>
        let m := min n (pageSize - va % pageSize)
        (((b.countWalk from_ c va).countRead pa m).countAcross from_ pa m).countVirt from_ c k (va + m) (n - m)
      | _ => b.countWalk from_ c va

/-- Pages that a range may touch. -/
def pagesOf (n : Nat) : Nat := n / pageSize + 2

end Sys2Proof.Machine
end

