-- ==== Sys2Proof/Machine/Stream.lean ====
section
/-! DEFINITION. XFER tasks on the Stream Engines: COPY, REARM, RELEASE and INVAL (R203 to R234, R569). -/

namespace Sys2Proof.Machine

/-! ### Addresses (R206) -/

/-- Is a coordinate inside the windows? -/
def Shape.inside (s : Shape) (i : List Nat) : Bool :=
  let u := (nth 0 i 1 : Int) + s.wmulU * (nth 0 i 3 : Int) + s.loU
  let v := (nth 0 i 2 : Int) + s.wmulV * (nth 0 i 4 : Int) + s.loV
  (s.extU == 0 || decide (0 ≤ u ∧ u < s.extU)) && (s.extV == 0 || decide (0 ≤ v ∧ v < s.extV))

/-- The address of a coordinate in half bytes. -/
def nibbleAddr (base fmt : Nat) (strides : List Int) (i : List Nat) : Int :=
  2 * (base : Int) + (nth 0 i 0 * elemNibbles fmt : Nat)
    + 2 * (((i.drop 1).zip strides).map (fun p => (p.1 : Int) * p.2)).sum

/-- Cause 6 (R208): a misaligned address or one outside 48 bits. -/
def badAddr (fmt : Nat) (na : Int) : Bool :=
  let z := elemNibbles fmt
  decide (na < 0) || decide (na ≥ 2 * 2 ^ 48) || (z > 1 && na % (z : Int) != 0)

/-! ### Translation by an engine (R225 to R227) -/

/-- What stops a transfer: a fault cause with its address, or a poisoned table word (R226, R393). -/
inductive Stop where
  | fault (cause va : Nat)
  | poison (va : Nat)
  deriving DecidableEq, Repr

/-- The outcome of a walk as a transfer takes it. -/
def Walk.taken (va : Nat) : Walk → Except Stop Nat
  | .ok pa => .ok pa
  | .fail k => .error (.fault k va)
  | .poison => .error (.poison va)

def tlbDepth : Nat := 2048

/-- An engine keeps a valid entry; the one that it has held longest gives way (R225). -/
def Block.keepPage (b : Block) (engine c va : Nat) : Block :=
  match b.pageEntry c va with
  | none => b
  | some e =>
    let mine := (b.se.tlb.filter (fun (x : TlbEntry) => x.engine == engine)).take (tlbDepth - 1)
    { b with se := { b.se with tlb := ⟨engine, c, va / pageSize, e.1, e.2⟩ :: (mine ++ b.se.tlb.filter (fun (x : TlbEntry) => x.engine != engine)) } }

/-- A miss and its table reads are counted (R225). -/
def Block.countMiss (b : Block) (engine c va : Nat) : Block :=
  ((b.walkReads c va).foldl (fun b a => b.countReadFrom (engine / 4) a 8) b).bump Od.seTlbMisses (engine + 1) 1

/-- Translates for an element: by the entry that the engine holds, without a read of a table, or by a walk (R225 to R227). -/
def Block.translate (b : Block) (engine c va : Nat) (write adding : Bool) : Block × Except Stop Nat :=
  match b.cached engine c va with
  | some e => (b, (b.useFrame va e.frame e.write write adding).taken va)
  | none => ((b.countMiss engine c va).keepPage engine c va, (b.walk c va write adding).taken va)

/-- Counts the read of a transfer's shape record (R205, R225). -/
def Block.countShape (b : Block) (engine c va : Nat) : Block :=
  let r := b.translate engine c va false false
  match r.2 with
  | .ok pa => r.1.countReadFrom (engine / 4) pa 64
  | .error _ => r.1

/-- The read of its shape record by a COPY, once (R205). -/
def Block.readsShape (b : Block) (t : Task) : Block :=
  if (xferOf t.desc).xop = 0 ∧ !t.flow.begun then
    (b.countShape t.unit t.ctx (xferOf t.desc).shape).setTask t.ticket (fun y => { y with flow := { y.flow with begun := true } })
  else b

/-! ### Reading one element -/

/-- Bytes by which an element's read or write is counted: a byte that two half-byte elements share counts with the first. -/
def countedBytes (fmt half : Nat) : Nat := if elemNibbles fmt = 1 then 1 - half else elemNibbles fmt / 2

/-- The encoding of an element in the bytes that hold it. -/
def elemIn (fmt half w : Nat) : Nat := if elemNibbles fmt = 1 then bits w (4 * half + 3) (4 * half) else w

/-- Reads the element of format `fmt` at a half-byte virtual address: its encoding and poison. -/
def Block.readElem (b : Block) (engine c fmt : Nat) (na : Int) : Block × Except Stop (Nat × Bool) :=
  if badAddr fmt na then (b, .error (.fault 6 (na / 2).toNat))
  else
    let n := na.toNat
    let r := b.translate engine c (n / 2) false false
    match r.2 with
    | .error e => (r.1, .error e)
    | .ok pa =>
      let v := r.1.readPhys pa (ceilDiv (elemNibbles fmt) 2)
      let k := countedBytes fmt (n % 2)
      ((r.1.countReadFrom (engine / 4) pa k).bump Od.seBytesRead (engine + 1) k, .ok (elemIn fmt (n % 2) (ofLE v.1), v.2))

/-- Reads an element of the slow tier at a half-byte offset in the context's region (R569). -/
def Block.readSlowElem (b : Block) (t : Task) (fmt : Nat) (na : Int) : Block × Except Stop (Nat × Bool) :=
  let n := ceilDiv (elemNibbles fmt) 2
  let off := na.toNat / 2
  if badAddr fmt na then (b, .error (.fault 6 (na / 2).toNat))
  else if !b.inRegion t.ctx off n then (b, .error (.fault 4 off))
  else
    let v := b.slowPeek ((b.region t.ctx).1 + off) n
    let k := countedBytes fmt (na.toNat % 2)
    ((b.slowCount k).bump Od.seBytesRead (t.unit + 1) k, .ok (elemIn fmt (na.toNat % 2) (ofLE v.1), v.2))

/-! ### Writing one element -/

/-- Half bytes written into a poisoned word are kept until the transfer has covered the word (R163, R393): the transfer's progress, and the word once it is covered. -/
def Flow.cover (f : Flow) (word k z v : Nat) : Flow × Option Nat :=
  let new := (List.range z).map (fun i => (word, k + i, bits v (4 * i + 3) (4 * i)))
  let pend := f.pend.filter (fun e => !(e.1 == word && decide (k ≤ e.2.1 ∧ e.2.1 < k + z))) ++ new
  let mine := pend.filter (fun e => e.1 == word)
  if mine.length = 16 then
    ({ f with pend := pend.filter (fun e => e.1 != word) }, some ((mine.map (fun e => e.2.2 * 16 ^ e.2.1)).sum))
  else ({ f with pend := pend }, none)

/-- Nothing is kept for a word that has become poisoned anew. -/
def Flow.spoil (f : Flow) (word : Nat) : Flow := { f with pend := f.pend.filter (fun e => e.1 != word) }

/-- Half bytes stored at a physical address: whole bytes, or one half of a byte whose other half stays (R152). -/
def Block.putNibbles (b : Block) (pa half z v : Nat) : Block :=
  if z = 1 then
    let old := if (terraceOf pa).isSome then (b.mem.byte pa).toNat else (sget 0#8 b.mem.data pa).toNat
    b.storePhys pa (leBytes 1 (if half = 0 then old / 16 * 16 + v % 16 else v % 16 * 16 + old % 16))
  else b.storePhys pa (leBytes (z / 2) v)

/-- A poisoned word replaced whole (R163). -/
def Block.replaceWord (b : Block) (word v : Nat) : Block :=
  { b with mem := (b.mem.setPoison word false).putBytes (8 * word) (leBytes 8 v) }

/-- A plain element written (R152, R163, R206). -/
def Block.putElem (b : Block) (f : Flow) (fmt pa half v : Nat) (poison : Bool) : Block × Flow :=
  let z := elemNibbles fmt
  let b := b.countWrite pa (countedBytes fmt half)
  if poison then ((b.putNibbles pa half z v).poisonPhys pa (ceilDiv z 2), f.spoil (pa / 8))
  else if (terraceOf pa).isSome && b.mem.poisoned (pa / 8) then
    let r := f.cover (pa / 8) (2 * (pa % 8) + half) z v
    match r.2 with
    | some w => (b.replaceWord (pa / 8) w, r.1)
    | none => (b, r.1)
  else (b.putNibbles pa half z v, f)

/-- The result of an adding or initializing write of one element (R157, R158): the stored encoding, and a saturation. -/
def accResult (add bf16 : Bool) (fmt : Nat) (old v : Nat) (u : Nat) : Nat × Bool :=
  let e := widen fmt v
  if add then
    let r := fadd (if bf16 then bf16to32 old else BitVec.ofNat 32 old) e
    if bf16 then srBF16 r u else (r.toNat, false)
  else if bf16 then (if fmt = 0 then (v, false) else srBF16 e u)
  else if fmt = 0 then (e.toNat, false) else (v, false)

/-- A stored accumulator element that is not finite; each element counts for itself (R162, log entry 46). -/
def Block.accTest (b : Block) (t : Task) (bf16 : Bool) (terr v : Nat) : Block :=
  if (if bf16 then (fmtBF16.decode v).isFinite else (fmt32.decode v).isFinite) then b
  else
    let q := b.nonfinite t.ctx t.step
    let b := q.2.bump Od.terraceAccNonfinite terr 1
    if q.1 then b.raise 0x4332 t.ctx [] else b

/-- An adding or initializing write at a Terrace address (R157 to R163); the bank adder consumes a poisoned element, and a poisoned word it adds to (R393). A write that leaves its word poisoned is no non-finite result (log entry 46). -/
def Block.accElem (b : Block) (f : Flow) (t : Task) (x : Xfer) (pa e v : Nat) (poison : Bool) : Block × Flow :=
  let bf16 := x.accFmt == 1
  let z := if bf16 then 2 else 4
  let terr := ((terraceOf pa).getD 0) + 1
  let bad := b.mem.poisoned (pa / 8)
  let old := ofLE (b.mem.bytes pa z)
  let b := b.bump Od.terraceAddElements terr 1
  let b := if poison || (bad && x.dmode == 1) then b.consumePoison t.ctx t.ticket else b
  if poison then (b.poisonPhys pa z, f.spoil (pa / 8))
  else if bad && x.dmode == 1 then (b, f)
  else
    let r := accResult (x.dmode == 1) bf16 x.fmt old v ((b.roundKey t.ctx t.step siteTerraceAcc x.tag).draw x.mb e 16)
    let b := if r.2 then b.bump Od.srSaturateCount 2 1 else b
    if bad then
      let c := f.cover (pa / 8) (2 * (pa % 8)) (2 * z) r.1
      match c.2 with
      | some w =>
        ((List.range (8 / z)).foldl (fun b i => b.accTest t bf16 terr (bits w (8 * z * i + 8 * z - 1) (8 * z * i))) (b.replaceWord (pa / 8) w), c.1)
      | none => (b, c.1)
    else (({ b with mem := b.mem.putBytes pa (leBytes z r.1) }).accTest t bf16 terr r.1, f)

/-! ### The run of a COPY -/

/-- A transfer under way: its progress, what its output port still holds, the elements for the ports and for Hazel, what stopped it with its source coordinates, and whether it waits for output. -/
structure Run where
  b : Block
  flow : Flow
  outs : List Elem
  new : List Elem
  hz : List (Nat × Bool)
  stop : Option (Stop × List Nat)
  wait : Bool
  deriving DecidableEq, Repr

/-- The scales sent before an element (R210). -/
def Run.scales (r : Run) (t : Task) (i : List Nat) (l : List (Nat × Nat)) : Run :=
  l.foldl (fun r k =>
    if r.stop.isSome then r
    else
      let a := r.b.readElem t.unit t.ctx 2 (2 * (k.2 : Int))
      match a.2 with
      | .error e => { r with b := a.1, stop := some (e, i) }
      | .ok v => { r with b := a.1, flow := { r.flow with scales := r.flow.scales.filter (fun (q : Nat × Nat × Bool) => q.1 != k.1) ++ [(k.1, v.1, v.2)] } }) r

/-- The source element of a coordinate (R206, R212, R569); none while its output port holds no element. -/
def Run.source (r : Run) (t : Task) (x : Xfer) (s : Shape) (i : List Nat) : Run × Option (Nat × Bool) :=
  let got := fun (a : Block × Except Stop (Nat × Bool)) => match a.2 with
    | .error e => ({ r with b := a.1, stop := some (e, i) }, none)
    | .ok v => ({ r with b := a.1 }, some v)
  let na := nibbleAddr x.srcBase x.fmt s.srcStride i
  if !s.inside i then (r, some (0, false))
  else if x.src = 0 then got (r.b.readElem t.unit t.ctx x.fmt na)
  else if x.src = 1 then
    match r.outs with
    | [] => ({ r with wait := true }, none)
    | e :: l => ({ r with outs := l }, some (e.v % 2 ^ (4 * elemNibbles x.fmt), e.poison))
  else got (r.b.readSlowElem t x.fmt na)

/-- The encoding in which a port holds an element: FP32 on a C feed. -/
def Xfer.portValue (x : Xfer) (v : Nat) : Nat := if x.dst = 3 then (widen x.fmt v).toNat else v

/-- One more element is done. -/
def Run.advance (r : Run) : Run := { r with flow := { r.flow with pos := r.flow.pos + 1 } }

/-- An element given to the ports. -/
def Run.give (r : Run) (e : Elem) : Run := ({ r with new := r.new ++ [e] }).advance

/-- Delivers an element to memory (R206, R222). -/
def Run.toMemory (r : Run) (t : Task) (x : Xfer) (s : Shape) (j i : List Nat) (v : Nat × Bool) : Run :=
  let na := nibbleAddr x.dstBase x.dstFmt s.dstStride j
  let z := elemNibbles x.dstFmt / 2
  let va := na.toNat / 2
  let e : Int := (x.eBase : Int) + ((va : Int) - x.dstBase) / (z : Int)
  if badAddr x.dstFmt na then { r with stop := some (.fault 6 (na / 2).toNat, i) }
  else if x.dmode != 0 && decide (e < 0) then { r with stop := some (.fault 6 va, i) }
  else
    let a := r.b.translate t.unit t.ctx va true (x.dmode != 0)
    match a.2 with
    | .error er => { r with b := a.1, stop := some (er, i) }
    | .ok pa =>
      let b := a.1.countRemote (t.unit / 4) pa (countedBytes x.dstFmt (na.toNat % 2))
      let w := if x.dmode = 0 then b.putElem r.flow x.fmt pa (na.toNat % 2) v.1 v.2 else b.accElem r.flow t x pa e.toNat v.1 v.2
      ({ r with b := w.1, flow := w.2 }).advance

/-- Delivers an element to the slow tier (R358, R359). -/
def Run.toSlow (r : Run) (t : Task) (x : Xfer) (i : List Nat) (v : Nat × Bool) : Run :=
  let off := x.dstBase + 2 * r.flow.pos
  if r.b.inRegion t.ctx off 2 then ({ r with hz := r.hz ++ [v] }).advance else { r with stop := some (.fault 4 off, i) }

/-- The place of an element among those that are staged for repetitions: in the whole stream where that stays staged, else in its group; none where neither does (R209). -/
def Flow.placeOf (f : Flow) (x : Xfer) (s : Shape) (d : Nat) (m : Move) : Option Nat :=
  if x.staysAll s d then some m.all else if f.group = some m.group then some m.idx else none

/-- Delivers an element to the ports with its scale. What repeats and fits within D stays staged: the whole stream for its repetitions, else a group for its own (R209, R210; log entry 53). -/
def Run.toPort (r : Run) (t : Task) (x : Xfer) (s : Shape) (m : Move) (v : Nat × Bool) : Run :=
  let w : Nat × Bool := if x.scaled then sget (127, false) r.flow.scales m.key else (127, false)
  let e : Elem := ⟨x.portValue v.1, w.1, v.2 || w.2⟩
  let keeps := x.isFeed && x.grep != 0 && decide (ceilDiv (x.nibbles (x.groupMoves s m.group)) 2 ≤ t.depth)
  let f := if m.idx = 0 ∧ !x.staysAll s t.depth then { r.flow with group := if keeps then some m.group else none, staged := [] } else r.flow
  let f := if f.placeOf x s t.depth m = some f.staged.length then { f with staged := f.staged ++ [e] } else f
  ({ r with flow := f }).give e

/-- One element in delivery order (R227), the source's translation before the destination's (log entry 58); a repetition that is staged is not read again (R209). -/
def Run.move (r : Run) (t : Task) (x : Xfer) (s : Shape) (m : Move) : Run :=
  if r.stop.isSome || r.wait then r
  else if (r.flow.placeOf x s t.depth m).any (· < r.flow.staged.length) then r.give (nth ⟨0, 127, false⟩ r.flow.staged ((r.flow.placeOf x s t.depth m).getD 0))
  else
    let i := swap01 x.transpose m.j
    let a := r.scales t i m.scales
    if a.stop.isSome then a
    else
      let q := a.source t x s i
      match q.2 with
      | none => q.1
      | some v =>
        if x.dst = 0 then q.1.toMemory t x s m.j i v
        else if x.dst = 5 then q.1.toSlow t x i v
        else q.1.toPort t x s m v

/-- A transfer's elements, as far as it comes with those that it may read now. -/
def Block.walkMoves (b : Block) (t : Task) (x : Xfer) (s : Shape) (outs : List Elem) (ms : List Move) : Run :=
  ms.foldl (fun r m => r.move t x s m) ⟨b, t.flow, outs, [], [], none, false⟩

/-! ### Stream output ports (R212) -/

/-- The elements that wait on a stream output port, oldest first. -/
def Block.portOuts (b : Block) (wvu port : Nat) : List Elem :=
  (b.plz.outs.filter (fun o => o.wvu == wvu && o.port == port)).flatMap (·.elems)

/-- Takes `n` elements of a stream output port; entries that it empties leave. -/
def takeOuts (wvu port : Nat) : Nat → List OutEntry → List OutEntry
  | _, [] => []
  | n, o :: r =>
    if o.wvu != wvu || o.port != port then o :: takeOuts wvu port n r
    else
      let k := min n o.elems.length
      if k = o.elems.length then takeOuts wvu port (n - k) r else { o with elems := o.elems.drop k } :: r

/-- A VECTOR task whose outputs have all left ends OK (R93, R212). -/
def Block.vectorDrained (b : Block) (t : Nat) : Block :=
  match b.task? t with
  | some x => if x.isRunning && x.stage == 1 && !b.plz.outs.any (fun o => o.ticket == t) then b.endTask t sOK (vectorUnit x) else b
  | none => b

/-- The WVU whose output a transfer drains. -/
def Block.drainUnit (b : Block) (t : Nat) : Nat :=
  match b.plz.ports.find? (fun e => e.ticket == t && e.port.kind == kindOP) with
  | some e => e.port.unit
  | none => 0

/-- Takes what a drain has moved; VECTOR tasks whose output has all left end. -/
def Block.drainOuts (b : Block) (u port n : Nat) : Block :=
  let ts := ((b.plz.outs.filter (fun o => o.wvu == u && o.port == port)).map (·.ticket)).dedup
  ts.foldl (fun b v => b.vectorDrained v) { b with plz := { b.plz with outs := takeOuts u port n b.plz.outs } }

/-- Is a drain the oldest one queued on its output port? -/
def Block.outTurn (b : Block) (t : Task) (x : Xfer) : Bool :=
  x.src != 1 || ((b.queue ⟨b.drainUnit t.ticket, kindOP, x.port⟩).head?.map (·.ticket)) == some t.ticket

/-! ### Staging (R201, R215, R217) -/

/-- Has a running task bound the port (R44, R93, R217)? -/
def Block.boundPort (b : Block) (p : PortId) : Bool :=
  b.disp.tasks.any (fun y => y.isRunning && y.unit == p.unit &&
    (if p.kind = kindSP then opcodeOf y.desc == opVector && (inPorts y.unit (vecOf y.desc)).contains p
     else (opcodeOf y.desc == opMatmul || opcodeOf y.desc == opDist) && (feedPorts y.unit (mmOf y.desc)).contains p))

/-- Does a transfer deliver to a bound port? -/
def Block.feedsBound (b : Block) (t : Task) : Bool := (b.feeding t.ticket).any (fun e => b.boundPort e.port)

def slotBytes : Nat := 4096

/-- Staging slots of one half of the buffer (R217). -/
def halfSlots : Nat := 256

/-- Bytes that a transfer holds in staging: those read and not yet delivered for the last time, in repetitions that stay staged among them (R209, R217). -/
def Block.staging (b : Block) (t : Task) : Nat :=
  let ms := t.moves
  if t.flow.pos = ms.length ∨ t.flow.staged = [] then b.ahead t
  else
    let n := b.delivered t
    let loose := ((ms.drop n).take (t.flow.pos - n)).filter (fun m => t.flow.group.isSome && t.flow.group != some m.group)
    ceilDiv (t.xfer.nibbles loose + t.flow.staged.length * elemNibbles t.xfer.fmt) 2

/-- Staging slots that a transfer holds (R201, R217). -/
def Block.slotsOf (b : Block) (t : Task) : Nat := ceilDiv (b.staging t) slotBytes

/-- Slots of its engine that are free for a transfer beside those it holds: of the 512 in all, and of the half that the transfers with a bound port, like those without, share (R201, R217). -/
def Block.freeSlots (b : Block) (t : Task) : Nat :=
  let peers := b.disp.tasks.filter (fun y => y.isRunning && y.ticket != t.ticket && opcodeOf y.desc == opXfer && y.unit == t.unit && y.xfer.toPorts)
  let like := peers.filter (fun y => b.feedsBound y == b.feedsBound t)
  min (halfSlots - (like.map b.slotsOf).sum) (2 * halfSlots - (peers.map b.slotsOf).sum)

/-- Bytes that a transfer may read now for its ports: it reads ahead of its slowest destination by at most D, into slots that are free (R215, R217). -/
def Block.room (b : Block) (t : Task) : Nat := min (t.depth - b.ahead t) (b.freeSlots t * slotBytes - b.staging t)

/-- A transfer that finds no slot for its next element gives up what it keeps staged for repetitions, which are then read again (log entry 53). -/
def Block.yieldStaging (b : Block) (t : Task) : Task :=
  if t.xfer.toPorts ∧ b.room t * 2 < elemNibbles t.xfer.fmt ∧ b.ahead t < t.depth then { t with flow := { t.flow with group := none, staged := [] } } else t

/-- The leading elements that fit in a number of half bytes. -/
def fitting (x : Xfer) : Nat → List Move → List Move
  | _, [] => []
  | n, m :: r => if n < x.nibbles [m] then [] else m :: fitting x (n - x.nibbles [m]) r

/-- Gives new elements to every port that a feed is queued on (R211, R214). -/
def Block.fillPorts (b : Block) (t : Nat) (elems : List Elem) (all : Bool) : Block :=
  { b with plz := { b.plz with ports := b.plz.ports.map (fun (e : PortEntry) =>
      if e.ticket == t && e.port.kind != kindOP && e.status == 0 then
        { e with elems := e.elems ++ elems, done := all, at_ := if elems.isEmpty then e.at_ else b.dt }
      else e) } }

/-- Ends a transfer that a fault or poison stopped; a drain's fault ends the VECTOR task whose output it drains (R227, R231, R393). -/
def Block.xferStopped (b : Block) (t : Task) (x : Xfer) (st : Stop) (i : List Nat) : Block :=
  let p : PortId := ⟨b.drainUnit t.ticket, kindOP, x.port⟩
  let b := match st with
    | .fault cause va => b.faultXfer t.ticket i cause va
    | .poison va => b.poisonXfer t.ticket i va
  if x.src = 1 then
    match b.disp.tasks.find? (fun y => y.isRunning && opcodeOf y.desc == opVector && (outPorts y.unit (vecOf y.desc)).contains p) with
    | some v => b.failVector v sAborted
    | none => b
  else b

/-- Words of memory that two ranges share (R151). -/
def wordsMeet (r q : Nat × Nat) : Bool := overlaps (r.1 / 8, (r.2 + 7) / 8) (q.1 / 8, (q.2 + 7) / 8)

/-- Is another ADD or INIT transfer of another ticket under way that may write a word of `ext` at the same time (R161)? Contexts may map one page under two addresses. -/
def Block.addingPeer (b : Block) (t : Task) (ext : List (Nat × Nat)) : Bool :=
  b.disp.tasks.any (fun y => y.isRunning && y.ticket != t.ticket && opcodeOf y.desc == opXfer && y.stage == 0
    && y.xfer.dmode != 0
    && (y.ctx != t.ctx || y.xferExtents.2.any (fun q => ext.any (wordsMeet q))))

/-- Event TERRACE_ACC_UNORDERED, at most once per context and step (R161). -/
def Block.raiseUnordered (b : Block) (c step : Nat) : Block :=
  if b.se.unordEvt.contains (c, step) then b
  else ({ b with se := { b.se with unordEvt := b.se.unordEvt ++ [(c, step)] } }).raise 0x4330 c []

/-- The unordered pairs that the banks of each Terrace saw while the transfer added to it, of which the spec fixes no number (R161). -/
def Block.sawUnordered (b was : Block) (t : Task) (ext : List (Nat × Nat)) : Block :=
  if !was.addingPeer t ext then b
  else (List.range 4).foldl (fun b k =>
    if b.reg Od.terraceAddElements (k + 1) = was.reg Od.terraceAddElements (k + 1) then b
    else
      let d := b.draw
      let b := d.2.bump Od.terraceAccUnordered (k + 1) d.1
      if d.1 = 0 then b else b.raiseUnordered t.ctx t.step) b

/-- Grants at raised priority during a transfer, and what its memories saw, of which the spec fixes no number (R154, R171, R177, R216). -/
def Block.engineContention (b was : Block) (engine : Nat) : Block :=
  (b.bumpFree Od.seAgedGrants (engine + 1)).contention b was

/-- Progress of a transfer: its elements move as far as they may now (R206 to R217, R227). A drain that a fault stops ends its VECTOR task with what is left of the output (R231). -/
def Block.copyMoves (b : Block) (t : Task) (x : Xfer) (s : Shape) : Block :=
  let t := b.yieldStaging t
  let u := b.drainUnit t.ticket
  let outs := if x.src = 1 then b.portOuts u x.port else []
  let left := (x.moves s).drop t.flow.pos
  let r := b.walkMoves t x s outs (if x.toPorts then fitting x (2 * b.room t) left else left)
  let all := decide (r.flow.pos = (x.moves s).length)
  let b' := r.b.setTask t.ticket (fun y => { y with flow := { r.flow with begun := y.flow.begun } })
  let b' := if x.dst = 5 then (b'.deliver t.ctx (x.dstBase + 2 * t.flow.pos) r.hz).2 else b'
  let b' := if x.toPorts then b'.fillPorts t.ticket r.new all
    else b'.bump Od.seBytesDelivered (t.unit + 1) (elemBytes x.fmt r.flow.pos - elemBytes x.fmt t.flow.pos)
  let b' := match r.stop with
    | some (st, i) => b'.xferStopped t x st i
    | none =>
      let b' := if x.src = 1 then b'.drainOuts u x.port (outs.length - r.outs.length) else b'
      if all && !x.toPorts then b'.endXfer t.ticket sOK [] 0 0 0 else b'
  (b'.sawUnordered b t (x.dstExtent s)).engineContention b t.unit

/-- A COPY or a REARM runs: it is tainted, its shape record is no good, or its elements move. An invalid shape record raises 0x8350 and fills CTX_LAST_FAULT like an element that fails to translate (R205, R227; log entry 58). -/
def Block.copyRun (b : Block) (t : Task) : Block :=
  let x := t.xfer
  let b := b.contended (fun b => b.readsShape t)
  match b.xferTaint t with
  | some (cause, origin) => b.endXfer t.ticket sTainted [] cause 0 origin
  | none =>
    match t.shape with
    | none => b.endXfer t.ticket sAddrFault [] 0 0 t.ticket
    | some (.fail k va) => b.xferStopped t x (.fault k va) []
    | some (.invalid _ va) => b.xferStopped t x (.fault 13 va) []
    | some (.poison va) => b.xferStopped t x (.poison va) []
    | some (.ok raw) => if b.outTurn t x then b.copyMoves t x (shapeOf raw) else b

/-- May a run of the stream begin: every earlier run on the engine of the same stream has ended (R221)? -/
def Block.streamFree (b : Block) (t : Task) (x : Xfer) : Bool :=
  !b.disp.tasks.any (fun y => y.isRunning && y.ticket != t.ticket && opcodeOf y.desc == opXfer && y.unit == t.unit
    && decide (y.order < t.order) && ((xferOf y.desc).persist || (xferOf y.desc).xop == 1 || (xferOf y.desc).xop == 2) && (xferOf y.desc).stream == x.stream
    && decide ((xferOf y.desc).xop ≤ 2))

/-- A Stream Engine command on a running XFER of the given XOP, while the module is not shed (R460). -/
def Block.xferCmd (b : Block) (xop t : Nat) (f : Task → Xfer → Block) : Block :=
  match b.starting t opXfer with
  | some y => let x := xferOf y.desc; if x.xop = xop ∧ !b.gov.shed then f y x else b
  | none => b

def xCopy (t : Nat) (b : Block) : Block :=
  b.xferCmd 0 t (fun y x => if x.persist && !b.streamFree y x then b else b.copyRun y)

/-- A REARM runs with what its stream holds when its run begins: where the COPY that was to replace the stream did not arm it, the options and the ports are those of the armed one (R220, R221). -/
def Block.rearm (b : Block) (t : Task) (p : PStream) : Block × Task :=
  if t.opts = p.desc ∧ t.shape = some (.ok p.shape) then (b, t)
  else
    let t' : Task := { t with opts := p.desc, shape := some (.ok p.shape) }
    let b := b.setTask t.ticket (fun _ => t')
    let ports := b.xferPorts t' (xferOf p.desc)
    if ((b.plz.ports.filter (fun e => e.ticket == t.ticket)).map (·.port)) = ports then (b, t')
    else (({ b with plz := { b.plz with ports := b.plz.ports.filter (fun e => e.ticket != t.ticket) } }).joinPorts t' ports, t')

/-- REARM (R221): waits for the stream's present run; a stream that is not armed here ends it with ADDR_FAULT. -/
def xRearm (t : Nat) (b : Block) : Block :=
  b.xferCmd 1 t (fun y x =>
    if !b.streamFree y x then b
    else match b.stream? y.unit x.stream with
      | some p => if p.ctx = y.ctx then (b.rearm y p).1.copyRun (b.rearm y p).2 else b.endXfer t sAddrFault [] 0 0 t
      | none => b.endXfer t sAddrFault [] 0 0 t)

/-- RELEASE (R221): frees the stream once its runs have ended. -/
def xRelease (t : Nat) (b : Block) : Block :=
  b.xferCmd 2 t (fun y x =>
    if !b.streamFree y x then b
    else
      let b := { b with se := { b.se with streams := b.se.streams.filter (fun p =>
        !(p.engine == y.unit && p.num == x.stream && p.ctx == y.ctx)) } }
      b.endXfer t sOK [] 0 0 0)

/-- INVAL (R225). -/
def xInval (t : Nat) (b : Block) : Block :=
  b.xferCmd 3 t (fun y _ =>
    ({ b with se := { b.se with tlb := b.se.tlb.filter (fun (e : TlbEntry) => e.ctx != y.ctx) } }).endXfer t sOK [] 0 0 0)

def execCopy (t : Nat) (s : State) : Host.Outcome State Fault Refusal := .next (s.run (xCopy t))
def execRearm (t : Nat) (s : State) : Host.Outcome State Fault Refusal := .next (s.run (xRearm t))
def execRelease (t : Nat) (s : State) : Host.Outcome State Fault Refusal := .next (s.run (xRelease t))
def execInval (t : Nat) (s : State) : Host.Outcome State Fault Refusal := .next (s.run (xInval t))

end Sys2Proof.Machine
end

