-- ==== Sys2Proof/Machine/Check.lean ====
section
/-! DEFINITION. Malformed descriptors (R51, R114, R117, R122, R204, R248, R250, R265 to R267, R288, R303, R377, R568). -/

namespace Sys2Proof.Machine

/-- MATMUL and DIST (R46, R50, R51). -/
def badPlaza (d : Desc) : Bool :=
  let x := mmOf d
  let h := x.h
  let w := x.w
  let pair := x.fmtS == x.fmtH || (x.fmtS == 2 && x.fmtH == 3) || (x.fmtS == 3 && x.fmtH == 2)
    || (x.fmtS == 4 && x.fmtH == 5) || (x.fmtS == 5 && x.fmtH == 4)
  fld d 488 480 != 0 || fld d 455 448 != 0 || fld d 367 128 != 0
    || decide (x.mode > 5) || x.init == 3 || decide (x.order > 1) || decide (h > 12) || decide (w > 12)
    || x.m == 0 || x.n == 0 || decide (x.plaza > 7)
    || decide (x.row0 + h > 12) || decide (x.col0 + w > 12) || decide (x.aset + x.ns > 16)
    || decide (x.fmtS > 7) || decide (x.fmtH > 7) || !pair
    || (opcodeOf d == opMatmul && x.mode != 0) || (opcodeOf d == opDist && (x.mode == 0 || decide (x.fmtS > 5) || decide (x.fmtH > 5)))
    || (x.hold && (decide (cyclesOf x.fmtS x.k > 16) || x.order != 1))
    || (!x.drain && decide (x.tiles > x.ns))
    || (x.place && (x.row0 != 0 || x.col0 != 0)) || (x.init != 1 && x.cPort != 0)

/-- Does an operation need Z, and C (R98)? -/
def needsZ (op : Nat) : Bool := [0x02, 0x04, 0x09, 0x0B, 0x0D].contains op
def needsC (op : Nat) : Bool := [0x0A, 0x0B, 0x0C, 0x0D, 0x10].contains op
def twoOut (op : Nat) : Bool := [0x0B, 0x0D, 0x10, 0x1C].contains op
def vectorOps : List Nat := [1, 2, 3, 4, 5, 8, 9, 0x0A, 0x0B, 0x0C, 0x0D, 0x10, 0x11, 0x18, 0x1C]
def rowOps : List Nat := [8, 9, 0x0A, 0x0B, 0x0C, 0x0D, 0x10, 0x11]

/-- VECTOR (R107, R114). -/
def badVector (d : Desc) : Bool :=
  let v := vecOf d
  let ports := (if v.srcX = 1 then [v.xPort] else []) ++ (if v.zEn then [v.zPort] else []) ++ (if v.cEn then [v.cPort] else [])
  fld d 465 456 != 0 || fld d 223 128 != 0 || !vectorOps.contains v.op || v.grad == 3
    || (v.op == 3 || v.op == 4) && decide (v.fn > 5)
    || (v.op == 0x1C && decide (v.fn > 1)) || (v.op != 3 && v.op != 4 && v.op != 0x1C && v.fn != 0)
    || (v.y2En != twoOut v.op)
    || (v.grad != 0 && v.fmtY != 0 && v.fmtY != 7)
    || (v.srcX == 1 && decide (v.xPort > 7))
    || (rowOps.contains v.op && decide (v.len > 262144))
    || (v.op == 0x18 && (v.rows != v.param + 1 || v.len != v.param + 1))
    || (v.op == 0x1C && decide (v.rows * (v.param + 1) * 8 > 2 ^ 20))
    || (needsZ v.op && !v.zEn) || (needsC v.op && !v.cEn)
    || (v.op != 0x18 && v.op != 0x1C && v.param != 0)
    || decide (v.fmtX > 7) || decide (v.fmtZ > 7) || decide (v.fmtY > 7)
    || (v.srcX == 0 && v.fmtX != 7) || v.len == 0 || v.rows == 0 || !decide ports.Nodup

/-- The body of a descriptor without the fields listed. -/
def bodyOther (d : Desc) (keep : List (Nat × Nat)) : Bool :=
  (keep.foldl (fun n r => n - at' r.2 (bits n r.1 r.2)) (at' 128 (fld d 511 128))) != 0

/-- XFER (R204); the shape of an MXFP4 transfer is read for its N0. -/
def Block.badXfer (b : Block) (c : Nat) (d : Desc) : Bool :=
  let x := xferOf d
  let memNeither := x.src != 0 && x.dst != 0
  let window := fun (s : Shape) => s.extU != 0 || s.extV != 0
  let mxShape := match (if isMX x.fmt then b.readShape x.engine c x.shape else .fail 0 0) with
    | .ok raw => let s := shapeOf raw; window s || (x.fmt == 6 && nth 1 s.n 0 % 2 == 1)
    | _ => false
  if x.xop > 3 then true
  else if x.xop = 3 then bodyOther d [(511, 509)]
  else if x.xop = 2 then bodyOther d [(511, 509), (458, 454), (468, 463)] || decide (x.engine > 15)
  else if x.xop = 1 then
    bodyOther d [(511, 509), (458, 454), (468, 463), (447, 400), (399, 352), (303, 272), (271, 256), (255, 208)] || decide (x.engine > 15)
  else
    fld d 450 448 != 0 || fld d 143 128 != 0 || x.dmode == 3 || decide (x.dst > 5) || decide (x.src > 2) || x.resid == 3
      || decide (x.residPages > 512) || decide (x.engine > 19) || memNeither || (x.src != 0 && x.transpose)
      || ((x.isFeed || x.dst == 4) && x.mcast == 0)
      || (x.src == 1 && ((List.range 8).filter (fun i => bit x.mcast i)).length != 1)
      || (!(x.isFeed || x.dst == 4) && x.src != 1 && x.mcast != 0)
      || decide (x.fmt > 7) || decide (x.split > 4) || x.shape % 64 != 0
      || ((x.dst == 4 || x.src == 1) && decide (x.port > 7))
      || (x.dst == 5 && x.fmt != 0)
      || (x.dmode != 0 && (x.dst != 0 || (x.fmt != 0 && x.fmt != 7)))
      || (isMX x.fmt && (x.transpose || x.dmode != 0 || x.dst == 3 || x.dst == 4 || x.dst == 5 || mxShape))
      || (!x.isFeed && (x.split != 0 || x.go != 0 || x.gi != 0 || x.grep != 0 || x.srep != 0)) || (x.isFeed && x.split == 0)
      || x.gi % 32 != 0
      || (x.resid != 0 && (x.residPages == 0 || (x.residEnd == 0 && x.src != 0) || (x.residEnd == 1 && x.dst != 0)))

/-- Ranges that overlap without being equal (R288). -/
def overlapUnequal (a b : Nat × Nat) : Bool := overlaps a b && a != b

/-- COLLECTIVE (R288). -/
def badCollective (d : Desc) : Bool :=
  let x := colOf d
  let post := f32 x.post
  let copy := x.kind == 2 || x.kind == 3 || x.kind == 4
  let one := x.wfmt == 1
  fld d 487 480 != 0 || fld d 445 440 != 0 || fld d 413 400 != 0 || fld d 239 128 != 0
    || decide (x.kind > 5) || x.op == 3 || x.wfmt == 3 || x.acct == 3 || decide (x.dst > 1)
    || (x.op != 0 && (decide (x.kind > 1) || x.wfmt != 2 || x.acct != 0 || x.post != one32))
    || !post.isFinite || post.isZero
    || (copy && (one || x.sfmt != x.dfmt || (x.wfmt == 0) != (x.sfmt == 1) || x.acct != 0))
    || (x.kind == 5 && (x.len != 0 || x.srcBase != 0 || x.dstBase != 0 || x.acct != 0 || x.dst != 0))
    || (decide (x.kind < 5) && (x.len == 0 || decide (x.len > 33554432) || decide (x.len * x.zs > 64 * 2 ^ 20)))
    || (x.acct != 0 && (decide (x.seq > 16383) || x.kind != 0))
    || (x.dst == 1 && (x.kind != 0 || x.dfmt != 1))
    || (x.root != 0 && x.kind != 3)
    || (((x.kind == 0 && x.dst == 0) || x.kind == 3)
        && overlapUnequal (x.srcBase, x.srcBase + x.len * x.zs) (x.dstBase, x.dstBase + x.len * x.zd))

/-- NORM_CLOSE (R303). -/
def badClose (d : Desc) : Bool :=
  let m := f32 (closeMaxNorm d)
  fld d 455 128 != 0 || decide (closeBuckets d > 16384) || !m.isFinite || Num.lt m (.fin false 0 0)

/-- UPDATE (R377). -/
def badUpdate (d : Desc) : Bool :=
  fld d 487 480 != 0 || fld d 271 128 != 0 || decide (updKind d > 1) || updState d % 4096 != 0 || isNonFinite (updLr d)
    || (updKind d == 1 && updWork d != 0) || updWork d % 2 != 0

/-- GATHER and SCATTER_ADD (R568). -/
def badGather (d : Desc) : Bool :=
  fld d 508 496 != 0 || fld d 311 128 != 0 || gsKind d == 3 || (gsKind d != 0 && gsFmt d != 0)
    || (gsKind d == 1 && gsCount d % 64 != 0) || (gsKind d == 2 && gsCount d != 0) || (gsKind d != 0 && gsIdx d != 0)

def badScatter (d : Desc) : Bool :=
  fld d 508 496 != 0 || fld d 263 128 != 0 || decide (gsKind d > 1) || (gsKind d == 1 && gsFmt d != 0)
    || (gsKind d == 1 && (gsCount d % 64 != 0 || gsIdx d != 0 || gsStage d != 0))

/-- FENCE (R122, R265). -/
def badFence (d : Desc) : Bool :=
  if passOf d = passBwd then fld d 479 128 != 0 || fwdCountOf d == 0 else fld d 509 128 != 0 || fenceScope d == 3

/-- EVENT (R266). -/
def badEvent (d : Desc) : Bool :=
  match eventKind d with
  | 0 => bodyOther d [(511, 510), (509, 502), (423, 360)]
  | 1 => bodyOther d [(511, 510), (501, 488), (487, 472)]
  | 2 => bodyOther d [(511, 510), (471, 456), (455, 424)]
  | _ => true

/-- TIME_WAIT (R267). -/
def badTimeWait (d : Desc) : Bool := fld d 447 128 != 0

/-- Does the body of a descriptor break a rule of its opcode? -/
def Block.badBody (b : Block) (c : Nat) (d : Desc) : Bool :=
  let o := opcodeOf d
  if o = opFence then badFence d
  else if o = opMatmul ∨ o = opDist then badPlaza d
  else if o = opVector then badVector d
  else if o = opXfer then b.badXfer c d
  else if o = opCollective then badCollective d
  else if o = opNormClose then badClose d
  else if o = opUpdate then badUpdate d
  else if o = opGather then badGather d
  else if o = opScatter then badScatter d
  else if o = opEvent then badEvent d
  else badTimeWait d

/-- R117: the PASS values that an opcode permits. -/
def badPass (d : Desc) : Bool :=
  let o := opcodeOf d
  if o = opFence then passOf d == passFwd
  else (o == opCollective || o == opNormClose || o == opUpdate) && passOf d != passNone

/-- Token indices out of range (R248). -/
def Block.badToken (b : Block) (c : Nat) (d : Desc) : Bool :=
  let n := b.reg Od.ctxTokenCount (c + 1)
  decide (sigOf d > n) || decide ((wait0Of d).1 > n) || decide ((wait1Of d).1 > n)
    || (opcodeOf d == opEvent && eventKind d == 2 && (eventToken d == 0 || decide (eventToken d > n)))

/-- REASON of a malformed descriptor, 0 for none (R248, R250). -/
def Block.malformed (b : Block) (c : Nat) (d : Desc) : Nat :=
  let o := opcodeOf d
  if o = 0 ∨ o > 12 then 1
  else if fld d 3 0 != 0 || passOf d == 3 || (if o = opVector then decide (unitOf d > 7) else unitOf d != 0) then 2
  else if badPass d then 3
  else if b.badToken c d then 4
  else if b.badBody c d then 5
  else 0

end Sys2Proof.Machine
end

