-- ==== Sys2Proof/Machine/Clocks.lean ====
section
/-! DEFINITION. Plaza clocks, their ceilings and hops, and the pace rate (R438 to R441, R444, R460 to R466). -/

namespace Sys2Proof.Machine

/-! ### The calendar's order (R431, R433) -/

/-- The first tick at or after an instant (R431). -/
def tickAt (t : Nat) : Nat := ceilDiv t (10 ^ 6) * 10 ^ 6

/-- The instants at which the pending setpoints, epochs and releases fire, with their ranks. -/
def Block.calendarDue (b : Block) : List (Nat × Nat) :=
  b.cal.events.map (fun e => (if e.rank = 1 then tickAt e.at_ else e.at_, e.rank))
    ++ b.disp.release.filterMap (fun r => if r.2 = 0 then none else some (r.2 - 1, 3))

/-- No pending setpoint, epoch or release fires before an event of rank `k` at `t` (R433). -/
def Block.inOrder (b : Block) (t k : Nat) : Bool := b.calendarDue.all (fun d => decide (t < d.1) || (t == d.1 && decide (k ≤ d.2)))

/-! ### Ceilings and clocks -/

/-- The highest grid frequency at or below `f` (R439). -/
def toGrid (f : Nat) : Nat := if f < 500 then 500 else f / 25 * 25

def Block.ceil (b : Block) (p : Nat) : Ceil := nth Ceil.none_ b.gov.ceils p

def Block.setCeil (b : Block) (p : Nat) (f : Ceil → Ceil) : Block :=
  { b with gov := { b.gov with ceils := b.gov.ceils.modify p f } }

def Block.clockOf (b : Block) (p : Nat) : Nat := nth 0 b.gov.clock p
def Block.targetOf (b : Block) (p : Nat) : Nat := nth 0 b.gov.target p

/-- The setting of a Plaza's rail for a clock: of its voltage table, in a test 3 % lower (R412, R439). -/
def Block.railFor (b : Block) (p f : Nat) : Nat := (if b.plaza p = plTesting then 97 else 100) * Config.plazaMv p f

/-- A Plaza's clock with the rail setting that goes with it (R439). -/
def Block.setClock (b : Block) (p f : Nat) : Block :=
  { b with gov := { b.gov with clock := b.gov.clock.set p f, volts := b.gov.volts.set p (b.railFor p f) } }
def Block.setTarget (b : Block) (p f : Nat) : Block := { b with gov := { b.gov with target := b.gov.target.set p f } }

def Block.fmaxOf (b : Block) (p : Nat) : Nat := b.reg Od.plazaFmaxMhz (p + 1)

/-- Is a Plaza IN_SERVICE or LIMITED? -/
def Block.inService (b : Block) (p : Nat) : Bool := b.plaza p == plInService || b.plaza p == plLimited

/-- The number `n` of R462. -/
def Block.nOwn (b : Block) : Nat := ((List.range 8).filter b.inService).length

/-- The lowest pace ceiling of the contexts that follow pacing (R464). -/
def Block.paceCeil (b : Block) : Nat := (b.gov.pace.filter (· != 0)).foldl min noCeil

/-- The lowest ceiling of a Plaza for a given cap ceiling and pace ceiling (R440). -/
def Block.lowest (b : Block) (p cap pace : Nat) : Nat :=
  let c := b.ceil p
  let f := [c.current, c.storm, c.thermal, cap, c.rise, pace].foldl min (b.fmaxOf p)
  if b.plaza p = plLimited then min f 850 else f

/-- The clock that a Plaza's ceilings call for: the test corner in a test (R440, R467, R531). -/
def Block.wanted (b : Block) (p : Nat) : Nat :=
  if b.plaza p = plTesting then b.fmaxOf p + 50 else toGrid (b.lowest p (b.ceil p).cap b.paceCeil)

/-- An active droop event in a Plaza's domain, or one of the input, which stretches every Plaza (R455). -/
def Block.drooping (b : Block) (p : Nat) : Bool := nth false b.gov.droop p || nth false b.gov.droop 12

/-- Starts the hop that a Plaza's ceilings call for, or defers it (R441, R456). -/
def Block.replan (b : Block) (p : Nat) : Block :=
  let w := b.wanted p
  if w = b.targetOf p ∧ w = b.clockOf p then b
  else if w = b.targetOf p ∧ !b.drooping p then b
  else if b.drooping p then b.bump Od.pgovHopsDeferred 0 1
  else b.setTarget p w

/-- A fall of planned ceilings starts hops at once; a rise waits for a tick (R441). -/
def Block.replanFalls (b : Block) : Block :=
  (List.range 8).foldl (fun b p => if b.wanted p < max (b.clockOf p) (b.targetOf p) then b.replan p else b) b

/-- A hardware ceiling: the clock falls at once, and with it the target of a hop under way (R441, R458). -/
def Block.forceClock (b : Block) (p : Nat) : Block :=
  let w := b.wanted p
  let b := if w < b.clockOf p then b.setClock p w else b
  b.setTarget p (min w (b.targetOf p))

/-- The setpoint in force is lower than the owner's cap, so that the cap is charged to SETPOINT (R440). -/
def Block.setpointBinds (b : Block) : Bool :=
  let s := b.reg Od.pwrSetpointInForce 0
  s != 0 && decide (s < b.reg Od.pwrCapOwner 0)

/-- The target cap with a setpoint in force, 0 for none (R444). -/
def Block.capWith (b : Block) (s : Nat) : Nat :=
  let c := min 2600 (b.reg Od.pwrCapOwner 0)
  if s = 0 then c else min c s

/-- The target cap C (R444). -/
def Block.targetCap (b : Block) : Nat := b.capWith (b.reg Od.pwrSetpointInForce 0)

/-- c now, in units of 10^-6 W: it moves toward C by the slope, which is as many units in each ns (R445). -/
def Block.capNow (b : Block) : Nat :=
  let c := b.gov.cap
  let t := b.targetCap * 10 ^ 6
  let m := b.reg Od.pwrSlopeWPerMs 0 * (b.dt - b.gov.capAt)
  if c ≤ t then min t (c + m) else max t (c - m)

/-- The integral of a value over `d` ns in which it moves from `c` to `t` by `s` in each ns and then stays. -/
def rampArea (c t s d : Nat) : Nat :=
  let gap := if c ≤ t then t - c else c - t
  let r := if s * d ≤ gap then d else ceilDiv gap s
  if c ≤ t then c * r + min (s * r * r / 2) (gap * r) + t * (d - r) else c * r - min (s * r * r / 2) (gap * r) + t * (d - r)

/-- c is brought to the present, before C or the slope changes (R445). -/
def Block.moveCap (b : Block) : Block :=
  let area := b.gov.capArea + rampArea b.gov.cap (b.targetCap * 10 ^ 6) (b.reg Od.pwrSlopeWPerMs 0) (b.dt - b.gov.capAt)
  { b with gov := { b.gov with cap := b.capNow, capAt := b.dt, capArea := area } }

/-- Codes of the reasons whose ceiling sets a Plaza's clock at the frequency `f`, for a cap ceiling and a pace ceiling (R440, R466). -/
def Block.reasonsOf (b : Block) (p f cap pace : Nat) : List Nat :=
  let c := b.ceil p
  let capCode := if b.setpointBinds then 2 else 1
  let at_ := fun (x code : Nat) => if toGrid x = f ∧ x < b.fmaxOf p then [code] else []
  at_ (min cap c.rise) capCode ++ at_ c.thermal 3 ++ at_ c.storm 4 ++ at_ c.current 5 ++ at_ pace 6

/-- The cap ceiling that a Plaza's next step will have: the plan of R453 while LEARNED. -/
def Block.nextCap (b : Block) (p : Nat) : Nat := if b.reg Od.pgovLearnState 0 = 2 then b.gov.fplan else (b.ceil p).cap

/-- f_own of R462 with the code of the reason that sets it, 0 for the characterized limit. -/
def Block.fOwn (b : Block) : Nat × Nat :=
  let ps := (List.range 8).filter b.inService
  let one := fun (p : Nat) => toGrid (b.lowest p (b.nextCap p) noCeil)
  let f := ps.foldl (fun m p => min m (one p)) noCeil
  match ps.find? (fun p => one p == f) with
  | some p => (f, (b.reasonsOf p f (b.nextCap p) noCeil).headD 0)
  | none => (0, 0)

/-! ### Throttle reasons (R466) -/

/-- The reasons that hold now, by code. -/
def Block.throttle (b : Block) : List Nat :=
  let ps := (List.range 8).filter b.plazaRuns
  let set_ := ps.flatMap (fun p => b.reasonsOf p (b.wanted p) (b.ceil p).cap b.paceCeil)
  let current := ps.any (fun p =>
    let c := b.ceil p
    decide (c.current < [c.storm, c.thermal, c.cap, c.rise, b.paceCeil].foldl min (b.fmaxOf p)))
  let droop := b.gov.droop.any id
  if !b.live then []
  else
    (if b.power = pwrRun ∧ !b.gov.shed then [1, 2, 3, 6].filter set_.contains
        ++ (if droop || set_.contains 4 then [4] else []) ++ (if current then [5] else []) else [])
      ++ (if b.gov.shed then [7] else []) ++ (if b.testPlace then [8] else [])

/-- The reasons that hold now are kept for the tick that ends, before what sets them changes. -/
def Block.noteReasons (b : Block) : Block := { b with gov := { b.gov with reasons := (b.gov.reasons ++ b.throttle).dedup } }

/-- THROTTLE_NOW. -/
def Block.throttleBits (b : Block) : Nat := ((b.throttle).map (fun r => 2 ^ (r - 1))).sum

/-- The member's pace advisory (R462, R463). -/
def Block.advisory (b : Block) : PaceRec :=
  let f := b.fOwn
  ⟨toGrid (f.1 * b.nOwn / 8), f.2, b.reg Od.deviceIndex 0⟩

/-- The lower RATE wins, then the lower DEV (R463). -/
def PaceRec.combine (a c : PaceRec) : PaceRec :=
  if c.rate < a.rate ∨ (c.rate = a.rate ∧ c.dev < a.dev) then c else a

/-- The 16 bytes of a pace record (R463). -/
def PaceRec.bytes (p : PaceRec) : List Byte := beBytes 2 p.rate ++ beBytes 1 p.cause ++ [0] ++ beBytes 4 p.dev ++ List.replicate 8 0

def paceOf (l : List Byte) : PaceRec := ⟨ofBE (l.take 2), ofBE ((l.drop 2).take 1), ofBE ((l.drop 4).take 4)⟩

/-- A late sender that the Roundabout passes on (R294, R465). -/
def Block.lateSender (b : Block) (c dev : Nat) : Block :=
  let b := (b.bump Od.paceLateReports 0 1).setReg Od.paceLateLastDev 0 dev
  if nth false b.gov.paceLate c then b
  else ({ b with gov := { b.gov with paceLate := b.gov.paceLate.set c true } }).raise 0x4429 c []

/-- The combined pace record of a step takes effect at the context's step boundary (R464, R465). -/
def Block.paceBoundary (b : Block) (c step : Nat) (own : Bool) (p : PaceRec) : Block :=
  let b := b.noteReasons
  let last := nth 0 b.gov.paceRate c
  let b : Block := if own && decide (p.rate < last) then b.raise 0x4427 c [] else b
  let follow := b.reg Od.paceMode (c + 1) == 0
  let lim := if b.nOwn = 0 then 0 else toGrid (max (b.reg Od.paceFloorMhz 0) (p.rate * 8 / b.nOwn))
  let before := (List.range 8).map b.wanted
  let b := b.setOct Od.paceLast (c + 1) (beBytes 8 step ++ p.bytes.take 8)
  let b : Block := { b with gov := { b.gov with pace := b.gov.pace.set c (if follow then lim else 0), paceRate := b.gov.paceRate.set c p.rate, paceLate := b.gov.paceLate.set c false } }
  let lower := (List.range 8).any (fun q => b.inService q && decide (b.wanted q < nth 0 before q) && decide (b.wanted q < b.clockOf q))
  let b : Block := if lower then b.raise 0x0428 c (beBytes 4 p.dev ++ beBytes 1 p.cause) else b
  b.replanFalls

/-! ### The phase-learning controller (R452, R453) -/

/-- A free frequency of the grid: what the Governor's predictions allow, of which the spec gives no model (log entry 62). -/
def Block.drawGrid (b : Block) : Nat × Block :=
  let d := b.draw
  (500 + 25 * (d.1 % 56), d.2)

/-- Is every duration within 10 % of the mean of the list? -/
def steady (l : List Nat) : Bool :=
  let n := l.length
  let s := l.sum
  l.all (fun d => decide (10 * n * d ≤ 11 * s) && decide (9 * s ≤ 10 * n * d))

/-- The profile moves an eighth of the way to the activity measured, a free value for each bin. -/
def Block.learnBins : Nat → List (BitVec 64) → Block → List (BitVec 64) × Block
  | 0, l, b => (l, b)
  | _, [], b => ([], b)
  | n + 1, a :: r, b =>
    let d := b.draw
    let rest := Block.learnBins n r d.2
    (dadd a (ddiv (toF64 (Num.sub (f64 (BitVec.ofNat 64 d.1)) (f64 a))) (toF64 (.fin false 8 0))) :: rest.1, rest.2)

/-- The controller at a step boundary of the learned context (R452, R453). -/
def Block.learnBoundary (b : Block) (c : Nat) : Block :=
  if b.reg Od.pgovLearnCtx 0 != c then b
  else
    let first := b.gov.boundary
    let b : Block := { b with gov := { b.gov with boundary := some b.dt } }
    let b : Block := if b.reg Od.pgovLearnState 0 = 2 then
        let b := (List.range 8).foldl (fun b p => b.setCeil p (fun x => { x with cap := b.gov.fplan })) b.noteReasons
        b.replanFalls
      else b
    match first with
    | none => b.setReg Od.pgovLearnState 0 1
    | some t0 =>
      let d := b.dt - t0
      let old := b.gov.durations
      let n := old.length
      let far := n != 0 && (decide (4 * n * d > 5 * old.sum) || decide (4 * n * d < 3 * old.sum))
      if far then
        { b with gov := { b.gov with durations := [d], profile := List.replicate 64 0 } }.setReg Od.pgovLearnState 0 1
      else
        let ds := lastN (b.reg Od.pgovLearnSteps 0) (old ++ [d])
        let l := Block.learnBins 64 b.gov.profile b
        let b : Block := { l.2 with gov := { l.2.gov with durations := ds, profile := l.1 } }
        let ready := decide (ds.length ≥ b.reg Od.pgovLearnSteps 0) && steady ds
        if b.reg Od.pgovLearnState 0 = 2 then b else b.setReg Od.pgovLearnState 0 (if ready then 2 else 1)

/-- Nanoseconds of ended shedding since `t`, for which this device's timeouts did not run (R460). -/
def Block.shedSince (b : Block) (t : Nat) : Nat := (b.gov.sheds.map (fun x => x.2 - max x.1 t)).sum

/-! ### Shedding (R460, R461) -/

/-- SHED_N or PWR_SHED_CMD asks for shedding (R460, R557). -/
def Block.shedAsked (b : Block) : Bool := b.pins.shed || b.reg Od.pwrShedCmd 0 == 1

/-- The module is shed: its clocks stop where they are. -/
def Block.shedStart (b : Block) : Block :=
  if b.gov.shed then b else ({ b.noteReasons with gov := { b.noteReasons.gov with shed := true, shedAt := b.dt, fill := [], fillW := 0 } }).raise 0x0425 noCtx []

/-- A ticket or a test returns the module from Idle to Run (R535, R557). -/
def Block.leaveIdle (b : Block) : Block :=
  if b.power = pwrIdle then
    let b := (b.setReg Od.pwrState 0 pwrRun).raise 0x0112 noCtx []
    if b.shedAsked then b.shedStart else b
  else b

/-- Shedding ends: c(t) starts from 450 W and every Plaza from its start clock, a free frequency of the grid. -/
def Block.shedStop (b : Block) : Block :=
  if !b.gov.shed then b
  else
    let b := b.noteReasons.moveCap
    let b := ({ b with gov := { b.gov with shed := false, sheds := b.gov.sheds ++ [(b.gov.shedAt, b.dt)], cap := 450 * 10 ^ 6 } }).raise 0x0426 noCtx []
    (List.range 8).foldl (fun b p =>
      let d := b.drawGrid
      let b := d.2.setCeil p (fun x => { x with rise := d.1 })
      (b.setClock p (b.wanted p)).setTarget p (b.wanted p)) b

end Sys2Proof.Machine
end

