-- ==== Sys2Proof/Machine/Boundary.lean ====
section
/-! DEFINITION. The step boundary of a context (R85, R109, R121, R261, R307, R406, R411, R434, R452, R464). -/

namespace Sys2Proof.Machine

def Block.normSum (b : Block) (c : Nat) : NormSum := sget NormSum.empty b.rb.sums c

def Block.setNormSum (b : Block) (c : Nat) (v : NormSum) : Block := { b with rb := { b.rb with sums := sset NormSum.empty b.rb.sums c v } }

/-- The step sum, the reorder table, the Roundabout step flag and the bucket count start afresh (R299, R307). -/
def Block.clearNorm (b : Block) (c : Nat) : Block :=
  ((b.setNormSum c NormSum.empty).setReg Od.ctxRbFlags (c + 1) 0).setReg Od.ctxBucketsAdded (c + 1) 0

/-- The first release instant of a context at or after now, plus one; 0 where it has none (R434). -/
def Block.nextRelease (b : Block) (c : Nat) : Nat :=
  let r := b.oct Od.ctxStepRelease (c + 1)
  let base := ofBE (r.take 8)
  let period := 1000 * ofBE ((r.drop 8).take 4)
  if period = 0 then 0
  else if b.dt ≤ base then base + 1
  else base + ceilDiv (b.dt - base) period * period + 1

/-! ### The plan of the next step (R453) -/

/-- The setpoint that will be in force at `t`: of those that take effect by then, the last; an immediate one comes before a scheduled one of its tick (log entry 62). -/
def Block.setpointAt (b : Block) (t : Nat) : Nat :=
  let l := b.gov.now.map (fun x => (tickAt (x.2 + 10 ^ 6), 0, x.1)) ++ (b.cal.events.filter (fun e => e.rank == 1)).map (fun e => (tickAt e.at_, e.at_, e.watts))
  ((l.filter (fun x => decide (x.1 ≤ t))).foldl (fun m x => if m.1 < x.1 ∨ (m.1 = x.1 ∧ m.2.1 ≤ x.2.1) then x else m) (0, 0, b.reg Od.pwrSetpointInForce 0)).2.2

/-- Integrals of the activity over the windows of `w` time units that start with a bin, each bin lasting `t` of them. -/
def windowSums (t w : Nat) : List Num → List Num
  | [] => []
  | a :: r =>
    let l := a :: r
    if l.length * t < w then []
    else Num.add (Num.mul (.fin false t 0) (Num.sum (l.take (w / t)))) (Num.mul (.fin false (w % t) 0) ((l.drop (w / t)).headD (.fin false 0 0))) :: windowSums t w r

/-- The mean voltage, times their number, of the rails of the Plazas in service at a clock. -/
def Block.voltsAt (b : Block) (f : Nat) : Nat := (((List.range 8).filter b.inService).map (fun p => Config.plazaMv p f)).sum

/-- Does the prediction at the frequency `f` stay within (1 - PGOV_GUARD / 1,000) * C_n, for a power `base` that does not scale with the clock and the
integrals of the activity over windows of `w` time units? With g(f) = (f / 1,700 MHz) * (V(f) / V(1,700 MHz))^2. -/
def Block.planFits (b : Block) (base cn w : Nat) (sums : List Num) (f : Nat) : Bool :=
  let u := w * 1700 * b.voltsAt 1700 ^ 2
  sums.all (fun s => Num.le (Num.add (.fin false (1000 * base * u) 0) (Num.mul s (.fin false (1000 * f * b.voltsAt f ^ 2) 0)))
    (.fin false ((1000 - b.reg Od.pgovGuard 0) * cn * u) 0))

/-- f_plan as NORM_CLOSE is issued (R453; log entry 62): the highest grid frequency, at most every other ceiling, whose prediction stays within the bound; 500 MHz where none does. P_base is a free number of watts, and
the bins last a 64th of the step so far; a sliding average of 20 ms reaches its largest value where a window starts or ends with a bin. -/
def Block.planStep (b : Block) (c : Nat) : Block :=
  if b.reg Od.pgovLearnState 0 != 2 || b.reg Od.pgovLearnCtx 0 != c then b
  else
    let d := b.draw
    let r := b.nextRelease c
    let cn := b.capWith (b.setpointAt (if r = 0 then b.dt + 10 ^ 6 else r - 1))
    let t := b.dt - b.gov.boundary.getD b.dt
    let w := min (64 * (20 * 10 ^ 6)) (64 * t)
    let l := b.gov.profile.map f64
    let sums := windowSums t w l ++ windowSums t w l.reverse
    let lim := ((List.range 8).filter b.inService).foldl (fun m p => min m (toGrid (b.lowest p noCeil b.paceCeil))) noCeil
    let f := ((List.range 56).map (fun i => 1875 - 25 * i)).find? (fun f => decide (f ≤ lim) && b.planFits d.1 cn w sums f)
    { d.2 with gov := { d.2.gov with fplan := f.getD 500 } }

/-- CTX_STEP_RELEASE written: a hold for a release ends with a period of 0, and else lasts to the next release of the new schedule (R434). -/
def Block.releaseWritten (b : Block) (c : Nat) : Block :=
  if sget 0 b.disp.release c = 0 then b else { b with disp := { b.disp with release := sset 0 b.disp.release c (b.nextRelease c) } }

/-- The banks of step `s` are cleared, and the gate of the next step is unread (R109, R406). -/
def Block.clearBanks (b : Block) (c s : Nat) : Block :=
  let f := b.reg Od.ctxNfFlags (c + 1)
  let g := b.gate c
  (b.setReg Od.ctxNfFlags (c + 1) (if bit f (s % 2) then f - 2 ^ (s % 2) else f)).setGate c
    (if s % 2 = 0 then { g with open0 := 0, disp0 := false, told0 := false, read := false, nfRead := false } else { g with open1 := 0, disp1 := false, told1 := false, read := false, nfRead := false })

/-- The step boundary: a NORM_CLOSE of the context has completed with status OK. -/
def Block.stepBoundary (b : Block) (t : Task) : Block :=
  let c := t.ctx
  let s := b.roundStep c
  let close := b.rb.closes.find? (fun x => x.ticket == t.ticket)
  let b := (b.setReg Od.ctxRoundStep (c + 1) (s + 1)).clearBanks c s
  let b := ((b.setReg Od.ctxFwdDone (c + 1) 0).setReg Od.ctxStepPhase (c + 1) 0).clearNorm c
  let b : Block := { b with disp := { b.disp with turns := b.disp.turns.filter (fun (x : Nat × Nat × Nat) => !(x.1 == c && decide (x.2.1 ≤ s))), release := sset 0 b.disp.release c (b.nextRelease c) } }
  let b : Block := match close.bind (·.pace) with
    | some p => b.paceBoundary c s (p.dev == b.reg Od.deviceIndex 0) p
    | none => b
  let b : Block := { b with rb := { b.rb with closes := b.rb.closes.filter (fun x => x.ticket != t.ticket) } }
  ((b.takeMap c).boundaryTests c).learnBoundary c

end Sys2Proof.Machine
end

