-- ==== Sys2Proof/Machine/Cohorts.lean ====
section
/-! DEFINITION. Cohort slots, shards and parcels of the Roundabout (R275 to R282, R295, R296). -/

namespace Sys2Proof.Machine

/-! ### Cohorts (R275 to R279) -/

/-- The fields of a cohort record (R275). -/
structure Cohort where
  slot : Nat
  ctx : Nat
  enabled : Bool
  id : Nat
  n : Nat
  pos : Nat
  g : Nat
  base : Nat
  wctx : Nat
  reserved : Bool
  deriving DecidableEq, Repr

def cohortOf (r : BitVec 256) : Cohort :=
  let f := fun hi lo => bits r.toNat hi lo
  { slot := f 255 248, ctx := f 247 242, enabled := f 241 241 == 1, id := f 239 224, n := f 223 206 + 1, pos := f 205 188,
    g := f 187 170 + 1, base := f 159 112, wctx := f 111 96, reserved := f 240 240 != 0 || f 169 160 != 0 || f 95 0 != 0 }

/-- Groups, this member's group and its index in it (R279). -/
def Cohort.q (h : Cohort) : Nat := h.n / h.g
def Cohort.grp (h : Cohort) : Nat := h.pos / h.g
def Cohort.idx (h : Cohort) : Nat := h.pos % h.g
/-- Successors on the group ring and the cross ring (R280), and the group head (R303). -/
def Cohort.next0 (h : Cohort) : Nat := h.grp * h.g + (h.idx + 1) % h.g
def Cohort.next1 (h : Cohort) : Nat := (h.grp + 1) % h.q * h.g + h.idx
def Cohort.head (h : Cohort) : Nat := h.grp * h.g
def Cohort.isHead (h : Cohort) : Bool := h.pos == h.head

/-- The other members of this member's group, and the other group heads. -/
def Cohort.mates (h : Cohort) : List Nat := ((List.range h.g).map (fun i => h.head + i)).filter (· != h.pos)
def Cohort.heads (h : Cohort) : List Nat := ((List.range h.q).map (fun k => k * h.g)).filter (· != h.pos)

/-- The cohort record of a slot. -/
def Block.cohort (b : Block) (slot : Nat) : Cohort := cohortOf (sget 0 b.rb.cfgs slot)

/-- The enabled cohort that parcels of a WCTX and COHORT_ID belong to (R296). -/
def Block.cohortFor (b : Block) (wctx id : Nat) : Option Cohort :=
  (b.rb.cfgs.map (fun e => cohortOf e.2)).find? (fun h => h.enabled && h.wctx == wctx && h.id == id)

/-- The positions whose device indices the slot reads and keeps at enable (R276). -/
def Cohort.kept (h : Cohort) : List Nat :=
  ([h.pos, h.next0, h.next1, h.head] ++ (if h.isHead then h.mates ++ [0] else []) ++ (if h.pos = 0 then h.heads else [])).dedup

/-- An entry of the member list; the cause where it cannot be read (R226, R276). -/
def Block.member (b : Block) (h : Cohort) (pos : Nat) : Except Nat Nat :=
  if h.base + 4 * pos ≥ 2 ^ 48 then .error 6
  else match b.walk h.ctx (h.base + 4 * pos) false false with
  | .ok pa =>
    let r := b.readPhys pa 4
    if r.2 then .error 0 else .ok (ofLE r.1)
  | .fail k => .error k
  | .poison => .error 0

/-- The device at a position: kept at enable, or read from the member list. -/
def Block.deviceAt (b : Block) (h : Cohort) (pos : Nat) : Except Nat Nat :=
  match b.rb.devs.find? (fun e => e.1 == h.slot * 2 ^ 18 + pos) with
  | some e => .ok e.2
  | none => b.member h pos

/-! ### Parcels (R295, R296) -/

def pkReduce : Nat := 1
def pkGather : Nat := 2
def pkUp : Nat := 3
def pkDown : Nat := 4
def pkAll : Nat := 5
def pkBroadcast : Nat := 6
def pkBarrier : Nat := 7
def pkPaceUp : Nat := 8
def pkPaceDown : Nat := 9

/-- The fields of a parcel header (R295). -/
structure PHead where
  kind : Nat
  wfmt : Nat
  sp : Nat
  nf : Bool
  id : Nat
  seq : Nat
  phase : Nat
  shard : Nat
  offset : Nat
  count : Nat
  sender : Nat
  deriving DecidableEq, Repr

def headOf (h : BitVec 128) : PHead :=
  let f := fun hi lo => bits h.toNat hi lo
  { kind := f 127 124, wfmt := f 123 122, sp := f 121 121, nf := f 120 120 == 1, id := f 119 104, seq := f 103 88, phase := f 87 86,
    shard := f 85 68, offset := f 67 42, count := f 41 30, sender := f 29 12 }

def PHead.num (p : PHead) : Nat :=
  at' 124 p.kind + at' 122 p.wfmt + at' 121 p.sp + at' 120 (if p.nf then 1 else 0) + at' 104 p.id + at' 88 p.seq + at' 86 p.phase
    + at' 68 p.shard + at' 42 p.offset + at' 30 p.count + at' 12 p.sender

def Parcel.head (p : Parcel) : PHead := headOf p.header

/-- The record kinds of the norm close and of pacing. -/
def closeKind (k : Nat) : Bool := k == pkUp || k == pkDown || k == pkPaceUp || k == pkPaceDown

/-- Bytes of a CLOSE_UP record and of a result as this model sends them (log entry 17). -/
def recordSize (k : Nat) : Nat := if k = pkUp then 37 else if k = pkDown then 32 else 16

/-- A parcel of the norm close keeps to the rules that follow R295. -/
def closeFits (p : PHead) (len : Nat) : Bool :=
  p.wfmt == 0 && p.phase == 0 && p.shard == 0 && p.offset == 0 && p.seq == 0 && !p.nf && p.count == len && len == recordSize p.kind

def Block.discardParcel (b : Block) : Block := b.bump Od.rbParcelDiscards 0 1

/-- A parcel that does not fit its task (R296). -/
def Block.mismatch (b : Block) (c : Nat) : Block := b.discardParcel.raise 0x4374 c []

/-- Bytes of a parcel, header and elements (R295). -/
def Parcel.size (p : Parcel) : Nat := 16 + p.body.length

/-- A parcel arrives at a slice: it is held in its receive window until a command consumes it, or discarded (R296; log entry 20). -/
def Block.arrive (b : Block) (slice dev wctx : Nat) (payload : List Byte) : Block :=
  let hd := headOf (BitVec.ofNat 128 (ofBE (payload.take 16)))
  match b.cohortFor wctx hd.id with
  | none => b.discardParcel
  | some h =>
    if payload.length < 16 || hd.kind == 0 || decide (hd.kind > 9) then b.discardParcel
    else if closeKind hd.kind && hd.sp != b.roundStep h.ctx % 2 then b.discardParcel
    else if closeKind hd.kind && !closeFits hd (payload.length - 16) then b.mismatch h.ctx
    else
      let p : Parcel := ⟨slice, dev, wctx, BitVec.ofNat 128 hd.num, payload.drop 16, b.dt⟩
      Block.contended ((({ b with rb := { b.rb with rx := b.rb.rx ++ [p] } }).bump Od.rbBytesReceived (slice + 1) payload.length))
        (fun b => b.bump Od.terraceWriteBytes (slice + 1) p.size)

/-- Does a parcel belong to a cohort? -/
def Cohort.owns (h : Cohort) (p : Parcel) : Bool := p.wctx == h.wctx && p.head.id == h.id

/-- Queues a parcel for Emith. -/
def Block.pushParcel (b : Block) (h : Cohort) (slice dev : Nat) (hd : PHead) (body : List Byte) : Block :=
  { b with rb := { b.rb with tx := b.rb.tx ++ [⟨slice, dev, h.wctx, BitVec.ofNat 128 hd.num, body, 0⟩] } }

/-- Counts the read of an entry of the member list, with the tables that its translation reads (R168, R200, R276). -/
def Block.countEntry (b : Block) (from_ : Option Nat) (h : Cohort) (pos : Nat) : Block :=
  let va := h.base + 4 * pos
  if va ≥ 2 ^ 48 then b
  else match b.walk h.ctx va false false with
    | .ok pa => ((b.countWalk from_ h.ctx va).countRead pa 4).countAcross from_ pa 4
    | _ => b.countWalk from_ h.ctx va

/-- The same where the slot has not kept the entry. -/
def Block.countMember (b : Block) (h : Cohort) (slice pos : Nat) : Block :=
  if b.rb.devs.any (fun e => e.1 == h.slot * 2 ^ 18 + pos) then b else b.countEntry (some slice) h pos

/-- A parcel to a kept position. -/
def Block.sendTo (b : Block) (h : Cohort) (slice pos : Nat) (hd : PHead) (body : List Byte) : Block :=
  match b.deviceAt h pos with
  | .ok d => b.pushParcel h slice d hd body
  | .error _ => b

/-! ### Credits (R296) -/

/-- Parcel slots reserved for a flow, which its sender may fill before any credit comes (R295, R296). -/
def flowSlots : Nat := 16

/-- The flow between a cohort slot on a slice and a device: each slice has its own window (R295). -/
def flowKey (slot slice dev : Nat) : Nat := (4 * slot + slice) * 2 ^ 18 + dev

/-- Credits that come for a flow all of whose credits are spent, of which no command tells: a free number (log entry 20). -/
def Block.awaitCredit (b : Block) (key : Nat) : Block :=
  let n := sget 0 b.rb.spent key
  if n < flowSlots then b
  else let d := b.draw; { d.2 with rb := { d.2.rb with spent := sset 0 d.2.rb.spent key (n - d.1) } }

/-- The flow of a parcel that waits to be sent; none for one of no enabled cohort and for an answer to a host, which need no credit. -/
def Block.flowOf (b : Block) (p : Parcel) : Option Nat := if p.slice < 4 then (b.cohortFor p.wctx p.head.id).map (fun h => flowKey h.slot p.slice p.dev) else none

/-- Does a slice hold a credit for the flow of a parcel? -/
def Block.hasCredit (b : Block) (p : Parcel) : Bool :=
  match b.flowOf p with
  | some k => decide (sget 0 b.rb.spent k < flowSlots)
  | none => true

/-- A parcel sent spends a credit. -/
def Block.spendCredit (b : Block) (p : Parcel) : Block :=
  match b.flowOf p with
  | some k => { b with rb := { b.rb with spent := sset 0 b.rb.spent k (sget 0 b.rb.spent k + 1) } }
  | none => b

/-- A parcel leaves its slot, and its sender is granted a credit. -/
def Block.dropParcel (b : Block) (p : Parcel) : Block :=
  let b : Block := { b with rb := { b.rb with rx := b.rb.rx.erase p } }
  match b.cohortFor p.wctx p.head.id with
  | some h =>
    let k := flowKey h.slot p.slice p.dev
    { b with rb := { b.rb with granted := sset 0 b.rb.granted k (sget 0 b.rb.granted k + 1) } }
  | none => b

/-! ### Configuration (R276) -/

/-- Disables a slot; its early parcels are discarded (R276, R278, R296). -/
def Block.disableCohort (b : Block) (slot : Nat) : Block :=
  let r := sget 0 b.rb.cfgs slot
  let h := cohortOf r
  if !h.enabled then b
  else
    let early := (b.rb.rx.filter h.owns).length
    let r' := BitVec.ofNat 256 (r.toNat - 2 ^ 241)
    ({ b with rb := { b.rb with cfgs := sset 0 b.rb.cfgs slot r', devs := b.rb.devs.filter (fun e => e.1 / 2 ^ 18 != slot), spent := b.rb.spent.filter (fun (e : Nat × Nat) => e.1 / 2 ^ 20 != slot), granted := b.rb.granted.filter (fun (e : Nat × Nat) => e.1 / 2 ^ 20 != slot), rx := b.rb.rx.filter (fun p => !h.owns p) } }).bump
      Od.rbParcelDiscards 0 early

/-- Does a slot hold an active task: one that has been issued and has not ended? -/
def Block.cohortBusy (b : Block) (slot : Nat) : Bool :=
  b.rb.colls.any (·.slot == slot) || b.rb.closes.any (·.slot == slot)
    || b.disp.tasks.any (fun t => t.isRunning && ((opcodeOf t.desc == opCollective && (colOf t.desc).cohort == slot)
      || (opcodeOf t.desc == opNormClose && closeCohort t.desc == slot)))

/-- The device indices that an enable reads; none where one cannot be read. -/
def Block.readKept (b : Block) (h : Cohort) : Option (List (Nat × Nat)) :=
  h.kept.foldr (fun pos acc => match acc, b.member h pos with
    | some l, .ok d => some ((h.slot * 2 ^ 18 + pos, d) :: l)
    | _, _ => none) (some [])

/-- The cases in which R276 refuses an enable, but for the member list. -/
def Block.badCohort (b : Block) (h : Cohort) : Bool :=
  (b.cohort h.slot).enabled || h.reserved || decide (h.pos ≥ h.n) || h.n % h.g != 0 || (b.cohortFor h.wctx h.id).isSome
    || (List.range 4).any (fun k => decide (32 * ((b.rb.cfgs.filter (fun e => (cohortOf e.2).enabled)).length + 1) > b.reg Od.rbRecvSize (k + 1) / 4096))
    || h.base % 4 != 0 || b.resetting h.ctx

/-- A write of RB_COHORT_CONFIG; the member list is read where nothing else refuses the write (R276). -/
def xCohortConfig (r : BitVec 256) (b : Block) : Block :=
  b.onWrite Od.rbCohortConfig false (fun b =>
    let h := cohortOf r
    if !h.enabled then (if b.cohortBusy h.slot then b.answer stWriteRefused else (b.disableCohort h.slot).answer stOK)
    else if b.badCohort h then b.answer stWriteRefused
    else
      let kept := b.readKept h
      let b := b.contended (fun b => h.kept.foldl (fun b pos => b.countEntry none h pos) b)
      match kept with
      | none => b.answer stWriteRefused
      | some l =>
        if !l.any (fun e => e == (h.slot * 2 ^ 18 + h.pos, b.reg Od.deviceIndex 0)) then b.answer stWriteRefused
        else ({ b with rb := { b.rb with cfgs := sset 0 b.rb.cfgs h.slot r, devs := b.rb.devs ++ l } }).answer stOK)

def execRbCohortConfig (record : BitVec 256) (s : State) : Host.Outcome State Fault Refusal := .next (s.run (xCohortConfig record))

end Sys2Proof.Machine
end

