-- ==== Sys2Proof/Machine/Collective.lean ====
section
/-! DEFINITION. COLLECTIVE tasks and their parcels (R280 to R300). -/

namespace Sys2Proof.Machine

/-! ### The grid of a reduction (R279, R280) -/

def shardLen (l n : Nat) : Nat := 64 * ceilDiv l (64 * n)
def Cohort.shardOf (h : Cohort) (p : Nat) : Nat := (p % h.g) * h.q + p / h.g
def Cohort.ownerOf (h : Cohort) (k : Nat) : Nat := (k % h.q) * h.g + k / h.q

/-- Hop of this member in the phase-0 chain of a shard, and in the phase-1 chain of a shard of its own block. -/
def Cohort.hop0 (h : Cohort) (k : Nat) : Nat := (h.idx + 2 * h.g - k / h.q - 1) % h.g
def Cohort.hop1 (h : Cohort) (k : Nat) : Nat := (h.grp + 2 * h.q - k % h.q - 1) % h.q

/-- A collective at work: what the slice holds of it, its descriptor and its cohort. -/
structure Work where
  k : Coll
  x : Col
  h : Cohort
  deriving DecidableEq, Repr

def Block.coll? (b : Block) (t : Nat) : Option Coll := b.rb.colls.find? (fun k => k.ticket == t)

def Block.setColl (b : Block) (t : Nat) (f : Coll → Coll) : Block :=
  { b with rb := { b.rb with colls := b.rb.colls.map (fun (k : Coll) => if k.ticket == t then f k else k) } }

/-- The work of a ticket. -/
def Block.work (b : Block) (t : Nat) : Option Work :=
  match b.coll? t, b.task? t with
  | some k, some y => some ⟨k, colOf y.desc, b.cohort k.slot⟩
  | _, _ => none

def Work.S (w : Work) : Nat := shardLen w.x.len w.h.n

/-- First and last-plus-one element of a shard (R279). -/
def Work.shard (w : Work) (k : Nat) : Nat × Nat := (min w.x.len (k * w.S), min w.x.len ((k + 1) * w.S))
def Work.shardSize (w : Work) (k : Nat) : Nat := (w.shard k).2 - (w.shard k).1
def Work.own (w : Work) : Nat := w.h.shardOf w.h.pos

/-- Elements of this member's block of the phase-0 chains. -/
def Work.blockSize (w : Work) : Nat := (w.shard ((w.h.idx + 1) * w.h.q - 1)).2 - (w.shard (w.h.idx * w.h.q)).1

/-- Format code of gathered elements: that of the output. -/
def Work.outFmt (w : Work) : Nat := if w.x.dfmt = 0 then 2 else 0

/-- Elements of a parcel and bytes of an element (R295). -/
def maxElems (wfmt : Nat) : Nat := if wfmt = 0 then 2040 else if wfmt = 1 then 1920 else 1020
def wireBytes (wfmt count : Nat) : Nat := if wfmt = 0 then 2 * count else if wfmt = 1 then 132 * ceilDiv count 64 else 4 * count

/-! ### Encoding and decoding a wire (R282 to R285) -/

/-- A range encoded for the wire: bytes, saturations, escalations, and whether it holds a non-finite value. -/
structure Wire where
  bytes : List Byte
  sats : Nat
  rises : Nat
  nf : Bool
  deriving DecidableEq, Repr

/-- One BS16 block of elements from `e0` with the floor exponent `ef` and the ESC received; at a fresh hop `ef` is 0, nothing escalates and an NF block carries ESC 0 (R284, R285). -/
def bs16Hop (key : RoundKey) (q e0 : Nat) (fresh : Bool) (xs : List F32) (ef esc : Nat) : Wire :=
  let ef := if fresh then 0 else ef
  let r := bs16Encode (padTo 64 0 xs) ef esc (fun j => key.draw q (e0 + j) 32)
  let rise := !fresh && !r.1.nf && decide (r.1.e > ef)
  ⟨bs16Bytes { r.1 with esc := if rise then min 7 (esc + 1) else if fresh && r.1.nf then 0 else esc }, r.2, if rise then 1 else 0, r.1.nf⟩

def Wire.join (a c : Wire) : Wire := ⟨a.bytes ++ c.bytes, a.sats + c.sats, a.rises + c.rises, a.nf || c.nf⟩

/-- A range of FP32 sums on the wire of format `wfmt` (R282). -/
def encodeWire (key : Nat → RoundKey) (wfmt q e0 : Nat) (fresh : Bool) (xs : List F32) (efs escs : List Nat) : Wire :=
  if wfmt = 0 then
    let r := (xs.zipIdx).map (fun p => srBF16 p.1 ((key siteRbWire).draw q (e0 + p.2) 16))
    ⟨r.flatMap (fun v => leBytes 2 v.1), (r.filter (·.2)).length, 0, r.any (fun v => !(fmtBF16.decode v.1).isFinite)⟩
  else if wfmt = 1 then
    (((chunks 64 xs.length xs).zipIdx).map (fun p =>
      bs16Hop (key siteRbBs16) q (e0 + 64 * p.2) fresh p.1 (nth 0 efs p.2) (nth 0 escs p.2))).foldl Wire.join ⟨[], 0, 0, false⟩
  else ⟨xs.flatMap (fun v => leBytes 4 v.toNat), 0, 0, xs.any isNonFinite⟩

/-- A received range: FP32 values, exponent and ESC of each block, malformed blocks. -/
structure Received where
  xs : List F32
  es : List Nat
  escs : List Nat
  bad : Nat
  deriving DecidableEq, Repr

def decodeWire (wfmt count : Nat) (body : List Byte) : Received :=
  if wfmt = 1 then
    let r := (chunks 132 body.length body).map bs16Parse
    ⟨(r.flatMap (fun v => bs16Decode v.1)).take count, r.map (·.1.e), r.map (·.1.esc), (r.filter (·.2)).length⟩
  else
    let z := if wfmt = 0 then 2 else 4
    ⟨(chunks z body.length body).map (fun v => if wfmt = 0 then widen 0 (ofLE v) else BitVec.ofNat 32 (ofLE v)), [], [], 0⟩

/-- One step of a chain (R280, R283). -/
def combine (op : Nat) (w x : F32) : F32 := if op = 0 then fadd w x else if op = 1 then fmax w x else fmin w x

/-! ### Flags and the norm kernel (R285, R291, R292, R297, R298) -/

/-- Sets bits of CTX_RB_FLAGS. -/
def Block.rbFlag (b : Block) (c m : Nat) : Block := b.setReg Od.ctxRbFlags (c + 1) (b.reg Od.ctxRbFlags (c + 1) ||| m)

/-- Escalations counted, with the event of the step (R285). -/
def Block.escalated (b : Block) (w : Work) (n : Nat) : Block :=
  if n = 0 then b
  else
    let b := (b.bump Od.rbBs16Escalations 0 n).setColl w.k.ticket (fun k => { k with escalations := k.escalations + n })
    if sget 0 b.rb.escEvt w.k.ctx = w.k.step + 1 then b
    else ({ b with rb := { b.rb with escEvt := sset 0 b.rb.escEvt w.k.ctx (w.k.step + 1) } }).raise 0x0376 w.k.ctx []

/-- Adds partials in ascending bucket number as far as they have come (R292). -/
def Block.addPartials (c : Nat) : Nat → Block → Block
  | 0, b => b
  | n + 1, b =>
    let s := b.normSum c
    let next := b.reg Od.ctxBucketsAdded (c + 1)
    match s.table.find? (fun e => e.1 == next) with
    | none => b
    | some e =>
      Block.addPartials c n ((b.setNormSum c { s with sum := dadd s.sum e.2, table := s.table.filter (fun e => e.1 != next) }).setReg
        Od.ctxBucketsAdded (c + 1) (next + 1))

/-- Does the reorder table reach a bucket (R292)? -/
def Block.tableReaches (b : Block) (c seq : Nat) : Bool := decide (seq < b.reg Od.ctxBucketsAdded (c + 1) + 1024)

/-- A partial enters the reorder table (R292). -/
def Block.enterPartial (b : Block) (c seq : Nat) (v : F64) : Block :=
  let s := b.normSum c
  if decide (seq < b.reg Od.ctxBucketsAdded (c + 1)) || s.table.any (fun e => e.1 == seq) then b
  else Block.addPartials c (s.table.length + 1) (b.setNormSum c { s with table := s.table ++ [(seq, v)] })

/-! ### Sending -/

/-- The rounding inputs of a collective by site (R282). -/
def Block.collKey (b : Block) (w : Work) (site : Nat) : RoundKey := b.roundKey w.k.ctx w.k.step site w.x.tag

/-- The header of a data parcel of a collective. -/
def Work.header (w : Work) (kind wfmt phase shard off count : Nat) (nf : Bool) : PHead :=
  ⟨kind, wfmt, w.k.step % 2, nf, w.h.id, w.k.seq, phase, shard, off, count, w.h.pos⟩

/-- Sends the sums of a range of a shard to the next hop (R280, R282, R284). -/
def Block.sendReduce (b : Block) (w : Work) (dest phase q shard off : Nat) (fresh : Bool) (acc : List F32) (efs escs : List Nat) : Block :=
  let n := maxElems w.x.wfmt
  ((chunks n acc.length acc).zipIdx).foldl (fun b p =>
    let o := off + n * p.2
    let v := encodeWire (b.collKey w) w.x.wfmt q (shard * w.S + o) fresh p.1 (efs.drop (n / 64 * p.2)) (escs.drop (n / 64 * p.2))
    ((b.sendTo w.h w.k.slice dest (w.header pkReduce w.x.wfmt phase shard o p.1.length v.nf) v.bytes).bump Od.srSaturateCount 2 v.sats).escalated w v.rises) b

/-- Sends elements as they stand (R281, R286). -/
def Block.sendCopy (b : Block) (w : Work) (dev kind fmt phase shard off : Nat) (vals : List Nat) : Block :=
  let n := maxElems fmt
  let z := if fmt = 0 then 2 else 4
  ((chunks n vals.length vals).zipIdx).foldl (fun b p =>
    let nf := p.1.any (fun v => if fmt = 0 then !(fmtBF16.decode v).isFinite else !(fmt32.decode v).isFinite)
    b.pushParcel w.h w.k.slice dev (w.header kind fmt phase shard (off + n * p.2) p.1.length nf) (p.1.flatMap (leBytes z))) b

/-- The same to a kept position. -/
def Block.sendCopyTo (b : Block) (w : Work) (dest kind fmt phase shard off : Nat) (vals : List Nat) : Block :=
  match b.deviceAt w.h dest with
  | .ok d => b.sendCopy w d kind fmt phase shard off vals
  | .error _ => b

/-- Stores output elements of the result from element `e` on. -/
def putOut (out : List (Nat × Option Nat)) (e : Nat) (vals : List Nat) : List (Nat × Option Nat) :=
  (vals.zipIdx).foldl (fun o v => sset none o (e + v.2) (some v.1)) out

def Block.storeOut (b : Block) (t e : Nat) (vals : List Nat) : Block := b.setColl t (fun k => { k with out := putOut k.out e vals })

/-! ### The chains (R280, R281) -/

/-- The owner's output of a range of its shard (R281, R291), sent into the gathers. -/
def Block.finalRange (b : Block) (w : Work) (shard off : Nat) (acc : List F32) : Block :=
  let e0 := shard * w.S + off
  let one := fun (p : F32 × Nat) =>
    let v := fmul p.1 w.x.post
    if w.x.dfmt = 0 then (v.toNat, false) else srBF16 v ((b.collKey w siteRbWire).draw 524288 (e0 + p.2) 16)
  let r := (acc.zipIdx).map one
  let vals := r.map (·.1)
  let b := (b.bump Od.srSaturateCount 2 (r.filter (·.2)).length).storeOut w.k.ticket e0 vals
  let b : Block := if w.x.acct ≠ 0 ∧ vals.any (fun v => !((if w.x.dfmt = 0 then fmt32 else fmtBF16).decode v).isFinite) then
      (b.rbFlag w.k.ctx 1).setColl w.k.ticket (fun k => { k with flags := k.flags ||| 1 })
    else b
  if w.x.kind = 0 then
    let b : Block := if w.h.q > 1 then b.sendCopyTo w w.h.next1 pkGather w.outFmt 2 shard off vals else b
    if w.h.g > 1 then b.sendCopyTo w w.h.next0 pkGather w.outFmt 3 shard off vals else b
  else b

/-- This member's step of the phase-1 chain of a range, its partial, which it reads from the receive window, already added (R286). -/
def Block.reduce1 (b : Block) (w : Work) (shard off : Nat) (acc : List F32) (efs escs : List Nat) : Block :=
  let h := w.h.hop1 shard
  let b := (b.bump Od.terraceReadBytes (w.k.slice + 1) (4 * acc.length)).setColl w.k.ticket (fun k => { k with n1 := k.n1 + acc.length })
  if h + 1 < w.h.q then b.sendReduce w w.h.next1 1 (262144 + h) shard off (h == 0) acc efs escs
  else b.finalRange w shard off acc

/-- Elements that a range holds of a sparse list, 0 where none is stored. -/
def rangeOf (l : List (Nat × Option Nat)) (e n : Nat) : List Nat := (List.range n).map (fun i => (sget none l (e + i)).getD 0)

/-- This member's step of the phase-0 chain of a range: sent on, or kept as the partial with its ESC, from which phase 1 may start. -/
def Block.reduce0 (b : Block) (w : Work) (shard off : Nat) (acc : List F32) (efs escs : List Nat) : Block :=
  let h := w.h.hop0 shard
  let b := b.setColl w.k.ticket (fun k => { k with n0 := k.n0 + acc.length })
  if h + 1 < w.h.g then b.sendReduce w w.h.next0 0 h shard off (h == 0) acc efs escs
  else
    let e0 := shard * w.S + off
    let b := (b.bump Od.terraceWriteBytes (w.k.slice + 1) (4 * acc.length)).setColl w.k.ticket (fun k => { k with
      part := putOut k.part e0 (acc.map (·.toNat)),
      esc := (escs.zipIdx).foldl (fun m v => sset 0 m (e0 / 64 + v.2) v.1) k.esc })
    if w.h.hop1 shard = 0 then b.reduce1 w shard off acc [] escs else b

/-! ### Ending (R289, R291, R292, R297, R298) -/

/-- Bytes of the destination (R286, R288), from DST_BASE on. -/
def Work.dstElems (w : Work) : Nat :=
  if w.x.kind = 1 then w.shardSize w.own
  else if w.x.kind = 2 ∨ w.x.kind = 4 then w.h.n * w.x.len
  else if w.x.kind = 5 then 0 else w.x.len

def Work.dstExtent (w : Work) : List (Nat × Nat) :=
  if w.x.dst = 1 ∨ w.x.kind = 5 then [] else [(w.x.dstBase, w.x.dstBase + w.dstElems * w.x.zd)]

/-- The output elements of the result in the order in which they are written. -/
def Work.result (w : Work) : List Nat :=
  if w.x.kind = 1 then rangeOf w.k.out (w.shard w.own).1 (w.shardSize w.own) else rangeOf w.k.out 0 w.dstElems

/-- Is every element of this member's own shard final? -/
def Work.ownDone (w : Work) : Bool :=
  (List.range (w.shardSize w.own)).all (fun i => (sget none w.k.out ((w.shard w.own).1 + i)).isSome)

/-- Has a collective all that it waits for? -/
def Work.complete (w : Work) : Bool :=
  if w.x.kind = 5 then decide (w.k.n0 ≥ 1)
  else if w.x.kind ≤ 1 then
    decide (w.k.n0 ≥ w.x.len) && decide (w.k.n1 ≥ w.blockSize) && w.ownDone && (w.x.kind == 1 || decide (w.k.out.length ≥ w.x.len))
  else decide (w.k.out.length ≥ w.dstElems)

/-- The sum of squares of the owned shard (R291). -/
def Work.ssq (w : Work) : F64 :=
  if w.x.acct ≠ 2 then 0
  else (rangeOf w.k.out (w.shard w.own).1 (w.shardSize w.own)).foldl (fun s v =>
    let x := if w.x.dfmt = 0 then fmt32.decode v else fmtBF16.decode v
    dadd s (toF64 (Num.mul x x))) 0

/-- The unit-specific part of the record (R289). -/
def Work.unit (w : Work) : Nat :=
  at' 192 w.k.ssq.toNat + at' 160 (wrap 32 w.k.escalations) + at' 152 w.k.flags + at' 144 w.k.cause + at' 126 w.own + at' 64 (wrap 48 w.k.va)

/-- An access of a collective that fails: the first cause found gives its status, and the first access that fails its CAUSE and FAULT_VA (R289, R297). -/
def Coll.accessFailed (k : Coll) (status cause va : Nat) : Coll :=
  let first := k.va == 0 && k.cause == 0
  { k with status := if k.status = 0 then status else k.status, origin := if k.status = 0 then k.ticket else k.origin,
           cause := if first then cause else k.cause, va := if first then va else k.va }

/-- A write to the destination that fails: it sets FLAGS bit 2, and for a bucket the step flag (R297). -/
def Block.outFailed (b : Block) (w : Work) (status cause va : Nat) : Block :=
  let b := b.setColl w.k.ticket (fun k => { k.accessFailed status cause va with flags := k.flags ||| 4 })
  if w.x.acct ≠ 0 then b.rbFlag w.k.ctx 3 else b

/-- The result written to its destination as one range; nothing is written after the first element that fails (R286, R297, R358; log entry 18). -/
def Block.writeResult (b : Block) (w : Work) (vals : List Nat) : Block :=
  if w.x.dst = 1 then
    let r := b.deliver w.k.ctx w.x.dstBase (vals.map (fun v => (v, false)))
    if r.1 = vals.length then r.2 else r.2.outFailed w (causeStatus 4) 4 (w.x.dstBase + 2 * r.1)
  else
    let v := vals.flatMap (leBytes w.x.zd)
    let r := b.writeVirt (some w.k.slice) w.k.ctx (pagesOf v.length) w.x.dstBase (v.map (fun x => (x, false)))
    match r.2.2 with
    | .all => r.1
    | .fault c va => r.1.outFailed w (causeStatus c) c va
    | .poison va => r.1.outFailed w sPoisoned 0 va

/-- Was a collective refused at its issue (R286, R288)? -/
def Work.refused (w : Work) : Bool := w.k.stopped && w.k.status == sAddrFault

/-- Ends a collective: its record, a failed delivery, and the taint of its destination where it had begun (R229, R297, R298, R359). -/
def Block.finishColl (b : Block) (w : Work) : Block :=
  let t := w.k.ticket
  let st := w.k.status
  let b := b.endTask t st w.unit
  let b : Block := { b with rb := { b.rb with colls := b.rb.colls.filter (fun k => k.ticket != t) } }
  if st = sOK then b
  else
    let b := if w.refused then b else b.addTaint w.k.ctx w.k.origin w.dstExtent
    if w.x.dst = 1 then b.stageFault w.k.ctx w.k.step else b

/-- A collective proceeds: its partial enters the table, and it ends when it is complete. -/
def Block.tryColl (b : Block) (t : Nat) : Block :=
  match b.work t with
  | none => b
  | some w =>
    let ready := w.k.stopped || w.ownDone
    let enters := w.x.acct != 0 && !w.k.entered && ready && b.tableReaches w.k.ctx w.k.seq
    let ssq := if w.k.stopped then 0 else w.ssq
    let b : Block := if enters then (b.enterPartial w.k.ctx w.k.seq ssq).setColl t (fun k => { k with entered := true, ssq := ssq }) else b
    let open_ := w.x.acct == 0 || w.k.entered || enters
    if !open_ then b
    else if w.k.stopped then (match b.work t with | some w => b.finishColl w | none => b)
    else if w.complete then
      let b := b.writeResult w w.result
      match b.work t with
      | some w => b.finishColl w
      | none => b
    else b

/-- Every collective of a context proceeds as far as it can. -/
def Block.settleColls (b : Block) (c : Nat) : Block :=
  let ts := (b.rb.colls.filter (fun k => k.ctx == c)).map (·.ticket)
  iter (fun b => ts.foldl (fun b t => b.tryColl t) b) (ts.length + 1) b

/-! ### Starting (R286, R288, R297, R300) -/

/-- What the reading of a source found: the values, the first substitution's status and ORIGIN, and the first access that failed (R289, R297). -/
structure SourceRead where
  b : Block
  vals : List Nat
  sub : Option (Nat × Nat)
  fail : Option (Nat × Nat)
  deriving DecidableEq, Repr

/-- An element that cannot be read becomes canonical NaN (R297). -/
def SourceRead.substitute (r : SourceRead) (nan status origin : Nat) (fail : Option (Nat × Nat)) : SourceRead :=
  { r with vals := r.vals ++ [nan], sub := some (r.sub.getD (status, origin)), fail := if r.fail.isSome then r.fail else fail }

/-- Poison is consumed where it is the first cause found (R393). -/
def SourceRead.consume (r : SourceRead) (t : Task) : SourceRead := if r.sub.isNone then { r with b := r.b.consumePoison t.ctx t.ticket } else r

/-- Counts the tables that an element's translation reads: those of a page with the first element on it. -/
def Block.countPages (b : Block) (slice c va z : Nat) (first : Bool) : Block :=
  let b := if va < 2 ^ 48 ∧ (first ∨ va / pageSize ≠ (va - 1) / pageSize) then b.countWalk (some slice) c va else b
  if va + z ≤ 2 ^ 48 ∧ (va + z - 1) / pageSize ≠ va / pageSize then b.countWalk (some slice) c (va + z - 1) else b

/-- Counts the bytes of an element, which may lie on two pages (R168, R200). -/
def Block.countElement (b : Block) (slice c va z : Nat) : Block :=
  let m := min z (pageSize - va % pageSize)
  [(va, m), (va + m, z - m)].foldl (fun b r => if r.2 = 0 then b else match b.walk c r.1 false false with
    | .ok pa => b.countReadFrom slice pa r.2
    | _ => b) b

/-- One source element, read once, byte range by byte range of its pages (R224, R293, R297). -/
def SourceRead.element (r : SourceRead) (t : Task) (x : Col) (origin i : Nat) : SourceRead :=
  let nan := if x.sfmt = 0 then 0x7FC00000 else 0x7FC0
  let va := x.srcBase + i * x.zs
  if (r.b.tainted t.ctx [(va, va + x.zs)]).isSome then r.substitute nan sTainted origin none
  else
    let r := { r with b := r.b.countPages x.slice t.ctx va x.zs (i == 0) }
    let v := r.b.readVirt t.ctx 2 va x.zs
    match v.2 with
    | .fault c a => r.substitute nan (causeStatus c) t.ticket (some (c, a))
    | .poison a => (r.consume t).substitute nan sPoisoned t.ticket (some (0, a))
    | .all =>
      let r := { r with b := r.b.countElement x.slice t.ctx va x.zs }
      if v.1.any (·.2) then (r.consume t).substitute nan sPoisoned t.ticket none else { r with vals := r.vals ++ [ofLE (v.1.map (·.1))] }

/-- Reads the source elements. -/
def Block.readSource (b : Block) (t : Task) (x : Col) (n : Nat) : SourceRead :=
  let origin := ((b.tainted t.ctx [(x.srcBase, x.srcBase + n * x.zs)]).map (·.2)).getD noTicket
  (List.range n).foldl (fun r i => r.element t x origin i) ⟨b, [], none, none⟩

/-- Elements that a member reads (R286). -/
def Work.srcElems (w : Work) : Nat :=
  if w.x.kind = 4 then w.h.n * w.x.len
  else if w.x.kind = 3 then (if w.x.root = w.h.pos then w.x.len else 0)
  else if w.x.kind = 5 then 0 else w.x.len

/-- The chains that start at this member, in the phases of R280. -/
def Block.startReduce (b : Block) (w : Work) : Block :=
  let starts := (List.range w.h.n).filter (fun k => w.h.hop0 k == 0 && decide (w.shardSize k > 0))
  starts.foldl (fun b k =>
    let xs := ((w.k.x.drop (w.shard k).1).take (w.shardSize k)).map (fun v => if w.x.sfmt = 0 then BitVec.ofNat 32 v else widen 0 v)
    b.reduce0 w k 0 xs [] (List.replicate (ceilDiv (w.shardSize k) 64) 0)) b

/-- Sends elements to a position whose device the member list may have to give; one that cannot be read is a failed access of the task (R276, R289; log entry 19). -/
def Block.sendDirect (b : Block) (w : Work) (dest kind shard off : Nat) (vals : List Nat) : Block :=
  let b' := b.countMember w.h w.k.slice dest
  match b.deviceAt w.h dest with
  | .ok d => b'.sendCopy w d kind w.x.wfmt 0 shard off vals
  | .error c => (if c = 0 then b'.consumePoison w.k.ctx w.k.ticket else b').setColl w.k.ticket (fun k => k.accessFailed (if c = 0 then sPoisoned else causeStatus c) c (w.h.base + 4 * dest))

/-- The sends of a BARRIER as far as its records have come (R286, R303). -/
def Block.barrierGo (b : Block) (w : Work) : Block :=
  let t := w.k.ticket
  let rec_ := w.header pkBarrier 0 0 0 0 0 false
  let send := fun (b : Block) (p : Nat) => b.sendTo w.h w.k.slice p rec_ []
  if w.k.passed then b
  else if !w.h.isHead then (send b w.h.head).setColl t (fun k => { k with passed := true })
  else if !w.h.mates.all w.k.heard.contains then b
  else if w.h.pos ≠ 0 then (send b 0).setColl t (fun k => { k with passed := true })
  else if !w.h.heads.all w.k.heard.contains then b
  else ((w.h.heads ++ w.h.mates).foldl send b).setColl t (fun k => { k with passed := true, n0 := 1 })

/-- The first sends of a collective (R280, R286). -/
def Block.startSends (b : Block) (w : Work) : Block :=
  let t := w.k.ticket
  if w.x.kind ≤ 1 then b.startReduce w
  else if w.x.kind = 2 then
    let b := b.storeOut t (w.h.pos * w.x.len) w.k.x
    let b : Block := if w.h.q > 1 then b.sendCopyTo w w.h.next1 pkGather w.x.wfmt 2 w.h.pos 0 w.k.x else b
    if w.h.g > 1 then b.sendCopyTo w w.h.next0 pkGather w.x.wfmt 3 w.h.pos 0 w.k.x else b
  else if w.x.kind = 3 then
    if w.x.root ≠ w.h.pos then b
    else
      let b := b.storeOut t 0 w.k.x
      let others := ((List.range w.h.q).map (fun g => g * w.h.g + w.h.idx)).filter (· != w.h.pos)
      (others ++ w.h.mates).foldl (fun b p => b.sendDirect w p pkBroadcast 0 0 w.k.x) b
  else if w.x.kind = 4 then
    let blk := fun (j : Nat) => (w.k.x.drop (j * w.x.len)).take w.x.len
    let b := b.storeOut t (w.h.pos * w.x.len) (blk w.h.pos)
    ((List.range w.h.n).filter (· != w.h.pos)).foldl (fun b j => b.sendDirect w j pkAll j 0 (blk j)) b
  else b.barrierGo w

/-- Total parcel slots of a slice's shared remainder (R276, R295). -/
def Block.sharedSlots (b : Block) (k : Nat) : Nat :=
  b.reg Od.rbRecvSize (k + 1) / 4096 - 32 * (b.rb.cfgs.filter (fun e => (cohortOf e.2).enabled)).length

/-- Parcel slots that a reduction takes for its partials (R286). -/
def Block.partialSlots (b : Block) (x : Col) : Nat :=
  if x.kind > 1 then 0 else ceilDiv (4 * x.len) ((b.cohort x.cohort).g * 4096)

/-- The source and destination of kinds 1, 2 and 4, which the slice compares at issue; an empty shard overlaps nothing (R279, R288). -/
def Work.rangesBad (w : Work) : Bool :=
  let s := (w.x.srcBase, w.x.srcBase + w.srcElems * w.x.zs)
  (w.x.kind == 1 || w.x.kind == 2 || w.x.kind == 4) && (w.dstExtent.any (fun d => decide (d.1 < d.2) && overlaps s d && s != d))

/-- What the slice holds of a task at its start. -/
def startColl (t : Task) (x : Col) : Coll :=
  { ticket := t.ticket, slot := x.cohort, slice := x.slice, ctx := t.ctx, seq := x.seq, step := t.step, x := [], part := [], esc := [], out := [],
    n0 := 0, n1 := 0, status := 0, origin := noTicket, cause := 0, va := 0, flags := 0, ssq := 0, entered := false, escalations := 0,
    heard := [], passed := false, stopped := false, since := 0, room := 0 }

/-- The unit-specific part of the record of a collective that has done nothing (R289). -/
def Block.idleUnit (b : Block) (x : Col) : Nat := let h := b.cohort x.cohort; at' 126 (h.shardOf h.pos)

/-- A collective refused at issue: ADDR_FAULT, nothing sent; a bucket enters +0 and sets the step flag (R286, R288, R292). -/
def Block.refuseColl (b : Block) (t : Task) (x : Col) : Block :=
  if x.acct = 0 then
    let b := b.endTask t.ticket sAddrFault (b.idleUnit x)
    if x.dst = 1 then b.stageFault t.ctx t.step else b
  else
    let b : Block := { b with rb := { b.rb with colls := b.rb.colls ++ [{ startColl t x with status := sAddrFault, stopped := true }] } }
    (b.rbFlag t.ctx 1).settleColls t.ctx

/-- One more than the highest bucket number seen (R304). -/
def Block.seenBucket (b : Block) (c seq : Nat) : Block := let s := b.normSum c; b.setNormSum c { s with top := max s.top (seq + 1) }

/-- A COLLECTIVE begins on its slice. -/
def Block.beginColl (b : Block) (t : Task) : Block :=
  let x := colOf t.desc
  let h := b.cohort x.cohort
  let b := b.setTask t.ticket (fun y => { y with stage := 1 })
  let w0 : Work := ⟨startColl t x, x, h⟩
  if h.enabled && b.rb.colls.any (fun k => k.slot == x.cohort && k.seq == x.seq && k.step % 2 == t.step % 2) then
    let b := b.endTask t.ticket sAddrFault (b.idleUnit x)
    if x.dst = 1 then b.stageFault t.ctx t.step else b
  else
    let b : Block := if x.acct ≠ 0 then b.seenBucket t.ctx x.seq else b
    if !h.enabled || h.ctx != t.ctx || decide (b.partialSlots x > b.sharedSlots x.slice) || w0.rangesBad then b.refuseColl t x
    else
      let r := b.readSource t x w0.srcElems
      let k := { w0.k with x := r.vals, since := b.dt, room := b.partialSlots x }
      let f := r.fail.getD (0, 0)
      let k := match r.sub with
        | some (st, origin) => { k with status := st, origin := origin, cause := f.1, va := f.2, flags := 2 }
        | none => k
      let b : Block := { r.b with rb := { r.b.rb with colls := r.b.rb.colls ++ [k] } }
      let b : Block := if k.status = 0 then b
        else (if x.acct ≠ 0 then b.rbFlag t.ctx 3 else b).raise 0x4371 t.ctx []
      (b.startSends ⟨k, x, h⟩).settleColls t.ctx

/-- A COLLECTIVE command of a kind. -/
def xCollective (kind t : Nat) (b : Block) : Block :=
  match b.starting t opCollective with
  | some y => if (colOf y.desc).kind = kind ∧ !b.gov.shed then b.contended (fun b => b.beginColl y) else b
  | none => b

/-! ### Parcels of a collective (R280, R281, R286, R294, R296) -/

/-- The active task that a parcel matches by cohort slot, SEQ and step parity (R296). -/
def Block.matched (b : Block) (p : Parcel) : Option Work :=
  match b.cohortFor p.wctx p.head.id with
  | none => none
  | some h => (b.rb.colls.find? (fun k => k.slot == h.slot && k.seq == p.head.seq && k.step % 2 == p.head.sp && !k.stopped)).bind (fun k => b.work k.ticket)

/-- Does the range of a data parcel fit a shard or block of `size` elements in the format `fmt`? -/
def rangeFits (p : Parcel) (fmt size : Nat) : Bool :=
  let h := p.head
  h.wfmt == fmt && decide (1 ≤ h.count) && decide (h.count ≤ maxElems fmt) && decide (h.offset + h.count ≤ size) && p.body.length == wireBytes fmt h.count
    && (fmt != 1 || (h.offset % 64 == 0 && (h.count % 64 == 0 || h.offset + h.count == size)))

/-- Does a REDUCE parcel fit? -/
def Work.reduceFits (w : Work) (p : Parcel) : Bool :=
  let h := p.head
  decide (w.x.kind ≤ 1) && decide (h.shard < w.h.n) && rangeFits p w.x.wfmt (w.shardSize h.shard)
    && (if h.phase = 0 then w.h.hop0 h.shard != 0 else h.phase == 1 && h.shard / w.h.q == w.h.idx && w.h.hop1 h.shard != 0)

/-- A parcel of phase 1 waits for this member's partial of its range. -/
def Work.reduceReady (w : Work) (p : Parcel) : Bool :=
  let h := p.head
  h.phase != 1 || !w.reduceFits p
    || (List.range h.count).all (fun i => (sget none w.k.part (h.shard * w.S + h.offset + i)).isSome)

/-- DT at which the first parcel for a task from the sender of `p` arrived: parcels are consumed in the order in which they are ready (R294). -/
def Block.firstArrival (b : Block) (w : Work) (p : Parcel) : Nat :=
  ((b.rb.rx.filter (fun q => w.h.owns q && q.slice == p.slice && !closeKind q.head.kind && q.head.seq == p.head.seq && q.head.sp == p.head.sp
    && q.head.sender == p.head.sender)).map (·.at_)).foldl min p.at_

/-- A parcel has come from a predecessor: the wait starts anew, and a bucket is late where the first parcel of a predecessor arrived late (R294, R298). -/
def Block.heardFrom (b : Block) (w : Work) (p : Parcel) : Block :=
  let s := p.head.sender
  let first := b.firstArrival w p
  let b := b.setColl w.k.ticket (fun k => { k with since := b.dt })
  if w.k.heard.contains s then b
  else
    let b := b.setColl w.k.ticket (fun k => { k with heard := k.heard ++ [s] })
    let issued := ((b.task? w.k.ticket).map (·.issued)).getD b.dt
    if w.x.acct ≠ 0 ∧ first > issued + 1000 * b.reg Od.rbLateUs 0 then
      let b : Block := if bit w.k.flags 3 then b else (b.bump Od.rbLateBuckets 0 1).setColl w.k.ticket (fun k => { k with flags := k.flags ||| 8 })
      b.lateSender w.k.ctx p.dev
    else b

/-- The first parcel of a kind at a slice that a task can consume now. -/
def Block.nextParcel (b : Block) (slice kind : Nat) (ready : Work → Parcel → Bool) : Option (Parcel × Work) :=
  (b.rb.rx.filterMap (fun p => if p.slice == slice && p.head.kind == kind then (match b.matched p with
    | some w => if ready w p then some (p, w) else none
    | none => none) else none)).head?

/-- A slice consumes the next parcel of a kind: by its rule where it fits, discarded where it does not. -/
def xParcel (slice kind : Nat) (fits ready : Work → Parcel → Bool) (f : Work → Parcel → Block → Block) (b : Block) : Block :=
  if b.gov.shed then b
  else match b.nextParcel slice kind ready with
    | none => b
    | some (p, w) =>
      let b := b.dropParcel p
      if !fits w p then b.mismatch w.k.ctx
      else
        let b := b.heardFrom w p
        match b.work w.k.ticket with
        | some w => b.contended (fun b => (f w p (b.bump Od.terraceReadBytes (slice + 1) p.size)).settleColls w.k.ctx)
        | none => b

/-- REDUCE_PARCEL (R280): the elements of a parcel are added to this member's own. -/
def Block.reduceParcel (w : Work) (p : Parcel) (b : Block) : Block :=
  let h := p.head
  let r := decodeWire h.wfmt h.count p.body
  let b := b.bump Od.bs16MalformedCount 3 r.bad
  let e0 := h.shard * w.S + h.offset
  if h.phase = 0 then
    let own := ((w.k.x.drop e0).take h.count).map (fun v => if w.x.sfmt = 0 then BitVec.ofNat 32 v else widen 0 v)
    b.reduce0 w h.shard h.offset ((r.xs.zip own).map (fun v => combine w.x.op v.1 v.2)) r.es r.escs
  else
    let own := (rangeOf w.k.part e0 h.count).map (BitVec.ofNat 32)
    b.reduce1 w h.shard h.offset ((r.xs.zip own).map (fun v => combine w.x.op v.1 v.2)) r.es r.escs

def xReduceParcel (slice : Nat) (b : Block) : Block :=
  xParcel slice pkReduce Work.reduceFits Work.reduceReady (fun w p b => Block.reduceParcel w p b) b

/-- The elements of a parcel that carries them as they stand. -/
def Parcel.elems (p : Parcel) : List Nat := let z := if p.head.wfmt = 0 then 2 else 4; (chunks z p.body.length p.body).map ofLE

/-- Size of the block, and the position whose block it is, that a GATHER parcel names. -/
def Work.gatherFrom (w : Work) (p : Parcel) : Nat × Nat :=
  if w.x.kind = 0 then (w.shardSize p.head.shard, w.h.ownerOf p.head.shard) else (w.x.len, p.head.shard)

def Work.gatherFits (w : Work) (p : Parcel) : Bool :=
  let h := p.head
  let s := w.gatherFrom p
  (w.x.kind == 0 || w.x.kind == 2) && decide (h.shard < w.h.n) && rangeFits p (if w.x.kind = 0 then w.outFmt else w.x.wfmt) s.1
    && (if h.phase = 2 then s.2 % w.h.g == w.h.idx && s.2 / w.h.g != w.h.grp else h.phase == 3 && s.2 % w.h.g != w.h.idx)

/-- GATHER_PARCEL (R281): elements are kept and passed on around the ring of their phase, and from the cross ring into the group ring. -/
def Block.gatherParcel (w : Work) (p : Parcel) (b : Block) : Block :=
  let h := p.head
  let s := w.gatherFrom p
  let vals := p.elems
  let base := if w.x.kind = 0 then h.shard * w.S else h.shard * w.x.len
  let b := b.storeOut w.k.ticket (base + h.offset) vals
  if h.phase = 2 then
    let d := (w.h.grp + w.h.q - s.2 / w.h.g) % w.h.q
    let b : Block := if d + 1 < w.h.q then b.sendCopyTo w w.h.next1 pkGather h.wfmt 2 h.shard h.offset vals else b
    if w.h.g > 1 then b.sendCopyTo w w.h.next0 pkGather h.wfmt 3 h.shard h.offset vals else b
  else
    let d := (w.h.idx + w.h.g - s.2 % w.h.g) % w.h.g
    if d + 1 < w.h.g then b.sendCopyTo w w.h.next0 pkGather h.wfmt 3 h.shard h.offset vals else b

def always (_ : Work) (_ : Parcel) : Bool := true

def xGatherParcel (slice : Nat) (b : Block) : Block := xParcel slice pkGather Work.gatherFits always (fun w p b => Block.gatherParcel w p b) b

def Work.allFits (w : Work) (p : Parcel) : Bool :=
  w.x.kind == 4 && p.head.phase == 0 && p.head.shard == w.h.pos && decide (p.head.sender < w.h.n) && p.head.sender != w.h.pos && rangeFits p w.x.wfmt w.x.len

/-- ALL_TO_ALL_PARCEL (R286): the block comes from the sender's position. -/
def xAllParcel (slice : Nat) (b : Block) : Block :=
  xParcel slice pkAll Work.allFits always (fun w p b => b.storeOut w.k.ticket (p.head.sender * w.x.len + p.head.offset) p.elems) b

def Work.broadcastFits (w : Work) (p : Parcel) : Bool :=
  w.x.kind == 3 && p.head.phase == 0 && p.head.shard == 0 && w.x.root != w.h.pos && rangeFits p w.x.wfmt w.x.len

/-- BROADCAST_PARCEL (R286): the member with ROOT's index in another group passes the elements on within its group. -/
def xBroadcastParcel (slice : Nat) (b : Block) : Block :=
  xParcel slice pkBroadcast Work.broadcastFits always (fun w p b =>
    let b := b.storeOut w.k.ticket p.head.offset p.elems
    if w.x.root % w.h.g = w.h.idx then w.h.mates.foldl (fun b m => b.sendDirect w m pkBroadcast 0 p.head.offset p.elems) b else b) b

def Work.barrierFits (w : Work) (p : Parcel) : Bool :=
  let h := p.head
  w.x.kind == 5 && h.wfmt == 0 && h.phase == 0 && h.shard == 0 && h.offset == 0 && h.count == 0 && p.body.isEmpty
    && (if w.h.isHead then w.h.mates.contains h.sender || (if w.h.pos = 0 then w.h.heads.contains h.sender else h.sender == 0) else h.sender == w.h.head)

/-- BARRIER_PARCEL (R286): a record from below is gathered on its way up, one from above is passed down and releases the task. -/
def xBarrierParcel (slice : Nat) (b : Block) : Block :=
  xParcel slice pkBarrier Work.barrierFits always (fun w p b =>
    let down := if w.h.isHead then w.h.pos != 0 && p.head.sender == 0 else true
    if down then
      let b : Block := if w.h.isHead then w.h.mates.foldl (fun b m => b.sendTo w.h w.k.slice m (w.header pkBarrier 0 0 0 0 0 false) []) b else b
      b.setColl w.k.ticket (fun k => { k with n0 := 1 })
    else b.barrierGo w) b

/-- A task sends nothing more: what it has queued is dropped (R298, R299). -/
def Block.dropSends (b : Block) (w : Work) : Block :=
  { b with rb := { b.rb with tx := b.rb.tx.filter (fun p =>
      !(w.h.owns p && p.head.seq == w.k.seq && p.head.sp == w.k.step % 2 && !closeKind p.head.kind)) } }

/-- RB_TIMEOUT (R298). -/
def xRbTimeout (t : Nat) (b : Block) : Block :=
  match b.work t with
  | none => b
  | some w =>
    if b.gov.shed || w.k.stopped || w.complete || decide (b.dt < w.k.since + b.shedSince w.k.since + 10 ^ 6 * b.reg Od.rbHopTimeoutMs 0) then b
    else
      let b := ((b.setColl t (fun k => { k with status := sTimeout, origin := t, stopped := true })).dropSends w).raise 0x8372 w.k.ctx []
      (if w.x.acct ≠ 0 then b.rbFlag w.k.ctx 3 else b).settleColls w.k.ctx

def execAllReduce (ticket : Nat) (s : State) : Host.Outcome State Fault Refusal := .next (s.run (xCollective 0 ticket))
def execReduceScatter (ticket : Nat) (s : State) : Host.Outcome State Fault Refusal := .next (s.run (xCollective 1 ticket))
def execAllGather (ticket : Nat) (s : State) : Host.Outcome State Fault Refusal := .next (s.run (xCollective 2 ticket))
def execBroadcast (ticket : Nat) (s : State) : Host.Outcome State Fault Refusal := .next (s.run (xCollective 3 ticket))
def execAllToAll (ticket : Nat) (s : State) : Host.Outcome State Fault Refusal := .next (s.run (xCollective 4 ticket))
def execBarrier (ticket : Nat) (s : State) : Host.Outcome State Fault Refusal := .next (s.run (xCollective 5 ticket))
def execReduceParcel (slice : Nat) (s : State) : Host.Outcome State Fault Refusal := .next (s.run (xReduceParcel slice))
def execGatherParcel (slice : Nat) (s : State) : Host.Outcome State Fault Refusal := .next (s.run (xGatherParcel slice))
def execAllToAllParcel (slice : Nat) (s : State) : Host.Outcome State Fault Refusal := .next (s.run (xAllParcel slice))
def execBroadcastParcel (slice : Nat) (s : State) : Host.Outcome State Fault Refusal := .next (s.run (xBroadcastParcel slice))
def execBarrierParcel (slice : Nat) (s : State) : Host.Outcome State Fault Refusal := .next (s.run (xBarrierParcel slice))
def execRbTimeout (ticket : Nat) (s : State) : Host.Outcome State Fault Refusal := .next (s.run (xRbTimeout ticket))

end Sys2Proof.Machine
end

