-- ==== Sys2Proof/Machine/Decision.lean ====
section
/-! DEFINITION. The commit decision of Hazel and its record (R23, R133, R136, R137, R142, R307, R360, R365). -/

namespace Sys2Proof.Machine

def decCommit : Nat := 1
def decAdopted : Nat := 2
def decNonfinite : Nat := 3
def decDispute : Nat := 4
def decHold : Nat := 5
def decDiscard : Nat := 6

/-- The decision record of HAZEL_DECISION (R360, R388). -/
structure DecisionRec where
  step : Nat
  seed : Nat
  token : Nat
  clip : F32
  code : Nat
  deriving DecidableEq, Repr

def DecisionRec.bytes (d : DecisionRec) : List Byte :=
  beBytes 8 d.step ++ beBytes 8 d.seed ++ beBytes 8 d.token ++ beBytes 4 d.clip.toNat ++ beBytes 1 d.code ++ [0, 0, 0]

/-- A decision record from its bytes; none where they are empty. -/
def decisionOf (r : List Byte) : Option DecisionRec :=
  if r.length < 32 then none
  else some ⟨ofBE (r.take 8), ofBE ((r.drop 8).take 8), ofBE ((r.drop 16).take 8), BitVec.ofNat 32 (ofBE ((r.drop 24).take 4)), ofBE ((r.drop 28).take 1)⟩

/-- The decision record of a context; none before its first decision (R362). -/
def Block.decision (b : Block) (c : Nat) : Option DecisionRec := decisionOf (b.oct Od.hazelDecision (c + 1))

def Block.setDecision (b : Block) (c : Nat) (d : DecisionRec) : Block := b.setOct Od.hazelDecision (c + 1) d.bytes

/-- The code of the decision: the first row of R360 whose condition holds. -/
def decisionCode (nf dispute : Bool) (count token : Nat) (adopt : Bool) : Nat :=
  if nf then decNonfinite
  else if dispute then decDispute
  else if count ≠ token then (if adopt then decAdopted else decHold)
  else decCommit

/-- Fills CTX_LAST_SKIP (R142, R146); the ticket is the one of CTX_NF_FIRST where this member's bank of the step is set. -/
def Block.recordSkip (b : Block) (c step cause : Nat) : Block :=
  let first := b.oct Od.ctxNfFirst (c + 1)
  let t := if bit cause 0 && bit (b.reg Od.ctxNfFlags (c + 1)) (step % 2) && decide (first.length ≥ 4) then ofBE (first.take 4) else noTicket
  b.setOct Od.ctxLastSkip (c + 1) (beBytes 8 step ++ beBytes 1 cause ++ [0, 0, 0] ++ beBytes 4 t)

/-- A commit: the counter advances from `from_`, CTX_RESID_SEL toggles, the step is counted (R137, R142). -/
def Block.commit (b : Block) (c from_ : Nat) : Block :=
  ((b.setReg Od.hazelStep (c + 1) (from_ + 1)).setReg Od.ctxResidSel (c + 1) ((b.reg Od.ctxResidSel (c + 1)) ^^^ 1)).bump Od.ctxStepsCommitted (c + 1) 1

/-- A skip: counted and raised (R142). -/
def Block.skipStep (b : Block) (c : Nat) : Block := (b.bump Od.ctxStepsSkipped (c + 1) 1).raise 0x4320 c []

/-- Signals the SIG token of an UPDATE, once (R257). -/
def Block.signalUpdate (b : Block) (t : Nat) : Block :=
  match b.task? t with
  | some x => if x.signalled then b else (b.setTask t (fun y => { y with signalled := true })).signal x.ctx (sigOf x.desc) 1
  | none => b

/-- Does an UPDATE belong to the decision of step `s` (R362)? -/
def belongsTo (t : Task) (s : Nat) : Bool := spOf t.desc == s % 2

/-- At a skip, the UPDATE tasks that wait for the decision signal at the instant of the decision (R136, R362). -/
def Block.signalWaiting (b : Block) (c s : Nat) : Block :=
  ((b.disp.tasks.filter (fun t => t.ctx == c && t.isRunning && opcodeOf t.desc == opUpdate && t.decided.isEmpty && belongsTo t s)).map (·.ticket)).foldl
    (fun b t => b.signalUpdate t) b

/-- The UPDATE tasks that wait for this decision take it, with Hazel's counter after it (R362). -/
def Block.latchDecision (b : Block) (c : Nat) (d : DecisionRec) : Block :=
  { b with disp := { b.disp with tasks := b.disp.tasks.map (fun t =>
      if t.ctx == c && t.isRunning && opcodeOf t.desc == opUpdate && t.decided.isEmpty && belongsTo t d.step then
        { t with decided := d.bytes, counter := b.reg Od.hazelStep (c + 1) }
      else t) } }

/-- The norm close result of step `s` reaches Hazel (R360). -/
def Block.decide_ (b : Block) (c s : Nat) (nf dispute : Bool) (token : Nat) (clip : F32) : Block × DecisionRec :=
  let count := b.reg Od.hazelStep (c + 1)
  let code := decisionCode nf dispute count token (b.reg Od.hazelAdopt (c + 1) == 1)
  let d : DecisionRec := ⟨s, b.reg Od.ctxRoundSeed (c + 1), token, clip, code⟩
  let b := b.setDecision c d
  let cause := (if nf then 1 else 0) + (if dispute then 2 else 0)
  (if code = decCommit then b.commit c count
   else if code = decAdopted then b.commit c token
   else if code = decHold then (b.recordSkip c s 4).raise 0x8390 c (beBytes 8 count ++ beBytes 8 token)
   else ((b.recordSkip c s cause).skipStep c).signalWaiting c s, d)

/-- The decision, and the UPDATE tasks that it reaches. -/
def Block.commitDecision (b : Block) (c s : Nat) (nf dispute : Bool) (token : Nat) (clip : F32) : Block :=
  let r := b.decide_ c s nf dispute token clip
  r.1.latchDecision c r.2

/-- A write of HAZEL_SKEW_RESOLVE for a held decision (R365, R388). -/
def Block.resolveHold (b : Block) (c : Nat) (adopt : Bool) : Block :=
  b.onWrite Od.hazelSkewResolve false (fun b =>
    match b.decision c with
    | some d =>
      if d.code ≠ decHold ∨ b.resetting c then b.answer stWriteRefused
      else if adopt then ((b.setDecision c { d with code := decAdopted }).commit c d.token).answer stOK
      else ((b.setDecision c { d with code := decDiscard }).skipStep c).answer stOK
    | none => b.answer stWriteRefused)

def xSkewAdopt (c : Nat) (b : Block) : Block := b.resolveHold c true
def xSkewDiscard (c : Nat) (b : Block) : Block := b.resolveHold c false

def execHazelSkewAdopt (ctx : Nat) (s : State) : Host.Outcome State Fault Refusal := .next (s.run (xSkewAdopt ctx))
def execHazelSkewDiscard (ctx : Nat) (s : State) : Host.Outcome State Fault Refusal := .next (s.run (xSkewDiscard ctx))

end Sys2Proof.Machine
end

