-- ==== Sys2Proof/Machine/Dispatcher.lean ====
section
/-! DEFINITION. The Dispatcher: rings, fetch, issue, completion and the tasks it runs itself (R116 to R125, R236 to R272). -/

namespace Sys2Proof.Machine

/-- The Dispatchers run: the module is live, not in Park and not shed (R460, R534). -/
def Block.dispRuns (b : Block) : Bool :=
  b.live && b.power != pwrPark && !b.gov.shed && (b.service == svcLimited || b.service == svcFull)

/-- Home Borough of a ring (R236). -/
def homeOf (r : Nat) : Nat := r / 4096

/-- Tasks of a ring fetched and not yet issued. -/
def Block.heldTasks (b : Block) (k : Nat) : List Task := b.disp.tasks.filter (fun t => t.ring == k && t.phase == .held)

/-- A ring's hold; `Hold.none` where nothing holds it. -/
def Block.holdOf (b : Block) (k : Nat) : Hold := sget Hold.none b.disp.holds k

def Block.setHold (b : Block) (k : Nat) (h : Hold) : Block := { b with disp := { b.disp with holds := sset Hold.none b.disp.holds k h } }

/-- Tasks of an opcode running on a unit. -/
def Block.runningOn (b : Block) (o u : Nat) : List Task :=
  b.disp.tasks.filter (fun t => t.isRunning && opcodeOf t.desc == o && t.unit == u)

/-- Active XFER tasks of an engine. -/
def Block.engineLoad (b : Block) (e : Nat) : Nat := (b.runningOn opXfer e).length

/-- The engine that runs an XFER (R203). -/
def Block.engineOf (b : Block) (x : Xfer) : Nat :=
  if x.engine < 16 then x.engine
  else
    let k := x.engine - 16
    (List.range 4).foldl (fun best i => if b.engineLoad (4 * k + i) < b.engineLoad best then 4 * k + i else best) (4 * k)

/-! ### Ring configuration (R237, R238, R251, R272) -/

/-- A record with ENABLE = 1 that R238 refuses for its fields. -/
def badRing (r : BitVec 256) : Bool :=
  let n := cfgLog r
  decide (n < 4) || decide (n > 12) || cfgReserved r || cfgBase r % (64 * 2 ^ n) != 0 || cfgRecord r % (64 * 2 ^ n) != 0

/-- The fields of a ring record; its reserved bits take no write (R12, R237). -/
def cfgKept (r : BitVec 256) : BitVec 256 :=
  BitVec.ofNat 256 (at' 242 (bits r.toNat 255 242) + at' 226 (bits r.toNat 239 226) + at' 144 (bits r.toNat 191 144) + at' 80 (bits r.toNat 127 80))

/-- Does a ring belong to a context now: the latched record names it, or the ring holds its tickets (R236, R269, R271)? -/
def Block.ringIs (b : Block) (k c : Nat) : Bool :=
  cfgCtx (b.ring k).cfg == c || b.disp.tasks.any (fun t => t.ring == k && t.ctx == c)

/-- A ring belongs to a context that is resetting. -/
def Block.ringResetting (b : Block) (k : Nat) : Bool := (List.range 64).any (fun c => b.resetting c && b.ringIs k c)

/-- A write of DISP_RING_CONFIG: the record is latched whatever ENABLE says; tasks already fetched keep the one under which they were fetched (R237, R238). -/
def xRingConfig (r : BitVec 256) (b : Block) : Block :=
  b.onWrite Od.dispRingConfig false (fun b =>
    let k := cfgRing r
    let old := b.ring k
    if b.service = svcManagement || b.ringResetting k then b.answer stWriteRefused
    else if !cfgEnable r then
      ((b.setRing k { old with state := .disabled, cfg := cfgKept r, workAt := 0 }).setHold k (if (b.heldTasks k).isEmpty then Hold.none else b.holdOf k)).answer stOK
    else if b.resetting (cfgCtx r) || old.state != .disabled || b.disp.tasks.any (fun t => t.ring == k) || badRing r then b.answer stWriteRefused
    else ((b.setRing k { Ring.empty with cfg := r, state := .active }).setHold k Hold.none).answer stOK)

/-- A write of DISP_RING_RESUME. -/
def xRingResume (v : Nat) (b : Block) : Block :=
  b.onWrite Od.dispRingResume false (fun b =>
    let r := b.ring v
    if r.state == .halted && r.reason != 7 then
      (b.setRing v { r with state := .active, reason := 0, failVA := 0 }).answer stOK
    else b.answer stWriteRefused)

/-- The module token that a client has selected (R512). -/
def Block.tokenSel (b : Block) (c : Client) : Nat := ((b.client? c).map (·.tokenSel)).getD 0

/-- A doorbell (R241): replaces the producer index or is discarded. -/
def Block.ringDoorbell (b : Block) (k producer : Nat) (reserved : Bool) : Block :=
  let r := b.ring k
  if reserved || r.state != .active || b.resetting (cfgCtx r.cfg)
      || decide ((producer + 2 ^ 16 - r.fetch) % 2 ^ 16 > 2 ^ cfgLog r.cfg) then
    (b.bump Od.dispDoorbellRejects 0 1).raise 0x4362 (if r.state == .disabled then noCtx else cfgCtx r.cfg) []
  else b.setRing k { r with producer := producer, workAt := if r.workAt = 0 ∧ producer ≠ r.fetch then b.dt + 1 else r.workAt }

/-- The doorbell word of R240. -/
def Block.doorbellWord (b : Block) (w : Nat) : Block := b.ringDoorbell (bits w 63 50) (bits w 15 0) (bits w 49 16 != 0)

def xDoorbell (w : BitVec 64) (b : Block) : Block := if b.live then b.doorbellWord w.toNat else b

/-! ### Fetch (R248 to R254) -/

/-- A ring is held (R262, R264): its entry into a hold at a bound is counted. -/
def Block.holdAt (b : Block) (k reason : Nat) : Block :=
  let h := b.holdOf k
  let b : Block := if reason ≤ 8 ∧ h.reason ≠ reason then b.bump Od.dispBoundHolds reason 1 else b
  b.setHold k (if h.reason = 0 then ⟨reason, b.dt, false⟩ else { h with reason := reason })

/-- The Dispatcher consumes poison in a slot (R393). -/
def Block.slotFailed (b : Block) (k va : Nat) : Block :=
  let r := b.ring k
  (b.setRing k { r with state := .halted, reason := 6, failVA := va }).raise 0x8361 (cfgCtx r.cfg) []

/-- Physical address of a slot or record, which must lie in HBM, or in Terrace 0 for a limited context (R239, R252, R532). -/
def Block.slotAddr (b : Block) (c va : Nat) (write : Bool) : Option Nat :=
  match b.walk c va write false with
  | .ok pa =>
    if b.limitedCtx c then (if terraceBase ≤ pa ∧ pa < terraceBase + terraceSize then some pa else none)
    else if pa < hbmSize then some pa else none
  | _ => none

/-- The virtual address of the record of an index, under a ring record (R242, R243). -/
def recordAt (cfg : BitVec 256) (index : Nat) : Nat := cfgRecord cfg + 64 * (index % 2 ^ cfgLog cfg)

/-- Writes a record of 64 bytes at the record address of an index; fails when it does not translate. -/
def Block.writeRecord (b : Block) (k : Nat) (cfg : BitVec 256) (index record : Nat) : Option Block :=
  let va := recordAt cfg index
  (b.slotAddr (cfgCtx cfg) va true).map (fun pa =>
    ((b.countWalk (some (homeOf k)) (cfgCtx cfg) va).countRemote (homeOf k) pa 64).writePhys pa (leBytes 64 record))

/-- A record that cannot be written halts the ring for good (R252). -/
def Block.recordFailed (b : Block) (k : Nat) (cfg : BitVec 256) (index : Nat) : Block :=
  (b.setRing k { b.ring k with state := .halted, reason := 7, failVA := recordAt cfg index }).raise 0x8361 (cfgCtx cfg) []

/-- A malformed descriptor at an index (R249). -/
def Block.haltRing (b : Block) (k index opcode reason : Nat) : Block :=
  let r := b.ring k
  let c := cfgCtx r.cfg
  let rec_ := recordBits noTicket sMalformed opcode (phaseOf (cfgLog r.cfg) index) k (index % 2 ^ cfgLog r.cfg) c 0 b.dt (at' 248 reason)
  let b := (b.setRing k { r with state := .halted, reason := reason, fetch := index, failVA := 0 }).raise 0x8360 c []
  match b.writeRecord k r.cfg index rec_ with
  | some b => b
  | none => b.recordFailed k r.cfg index

/-- Tickets of a Borough in use, and a free entry of its table (R253, R254). -/
def Block.boroughTasks (b : Block) (k : Nat) : List Task := b.disp.tasks.filter (fun t => homeOf t.ring == k)

def entryOf (ticket : Nat) : Nat := bits ticket 29 16

/-- The lowest number from `e` on that a list does not hold, among `n`. -/
def firstFree (used : List Nat) : Nat → Nat → Option Nat
  | 0, _ => none
  | n + 1, e => if used.contains e then firstFree used n (e + 1) else some e

def Block.freeEntry (b : Block) (k : Nat) : Option Nat := firstFree ((b.boroughTasks k).map (fun t => entryOf t.ticket)) 16384 0

/-- May a ring take one more ticket (R254)? -/
def Block.ticketRoom (b : Block) (k : Nat) : Bool :=
  let mine := b.boroughTasks (homeOf k)
  let rings := (mine.map (·.ring)).dedup
  !rings.contains k || decide (mine.length - rings.length < 12288)

/-- Assigns a ticket in a ring's home Borough (R253). -/
def Block.newTicket (b : Block) (k : Nat) : Option (Nat × Block) :=
  if !b.ticketRoom k then none
  else (b.freeEntry (homeOf k)).map (fun e =>
    let key := homeOf k * 16384 + e
    let g := sget 0 b.disp.gens key
    let t := at' 30 (homeOf k) + at' 16 e + g
    let g := if t = noTicket then 0 else g
    let d := b.disp
    (at' 30 (homeOf k) + at' 16 e + g, { b with disp := { d with gens := sset 0 d.gens key ((g + 1) % 2 ^ 16) } }))

/-- Does a task belong to the current step of its context (R116)? -/
def Block.currentStep (b : Block) (c : Nat) (d : Desc) : Bool := spOf d == b.roundStep c % 2

/-- The step that a task belongs to. -/
def Block.stepOf (b : Block) (c : Nat) (d : Desc) : Nat := b.roundStep c + (if b.currentStep c d then 0 else 1)

/-- Destination ranges that an aborted task taints (R125, R229). -/
def Block.outputsOf (b : Block) (t : Task) : List (Nat × Nat) :=
  let o := opcodeOf t.desc
  if o = opXfer then t.xferExtents.2 else if o = opGather then b.gatherDst t else []

/-- The unit-specific part of the record of a task that ends ABORTED without having run (R228, R245, R289, R385). -/
def Block.abortUnit (b : Block) (t : Task) : Nat :=
  let o := opcodeOf t.desc
  if o = opXfer then reportBits [] 0 0 t.ticket 0
  else if o = opGather ∨ o = opScatter then gsUnit 0 0 0 0xFFFFFFFF (b.scatterLen t)
  else if o = opCollective then b.idleUnit (colOf t.desc)
  else 0

/-- What the end of a task that does not run does to its outputs and to the ports that it would have fed (R125, R229, R231, R383). -/
def Block.loseOutputs (b : Block) (t : Task) : Block :=
  let b := b.addTaint t.ctx t.ticket (b.outputsOf t)
  let b := if opcodeOf t.desc = opXfer then b.breakPorts t (b.xferPorts t (b.xferOptions t)) sAborted else b
  if opcodeOf t.desc = opVector then b.taintOuts t
  else if opcodeOf t.desc = opScatter ∧ gsKind t.desc = 0 then (b.nonfinite t.ctx t.step).2
  else if opcodeOf t.desc = opXfer ∧ t.xfer.dst = 5 then b.stageFault t.ctx t.step
  else b

/-- A fetched descriptor as a held task; what an XFER would latch and a VECTOR would map now stands in it until its issue. -/
def Block.fetched (b : Block) (k index ticket : Nat) (d : Desc) : Task :=
  let cfg := (b.ring k).cfg
  let c := cfgCtx cfg
  let l := if opcodeOf d = opXfer then b.latch (b.engineOf (xferOf d)) c d else (d, none)
  { ticket := ticket, desc := d, ring := k, ctx := c, index := index, phase := .held, issued := 0, step := b.roundStep c,
    unit := if opcodeOf d = opVector then b.mapFor c (passOf d) (unitOf d) else 0, rect := (0, 0, 0, 0), signalled := false, waits := [],
    stage := 0, sel := b.reg Od.ctxResidSel (c + 1) % 2, rule := 0, decided := [], counter := 0, order := 0, opts := l.1, shape := l.2, flow := Flow.empty, cfg := cfg }

/-- Enters a fetched descriptor as a held task; a late forward task completes ABORTED (R125). -/
def Block.enterTask (b : Block) (k index ticket : Nat) (d : Desc) : Block :=
  let t := b.fetched k index ticket d
  let c := t.ctx
  let b := b.leaveIdle
  if passOf d = passFwd ∧ b.currentStep c d ∧ b.reg Od.ctxStepPhase (c + 1) = 1 then
    let b : Block := { b with disp := { b.disp with tasks := b.disp.tasks ++ [{ t with phase := .ended sAborted (b.abortUnit t) }] } }
    (b.loseOutputs t).raise 0x8322 c []
  else
    let b : Block := { b with disp := { b.disp with tasks := b.disp.tasks ++ [t] } }
    if opcodeOf d = opFence ∧ passOf d = passBwd ∧ !b.disp.turns.any (fun x => x.1 == c && x.2.1 == b.stepOf c d) then
      { b with disp := { b.disp with turns := b.disp.turns ++ [(c, b.stepOf c d, ticket)] } }
    else b

/-- Fetches one run of at most `n` slots (R248 to R254). -/
def Block.fetchRun (b : Block) (k : Nat) : Nat → Block
  | 0 => b
  | n + 1 =>
    let r := b.ring k
    let c := cfgCtx r.cfg
    if r.state != .active || r.fetch == r.producer || decide ((b.heldTasks k).length ≥ 8) then b
    else
      let slot := r.fetch % 2 ^ cfgLog r.cfg
      let va := cfgBase r.cfg + 64 * slot
      match b.slotAddr c va false with
      | none => b.slotFailed k va
      | some pa =>
        let v := b.readPhys pa 64
        let read := fun (b : Block) => (b.countWalk (some (homeOf k)) c va).countReadFrom (homeOf k) pa 64
        if v.2 then ((read b).consumePoison c noTicket).slotFailed k va
        else
          let d := BitVec.ofNat 512 (ofLE v.1)
          let m := b.malformed c d
          if m != 0 then (read b).haltRing k r.fetch (opcodeOf d) m
          else match b.newTicket k with
            | none => if (b.heldTasks k).isEmpty then b.holdAt k 1 else b
            | some (t, b) =>
              let n' := (r.fetch + 1) % 2 ^ 16
              let b := (((read b).setRing k { r with fetch := n', workAt := if n' = r.producer then 0 else b.dt + 1 }).setHold k (if (b.holdOf k).reason = 1 then Hold.none else b.holdOf k)).enterTask k r.fetch t d
              if slot + 1 = 2 ^ cfgLog r.cfg then b else b.fetchRun k n

/-! ### Arbitration (R260) -/

/-- A ring that asks: its number, the DT since which it has waited, its priority, and its unit, 0 for none. -/
structure Ask where
  ring : Nat
  since : Nat
  priority : Nat
  unit : Nat
  deriving DecidableEq, Repr

/-- Effective priority (R260). -/
def Block.effPriority (b : Block) (a : Ask) : Nat := min 7 (a.priority + (b.dt - a.since) / (1000 * b.reg Od.dispAgeUs 0))

/-- Places from the ring that round robin favours. -/
def askAway (turn : Nat) (a : Ask) : Nat := (a.ring % 4096 + 4096 - turn) % 4096

/-- Does one ring come before another: a higher effective priority, and among equals the next in round robin? -/
def Block.askBefore (b : Block) (turn : Nat) (a c : Ask) : Bool :=
  decide (b.effPriority c < b.effPriority a) || (b.effPriority a == b.effPriority c && decide (askAway turn a < askAway turn c))

def Block.askInsert (b : Block) (turn : Nat) (a : Ask) : List Ask → List Ask
  | [] => [a]
  | c :: r => if b.askBefore turn a c then a :: c :: r else c :: b.askInsert turn a r

/-- The rings that are served at once, `n` at most and one to a unit. -/
def askServed : Nat → List Ask → List Nat
  | 0, _ => []
  | _, [] => []
  | n + 1, a :: r => a.ring :: askServed n (r.filter (fun c => a.unit == 0 || c.unit != a.unit))

/-- Is a ring among the `n` that are served at once? -/
def Block.served (b : Block) (turn n k : Nat) (l : List Ask) : Bool :=
  (askServed n (l.foldr (fun a r => b.askInsert turn a r) [])).contains k

/-- Rings of a Borough with published work that may be fetched. -/
def Block.fetchAsks (b : Block) (h : Nat) : List Ask :=
  (b.disp.rings.filter (fun e => homeOf e.1 == h && e.2.state == .active && e.2.fetch != e.2.producer && !b.resetting (cfgCtx e.2.cfg)
    && decide ((b.heldTasks e.1).length < 8))).map (fun e => ⟨e.1, e.2.workAt - 1, cfgPriority e.2.cfg, 0⟩)

/-! ### Issue (R258 to R264) -/

/-- Plaza tasks running on a Plaza. -/
def Block.plazaTasks (b : Block) (p : Nat) : List Task :=
  b.disp.tasks.filter (fun t => t.isRunning && t.unit == p && (opcodeOf t.desc == opMatmul || opcodeOf t.desc == opDist))

/-- Do two rectangles share a block? -/
def rectsMeet (a c : Nat × Nat × Nat × Nat) : Bool :=
  decide (a.1 < c.1 + c.2.2.1 ∧ c.1 < a.1 + a.2.2.1 ∧ a.2.1 < c.2.1 + c.2.2.2 ∧ c.2.1 < a.2.1 + a.2.2.2)

/-- Is a rectangle free: no running task on it and no replay due on one of its blocks (R41, R404)? -/
def Block.rectFree (b : Block) (p : Nat) (r : Nat × Nat × Nat × Nat) : Bool :=
  !(b.plazaTasks p).any (fun t => rectsMeet t.rect r)
    && !b.ras.samples.any (fun s => s.stage == 3 && (rectBlocks r).any (fun k => s.suspects.contains (unitCode p k)))

/-- The rectangle of a Plaza task: its own origin, or the lowest free one (R42). -/
def Block.placeRect (b : Block) (p : Nat) (x : MM) : Option (Nat × Nat × Nat × Nat) :=
  if x.place then
    ((List.range (13 - x.h)).flatMap (fun r => (List.range (13 - x.w)).map (fun c => (r, c, x.h, x.w)))).find? (b.rectFree p)
  else if b.rectFree p (x.row0, x.col0, x.h, x.w) then some (x.row0, x.col0, x.h, x.w) else none

/-- Do two port lists share a port? -/
def portsMeet (a c : List PortId) : Bool := a.any c.contains

/-- Every set that a task names has finished its drain (R43). -/
def Block.setsFree (b : Block) (p : Nat) (r : Nat × Nat × Nat × Nat) (x : MM) : Bool :=
  !b.plz.drains.any (fun j => (rectBlocks r).any (fun k => decide (setKey p k x.aset ≤ j.key ∧ j.key < setKey p k x.aset + x.ns)))

/-- Does a COLLECTIVE find room on its slice? One that can never fit issues and ends with ADDR_FAULT (R274, R286). -/
def Block.collectiveRoom (b : Block) (x : Col) : Bool :=
  let used := ((b.runningOn opCollective x.slice).map (fun t => b.partialSlots (colOf t.desc))).sum
  decide ((b.runningOn opCollective x.slice).length < 256)
    && (decide (b.partialSlots x > b.sharedSlots x.slice) || decide (used + b.partialSlots x ≤ b.sharedSlots x.slice))

/-- Hazel tasks held by a context, or by the module (R341). -/
def Block.hazelTasks (b : Block) : List Task :=
  b.disp.tasks.filter (fun t => t.isRunning && (opcodeOf t.desc == opUpdate || opcodeOf t.desc == opGather || opcodeOf t.desc == opScatter))

/-- An activation of the HAZEL image waits for Hazel to run no task (R495). -/
def Block.hazelSwitching (b : Block) : Bool :=
  match b.wal.kinds[1]? with
  | some k => k.pending.isSome || k.switching
  | none => false

/-- A Plaza drains, and none remains in service to take its tasks, which wait (R545). -/
def Block.noPlaza (b : Block) (p : Nat) : Bool := b.plaza p == plDraining && (List.range 8).all (fun q => b.plaza q != plInService)

/-- The bound at which a task must wait, 0 for none (R262, R531, R545). -/
def Block.boundOf (b : Block) (t : Task) : Nat :=
  let o := opcodeOf t.desc
  let lim := b.service == svcLimited
  if o = opMatmul ∨ o = opDist then
    let x := mmOf t.desc
    let p := b.mapFor t.ctx (passOf t.desc) x.plaza
    if (lim && (x.fmtS != 0 || x.fmtH != 0)) || !b.plazaRuns p || b.noPlaza p || decide ((b.plazaTasks p).length ≥ 16)
        || (b.plazaTasks p).any (fun u => portsMeet (feedPorts p (mmOf u.desc)) (feedPorts p x)) then 2
    else match b.placeRect p x with
      | none => 2
      | some r => if b.setsFree p r x then 0 else 2
  else if o = opVector then
    let v := vecOf t.desc
    let p := b.mapFor t.ctx (passOf t.desc) (unitOf t.desc)
    if !b.plazaRuns p || decide ((b.runningOn opVector p).length ≥ 16)
        || (b.runningOn opVector p).any (fun u => portsMeet (inPorts p (vecOf u.desc) ++ outPorts p (vecOf u.desc)) (inPorts p v ++ outPorts p v)) then 3
    else 0
  else if o = opXfer then
    let x := xferOf t.desc
    if lim && (decide (4 ≤ x.engine ∧ x.engine < 16) || decide (17 ≤ x.engine)) then 4
    else if b.engineLoad (b.engineOf x) ≥ 1024 then 4
    else if (b.xferPorts t (b.xferOptions t)).any (fun p => decide (b.queued p ≥ 4)) then 5
    else 0
  else if o = opCollective then
    if lim || !b.collectiveRoom (colOf t.desc) then 6 else 0
  else if o = opNormClose then
    if lim || b.disp.tasks.any (fun u => u.phase != .held && opcodeOf u.desc == opNormClose && u.ctx == t.ctx) then 6 else 0
  else if o = opUpdate ∨ o = opGather ∨ o = opScatter then
    if lim || b.hazelSwitching || decide (b.hazelTasks.length ≥ 1024)
        || decide ((b.hazelTasks.filter (fun u => u.ctx == t.ctx)).length ≥ 256) then 7 else 0
  else 0

/-- The pass holds of R119, R124 and R434. -/
def Block.passHeld (b : Block) (t : Task) : Bool :=
  let d := t.desc
  if passOf d = passNone then false
  else if !b.currentStep t.ctx d then true
  else if sget 0 b.disp.release t.ctx != 0 then true
  else passOf d == passBwd && opcodeOf d != opFence && b.reg Od.ctxStepPhase (t.ctx + 1) == 0

/-- Why a ring head does not issue, 0 when it does (R259). -/
def Block.issueHold (b : Block) (t : Task) : Nat :=
  if !(b.waitMet t.ctx (wait0Of t.desc) && b.waitMet t.ctx (wait1Of t.desc)) then 9
  else if orderedOf t.desc && b.disp.tasks.any (fun u => u.ring == t.ring && (u.index + 1) % 2 ^ 16 == t.index) then 10
  else if b.passHeld t then 8
  else b.boundOf t

/-- The taint that a task meets at its issue (R230, R233). -/
def Block.issueTaint (b : Block) (t : Task) : Option (Nat × Nat) :=
  let o := opcodeOf t.desc
  if o = opXfer then b.xferTaint t
  else b.tainted t.ctx (if o = opGather then idxExtent t.desc else if o = opScatter then b.scatterSrc t else [])

/-- The physical unit and rectangle that a task gets at issue. -/
def Block.placeTask (b : Block) (t : Task) : Nat × (Nat × Nat × Nat × Nat) :=
  let o := opcodeOf t.desc
  if o = opMatmul ∨ o = opDist then
    let x := mmOf t.desc
    let p := b.mapFor t.ctx (passOf t.desc) x.plaza
    (p, (b.placeRect p x).getD (0, 0, 0, 0))
  else if o = opVector then (b.mapFor t.ctx (passOf t.desc) (unitOf t.desc), (0, 0, 0, 0))
  else if o = opXfer then (b.engineOf (xferOf t.desc), (0, 0, 0, 0))
  else if o = opCollective then ((colOf t.desc).slice, (0, 0, 0, 0))
  else (0, (0, 0, 0, 0))

/-- A task that fails the taint check completes TAINTED without running (R230, R359, R383). -/
def Block.issueTainted (b : Block) (t : Task) (cause origin : Nat) : Block :=
  let o := opcodeOf t.desc
  if o = opXfer then b.endXfer t.ticket sTainted [] cause 0 origin
  else if o = opGather then (b.endTask t.ticket sTainted (gsUnit 0 0 0 0xFFFFFFFF 0)).addTaint t.ctx origin (b.gatherDst t)
  else
    let b := b.endTask t.ticket sTainted (gsUnit 0 0 0 0xFFFFFFFF (b.scatterLen t))
    if gsKind t.desc = 0 then (b.nonfinite t.ctx t.step).2 else b

/-- The decision that an UPDATE takes at its issue: the context's last one where it belongs to it, else none yet (R362). -/
def Block.takeDecision (b : Block) (t : Task) : List Byte :=
  match b.decision t.ctx with
  | some d => if opcodeOf t.desc = opUpdate ∧ belongsTo t d.step then d.bytes else []
  | none => []

/-- An UPDATE of a skipped step signals its token at its issue (R362, R365). -/
def Block.updateIssued (b : Block) (t : Nat) : Block :=
  match b.task? t with
  | none => b
  | some x => match b.decision x.ctx with
    | some d => if belongsTo x d.step && (d.code == decNonfinite || d.code == decDispute || d.code == decDiscard) then b.signalUpdate t else b
    | none => b

/-- A ring's present head has issued: neither its hold nor the time for which it was ready stands for the next one (R260, R264). -/
def Block.clearHold (b : Block) (k : Nat) : Block :=
  { b with disp := { b.disp with holds := b.disp.holds.filter (fun (e : Nat × Hold) => e.1 != k), ready := b.disp.ready.filter (fun (e : Nat × Nat) => e.1 != k) } }

/-- The effects of an issue: unit, ports, the fence's witnesses, the taint check (R123, R125, R211, R230, R258). -/
def Block.issue (b : Block) (t : Task) : Block :=
  let c := t.ctx
  let o := opcodeOf t.desc
  let u := b.placeTask t
  let waits := if o = opFence ∧ passOf t.desc = passNone ∧ fenceScope t.desc = 2 then
    ((b.ctxTasks c).filter (fun x => x.ticket != t.ticket)).map (·.ticket) else []
  let l := if o = opXfer then b.latch u.1 c t.desc else (t.desc, none)
  let t' : Task := { t with phase := .running, issued := b.dt, step := b.roundStep c, unit := u.1, rect := u.2, sel := b.reg Od.ctxResidSel (c + 1) % 2, waits := waits, rule := if o = opUpdate then b.ruleSlot (updRule t.desc) else 0, decided := b.takeDecision t, counter := b.reg Od.hazelStep (c + 1), order := b.disp.issues, opts := l.1, shape := l.2 }
  let b : Block := { b with disp := { b.disp with issues := b.disp.issues + 1 } }
  let ports := if o = opXfer then b.xferPorts t' (b.xferOptions t') else []
  let b := b.setTask t.ticket (fun _ => t')
  let b := (b.clearHold t.ring).joinPorts t' ports
  let b := if o = opMatmul ∨ o = opDist then b.stopFill u.1 u.2 else b
  let b : Block := if (o = opMatmul ∨ o = opDist) ∧ passOf t.desc ≠ passNone ∧ !b.disp.used.contains (c, u.1) then
      { b with disp := { b.disp with used := b.disp.used ++ [(c, u.1)] } } else b
  let b : Block := if o = opFence ∧ passOf t.desc = passBwd ∧ b.disp.turns.any (fun x => x.2.2 == t.ticket)
        ∧ b.reg Od.ctxFwdDone (c + 1) > fwdCountOf t.desc then b.raise 0x8322 c [] else b
  let b : Block := if o = opUpdate ∧ updKind t.desc ≠ 0 then b.noteStage c (updStage t.desc)
    else if o = opScatter ∧ gsKind t.desc = 0 then b.noteStage c (gsStage t.desc) else b
  let b : Block := if o = opUpdate then b.updateIssued t.ticket else b
  match b.issueTaint t' with
  | some (cause, origin) => b.issueTainted t' cause origin
  | none => b

/-- The unit to which at most one task issues at once, 0 for the Dispatcher's own tasks (R260). -/
def Block.unitKey (b : Block) (t : Task) : Nat :=
  let o := opcodeOf t.desc
  if o = opUpdate ∨ o = opGather ∨ o = opScatter then 256
  else if o = opFence ∨ o = opEvent ∨ o = opTimeWait then 0
  else 16 * (if o = opDist then opMatmul else if o = opNormClose then opCollective else o) + (b.placeTask t).1

/-- The heads of a Borough's rings. -/
def Block.heads (b : Block) (h : Nat) : List Task :=
  ((b.disp.tasks.filter (fun t => t.phase == .held && homeOf t.ring == h)).map (·.ring)).dedup.filterMap (fun k => (b.heldTasks k).head?)

/-- Is a head ready to issue (R259)? -/
def Block.isReady (b : Block) (t : Task) : Bool := !b.resetting t.ctx && b.issueHold t == 0

/-- The heads of all rings that are ready. -/
def Block.readyHeads (b : Block) : List Task := ((List.range 4).flatMap b.heads).filter b.isReady

/-- Notes since when each head has been ready; a ready head is held no longer (R260, R264; log entry 54). -/
def Block.noteReady (b : Block) : Block :=
  let rs := b.readyHeads.map (·.ring)
  { b with disp := { b.disp with
      ready := rs.foldl (fun l k => sput l k (if sget 0 b.disp.ready k = 0 then b.dt + 1 else sget 0 b.disp.ready k)) [],
      holds := b.disp.holds.filter (fun (e : Nat × Hold) => !rs.contains e.1) } }

/-- The ready heads of a Borough (R260). -/
def Block.issueAsks (b : Block) (h : Nat) : List Ask :=
  ((b.heads h).filter b.isReady).map (fun t => ⟨t.ring, sget 0 b.disp.ready t.ring - 1, cfgPriority t.cfg, b.unitKey t⟩)

/-- DESCRIPTOR_FETCH (R248, R260): a ring among the 32 whose reads may be outstanding fetches a run. -/
def xFetch (k : Nat) (b : Block) : Block :=
  let r := b.ring k
  let h := homeOf k
  if !b.dispRuns || b.resetting (cfgCtx r.cfg) || (b.service == svcLimited && decide (k ≥ 4096)) then b
  else if !b.served (sget 0 b.disp.turnFetch h) 32 k (b.fetchAsks h) then b
  else
    let b' := b.fetchRun k 8
    (Block.contention { b' with disp := { b'.disp with turnFetch := sset 0 b'.disp.turnFetch h ((k + 1) % 4096) } } b' b).noteReady

/-- A head whose ticket-table entry is poisoned completes POISONED without issuing (R393). -/
def Block.poisonedEntry (b : Block) (t : Task) : Block :=
  let b := (b.clearHold t.ring).setTask t.ticket (fun t => { t with phase := .ended sPoisoned (b.abortUnit t) })
  ((b.loseOutputs t).consumePoison t.ctx t.ticket).noteReady

/-- TASK_ISSUE (R259, R260, R393): the ring head issues where it is among the four that a cycle issues, or its ring holds it; `poisoned` says that its ticket-table entry is found poisoned. -/
def xIssue (k : Nat) (poisoned : Bool) (b : Block) : Block :=
  match (b.heldTasks k).head? with
  | none => b
  | some t =>
    if !b.dispRuns || b.resetting t.ctx then b
    else if poisoned then b.poisonedEntry t
    else
      let b := b.noteReady
      let h := b.issueHold t
      if h ≠ 0 then b.holdAt k h
      else if b.served (sget 0 b.disp.turnIssue (homeOf k)) 4 k (b.issueAsks (homeOf k)) then
        let b := b.issue t
        Block.noteReady { b with disp := { b.disp with turnIssue := sset 0 b.disp.turnIssue (homeOf k) ((k + 1) % 4096) } }
      else b

/-- A write of DISP_TOKEN_VALUE; waits are tested afresh (R256). -/
def xTokenValue (c : Client) (v : Nat) (b : Block) : Block :=
  b.onWrite Od.dispTokenValue false (fun b => ((b.setToken (b.tokenSel c) v).noteReady).answer stOK)

/-- Is a ring held now: it has been, and its head is not ready? -/
def Block.isHeld (b : Block) (k : Nat) : Bool := (b.holdOf k).reason != 0 && !(b.readyHeads.map (·.ring)).contains k

/-- DISP_HOLD_LONG (R264). -/
def xHoldLong (k : Nat) (b : Block) : Block :=
  let h := b.holdOf k
  let ms := b.reg Od.dispHoldAlertMs 0
  if b.isHeld k && !h.alerted && ms != 0 && decide (b.dt > h.since + ms * 10 ^ 6) then
    (b.setHold k { h with alerted := true }).raise 0x4363 (cfgCtx (b.ring k).cfg) []
  else b

/-! ### Completion (R243, R244, R252, R257, R121) -/

/-- What a completion changes beside its record: counts, tokens, the ticket (R123, R253, R257). -/
def Block.retire (b : Block) (t : Task) (status : Nat) : Block :=
  let c := t.ctx
  let d := t.desc
  let key := homeOf t.ring * 16384 + entryOf t.ticket
  let b := b.bump Od.dispTasksCompleted (homeOf t.ring + 1) 1
  let b : Block := if passOf d = passFwd ∧ b.currentStep c d then b.bump Od.ctxFwdDone (c + 1) 1 else b
  let b : Block := if t.signalled ∨ (opcodeOf d = opUpdate ∧ t.stage ≠ 2) then b else b.signal c (sigOf d) 1
  let b : Block := { b with disp := { b.disp with tasks := b.disp.tasks.filter (fun x => x.ticket != t.ticket), gens := sset 0 b.disp.gens key ((bits t.ticket 15 0 + 1) % 2 ^ 16) } }
  if opcodeOf d = opNormClose ∧ status = sOK then b.stepBoundary t else b

/-- The completion record of a task (R243, R245). -/
def Block.recordOf (b : Block) (t : Task) (status unit : Nat) : Nat :=
  let n := cfgLog t.cfg
  recordBits t.ticket status (opcodeOf t.desc) (phaseOf n t.index) t.ring (t.index % 2 ^ n) t.ctx t.issued b.dt unit

/-- TASK_COMPLETE (R243). -/
def xComplete (ticket : Nat) (b : Block) : Block :=
  match b.task? ticket with
  | none => b
  | some t =>
    match t.phase with
    | .ended status unit =>
      if !b.live || b.gov.shed || b.resetting t.ctx || b.disp.stuck.contains (t.ring, ticket) then b
      else match b.writeRecord t.ring t.cfg t.index (b.recordOf t status unit) with
        | some b' => ((b'.retire t status).contention b' b).noteReady
        | none =>
          let b := b.recordFailed t.ring t.cfg t.index
          { b with disp := { b.disp with stuck := b.disp.stuck ++ [(t.ring, ticket)] } }
    | _ => b

/-! ### Tasks the Dispatcher runs itself (R122 to R125, R265 to R267) -/

/-- A Dispatcher command on a running task that `ok` admits. -/
def Block.dispCmd (b : Block) (t op : Nat) (ok : Task → Bool) (f : Task → Block → Block) : Block :=
  match b.starting t op with
  | some x => if ok x && !b.gov.shed then f x b else b
  | none => b

def fenceIs (scope : Nat) (t : Task) : Bool := passOf t.desc == passNone && fenceScope t.desc == scope

def xFenceTokens (t : Nat) (b : Block) : Block := b.dispCmd t opFence (fenceIs 0) (fun _ b => b.endTask t sOK 0)

/-- Every earlier index of the fence's ring has completed: no task of the ring stands before it. -/
def Block.earlierDone (b : Block) (t : Task) : Bool :=
  !((b.disp.tasks.takeWhile (fun x => x.ticket != t.ticket)).any (fun x => x.ring == t.ring))

def xFenceRing (t : Nat) (b : Block) : Block :=
  b.dispCmd t opFence (fenceIs 1) (fun x b => if b.earlierDone x then b.endTask t sOK 0 else b)

def xFenceContext (t : Nat) (b : Block) : Block :=
  b.dispCmd t opFence (fenceIs 2) (fun x b => if x.waits.any (fun w => (b.task? w).isSome) then b else b.endTask t sOK 0)

/-- TURN_FENCE (R123, R125): the first fence of the step makes the turn once its count is reached; a later one completes at once. -/
def xTurnFence (t : Nat) (b : Block) : Block :=
  b.dispCmd t opFence (fun x => passOf x.desc == passBwd) (fun x b =>
    if b.disp.turns.any (fun y => y.2.2 == t) then
      if b.reg Od.ctxFwdDone (x.ctx + 1) ≥ fwdCountOf x.desc then ((b.endTask t sOK 0).setReg Od.ctxStepPhase (x.ctx + 1) 1).noteReady else b
    else (b.endTask t sOK 0).raise 0x8322 x.ctx [])

def eventIs (kind : Nat) (t : Task) : Bool := eventKind t.desc == kind

def xNotify (t : Nat) (b : Block) : Block :=
  b.dispCmd t opEvent (eventIs 0) (fun x b =>
    (b.endTask t sOK 0).raise (0x0F00 + eventCode x.desc) x.ctx (beBytes 8 (eventArg x.desc)))

/-- EVENT_DOORBELL (R266): a ring of another context gives ADDR_FAULT. -/
def xEventDoorbell (t : Nat) (b : Block) : Block :=
  b.dispCmd t opEvent (eventIs 1) (fun x b =>
    if cfgCtx (b.ring (eventRing x.desc)).cfg != x.ctx then b.endTask t sAddrFault 0
    else (b.ringDoorbell (eventRing x.desc) (eventProducer x.desc) false).endTask t sOK 0)

def xTokenAdd (t : Nat) (b : Block) : Block :=
  b.dispCmd t opEvent (eventIs 2) (fun x b => ((b.signal x.ctx (eventToken x.desc) (eventAdd x.desc)).endTask t sOK 0).noteReady)

/-- TIME_WAIT (R267): a target already passed completes at once, late (R432); otherwise the task waits. -/
def xTimeWait (t : Nat) (b : Block) : Block :=
  b.dispCmd t opTimeWait (fun _ => true) (fun x b =>
    if b.dt ≥ timeTarget x.desc then (if b.dt = timeTarget x.desc then b else b.bump Od.calLate 0 1).endTask t sOK b.dt else b.setTask t (fun y => { y with stage := 1 }))

/-- TIME_WAIT_COMPLETION (R267): DT reaches the target of a waiting task. -/
def xTimeWaitCompletion (t : Nat) (b : Block) : Block :=
  match b.task? t with
  | none => b
  | some x =>
    if x.isRunning && x.stage == 1 && opcodeOf x.desc == opTimeWait && !b.gov.shed then
      let b : Block := { b with dt := max b.dt (timeTarget x.desc) }
      b.endTask t sOK b.dt
    else b

/-- STEP_RELEASE (R434): the release instant of a context frees the tasks held for its next step. -/
def xStepRelease (c : Nat) (b : Block) : Block :=
  let r := sget 0 b.disp.release c
  if r = 0 || !b.inOrder (r - 1) 3 then b
  else Block.noteReady { b with dt := max b.dt (r - 1), disp := { b.disp with release := sset 0 b.disp.release c 0 } }

def execDispRingConfig (r : BitVec 256) (s : State) : Host.Outcome State Fault Refusal := .next (s.run (xRingConfig r))
def execDispRingResume (v : Nat) (s : State) : Host.Outcome State Fault Refusal := .next (s.run (xRingResume v))
def execDispTokenValue (c : Client) (v : Nat) (s : State) : Host.Outcome State Fault Refusal := .next (s.run (xTokenValue c v))
def execDoorbell (w : BitVec 64) (s : State) : Host.Outcome State Fault Refusal := .next (s.run (xDoorbell w))
def execDescriptorFetch (k : Nat) (s : State) : Host.Outcome State Fault Refusal := .next (s.run (xFetch k))
def execTaskIssue (h : RingHead) (s : State) : Host.Outcome State Fault Refusal := .next (s.run (xIssue h.ring h.poisoned))
def execTaskComplete (t : Nat) (s : State) : Host.Outcome State Fault Refusal := .next (s.run (xComplete t))
def execDispHoldLong (k : Nat) (s : State) : Host.Outcome State Fault Refusal := .next (s.run (xHoldLong k))
def execFenceTokens (t : Nat) (s : State) : Host.Outcome State Fault Refusal := .next (s.run (xFenceTokens t))
def execFenceRing (t : Nat) (s : State) : Host.Outcome State Fault Refusal := .next (s.run (xFenceRing t))
def execFenceContext (t : Nat) (s : State) : Host.Outcome State Fault Refusal := .next (s.run (xFenceContext t))
def execTurnFence (t : Nat) (s : State) : Host.Outcome State Fault Refusal := .next (s.run (xTurnFence t))
def execNotify (t : Nat) (s : State) : Host.Outcome State Fault Refusal := .next (s.run (xNotify t))
def execEventDoorbell (t : Nat) (s : State) : Host.Outcome State Fault Refusal := .next (s.run (xEventDoorbell t))
def execTokenAdd (t : Nat) (s : State) : Host.Outcome State Fault Refusal := .next (s.run (xTokenAdd t))
def execTimeWait (t : Nat) (s : State) : Host.Outcome State Fault Refusal := .next (s.run (xTimeWait t))
def execTimeWaitCompletion (t : Nat) (s : State) : Host.Outcome State Fault Refusal := .next (s.run (xTimeWaitCompletion t))
def execStepRelease (c : Nat) (s : State) : Host.Outcome State Fault Refusal := .next (s.run (xStepRelease c))

end Sys2Proof.Machine
end

