-- ==== Sys2Proof/Machine/Hazel.lean ====
section
/-! DEFINITION. UPDATE: the recurrence, Kronecker roots, write-back and the silent-layer monitor (R144, R145, R357 to R378, R384). -/

namespace Sys2Proof.Machine

/-! ### Values of the slow tier with their poison -/

/-- A value and whether a word it rests on is poisoned. -/
abbrev PV := F32 × Bool

def lift2 (f : F32 → F32 → F32) (a c : PV) : PV := (f a.1 c.1, a.2 || c.2)

/-- Elements of `z` bytes from a slow-tier address: FP32, or BF16 widened. -/
def Block.loadF (b : Block) (z addr n : Nat) : List PV :=
  (List.range n).map (fun i => let r := b.slowPeek (addr + z * i) z; (if z = 2 then widen 0 (ofLE r.1) else BitVec.ofNat 32 (ofLE r.1), r.2))

/-- Stores elements of `z` bytes as one write: FP32, or BF16 by RNE. -/
def Block.storeF (b : Block) (z addr : Nat) (l : List PV) : Block :=
  b.storeRun addr (l.flatMap (fun x => (leBytes z (if z = 2 then (narrow 0 x.1).1 else x.1.toNat)).map (fun y => (y, x.2))))

/-! ### The recurrence (R366 to R368) -/

/-- `pow` by binary exponentiation from the least significant bit of the exponent (R366). -/
def fpowAux : Nat → Nat → F32 → F32 → F32
  | 0, _, r, _ => r
  | k + 1, t, r, x => if t = 0 then r else fpowAux k (t / 2) (if t % 2 = 1 then fmul r x else r) (fmul x x)

def fpow (x : F32) (t : Nat) : F32 := fpowAux 64 t one32 x

/-- What an UPDATE computes with: the block's address, its slot and header, the clip factor, corrections, step size, rounding inputs. -/
structure Upd where
  ctx : Nat
  base : Nat
  u : Rule
  h : Header
  k : F32
  bc1 : F32
  bc2 : F32
  lr : F32
  key : RoundKey
  deriving DecidableEq, Repr

/-- Address of an array of the block. -/
def Upd.at_ (e : Upd) (x : Arr) : Nat := e.base + arrayAt e.u e.h x

/-- Second moments that divide an element: V, the factored estimate or the row's (R367). -/
def Upd.direction (e : Upd) (mh vh : PV) : PV :=
  match e.u.dir with
  | 0 => mh
  | 1 => lift2 fdiv mh (lift2 fadd (fsqrt vh.1, vh.2) (e.u.eps, false))
  | _ =>
    let x := f32 mh.1
    (if x.isNan then mh.1 else if x.isZero then 0 else if Num.lt x (.fin false 0 0) then fneg one32 else one32, mh.2)

/-- The gradient after coupled decay. -/
def Upd.g (e : Upd) (w gs : PV) : PV := (ffma e.u.wdC w.1 (fmul e.k gs.1), w.2 || gs.2)

/-- First moment and its estimate. -/
def Upd.moment (e : Upd) (g m : PV) : PV × PV :=
  if e.u.mom = 0 then (m, g)
  else
    let step := fun (m : PV) => (ffma e.u.b1 m.1 (fmul e.u.a1 g.1), m.2 || g.2)
    let m' := step m
    (m', lift2 fdiv (if e.u.nest then step m' else m') (e.bc1, false))

/-- The full second moment. -/
def Upd.second (e : Upd) (g v : PV) : PV := (ffma e.u.b2 v.1 (fmul e.u.a2 (fmul g.1 g.1)), v.2 || g.2)

/-- A master weight as stored: W, Q and working-copy encodings, the new value, saturations (R87, R374). -/
structure NewW where
  w : Nat
  q : Nat
  work : Nat
  sat : Nat
  finite : Bool
  poison : Bool
  deriving DecidableEq, Repr

def Upd.master (e : Upd) (i : Nat) (w delta : PV) : NewW :=
  let x := fadd w.1 delta.1
  if e.u.wfmt = 0 then ⟨x.toNat, 0, (narrow 0 x).1, 0, !isNonFinite x, w.2 || delta.2⟩
  else
    let r := remUpdate x (e.key.draw 0 i 8)
    ⟨r.1, ofSigned 8 r.2.1, r.1, r.2.2, !isNonFinite x, w.2 || delta.2⟩

/-- Results of a batch of rows: the block, its working copy, non-finite results, and whether poison was met. -/
structure Batch where
  b : Block
  work : List (Nat × Bool)
  nf : Nat
  poison : Bool
  deriving DecidableEq, Repr

/-- Sum over a list in ascending order from +0 with the poison of its inputs. -/
def sumP (f : F32 → F32 → F32) (l : List PV) : PV := l.foldl (fun a x => (f a.1 x.1, a.2 || x.2)) (0, false)

/-- Non-finite values of a list that are not poison. -/
def nfCount (l : List PV) : Nat := (l.filter (fun x => isNonFinite x.1 && !x.2)).length

/-- The master weights of a row. -/
def Block.weights (b : Block) (e : Upd) (row : Nat) : List PV :=
  let n := e.h.cols
  if e.u.wfmt = 0 then b.loadF 4 (e.at_ .w + 4 * row * n) n
  else (List.range n).map (fun j =>
    let i := row * n + j
    let w := b.slowPeek (e.at_ .w + 2 * i) 2
    let q := b.slowPeek (e.at_ .q + i) 1
    (master32 (ofLE w.1) (toSigned 8 (ofLE q.1)), w.2 || q.2))

/-- The statistics of FACTORED and ROWWISE for a batch of rows, written before the elements (R368). -/
def Block.statistics (b : Block) (e : Upd) (rows : List (Nat × List PV)) : Block × Nat :=
  let sq := fun (eps : F32) (l : List PV) => sumP (fun a g => fadd a (ffma g g eps)) (l.map (fun x => (fmul e.k x.1, x.2)))
  let nf32 := fun (n : Nat) => f32ofNat n
  if e.u.second = 3 then
    let r := rows.map (fun x =>
      let old := nth (0, false) (b.loadF 4 (e.at_ .r + 4 * x.1) 1) 0
      let s := sq e.u.eps1 x.2
      (x.1, ((ffma e.u.b2 old.1 (fmul e.u.a2 (fdiv s.1 (nf32 e.h.cols))), old.2 || s.2) : PV)))
    let c := (List.range e.h.cols).map (fun j =>
      let old := nth (0, false) (b.loadF 4 (e.at_ .c + 4 * j) 1) 0
      let s := sq e.u.eps1 (rows.map (fun x => nth (0, false) x.2 j))
      ((ffma e.u.b2 old.1 (fmul e.u.a2 (fdiv s.1 (nf32 e.h.rows))), old.2 || s.2) : PV))
    let b := r.foldl (fun b x => b.storeF 4 (e.at_ .r + 4 * x.1) [x.2]) b
    (b.storeF 4 (e.at_ .c) c, nfCount (r.map (·.2)) + nfCount c)
  else if e.u.second = 4 then
    let r := rows.map (fun x =>
      let old := nth (0, false) (b.loadF 4 (e.at_ .rs + 4 * x.1) 1) 0
      let s := sumP (fun a g => ffma g g a) (x.2.map (fun x => (fmul e.k x.1, x.2)))
      (x.1, ((ffma e.u.b2 old.1 (fmul e.u.a2 (fdiv s.1 (nf32 e.h.cols))), old.2 || s.2) : PV)))
    (r.foldl (fun b x => b.storeF 4 (e.at_ .rs + 4 * x.1) [x.2]) b, nfCount (r.map (·.2)))
  else (b, 0)

/-- The second-moment estimate of an element (R367). -/
def Block.estimate (b : Block) (e : Upd) (rbar : PV) (row j : Nat) (v : PV) : PV :=
  let one := fun (a : Arr) (i : Nat) => nth (0, false) (b.loadF 4 (e.at_ a + 4 * i) 1) 0
  match e.u.second with
  | 1 => lift2 fdiv v (e.bc2, false)
  | 2 => lift2 fdiv v (e.bc2, false)
  | 3 => lift2 fdiv (lift2 fdiv (lift2 fmul (one .r row) (one .c j)) rbar) (e.bc2, false)
  | 4 => lift2 fdiv (one .rs row) (e.bc2, false)
  | _ => (one32, false)

/-- One row of the recurrence; `us` gives U of R370 for KRON. -/
def Block.updateRow (b : Block) (e : Upd) (rbar : PV) (us : Option (List (List PV))) (x : Nat × List PV) : Batch :=
  let n := e.h.cols
  let row := x.1
  let zm := if e.u.mom = 2 then 2 else 4
  let zv := if e.u.second = 2 then 2 else 4
  let full := e.u.second == 1 || e.u.second == 2
  let ws := b.weights e row
  let ms := if e.u.mom = 0 then [] else b.loadF zm (e.at_ .m + zm * row * n) n
  let vs := if full then b.loadF zv (e.at_ .v + zv * row * n) n else []
  let one := fun (j : Nat) =>
    let w := nth (0, false) ws j
    let g := e.g w (nth (0, false) x.2 j)
    let m := e.moment g (nth (0, false) ms j)
    let v := if full then e.second g (nth (0, false) vs j) else (0, false)
    let vh := b.estimate e rbar row j v
    let dir := match us with
      | some u => nth (0, false) (nth [] u row) j
      | none => e.direction m.2 vh
    let delta : PV := (fmul (fneg e.lr) (ffma e.u.wdD w.1 dir.1), w.2 || dir.2 || g.2 || m.1.2 && e.u.mom != 0 || v.2 || vh.2)
    let nw := e.master (row * n + j) w delta
    (nw, ((m.1.1, nw.poison) : PV), ((v.1, nw.poison) : PV))
  let r := (List.range n).map one
  let nws := r.map (·.1)
  let run := fun (z : Nat) (f : NewW → Nat) => nws.flatMap (fun y => (leBytes z (f y)).map (fun v => (v, y.poison)))
  let b : Block := if e.u.wfmt = 0 then b.storeRun (e.at_ .w + 4 * row * n) (run 4 (·.w))
    else (b.storeRun (e.at_ .w + 2 * row * n) (run 2 (·.w))).storeRun (e.at_ .q + row * n) (run 1 (·.q))
  let b : Block := if e.u.mom = 0 then b else b.storeF zm (e.at_ .m + zm * row * n) (r.map (·.2.1))
  let b : Block := if full then b.storeF zv (e.at_ .v + zv * row * n) (r.map (·.2.2)) else b
  let b := b.bump Od.srSaturateCount 2 (nws.map (·.sat)).sum
  ⟨b, nws.map (fun y => (y.work, y.poison)),
   (nws.filter (fun y => !y.finite && !y.poison)).length + (if e.u.mom = 0 then 0 else nfCount (r.map (·.2.1))) + (if full then nfCount (r.map (·.2.2)) else 0),
   nws.any (·.poison)⟩

/-- A batch of rows with their gradients: statistics, then the elements in order (R367, R368). -/
def Block.updateBatch (b : Block) (e : Upd) (us : Option (List (List PV))) (rows : List (Nat × List PV)) : Batch :=
  let s := b.statistics e rows
  let rbar : PV := if e.u.second = 3 then
      let r := sumP fadd (s.1.loadF 4 (e.at_ .r) e.h.rows)
      (fdiv r.1 (f32ofNat e.h.rows), r.2)
    else (one32, false)
  rows.foldl (fun (acc : Batch) x =>
    let r := acc.b.updateRow e rbar us x
    ⟨r.b, acc.work ++ r.work, acc.nf + r.nf, acc.poison || r.poison⟩) ⟨s.1, [], s.2, false⟩

/-! ### Kronecker factors (R370 to R373) -/

abbrev Mat := List (List PV)

def transposeM (n : Nat) (a : Mat) : Mat := (List.range n).map (fun j => a.map (fun r => nth (0, false) r j))

/-- A product: each output the sum over k in ascending order with one fused accumulator from +0. -/
def mulM (n : Nat) (a c : Mat) : Mat :=
  let ct := transposeM n c
  a.map (fun r => ct.map (fun col => (r.zip col).foldl (fun (s : PV) x => (ffma x.1.1 x.2.1 s.1, s.2 || x.1.2 || x.2.2)) (0, false)))

def Block.loadM (b : Block) (addr n m : Nat) : Mat := (List.range n).map (fun i => b.loadF 4 (addr + 4 * i * m) m)

/-- Stores a matrix as one write. -/
def Block.storeM (b : Block) (addr : Nat) (a : Mat) : Block := b.storeF 4 addr (a.flatMap id)

/-- The root buffers in use and the unused ones, by the selects of the header. -/
def Header.left (h : Header) : Arr := if h.selL = 0 then .xl0 else .xl1
def Header.right (h : Header) : Arr := if h.selR = 0 then .xr0 else .xr1
def Header.leftNext (h : Header) : Arr := if h.selL = 0 then .xl1 else .xl0
def Header.rightNext (h : Header) : Arr := if h.selR = 0 then .xr1 else .xr0

/-- New statistics of one side: `S := BS × S + AS × P` (R370). -/
def Upd.mix (e : Upd) (s p : Mat) : Mat :=
  (s.zip p).map (fun r => (r.1.zip r.2).map (fun x => (ffma e.u.bs x.1.1 (fmul e.u.as_ x.2.1), x.1.2 || x.2.2)))

/-- What KRON leaves for the elements: the block, the inputs with the new header, U, whether a root was triggered, non-finite results, and whether a statistic is poisoned. -/
structure KronOut where
  b : Block
  e : Upd
  u : Mat
  trig : Bool
  nf : Nat
  poison : Bool
  deriving DecidableEq, Repr

/-- KRON before the elements: statistics, trigger, MH at the start of WS, U (R370, R371; log entry 22). -/
def Block.kron (b : Block) (e : Upd) (cNew : Nat) (grad : Mat) : KronOut :=
  let n := e.h.rows
  let m := e.h.cols
  let g := grad.map (fun r => r.map (fun x => ((fmul e.k x.1, x.2) : PV)))
  let gt := transposeM m g
  let sl := e.mix (b.loadM (e.at_ .sl) n n) (mulM n g gt)
  let sr := e.mix (b.loadM (e.at_ .sr) m m) (mulM m gt g)
  let b := (b.storeM (e.at_ .sl) sl).storeM (e.at_ .sr) sr
  let trig := decide (cNew % e.u.every = 0) && e.h.rootState == 0
  let b : Block := if trig then (b.storeM (e.at_ e.h.leftNext) sl).storeM (e.at_ e.h.rightNext) sr else b
  let h := if trig then { e.h with rootState := 1, due := cNew + e.u.lag } else e.h
  let mh : Mat := (List.range n).map (fun i =>
    let ws := b.weights e i
    let ms := if e.u.mom = 0 then [] else b.loadF (if e.u.mom = 2 then 2 else 4) (e.at_ .m + (if e.u.mom = 2 then 2 else 4) * i * m) m
    (List.range m).map (fun j => (e.moment (e.g (nth (0, false) ws j) (nth (0, false) (nth [] grad i) j)) (nth (0, false) ms j)).2))
  let b := b.storeM (e.at_ .ws) mh
  let u := mulM m (mulM m (b.loadM (e.at_ e.h.left) n n) (b.loadM (e.at_ .ws) n m)) (b.loadM (e.at_ e.h.right) m m)
  ⟨b, { e with h := h }, u, trig, nfCount (sl.flatMap id) + nfCount (sr.flatMap id), (sl.flatMap id ++ sr.flatMap id).any (·.2)⟩

/-- Frobenius norm, summed in row and then column order (R372). -/
def frobenius (a : Mat) : PV :=
  let s := sumP (fun s x => ffma x x s) (a.flatMap id)
  (fsqrt s.1, s.2)

def identM (d : Nat) : Mat := (List.range d).map (fun i => (List.range d).map (fun j => (if i = j then one32 else 0, false)))

def mapM2 (f : F32 → F32 → F32) (a c : Mat) : Mat := (a.zip c).map (fun r => (r.1.zip r.2).map (fun x => lift2 f x.1 x.2))

def scaleM (s : PV) (a : Mat) : Mat := a.map (fun r => r.map (fun x => lift2 fmul x s))

/-- Squares a matrix `k` times. -/
def squareM (d : Nat) : Nat → Mat → Mat
  | 0, t => t
  | k + 1, t => squareM d k (mulM d t t)

def log2p (p : Nat) : Nat := if p = 8 then 3 else if p = 4 then 2 else if p = 2 then 1 else 0

/-- Within 2^-20 of the identity, element by element. -/
def nearIdent (m : Mat) : Bool :=
  ((m.zipIdx).all (fun r => (r.1.zipIdx).all (fun x =>
    Num.le (Num.sub (f32 x.1.1) (if r.2 = x.2 then .fin false 1 0 else .fin false 0 0)).abs (.fin false 1 (-20)))))

/-- The Newton iteration (R372). -/
def newton (d p : Nat) : Nat → Mat → Mat → Mat
  | 0, x, _ => x
  | k + 1, x, m =>
    let t := scaleM (fdiv one32 (f32ofNat p), false) (mapM2 fsub (scaleM (f32ofNat (p + 1), false) (identM d)) m)
    let x := mulM d x t
    let m := mulM d (squareM d (log2p p) t) m
    if nearIdent m then x else newton d p k x m

/-- The inverse root of one side (R372). -/
def inverseRoot (u : Rule) (d : Nat) (a : Mat) : Mat :=
  let z := frobenius a
  if (f32 z.1).isZero && !z.2 then identM d
  else
    let a := mapM2 fadd a (scaleM (fmul u.eps1 z.1, z.2) (identM d))
    let z := frobenius a
    let c := iter fsqrt (log2p u.proot) z.1
    newton d u.proot u.niter (scaleM (fdiv one32 c, z.2) (identM d)) (scaleM (fdiv one32 z.1, z.2) a)

/-- ROOT_COMPUTE (R372): the oldest queued computation overwrites the snapshots of both sides. -/
def xRootCompute (b : Block) : Block :=
  match b.hazel.roots with
  | [] => b
  | j :: rest =>
    if !b.hazelRuns || b.gov.shed then b
    else
      let b := Block.slowCount { b with hazel := { b.hazel with roots := rest } } 64
      let r := b.slowPeek j.block 64
      if r.2 then b.raise 0x8396 j.ctx []
      else
        let h := headerOf (ofLE r.1)
        let u := ruleOf j.rule
        let e : Upd := ⟨j.ctx, j.block, u, h, one32, one32, one32, 0, ⟨0, 0, 0, 0, 0⟩⟩
        let l := inverseRoot u h.rows (b.loadM (e.at_ h.leftNext) h.rows h.rows)
        let rr := inverseRoot u h.cols (b.loadM (e.at_ h.rightNext) h.cols h.cols)
        let b := ((b.slowCount (4 * (h.rows ^ 2 + h.cols ^ 2))).storeM (e.at_ h.leftNext) l).storeM (e.at_ h.rightNext) rr
        (b.slowWrite j.block (leBytes 64 { h with rootState := 2 }.num)).bump Od.hazelRootsComputed 0 1

/-! ### The silent-layer monitor (R144, R145) -/

def Silent.fresh : Silent := ⟨0, 0, 0, 0, 0, 0, false⟩

/-- Why the gradient of a layer's last step is silent: 0 for a zero norm, 1 for underflow; none otherwise (R144). -/
def Silent.cause (x : Silent) (frac : Nat) : Option Nat :=
  if x.zeros = x.total then some 0 else if x.small * 65536 > frac * x.total then some 1 else none

/-- A layer with elements of the gradient that an UPDATE of a step applies to it; all UPDATE tasks of the step that name it are one gradient (log entry 55). -/
def Silent.add (x : Silent) (step frac : Nat) (gs : List F32) : Silent :=
  let x := if x.step = step + 1 then x else { x with before := x.count, step := step + 1, total := 0, zeros := 0, small := 0 }
  let v := gs.map f32
  let zeros := (v.filter (fun (y : Num) => y.isZero)).length
  let small := (v.filter (fun (y : Num) => Num.lt y.abs (.fin false 1 (-126)))).length
  let x := { x with total := x.total + v.length, zeros := x.zeros + zeros, small := x.small + small }
  if (x.cause frac).isSome then { x with count := x.before + 1 } else { x with count := 0, told := false }

/-- CTX_SILENT_LAYERS: the layers of a context whose count is at or above the limit (R146). -/
def Block.countSilent (b : Block) (c : Nat) : Block :=
  let lim := b.reg Od.silentStepsLimit 0
  b.setReg Od.ctxSilentLayers (c + 1) (b.hazel.silent.filter (fun e => e.1 / 65536 == c && decide (lim ≤ e.2.count))).length

/-- A committed step of a layer (R144, R145); an empty gradient leaves its count as it is (R384). -/
def Block.silentStep (b : Block) (c layer step : Nat) (gs : List F32) : Block :=
  if gs.isEmpty then b
  else
    let key := c * 65536 + layer
    let frac := b.reg Od.silentUnderflowFrac 0
    let x := (sget Silent.fresh b.hazel.silent key).add step frac gs
    let tell := decide (b.reg Od.silentStepsLimit 0 ≤ x.count) && !x.told
    let b := ({ b with hazel := { b.hazel with silent := sset Silent.fresh b.hazel.silent key { x with told := x.told || tell } } }).countSilent c
    if tell then
      (b.setOct Od.ctxSilentLast (c + 1) (beBytes 4 layer ++ beBytes 8 step ++ beBytes 1 ((x.cause frac).getD 0) ++ [0, 0, 0])).raise 0x4321 c []
    else b

/-! ### The task (R362 to R378, R384) -/

/-- The unit-specific part of an UPDATE's record (R378). -/
structure UpdOut where
  step : Nat
  clip : F32
  decision : Nat
  cause : Nat
  va : Nat
  installed : Bool
  triggered : Bool
  elements : Nat
  flags : Nat
  deriving DecidableEq, Repr

def UpdOut.num (o : UpdOut) : Nat :=
  at' 192 o.step + at' 160 o.clip.toNat + at' 152 o.decision + at' 144 o.cause + at' 96 (wrap 48 o.va)
    + at' 95 (if o.installed then 1 else 0) + at' 94 (if o.triggered then 1 else 0) + at' 48 (wrap 40 o.elements) + at' 40 o.flags

/-- Ends an UPDATE; a failure signals its token at completion unless R364 or R365 withholds it. -/
def Block.endUpdate (b : Block) (t : Task) (status : Nat) (o : UpdOut) (late : Bool) : Block :=
  let b : Block := if late then b.setTask t.ticket (fun y => { y with stage := 2 }) else b
  b.endTask t.ticket status o.num

/-- Is an UPDATE's stage list out of its region, so that its LEN cannot be set (R351)? -/
def Block.stageOut (b : Block) (t : Task) : Bool := updKind t.desc != 0 && !b.inRegion t.ctx (updStage t.desc) 4

/-- Bytes 0 to 3 of a stage list, its LEN, set to 0 where the list lies in the region (R384, R386). -/
def Block.clearStage (b : Block) (c off : Nat) : Block := if b.inRegion c off 4 then b.slowWrite ((b.region c).1 + off) (leBytes 4 0) else b

/-- The working copy written at WORK_VA (R374, R375). -/
def Block.writeBack (b : Block) (c va : Nat) (work : List (Nat × Bool)) : Block × Ended :=
  if va = 0 then (b, .all)
  else
    let r := b.writeVirt none c (pagesOf (2 * work.length)) va (work.flatMap (fun x => (leBytes 2 x.1).map (fun y => (y, x.2))))
    (r.1, r.2.2)

/-- After the slow-tier part: the write-back, the token and the end of the task (R369, R374, R375). -/
def Block.finishUpdate (b : Block) (t : Task) (o : UpdOut) (work : List (Nat × Bool)) : Block :=
  let va := updWork t.desc
  let r := b.writeBack t.ctx va work
  let poisoned := bit o.flags 1
  let b : Block := if poisoned then (r.1.consumePoison t.ctx t.ticket).raise 0x8396 t.ctx [] else r.1
  match r.2 with
  | .all => (b.signalUpdate t.ticket).endUpdate t (if poisoned then sPoisoned else sOK) o false
  | .fault cause a =>
    (b.addTaint t.ctx t.ticket [(va, va + 2 * work.length)]).endUpdate t (causeStatus cause) { o with cause := cause, va := a } true
  | .poison a => ((b.consumePoison t.ctx t.ticket).addTaint t.ctx t.ticket [(va, va + 2 * work.length)]).endUpdate t sPoisoned { o with va := a } true

/-- The non-finite results of an UPDATE (R369). -/
def Block.updateNonfinite (b : Block) (c step n : Nat) : Block :=
  if n = 0 then b
  else
    let b := b.bump Od.hazelUpdateNonfinite 0 n
    if b.hazel.nfEvt.contains (c, step + 1) then b
    else ({ b with hazel := { b.hazel with nfEvt := b.hazel.nfEvt.filter (fun (x : Nat × Nat) => x.1 != c) ++ [(c, step + 1)] } }).raise 0x4391 c []

/-- The working copy as the block holds it (R374). -/
def Block.workingCopy (b : Block) (base : Nat) (u : Rule) (h : Header) : List (Nat × Bool) :=
  (List.range (h.rows * h.cols)).map (fun i =>
    if u.wfmt = 0 then let r := b.slowPeek (base + arrayAt u h .w + 4 * i) 4; ((narrow 0 (BitVec.ofNat 32 (ofLE r.1))).1, r.2)
    else let r := b.slowPeek (base + arrayAt u h .w + 2 * i) 2; (ofLE r.1, r.2))

/-- The entries of a stage list: row and sums; none where the list is poisoned or leaves the region (R382). -/
def Block.stageEntries (b : Block) (c off cols : Nat) : Except Nat (List (Nat × List PV)) :=
  if !b.inRegion c off 64 then .error 4
  else
    let a := (b.region c).1 + off
    let r := b.slowPeek a 8
    if r.2 then .error 0
    else
      let len := ofLE (r.1.take 4)
      if !b.inRegion c off (64 + len * (8 + 4 * cols)) then .error 4
      else .ok ((List.range len).map (fun p =>
        let at_ := a + 64 + p * (8 + 4 * cols)
        let row := b.slowPeek at_ 4
        (if row.2 then noTicket else ofLE row.1, b.loadF 4 (at_ + 8) cols)))

/-- The staged gradient of a dense layer, row by row. -/
def Block.denseRows (b : Block) (addr : Nat) (h : Header) : List (Nat × List PV) :=
  (List.range h.rows).map (fun i => (i, b.loadF 2 (addr + 2 * i * h.cols) h.cols))

/-- Bytes of the slow tier that a committed UPDATE reads for a number of rows; FACTORED reads the gradient twice (R368, R388). -/
def bytesRead (u : Rule) (h : Header) (dense : Bool) (n : Nat) : Nat :=
  n * h.cols * ((if u.wfmt = 0 then 4 else 3) + (if u.mom = 0 then 0 else if u.mom = 2 then 2 else 4) + (if u.second = 1 then 4 else if u.second = 2 then 2 else 0))
    + (if u.second = 3 then 4 * (n + h.cols + h.rows) else if u.second = 4 then 4 * n else if u.second = 5 then 8 * (h.rows ^ 2 + h.cols ^ 2) + 4 * n * h.cols else 0)
    + (if dense then 2 * n * h.cols else 64 + n * (8 + 4 * h.cols)) + (if u.second = 3 then n * h.cols * (if dense then 2 else 4) else 0)

/-- Applies a committed step to a state block whose header and fit have been checked (R366 to R371, R384). -/
def Block.applyUpdate (b : Block) (t : Task) (d : DecisionRec) (u : Rule) (h : Header) (rows : List (Nat × List PV)) (o : UpdOut) : Block :=
  let c := t.ctx
  let dense := updKind t.desc == 0
  let base := (b.region c).1 + updState t.desc
  let cNew := o.step
  let install := u.second == 5 && dense && (h.rootState == 1 || h.rootState == 2) && h.due == cNew
  let h := if install then { h with selL := 1 - h.selL, selR := 1 - h.selR, rootState := 0 } else h
  let bc := fun (on : Bool) (x : F32) => if on then fsub one32 (fpow x cNew) else one32
  let second := u.second == 1 || u.second == 2 || u.second == 3 || u.second == 4
  let e : Upd :=
    { ctx := c, base := base, u := u, h := h, k := o.clip, bc1 := bc (u.bias && u.mom != 0) u.b1, bc2 := bc (u.bias && second) u.b2, lr := updLr t.desc,
      key := ⟨d.seed, b.reg Od.deviceIndex 0, d.step, if dense then siteHazelRem else siteHazelEmb, updTag t.desc⟩ }
  let isKron := u.second == 5 && dense
  let kr : KronOut := if isKron then b.kron e cNew (rows.map (·.2)) else ⟨b, e, [], false, 0, false⟩
  let e := kr.e
  let r : Batch := if dense then kr.b.updateBatch e (if isKron then some kr.u else none) rows
    else rows.foldl (fun (acc : Batch) x =>
      if x.1 = noTicket then { acc with poison := true }
      else let y := acc.b.updateBatch e none [x]; ⟨y.b, [], acc.nf + y.nf, acc.poison || y.poison⟩) ⟨kr.b, [], 0, false⟩
  let r : Batch := { r with nf := r.nf + kr.nf, poison := r.poison || kr.poison }
  let b := r.b.slowCount (bytesRead u h dense rows.length)
  let b := b.slowWrite base (leBytes 64 { e.h with step := cNew }.num)
  let b : Block := if kr.trig then { b with hazel := { b.hazel with roots := b.hazel.roots ++ [⟨c, base, t.rule⟩] } } else b
  let b : Block := { b with hazel := { b.hazel with rules := b.hazel.rules.filter (fun (x : Nat × BitVec 512) => x.1 != base) ++ [(base, t.rule)] } }
  let b := (b.updateNonfinite c d.step r.nf).silentStep c (updLayer t.desc) d.step (rows.flatMap (fun x => x.2.map (·.1)))
  let b : Block := if dense then b else b.clearStage c (updStage t.desc)
  let o := { o with installed := install, triggered := kr.trig, elements := if dense then h.rows * h.cols else rows.length, flags := (if r.nf > 0 then 1 else 0) + (if r.poison then 2 else 0) }
  b.finishUpdate t o (if dense then r.work else [])

/-- Queues the root computation of a layer that a Context reset has cancelled: its root is pending and none is queued (R373). -/
def Block.requeueRoot (b : Block) (t : Task) : Block :=
  let base := (b.region t.ctx).1 + updState t.desc
  match b.header t.ctx (updState t.desc) with
  | some (h, false) =>
    if (ruleOf t.rule).second = 5 ∧ updKind t.desc = 0 ∧ h.rootState = 1 ∧ b.inRegion t.ctx (updState t.desc) (blockSize (ruleOf t.rule) h)
        ∧ !b.hazel.roots.any (fun j => j.block == base) then
      { b with hazel := { b.hazel with roots := b.hazel.roots ++ [⟨t.ctx, base, t.rule⟩] } }
    else b
  | _ => b

/-- An UPDATE that waits for its root notes when it began to wait (R371). -/
def Block.waitRoot (b : Block) (t : Task) : Block :=
  b.setTask t.ticket (fun y => if y.waits.isEmpty then { y with waits := [b.dt] } else y)

/-- Why an UPDATE ends before any write: poison, or ADDR_FAULT with the cause and address of a failed access, 0 where none failed. -/
inductive NoRows where
  | poison
  | fault (cause va : Nat)
  deriving DecidableEq, Repr

/-- The rows that a commit applies, or why the UPDATE ends before any write (R353, R368, R370, R384). -/
def Block.updateRows (b : Block) (t : Task) (u : Rule) (h : Header) : Except NoRows (List (Nat × List PV)) :=
  let c := t.ctx
  if !b.inRegion c (updState t.desc) (blockSize u h) then .error (.fault 4 (updState t.desc))
  else if u.second = 4 ∧ h.cols > 16384 then .error (.fault 0 0)
  else if u.second = 5 ∧ (h.rows > 4096 ∨ h.cols > 4096) then .error (.fault 0 0)
  else if updKind t.desc = 0 then
    if !b.inRegion c (updStage t.desc) (2 * h.rows * h.cols) then .error (.fault 4 (updStage t.desc))
    else .ok (b.denseRows ((b.region c).1 + updStage t.desc) h)
  else match b.stageEntries c (updStage t.desc) h.cols with
    | .error 0 => .error .poison
    | .error k => .error (.fault k (updStage t.desc))
    | .ok l => if l.any (fun x => x.1 != noTicket && decide (x.1 ≥ h.rows)) then .error (.fault 0 0) else .ok l

/-- An UPDATE under a decision to commit (R364). -/
def Block.commitUpdate (b : Block) (t : Task) (d : DecisionRec) : Block :=
  let c := t.ctx
  let u := ruleOf t.rule
  let off := updState t.desc
  let cNew := t.counter
  let o : UpdOut := ⟨cNew, if u.clip then d.clip else one32, 0, 0, 0, false, false, 0, 0⟩
  match b.header c off with
  | none => b.endUpdate t sAddrFault { o with cause := 4, va := off } true
  | some (_, true) => (((b.slowCount 64).consumePoison c t.ticket).raise 0x8396 c []).endUpdate t sPoisoned { o with flags := 2 } true
  | some (h, false) =>
    let b := b.slowCount 64
    if h.step = cNew then
      if !b.inRegion c off (blockSize u h) then b.endUpdate t sAddrFault { o with cause := 4, va := off } true
      else if b.stageOut t then b.endUpdate t sAddrFault { o with decision := 1, cause := 4, va := updStage t.desc } true
      else
        let b : Block := if updKind t.desc = 0 then b else b.clearStage c (updStage t.desc)
        let work := if updWork t.desc = 0 then [] else b.workingCopy ((b.region c).1 + off) u h
        let b := b.slowCount (work.length * (if u.wfmt = 0 then 4 else 2))
        b.finishUpdate t { o with decision := 1, flags := if work.any (·.2) then 2 else 0 } work
    else if h.step + 1 ≠ cNew ∧ d.code ≠ decAdopted then (b.raise 0x8393 c []).endUpdate t sStepSkew { o with decision := 5 } false
    else match b.updateRows t u h with
      | .error .poison => ((b.consumePoison c t.ticket).raise 0x8396 c []).endUpdate t sPoisoned { o with flags := 2 } true
      | .error (.fault k va) => b.endUpdate t sAddrFault { o with cause := k, va := va } true
      | .ok rows =>
        let kron := u.second == 5 && updKind t.desc == 0
        if kron && h.rootState == 1 && h.due == cNew then b.waitRoot t
        else
          let waited := match t.waits with
            | w :: _ => (b.dt - w) / 1000
            | [] => 0
          (b.bump Od.hazelRootWaitUs 0 waited).applyUpdate t d u h rows o

/-- An UPDATE applies its decision (R360, R362, R365, R384). -/
def Block.runUpdate (b : Block) (t : Task) (d : DecisionRec) : Block :=
  let c := t.ctx
  let u := ruleOf t.rule
  let b := b.requeueRoot t
  let o : UpdOut := ⟨t.counter, if u.clip then d.clip else one32, 0, 0, 0, false, false, 0, 0⟩
  let skip := fun (status code : Nat) =>
    let b : Block := if updKind t.desc = 0 then b else b.clearStage c (updStage t.desc)
    if b.stageOut t then (b.signalUpdate t.ticket).endUpdate t sAddrFault { o with decision := code, cause := 4, va := updStage t.desc } false
    else (b.signalUpdate t.ticket).endUpdate t status { o with decision := code } false
  if d.code = decNonfinite then skip sNonfiniteSkip 2
  else if d.code = decDispute then skip sShadowDispute 3
  else if d.code = decDiscard then skip sStepSkew 6
  else if d.code = decHold then b.endUpdate t sStepSkew { o with decision := 4 } false
  else b.commitUpdate t d

/-- Is a task the first UPDATE of its context that has not ended (R133, R363)? -/
def Block.firstUpdate (b : Block) (t : Task) : Bool :=
  ((b.disp.tasks.filter (fun x => x.ctx == t.ctx && x.isRunning && opcodeOf x.desc == opUpdate)).head?.map (·.ticket)) == some t.ticket

/-- An UPDATE command of a kind: the task applies the decision that it took at its issue or at the one it waited for (R362). -/
def xUpdate (kind t : Nat) (b : Block) : Block := b.contended (fun b =>
  match b.starting t opUpdate with
  | none => b
  | some y =>
    if updKind y.desc ≠ kind ∨ !b.hazelRuns ∨ b.gov.shed ∨ !b.firstUpdate y then b
    else match decisionOf y.decided with
      | some d => b.runUpdate y d
      | none => b)

def execUpdateDense (ticket : Nat) (s : State) : Host.Outcome State Fault Refusal := .next (s.run (xUpdate 0 ticket))
def execUpdateRows (ticket : Nat) (s : State) : Host.Outcome State Fault Refusal := .next (s.run (xUpdate 1 ticket))
def execRootCompute (s : State) : Host.Outcome State Fault Refusal := .next (s.run xRootCompute)

end Sys2Proof.Machine
end

