-- ==== Sys2Proof/Machine/Embed.lean ====
section
/-! DEFINITION. GATHER and SCATTER_ADD (R379 to R385). -/

namespace Sys2Proof.Machine

/-- A GATHER or SCATTER_ADD of a kind that Hazel can run now. -/
def Block.gsCmd (b : Block) (op kind t : Nat) (f : Task → Block) : Block :=
  match b.starting t op with
  | some y => if gsKind y.desc = kind ∧ b.hazelRuns ∧ !b.gov.shed then f y else b
  | none => b

/-! ### GATHER (R379, R380) -/

/-- Ends a GATHER: its record, and the taint of its destination where it failed (R229, R385). -/
def Block.endGather (b : Block) (t : Task) (status origin unit : Nat) (dst : List (Nat × Nat)) : Block :=
  let b := b.endTask t.ticket status unit
  if status = sOK then b else b.addTaint t.ctx origin dst

/-- How far a loop over rows or bytes has come, and what ended it: status, cause, address, position. -/
structure Loop where
  b : Block
  done : Nat
  stop : Option (Nat × Nat × Nat × Nat)
  deriving DecidableEq, Repr

def noPos : Nat := 0xFFFFFFFF

/-- The stop that an access ended with. -/
def Ended.stop : Ended → Option (Nat × Nat × Nat × Nat)
  | .all => none
  | .fault cause va => some (causeStatus cause, cause, va, noPos)
  | .poison va => some (sPoisoned, 0, va, noPos)

/-- Reads the `n`-th U32 of an index list. -/
def Block.index (b : Block) (t : Task) (n : Nat) : Except (Nat × Nat × Nat × Nat) Nat :=
  let va := gsIdx t.desc + 4 * n
  let r := b.readVirt t.ctx 2 va 4
  match r.2.stop with
  | some e => .error e
  | none => if r.1.any (·.2) then .error (sPoisoned, 0, va, noPos) else .ok (ofLE (r.1.map (·.1)))

/-- Counts the bytes of an index read from device memory. -/
def Block.countIndex (b : Block) (t : Task) (n : Nat) : Block := b.countVirt none t.ctx 2 (gsIdx t.desc + 4 * n) 4

/-- The elements of a table row in an output format: 0 BF16, 1 FP32 (R380). -/
def Block.rowBytes (b : Block) (base : Nat) (u : Rule) (h : Header) (row fmt : Nat) : List (Byte × Bool) :=
  let e : Upd := ⟨0, base, u, h, one32, one32, one32, 0, ⟨0, 0, 0, 0, 0⟩⟩
  if fmt = 1 then (b.weights e row).flatMap (fun x => (leBytes 4 x.1.toNat).map (fun y => (y, x.2)))
  else if u.wfmt = 0 then (b.weights e row).flatMap (fun x => (leBytes 2 (narrow 0 x.1).1).map (fun y => (y, x.2)))
  else (List.range h.cols).flatMap (fun j =>
    let r := b.slowPeek (base + arrayAt u h .w + 2 * (row * h.cols + j)) 2
    r.1.map (fun y => (y, r.2)))

/-- Bytes read of a row of the master, with its remainders where the output is FP32 (R380, R388). -/
def rowCost (u : Rule) (h : Header) (fmt : Nat) : Nat := h.cols * (if u.wfmt = 0 then 4 else if fmt = 1 then 3 else 2)

/-- The address at which an access from a region offset on leaves the region (R385). -/
def Block.leavesAt (b : Block) (c off : Nat) : Nat := max off (b.region c).2

/-- Where a row of the master leaves the region: the row, or else its remainders. -/
def Block.rowLeavesAt (b : Block) (c off : Nat) (u : Rule) (h : Header) (row : Nat) : Nat :=
  let z := if u.wfmt = 0 then 4 else 2
  if b.inRegion c (off + arrayAt u h .w) (z * (row + 1) * h.cols) then b.leavesAt c (off + arrayAt u h .q + row * h.cols)
  else b.leavesAt c (off + arrayAt u h .w + z * row * h.cols)

/-- Does a row of the master lie in the region, with its remainders where the output is FP32 (R351)? -/
def Block.rowInRegion (b : Block) (c off : Nat) (u : Rule) (h : Header) (row fmt : Nat) : Bool :=
  b.inRegion c (off + arrayAt u h .w) ((if u.wfmt = 0 then 4 else 2) * (row + 1) * h.cols)
    && (u.wfmt == 0 || fmt != 1 || b.inRegion c (off + arrayAt u h .q) ((row + 1) * h.cols))

/-- One row of a GATHER ROWS. -/
def Block.gatherRow (t : Task) (u : Rule) (h : Header) (off : Nat) (l : Loop) (n : Nat) : Loop :=
  if l.stop.isSome then l
  else
    let z := if gsFmt t.desc = 0 then 2 else 4
    match l.b.index t n with
    | .error e => { l with b := l.b.countIndex t n, stop := some e }
    | .ok idx =>
      let b := l.b.countIndex t n
      if idx ≠ noTicket ∧ idx ≥ h.rows then { l with b := b, stop := some (sAddrFault, 0, 0, n) }
      else if idx ≠ noTicket ∧ !b.rowInRegion t.ctx off u h idx (gsFmt t.desc) then
        { l with b := b, stop := some (sAddrFault, 4, b.rowLeavesAt t.ctx off u h idx, noPos) }
      else
        let row := if idx = noTicket then List.replicate (h.cols * z) (0, false) else b.rowBytes ((b.region t.ctx).1 + off) u h idx (gsFmt t.desc)
        let b : Block := if idx = noTicket then b else b.slowCount (rowCost u h (gsFmt t.desc))
        let w := b.writeVirt none t.ctx (pagesOf row.length) (gsVa t.desc + n * h.cols * z) row
        match w.2.2.stop with
        | some e => { l with b := w.1, stop := some e }
        | none => { l with b := w.1, done := l.done + 1 }

/-- A header that cannot be read ends the task: outside the region, or poisoned (R369). -/
def Block.withHeader (b : Block) (t : Task) (fail : Block → Nat → Nat → Block) (f : Header → Block) : Block :=
  match b.header t.ctx (gsBlock t.desc) with
  | none => fail b sAddrFault 4
  | some (_, true) => fail (((b.slowCount 64).consumePoison t.ctx t.ticket).raise 0x8396 t.ctx []) sPoisoned 0
  | some (h, false) => f h

/-- A GATHER whose index list has come to be tainted does not run (R230). -/
def Block.gatherTainted (b : Block) (t : Task) : Option Block :=
  (b.tainted t.ctx (idxExtent t.desc)).map (fun c => b.endGather t sTainted c.2 (gsUnit 0 0 0 noPos 0) (b.gatherDst t))

def Block.gatherRows (b : Block) (t : Task) : Block :=
  match b.gatherTainted t with
  | some b => b
  | none =>
    b.withHeader t (fun b st cause => b.endGather t st t.ticket (gsUnit 0 cause (if cause = 0 then 0 else gsBlock t.desc) noPos 0) []) (fun h =>
      let off := gsBlock t.desc
      let u := ruleOf (b.blockRule ((b.region t.ctx).1 + off))
      let dst := b.gatherDst t
      let l := (List.range (gsCount t.desc)).foldl (Block.gatherRow t u h off) ⟨b.slowCount 64, 0, none⟩
      match l.stop with
      | none => l.b.endGather t sOK t.ticket (gsUnit l.done 0 0 noPos 0) dst
      | some (st, cause, va, pos) =>
        let b : Block := if st = sPoisoned then l.b.consumePoison t.ctx t.ticket else l.b
        b.endGather t st t.ticket (gsUnit l.done cause va pos 0) dst)

/-- Bytes of the slow tier with the poison of each. -/
def Block.slowBytes (b : Block) (a n : Nat) : List (Byte × Bool) :=
  (List.range n).map (fun i => let r := b.slowPeek (a + i) 1; (nth 0 r.1 0, r.2))

/-- GATHER SPAN: bytes up to the end of the region are copied, and the first beyond it ends the task. -/
def Block.gatherSpan (b : Block) (t : Task) : Block :=
  let n := gsCount t.desc
  let off := gsBlock t.desc
  let fit := min n ((b.region t.ctx).2 - off)
  let dst := b.gatherDst t
  let w := (b.slowCount fit).writeVirt none t.ctx (pagesOf fit) (gsVa t.desc) (b.slowBytes ((b.region t.ctx).1 + off) fit)
  match w.2.2.stop with
  | some (st, cause, va, pos) =>
    let b : Block := if st = sPoisoned then w.1.consumePoison t.ctx t.ticket else w.1
    b.endGather t st t.ticket (gsUnit w.2.1 cause va pos 0) dst
  | none =>
    if fit < n then w.1.endGather t sAddrFault t.ticket (gsUnit fit 4 (off + fit) noPos 0) dst
    else w.1.endGather t sOK t.ticket (gsUnit n 0 0 noPos 0) dst

/-- GATHER WORKING: the working copy, which rewrites the whole destination (R232, R380). -/
def Block.gatherWorking (b : Block) (t : Task) : Block :=
  b.withHeader t (fun b st cause => b.endGather t st t.ticket (gsUnit 0 cause (if cause = 0 then 0 else gsBlock t.desc) noPos 0) []) (fun h =>
    let off := gsBlock t.desc
    let u := ruleOf (b.blockRule ((b.region t.ctx).1 + off))
    let dst := b.gatherDst t
    let n := h.rows * h.cols
    if !b.inRegion t.ctx (off + arrayAt u h .w) ((if u.wfmt = 0 then 4 else 2) * n) then b.endGather t sAddrFault t.ticket (gsUnit 0 4 (b.leavesAt t.ctx (off + arrayAt u h .w)) noPos 0) dst
    else
      let work := b.workingCopy ((b.region t.ctx).1 + off) u h
      let w := (b.slowCount (64 + (if u.wfmt = 0 then 4 else 2) * n)).writeVirt none t.ctx (pagesOf (2 * n)) (gsVa t.desc)
        (work.flatMap (fun x => (leBytes 2 x.1).map (fun y => (y, x.2))))
      match w.2.2.stop with
      | some (st, cause, va, pos) =>
        let b : Block := if st = sPoisoned then w.1.consumePoison t.ctx t.ticket else w.1
        b.endGather t st t.ticket (gsUnit w.2.1 cause va pos 0) dst
      | none => (w.1.endGather t sOK t.ticket (gsUnit w.2.1 0 0 noPos 0) dst).untaint t.ctx dst)

def xGatherRows (t : Nat) (b : Block) : Block := b.contended (fun b => b.gsCmd opGather 0 t (fun y => b.gatherRows y))
def xGatherSpan (t : Nat) (b : Block) : Block := b.contended (fun b => b.gsCmd opGather 1 t (fun y => b.gatherSpan y))
def xGatherWorking (t : Nat) (b : Block) : Block := b.contended (fun b => b.gsCmd opGather 2 t (fun y => b.gatherWorking y))

/-! ### SCATTER_ADD (R381 to R383) -/

/-- Ends a SCATTER_ADD; a ROWS task that fails sets its context's bank (R383). -/
def Block.endScatter (b : Block) (t : Task) (status unit : Nat) : Block :=
  let b := b.endTask t.ticket status unit
  if status = sOK ∨ gsKind t.desc ≠ 0 then b else (b.nonfinite t.ctx t.step).2

/-- The input elements of a row, widened to FP32 (R382). -/
def Block.inputRow (b : Block) (t : Task) (cols n : Nat) : Except (Nat × Nat × Nat × Nat) (List F32) :=
  let z := if gsFmt t.desc = 0 then 2 else 4
  let va := gsVa t.desc + n * cols * z
  let r := b.readVirt t.ctx (pagesOf (cols * z)) va (cols * z)
  match r.2.stop with
  | some e => .error e
  | none =>
    if r.1.any (·.2) then .error (sPoisoned, 0, va, noPos)
    else .ok ((chunks z (cols * z) (r.1.map (·.1))).map (fun v => if z = 2 then widen 0 (ofLE v) else BitVec.ofNat 32 (ofLE v)))

/-- A detection of a non-finite input element (R383). -/
def Block.scatterNonfinite (b : Block) (t : Task) (xs : List F32) : Block :=
  if xs.any isNonFinite then
    let r := b.nonfinite t.ctx t.step
    if r.1 then r.2.raise 0x4395 t.ctx [] else r.2
  else b

/-- One row of a SCATTER_ADD ROWS (R382): `st` is the slow-tier address of the stage list. -/
def Block.scatterRow (t : Task) (u : Rule) (h : Header) (base st : Nat) (l : Loop) (n : Nat) : Loop :=
  if l.stop.isSome then l
  else match l.b.index t n with
    | .error e => { l with b := l.b.countIndex t n, stop := some e }
    | .ok row =>
      let b := l.b.countIndex t n
      if row = noTicket then { l with b := b, done := l.done + 1 }
      else if row ≥ h.rows then { l with b := b, stop := some (sAddrFault, 0, 0, n) }
      else
        let z := h.cols * (if gsFmt t.desc = 0 then 2 else 4)
        let b := b.countVirt none t.ctx (pagesOf z) (gsVa t.desc + n * z) z
        match b.inputRow t h.cols n with
        | .error e => { l with b := b, stop := some e }
        | .ok xs =>
          let b := b.scatterNonfinite t xs
          let hd := b.slowPeek st 8
          let len := ofLE (hd.1.take 4)
          let cap := ofLE ((hd.1.drop 4).take 4)
          let size := 8 + 4 * h.cols
          let mk := base + arrayAt u h .mark + 4 * row
          let m := b.slowPeek mk 4
          let entry := fun (p : Nat) => st + 64 + p * size
          let end_ := (b.region t.ctx).1 + (b.region t.ctx).2
          let p := ofLE m.1
          let er := b.slowPeek (entry p) 4
          let b := b.slowCount (12 + (if p < len ∧ entry p + size ≤ end_ then 4 else 0))
          if hd.2 || m.2 then { l with b := b, stop := some (sPoisoned, 0, 0, noPos) }
          else if p < len ∧ entry p + size > end_ then { l with b := b, stop := some (sAddrFault, 4, entry p - (b.region t.ctx).1, noPos) }
          else if p < len ∧ er.2 then { l with b := b, stop := some (sPoisoned, 0, 0, noPos) }
          else if p < len ∧ ofLE er.1 = row then
            let old := b.loadF 4 (entry p + 8) h.cols
            if old.any (·.2) then { l with b := b.slowCount (4 * h.cols), stop := some (sPoisoned, 0, 0, noPos) }
            else { l with b := (b.slowCount (4 * h.cols)).storeF 4 (entry p + 8) ((old.zip xs).map (fun v => (fadd v.1.1 v.2, false))), done := l.done + 1 }
          else if len = cap then { l with b := b, stop := some (sAddrFault, 0, 0, noPos) }
          else if entry len + size > end_ then { l with b := b, stop := some (sAddrFault, 4, entry len - (b.region t.ctx).1, noPos) }
          else
            let b := b.slowWrite (entry len) (leBytes 4 row ++ [0, 0, 0, 0] ++ xs.flatMap (fun x => leBytes 4 x.toNat))
            let b := (b.slowWrite mk (leBytes 4 len)).slowWrite st (leBytes 4 (len + 1))
            { l with b := b, done := l.done + 1 }

def Block.scatterRows (b : Block) (t : Task) : Block :=
  match b.tainted t.ctx (b.scatterSrc t) with
  | some _ => b.endScatter t sTainted (gsUnit 0 0 0 noPos (b.scatterLen t))
  | none =>
    b.withHeader t (fun b st cause => b.endScatter t st (gsUnit 0 cause (if cause = 0 then 0 else gsBlock t.desc) noPos (b.scatterLen t))) (fun h =>
      let c := t.ctx
      let off := gsBlock t.desc
      let u := ruleOf (b.blockRule ((b.region c).1 + off))
      let stage := gsStage t.desc
      if !h.table then b.endScatter t sAddrFault (gsUnit 0 4 off noPos (b.scatterLen t))
      else if !b.inRegion c (off + arrayAt u h .mark) (4 * h.rows) then
        b.endScatter t sAddrFault (gsUnit 0 4 (b.leavesAt c (off + arrayAt u h .mark)) noPos (b.scatterLen t))
      else if !b.inRegion c stage 64 then b.endScatter t sAddrFault (gsUnit 0 4 (b.leavesAt c stage) noPos (b.scatterLen t))
      else
        let st := (b.region c).1 + stage
        let l := (List.range (gsCount t.desc)).foldl (Block.scatterRow t u h ((b.region c).1 + off) st) ⟨b.slowCount 64, 0, none⟩
        match l.stop with
        | none => l.b.endScatter t sOK (gsUnit l.done 0 0 noPos (l.b.scatterLen t))
        | some (s, cause, va, pos) =>
          let b : Block := if s = sPoisoned then l.b.consumePoison c t.ticket else l.b
          b.endScatter t s (gsUnit l.done cause va pos (b.scatterLen t)))

/-- SCATTER_ADD SPAN: bytes go into the slow tier unchanged, poison with them (R381). -/
def Block.scatterSpan (b : Block) (t : Task) : Block :=
  match b.tainted t.ctx (b.scatterSrc t) with
  | some _ => b.endScatter t sTainted (gsUnit 0 0 0 noPos 0)
  | none =>
    let n := gsCount t.desc
    let off := gsBlock t.desc
    let fit := min n ((b.region t.ctx).2 - off)
    let r := b.readVirt t.ctx (pagesOf n) (gsVa t.desc) fit
    let a := (b.region t.ctx).1 + off
    let b := (b.countVirt none t.ctx (pagesOf n) (gsVa t.desc) fit).storeRun a r.1
    match r.2.stop with
    | some (s, cause, va, pos) =>
      let b : Block := if s = sPoisoned then b.consumePoison t.ctx t.ticket else b
      b.endScatter t s (gsUnit r.1.length cause va pos 0)
    | none => if fit < n then b.endScatter t sAddrFault (gsUnit fit 4 (off + fit) noPos 0) else b.endScatter t sOK (gsUnit n 0 0 noPos 0)

/-- SCATTER_ADD tasks of one stage list run in the order of their issue (R383). -/
def Block.firstScatter (b : Block) (t : Task) : Bool :=
  ((b.disp.tasks.filter (fun x => x.ctx == t.ctx && x.isRunning && opcodeOf x.desc == opScatter && gsKind x.desc == 0 && gsStage x.desc == gsStage t.desc
    && (decide (x.order < t.order) || x.ticket == t.ticket))).map (·.ticket)) == [t.ticket]

def xScatterRows (t : Nat) (b : Block) : Block := b.contended (fun b => b.gsCmd opScatter 0 t (fun y => if b.firstScatter y then b.scatterRows y else b))
def xScatterSpan (t : Nat) (b : Block) : Block := b.contended (fun b => b.gsCmd opScatter 1 t (fun y => b.scatterSpan y))

def execGatherRows (ticket : Nat) (s : State) : Host.Outcome State Fault Refusal := .next (s.run (xGatherRows ticket))
def execGatherSpan (ticket : Nat) (s : State) : Host.Outcome State Fault Refusal := .next (s.run (xGatherSpan ticket))
def execGatherWorking (ticket : Nat) (s : State) : Host.Outcome State Fault Refusal := .next (s.run (xGatherWorking ticket))
def execScatterAddRows (ticket : Nat) (s : State) : Host.Outcome State Fault Refusal := .next (s.run (xScatterRows ticket))
def execScatterAddSpan (ticket : Nat) (s : State) : Host.Outcome State Fault Refusal := .next (s.run (xScatterSpan ticket))

end Sys2Proof.Machine
end

