-- ==== Sys2Proof/Machine/NormClose.lean ====
section
/-! DEFINITION. The norm close and the pace records that ride it (R303 to R308, R462, R463). -/

namespace Sys2Proof.Machine

/-! ### Records (R304 to R307) -/

def CloseRec.bytes (r : CloseRec) : List Byte :=
  beBytes 8 r.ssq.toNat ++ beBytes 8 r.anchor ++ beBytes 8 r.lo ++ beBytes 8 r.hi ++ beBytes 4 r.members ++ beBytes 1 r.flags

def closeRecOf (l : List Byte) : CloseRec :=
  ⟨BitVec.ofNat 64 (ofBE (l.take 8)), ofBE ((l.drop 8).take 8), ofBE ((l.drop 16).take 8), ofBE ((l.drop 24).take 8), ofBE ((l.drop 32).take 4),
   ofBE ((l.drop 36).take 1)⟩

/-- One combination (R305). -/
def CloseRec.combine (a c : CloseRec) : CloseRec :=
  ⟨dadd a.ssq c.ssq, wrap 64 (a.anchor + c.anchor), min a.lo c.lo, max a.hi c.hi, wrap 32 (a.members + c.members), a.flags ||| c.flags⟩

/-- The clip factor (R306). -/
def clipOf (maxNorm : F32) (nf : Bool) (gnorm : F64) : F32 :=
  if (f32 maxNorm).isZero || nf || Num.le (f64 gnorm) (f32 maxNorm) then one32
  else f64to32 (toF64 (Num.div (f32 maxNorm) (f64 gnorm)))

/-- The result that the closer forms, as the unit-specific part of the record (R306, R307). -/
def CloseRec.result (r : CloseRec) (maxNorm : F32) : Nat :=
  let gnorm := dsqrt r.ssq
  let flags := r.flags % 4 + (if r.lo ≠ r.hi then 4 else 0)
  at' 192 gnorm.toNat + at' 128 r.ssq.toNat + at' 96 (clipOf maxNorm (bit r.flags 0) gnorm).toNat + at' 32 r.anchor + at' 24 flags

/-! ### The task -/

def Block.setClose (b : Block) (t : Nat) (f : Close → Close) : Block :=
  { b with rb := { b.rb with closes := b.rb.closes.map (fun (k : Close) => if k.ticket == t then f k else k) } }

def Block.close? (b : Block) (t : Nat) : Option Close := b.rb.closes.find? (fun k => k.ticket == t)

/-- The header of a record of the norm close (R295). -/
def Close.header (k : Close) (h : Cohort) (kind len : Nat) : PHead := ⟨kind, 0, k.step % 2, false, h.id, 0, 0, 0, 0, len, h.pos⟩

/-- Sends a record to a position; the norm close runs on slice 0 (log entry 17). -/
def Block.sendClose (b : Block) (k : Close) (h : Cohort) (kind : Nat) (body : List Byte) (pos : Nat) : Block :=
  b.sendTo h 0 pos (k.header h kind body.length) body

/-- The positions below a member on the way down. -/
def Cohort.below (h : Cohort) : List Nat := if !h.isHead then [] else if h.pos = 0 then h.heads ++ h.mates else h.mates

/-- The records of a list of keys combined in order; none while one is missing (R305). -/
def gatherRecs {α : Type} (f : α → α → α) (l : List (Nat × α)) : List Nat → Option α
  | [] => none
  | [k] => (l.find? (fun e => e.1 == k)).map (·.2)
  | k :: r =>
    -- the list comes in descending order, so that the fold runs ascending
    match gatherRecs f l r, l.find? (fun e => e.1 == k) with
    | some a, some e => some (f a e.2)
    | _, _ => none

/-- Keys of the records that a head combines, in descending order: its group by index, and for the closer the other groups after it. -/
def Cohort.keys (h : Cohort) : List Nat :=
  (List.range h.g ++ (if h.pos = 0 then (List.range (h.q - 1)).map (fun k => h.g + k + 1) else [])).reverse

/-- The key of a sender; none where it does not send to this member. -/
def Cohort.keyOf (h : Cohort) (s : Nat) : Option Nat :=
  if !h.isHead then none
  else if s / h.g = h.grp then some (s % h.g)
  else if h.pos = 0 ∧ s % h.g = 0 ∧ s < h.n then some (h.g + s / h.g)
  else none

/-- The result of the norm close reaches Hazel and ends the task once the pace record is here too (R307, R463). -/
def Block.closeDone (b : Block) (t : Nat) : Block :=
  match b.close? t, b.task? t with
  | some k, some y =>
    match k.result, k.pace with
    | some r, some _ =>
      if !y.isRunning then b
      else
        let u := ofBE r
        let unit := u + at' 24 (if k.nf then 8 else 0)
        let b := b.commitDecision k.ctx k.step (bit u 24) (bit u 25) (bits u 95 32) (BitVec.ofNat 32 (bits u 127 96))
        (b.setOct Od.ctxCloseLast (k.ctx + 1) (beBytes 32 unit)).endTask t sOK unit
    | _, _ => b
  | _, _ => b

/-- A head passes on what it has combined; the closer forms the result and sends it down (R305, R306). -/
def Block.closeUpGo (b : Block) (t : Nat) : Block :=
  match b.close? t, b.task? t with
  | some k, some y =>
    let h := b.cohort k.slot
    if k.upDone then b
    else match gatherRecs CloseRec.combine k.ups h.keys with
      | none => b
      | some r =>
        let b := b.setClose t (fun k => { k with upDone := true })
        if h.pos ≠ 0 then b.sendClose k h pkUp r.bytes 0
        else
          let res := beBytes 32 (r.result (closeMaxNorm y.desc))
          let b := h.below.foldl (fun b p => b.sendClose k h pkDown res p) b
          (b.setClose t (fun k => { k with result := some res })).closeDone t
  | _, _ => b

/-- The same for the pace records (R463). -/
def Block.paceUpGo (b : Block) (t : Nat) : Block :=
  match b.close? t with
  | some k =>
    let h := b.cohort k.slot
    if k.paceDone then b
    else match gatherRecs PaceRec.combine k.paces h.keys with
      | none => b
      | some r =>
        let b := b.setClose t (fun k => { k with paceDone := true })
        if h.pos ≠ 0 then b.sendClose k h pkPaceUp r.bytes 0
        else
          let b := h.below.foldl (fun b p => b.sendClose k h pkPaceDown r.bytes p) b
          (b.setClose t (fun k => { k with pace := some r })).closeDone t
  | none => b

/-- NORM_CLOSE (R303, R453): a slot that is disabled or another context's ends it with ADDR_FAULT. -/
def xNormClose (t : Nat) (b : Block) : Block :=
  match b.starting t opNormClose with
  | none => b
  | some y =>
    if b.gov.shed then b
    else
      let slot := closeCohort y.desc
      let h := b.cohort slot
      let b := b.setTask t (fun y => { y with stage := 1 })
      if !h.enabled || h.ctx != y.ctx then b.endTask t sAddrFault 0
      else
        let k : Close :=
          { ticket := t, ctx := y.ctx, slot := slot, step := y.step, since := b.dt, stalled := false, sent := false, nf := false, ups := [], paces := [],
            upDone := false, paceDone := false, result := none, pace := none }
        ({ b with rb := { b.rb with closes := b.rb.closes ++ [k] } }).planStep y.ctx

/-- Has a bucket of the step a sequence number of `buckets` or more: one that the norm kernel has seen, or one issued and not yet begun (R304)? -/
def Block.bucketAbove (b : Block) (k : Close) (buckets : Nat) : Bool :=
  decide ((b.normSum k.ctx).top > buckets)
    || b.disp.tasks.any (fun t => t.isRunning && t.stage == 0 && opcodeOf t.desc == opCollective && t.ctx == k.ctx && t.step == k.step
      && (colOf t.desc).acct != 0 && decide ((colOf t.desc).seq ≥ buckets))

/-- Steps 1 and 2 of R304: buckets beyond B are reported, and the non-finite contribution is read, once. -/
def Block.readBank (b : Block) (k : Close) (buckets : Nat) : Block :=
  let c := k.ctx
  if (b.gate c).nfRead then b
  else
    let extra := b.bucketAbove k buckets
    let b : Block := if extra then (b.rbFlag c 4).raise 0x4375 c [] else b
    let nf := bit (b.reg Od.ctxNfFlags (c + 1)) (k.step % 2) || bit (b.reg Od.ctxRbFlags (c + 1)) 0 || extra
    (b.setClose k.ticket (fun k => { k with nf := nf })).setGate c { b.gate c with nfRead := true }

/-- Steps 3 and 4 of R304: the member's own contribution, its gate read (R406). -/
def Block.contribution (b : Block) (k : Close) (h : Cohort) : CloseRec × Block :=
  let c := k.ctx
  let g := b.gate c
  let dispute := if k.step % 2 = 0 then g.disp0 else g.disp1
  let count := b.reg Od.hazelStep (c + 1)
  (⟨(b.normSum c).sum, if h.pos = 0 then count else 0, count, count, 1, (if k.nf then 1 else 0) + (if dispute then 2 else 0)⟩, b.setGate c { g with read := true })

/-- A member's records start on their way: its own at a head, which combines them, else to its head (R304, R463). -/
def Block.sendOwn (b : Block) (k : Close) (h : Cohort) : Block :=
  let r := b.contribution k h
  let adv := r.2.advisory
  let b := r.2.setClose k.ticket (fun k => { k with sent := true })
  if h.isHead then
    ((b.setClose k.ticket (fun k => { k with ups := k.ups ++ [(0, r.1)], paces := k.paces ++ [(0, adv)] })).closeUpGo k.ticket).paceUpGo k.ticket
  else (b.sendClose k h pkUp r.1.bytes h.head).sendClose k h pkPaceUp adv.bytes h.head

/-- NORM_CLOSE_CONTRIBUTE (R304): once partials 0 to B - 1 have been added the non-finite bank is read, and once the gate bank of the step has settled the record is sent. -/
def xContribute (c : Nat) (b : Block) : Block :=
  match b.rb.closes.find? (fun k => k.ctx == c && !k.sent) with
  | none => b
  | some k =>
    match b.task? k.ticket with
    | none => b
    | some y =>
      if b.gov.shed || decide (b.reg Od.ctxBucketsAdded (c + 1) < closeBuckets y.desc) then b
      else
        let b := b.readBank k (closeBuckets y.desc)
        let g := b.gate c
        if (if k.step % 2 = 0 then g.open0 else g.open1) ≠ 0 then b
        else match b.close? k.ticket with
          | some k => b.sendOwn k (b.cohort k.slot)
          | none => b

/-! ### Parcels of the norm close -/

/-- The NORM_CLOSE that a parcel serves (R295). -/
def Block.closeFor (b : Block) (p : Parcel) : Option (Close × Cohort) :=
  match b.cohortFor p.wctx p.head.id with
  | none => none
  | some h => (b.rb.closes.find? (fun k => k.slot == h.slot && k.step % 2 == p.head.sp)).map (fun k => (k, h))

/-- A slice consumes the next record of a kind whose NORM_CLOSE has been issued; one from a member that does not send here is a mismatch. -/
def xCloseParcel (slice kind : Nat) (f : Close → Cohort → Parcel → Block → Option Block) (b : Block) : Block :=
  if b.gov.shed then b
  else match (b.rb.rx.filterMap (fun p => if p.slice == slice && p.head.kind == kind then (b.closeFor p).map (fun w => (p, w)) else none)).head? with
    | none => b
    | some (p, k, h) =>
      let b := b.dropParcel p
      match f k h p b with
      | some b => b.contended (fun b => b.bump Od.terraceReadBytes (slice + 1) p.size)
      | none => b.mismatch k.ctx

def xCloseUp (slice : Nat) (b : Block) : Block :=
  xCloseParcel slice pkUp (fun k h p b => (h.keyOf p.head.sender).map (fun key =>
    (b.setClose k.ticket (fun k => { k with ups := k.ups ++ [(key, closeRecOf p.body)] })).closeUpGo k.ticket)) b

def xPaceUp (slice : Nat) (b : Block) : Block :=
  xCloseParcel slice pkPaceUp (fun k h p b => (h.keyOf p.head.sender).map (fun key =>
    (b.setClose k.ticket (fun k => { k with paces := k.paces ++ [(key, paceOf p.body)] })).paceUpGo k.ticket)) b

/-- Does a record come from the member above (R303)? -/
def Cohort.fromAbove (h : Cohort) (s : Nat) : Bool := h.pos != 0 && s == (if h.isHead then 0 else h.head)

def xCloseDown (slice : Nat) (b : Block) : Block :=
  xCloseParcel slice pkDown (fun k h p b => if h.fromAbove p.head.sender then
      some (((h.below.foldl (fun b q => b.sendClose k h pkDown p.body q) b).setClose k.ticket (fun k => { k with result := some p.body })).closeDone k.ticket)
    else none) b

def xPaceDown (slice : Nat) (b : Block) : Block :=
  xCloseParcel slice pkPaceDown (fun k h p b => if h.fromAbove p.head.sender then
      some (((h.below.foldl (fun b q => b.sendClose k h pkPaceDown p.body q) b).setClose k.ticket (fun k => { k with pace := some (paceOf p.body) })).closeDone k.ticket)
    else none) b

/-- RB_CLOSE_STALLED (R308). -/
def xCloseStalled (t : Nat) (b : Block) : Block :=
  match b.close? t with
  | none => b
  | some k =>
    if k.stalled || (k.result.isSome && k.pace.isSome) || decide (b.dt < k.since + 10 ^ 6 * b.reg Od.rbHopTimeoutMs 0) then b
    else (b.setClose t (fun k => { k with stalled := true })).raise 0x4373 k.ctx []

def execNormClose (ticket : Nat) (s : State) : Host.Outcome State Fault Refusal := .next (s.run (xNormClose ticket))
def execNormCloseContribute (ctx : Nat) (s : State) : Host.Outcome State Fault Refusal := .next (s.run (xContribute ctx))
def execCloseUp (slice : Nat) (s : State) : Host.Outcome State Fault Refusal := .next (s.run (xCloseUp slice))
def execCloseDown (slice : Nat) (s : State) : Host.Outcome State Fault Refusal := .next (s.run (xCloseDown slice))
def execPaceUp (slice : Nat) (s : State) : Host.Outcome State Fault Refusal := .next (s.run (xPaceUp slice))
def execPaceDown (slice : Nat) (s : State) : Host.Outcome State Fault Refusal := .next (s.run (xPaceDown slice))
def execRbCloseStalled (ticket : Nat) (s : State) : Host.Outcome State Fault Refusal := .next (s.run (xCloseStalled ticket))

end Sys2Proof.Machine
end

