-- ==== Sys2Proof/Machine/ContextReset.lean ====
section
/-! DEFINITION. Context reset (R33, R61, R91, R110, R146, R219, R225, R232, R269 to R271, R278, R299, R373, R386, R407). -/

namespace Sys2Proof.Machine

/-! ### Stop and Abort -/

/-- The context's rings drop what is published and not fetched. -/
def Block.stopRings (b : Block) (c : Nat) : Block :=
  { b with disp := { b.disp with
      rings := b.disp.rings.map (fun (e : Nat × Ring) => if cfgCtx e.2.cfg == c then (e.1, { e.2 with fetch := e.2.producer, workAt := 0 }) else e),
      holds := b.disp.holds.filter (fun (e : Nat × Hold) => !b.ringIs e.1 c),
      ready := b.disp.ready.filter (fun (e : Nat × Nat) => !b.ringIs e.1 c) } }

/-- Ends the collectives and the norm close of a context; the slice sends nothing more of them (R289, R299, R308, R359). -/
def Block.abortRb (b : Block) (c : Nat) : Block :=
  let ws := (b.rb.colls.filter (fun k => k.ctx == c)).filterMap (fun k => b.work k.ticket)
  let cs := b.rb.closes.filter (fun k => k.ctx == c)
  let b := ws.foldl (fun b w =>
    let b := (b.endTask w.k.ticket sAborted w.unit).dropSends w
    let b := b.addTaint c w.k.ticket w.dstExtent
    if w.x.dst = 1 then b.stageFault c w.k.step else b) b
  let b := cs.foldl (fun b k => b.endTask k.ticket sAborted 0) b
  let mine := fun (p : Parcel) => cs.any (fun k => (b.cohort k.slot).owns p && closeKind p.head.kind)
  { b with rb := { b.rb with colls := b.rb.colls.filter (fun k => k.ctx != c), closes := b.rb.closes.filter (fun k => k.ctx != c), tx := b.rb.tx.filter (fun p => !mine p) } }

/-- Aborts a task that no unit has begun or that Hazel runs: a delivery to Hazel that does not come, and rows that are not added, are reported (R359, R383). -/
def Block.abortRest (b : Block) (t : Task) : Block :=
  let b := b.endTask t.ticket sAborted (b.abortUnit t)
  if opcodeOf t.desc = opScatter ∧ gsKind t.desc = 0 then (b.nonfinite t.ctx t.step).2
  else if opcodeOf t.desc = opCollective ∧ (colOf t.desc).dst = 1 then b.stageFault t.ctx t.step
  else b

/-- Aborts every issued task of a context in its unit. -/
def Block.abortTasks (b : Block) (c : Nat) : Block :=
  let running := fun (b : Block) (o : Nat) => b.disp.tasks.filter (fun t => t.ctx == c && t.isRunning && opcodeOf t.desc == o)
  let b := (running b opXfer).foldl (fun b t => b.abortXfer t) b
  let b := (running b opVector).foldl (fun b t => b.failVector t sAborted) b
  let b := (running b opMatmul ++ running b opDist).foldl (fun b t => b.abortPlaza t sAborted) b
  let b := b.abortRb c
  (b.disp.tasks.filter (fun t => t.ctx == c && t.isRunning)).foldl (fun b t => b.abortRest t) b

/-- Discards what the context's tasks left in ports, drains and input queues. -/
def Block.dropWork (b : Block) (c : Nat) : Block :=
  let ts := (b.ctxTasks c).map (·.ticket)
  { b with
    plz := { b.plz with drains := b.plz.drains.filter (fun j => j.set_.ctx != c), queues := b.plz.queues.filter (fun q => q.set_.ctx != c), gathered := b.plz.gathered.filter (fun g => g.2.ctx != c), ports := b.plz.ports.filter (fun e => e.ctx != c), outs := b.plz.outs.filter (fun o => !ts.contains o.ticket), intake := b.plz.intake.filter (fun (k : Intake) => !ts.contains k.ticket) },
    hazel := { b.hazel with roots := b.hazel.roots.filter (fun j => j.ctx != c) } }

/-- The Stop and Abort phases (R270). -/
def Block.stopCtx (b : Block) (c : Nat) : Block := (((b.setReg Od.ctxState (c + 1) 1).stopRings c).abortTasks c).dropWork c

/-! ### Clear, Records, Done -/

/-- Returns entries of a context to their defaults. -/
def Block.defaults (b : Block) (c : Nat) (idxs : List Nat) : Block :=
  idxs.foldl (fun b i => (b.setReg i (c + 1) (odDefault i (c + 1))).setOct i (c + 1) (octDefault i (c + 1))) b

/-- The tokens of a context at 0. -/
def Block.clearTokens (b : Block) (c : Nat) : Block :=
  let base := b.reg Od.ctxTokenBase (c + 1)
  let n := b.reg Od.ctxTokenCount (c + 1)
  { b with disp := { b.disp with tokens := b.disp.tokens.filter (fun e => decide (e.1 < base) || decide (base + n ≤ e.1)) } }

/-- The entries that the Clear phase returns to their defaults: rounding, non-finite, step and taint entries, and the volatile entries that belong to the context (R543, R544). -/
def clearedEntries : List Nat :=
  [Od.ctxRoundSeed, Od.ctxRoundStep, Od.ctxNfFlags, Od.ctxStepPhase, Od.ctxFwdDone, Od.ctxResidSel, Od.ctxStepsCommitted, Od.ctxStepsSkipped,
   Od.ctxLastSkip, Od.ctxSilentLayers, Od.ctxSilentLast, Od.ctxTaintOverflow, Od.ctxNfFirst, Od.ctxLastFault, Od.ctxCloseLast, Od.paceLast]

/-- The learned profile returns to its default where the context is the learned one, and what happens once a step may happen again (R161, R285, R369, R465, R543). -/
def Block.forgetSteps (b : Block) (c : Nat) : Block :=
  let b : Block := { b with hazel := { b.hazel with nfEvt := b.hazel.nfEvt.filter (fun (x : Nat × Nat) => x.1 != c) }, rb := { b.rb with escEvt := b.rb.escEvt.filter (fun (x : Nat × Nat) => x.1 != c) }, gov := { b.gov with paceLate := b.gov.paceLate.set c false }, se := { b.se with unordEvt := b.se.unordEvt.filter (fun (x : Nat × Nat) => x.1 != c) } }
  if b.reg Od.pgovLearnCtx 0 = c then b.forgetProfile else b

/-- The Clear phase (R270). -/
def Block.clearCtx (b : Block) (c : Nat) : Block :=
  let slots := (b.rb.cfgs.filter (fun e => (cohortOf e.2).enabled && (cohortOf e.2).ctx == c)).map (·.1)
  let stages := b.hazel.stages.filter (fun (x : Nat × Nat) => x.1 == c)
  let b := ((b.defaults c clearedEntries).clearTokens c).clearNorm c
  let b := slots.foldl (fun b k => b.disableCohort k) b
  let b := stages.foldl (fun b x => b.clearStage c x.2) b
  let b := (b.setGate c Gate.empty).forgetSteps c
  { b with
    plz := { b.plz with sets := b.plz.sets.filter (fun (e : Nat × AccSet) => e.2.ctx != some c) },
    se := { b.se with tlb := b.se.tlb.filter (fun (e : TlbEntry) => e.ctx != c), streams := b.se.streams.filter (fun s => s.ctx != c), taints := b.se.taints.filter (fun t => t.ctx != c) },
    ras := { b.ras with samples := b.ras.samples.map (fun (s : Sample) => if s.ctx == c then { s with detached := true } else s) },
    hazel := { b.hazel with stages := b.hazel.stages.filter (fun (x : Nat × Nat) => x.1 != c), silent := b.hazel.silent.filter (fun (x : Nat × Silent) => x.1 / 65536 != c) },
    disp := { b.disp with turns := b.disp.turns.filter (fun (x : Nat × Nat × Nat) => x.1 != c), used := b.disp.used.filter (fun (x : Nat × Nat) => x.1 != c), release := sset 0 b.disp.release c 0, maps := b.disp.maps.filter (fun (m : Nat × List Nat) => m.1 != c) } }

/-- The record of a task that a reset ends: its own status where its unit had ended it (R270). -/
def Block.abortRecord (b : Block) (t : Task) : Block :=
  let s := match t.phase with
    | .ended st unit => (st, unit)
    | _ => (sAborted, b.abortUnit t)
  match b.writeRecord t.ring t.cfg t.index (b.recordOf t s.1 s.2) with
  | some b => b.bump Od.dispTasksCompleted (homeOf t.ring + 1) 1
  | none => b

/-- Frees the tickets of a context. -/
def Block.freeTickets (b : Block) (c : Nat) : Block :=
  let gens := (b.ctxTasks c).foldl (fun g t => sset 0 g (homeOf t.ring * 16384 + entryOf t.ticket) ((bits t.ticket 15 0 + 1) % 2 ^ 16)) b.disp.gens
  { b with disp := { b.disp with gens := gens, tasks := b.disp.tasks.filter (fun t => t.ctx != c) } }

/-- The rings of a context have fetched all that is published, and HALTED ones become ACTIVE. -/
def Block.restartRings (b : Block) (c : Nat) : Block :=
  { b with disp := { b.disp with
      rings := b.disp.rings.map (fun (e : Nat × Ring) =>
        if cfgCtx e.2.cfg != c then e
        else if e.2.state == .disabled then (e.1, { e.2 with fetch := e.2.producer })
        else (e.1, { e.2 with state := .active, fetch := e.2.producer, reason := 0, failVA := 0 })),
      stuck := b.disp.stuck.filter (fun (x : Nat × Nat) => cfgCtx (b.ring x.1).cfg != c) } }

/-- The Clear, Records and Done phases (R270). -/
def Block.finishCtx (b : Block) (c : Nat) : Block :=
  let b := b.clearCtx c
  let b := (b.ctxTasks c).foldl (fun b t => b.abortRecord t) b
  ((((b.freeTickets c).restartRings c).setReg Od.ctxState (c + 1) 0)).raise 0x0364 c []

/-- A whole Context reset. -/
def Block.resetCtx (b : Block) (c : Nat) : Block := (b.stopCtx c).finishCtx c

/-- A write of CTX_RESET (R270, R271, R542). -/
def xCtxReset (c v : Nat) (b : Block) : Block :=
  b.onWrite Od.ctxReset false (fun b =>
    if b.service = svcManagement then b.answer stWriteRefused
    else if v > 1 then b.answer stRange
    else if v = 0 ∨ b.resetting c then b.answer stOK
    else (b.stopCtx c).answer stOK)

/-- CTX_RESET_DONE (R270). -/
def xCtxResetDone (c : Nat) (b : Block) : Block := if b.resetting c && b.live then b.finishCtx c else b

def execCtxReset (ctx value : Nat) (s : State) : Host.Outcome State Fault Refusal := .next (s.run (xCtxReset ctx value))
def execCtxResetDone (ctx : Nat) (s : State) : Host.Outcome State Fault Refusal := .next (s.run (xCtxResetDone ctx))

end Sys2Proof.Machine
end

