-- ==== Sys2Proof/Machine/Txc.lean ====
section
/-! DEFINITION. The transmit counter of a key slot and its reservation records (R319, R320). -/

namespace Sys2Proof.Machine

/-- Values of TXC in a block. -/
def txcBlock : Nat := 2 ^ 36

/-- The valid record of a slot with the highest sequence number (R319). -/
def Txc.last (x : Txc) : Option TxcRecord :=
  (x.records.filterMap id).foldl (fun m r => if r.check != Config.txcCheck r.stop r.seq then m else match m with
    | none => some r
    | some l => if l.seq < r.seq then some r else some l) none

/-- Transmission under a slot resumes at the end that its last valid record holds (R319). -/
def Txc.resume (x : Txc) : Txc :=
  let e := (x.last.map (·.stop)).getD 0
  { x with next := e, stop := e }

/-- Enough records of the slot remain usable. -/
def Txc.usable (x : Txc) : Bool := decide (2 ≤ x.records.length)

/-- TXC at 0 for a new key: the records that are still usable hold no block (R320). -/
def Txc.renew (x : Txc) : Txc := ⟨0, 0, x.records.map (fun _ => none), x.turn⟩

/-- The record that reserves a block ending at `e`. -/
def Txc.record (x : Txc) (e : Nat) : TxcRecord :=
  let n := (x.last.map (fun r => r.seq + 1)).getD 0
  ⟨e, n, Config.txcCheck e n⟩

/-- Writes the end `e` into the next record in round-robin order; a record that fails its read-back is retired and the next one is tried. -/
def Txc.reserve (slot e : Nat) : Nat → Txc → Txc
  | 0, x => x
  | n + 1, x =>
    if !x.usable then x
    else
      let i := x.turn % x.records.length
      if Config.mramFails (slot + 1) (e / txcBlock * 16 + x.records.length) then Txc.reserve slot e n { x with records := x.records.eraseIdx i, turn := i }
      else { x with stop := e, records := x.records.set i (some (x.record e)), turn := i + 1 }

def Block.txcOf (b : Block) (slot : Nat) : Txc := sget Txc.fresh b.emith.txc slot
def Block.setTxc (b : Block) (slot : Nat) (x : Txc) : Block := { b with emith := { b.emith with txc := sset Txc.fresh b.emith.txc slot x } }

/-- Reserves one more block, with the event when too few records remain. -/
def Block.reserveTxc (b : Block) (slot : Nat) : Block :=
  let x := b.txcOf slot
  let y := Txc.reserve slot (x.stop + txcBlock) 16 x
  let b := b.setTxc slot y
  if x.usable && !y.usable then b.raise 0x8388 noCtx [] else b

/-- The next TXC under a slot; none when the slot may not send. -/
def Block.takeTxc (b : Block) (slot : Nat) : Option Nat × Block :=
  let b : Block := if (b.txcOf slot).usable && decide ((b.txcOf slot).stop ≤ (b.txcOf slot).next) then b.reserveTxc slot else b
  let x := b.txcOf slot
  if x.usable then (some x.next, b.setTxc slot { x with next := x.next + 1 }) else (none, b)

end Sys2Proof.Machine
end

