-- ==== Sys2Proof/Machine/Retire.lean ====
section
/-! DEFINITION. What loses its state at each reset and power state, the PTP port, and entry to Retired (R387, R425, R538, R539, R543, R544). -/

namespace Sys2Proof.Machine

/-! ### The time state and the PTP port (R420, R425) -/

/-- Enters a time state, with its event. -/
def Block.setTimeState (b : Block) (st : Nat) : Block :=
  if b.reg Od.timeState 0 = st then b
  else
    let b := b.setReg Od.timeState 0 st
    if st = tsFreerun then b.raise 0x4403 noCtx []
    else if st = tsLocked then b.raise 0x0400 noCtx []
    else if st = tsHoldover then b.raise 0x4401 noCtx []
    else b

/-- PTP runs on a port, whose masters it has still to hear (R425). -/
def Block.ptpTo (b : Block) (p : Nat) : Block := { b with cal := { b.cal with ptpAt := p, masters := [], exch := none } }

/-- PTP leaves a port that is no longer UP: to PTP_PORT_ALT if that is UP, else to holdover. -/
def Block.ptpCheck (b : Block) : Block :=
  if b.reg Od.timeSource 0 != 1 || b.portUp b.cal.ptpAt then b
  else
    let alt := b.reg Od.ptpPortAlt 0
    if alt != b.cal.ptpAt && b.portUp alt then (b.ptpTo alt).raise 0x0405 noCtx []
    else if b.reg Od.timeState 0 = tsLocked then b.setTimeState tsHoldover
    else b

/-! ### Ports and transport -/


/-- Every fabric and host port reads DOWN. -/
def Block.portRegs (b : Block) : Block :=
  (List.range 2).foldl (fun b h => b.setReg Od.hostPortState (h + 1) 0) ((List.range 16).foldl (fun b n => b.setReg Od.fabPortState (n + 1) 0) b)

/-- Every fabric and host port is DOWN; connections are forgotten and host sessions close (R337, R537, R539). -/
def Block.portsDown (b : Block) : Block :=
  { b.portRegs with emith := { b.emith with tx := [], rx := [], cgens := [], sessions := [], hostTx := [], hostRx := [], masks := [], repairs := [], macs := [], laneTicks := [], paused := [], txFree := [], served := [], txc := b.emith.txc.map (fun e => (e.1, e.2.resume)) } }

/-! ### State of the units -/

/-- What the units outside Walnut hold beside their entries returns to its reset value; shedding, telemetry and unit records stay. -/
def Block.dropUnits (b : Block) : Block :=
  { b with
    disp := Disp.reset, plz := Plz.reset, se := SeState.reset, rb := Rb.reset,
    hbm := { Hbm.reset with spares := b.hbm.spares },
    ras := { b.ras with samples := [], gates := [], tests := [], leaving := [] },
    gov := { Gov.reset with shed := b.gov.shed, shedAt := b.gov.shedAt, sheds := b.gov.sheds, now := b.gov.now, cap := b.gov.cap, capAt := b.gov.capAt, capArea := b.gov.capArea, reasons := (b.gov.reasons ++ b.throttle).dedup, seq := b.gov.seq, gap := b.gov.gap, sampled := b.gov.sampled, power := b.gov.power, rail := b.gov.rail, cHist := b.gov.cHist },
    sys := { b.sys with checks := [], passed := [], hp0Trained := false } }

/-- Every Plaza that is not RETIRED is OFFLINE. -/
def Block.plazasOff (b : Block) : Block :=
  (List.range 8).foldl (fun b p => if b.plaza p = plRetired then b else b.setPlaza p plOffline) b

/-- State of every HBM stack and of the slow tier, where they are not LOST. -/
def Block.memoryState (b : Block) (hbm slow : Nat) : Block :=
  let b := (List.range 8).foldl (fun b k => if b.stackState k = stLost then b else b.setReg Od.hbmStackState (k + 1) hbm) b
  if b.reg Od.slowState 0 = slLost then b else b.setReg Od.slowState 0 slow

/-- Power is removed from everything except VWAL: contents are lost (R167, R198, R350). -/
def Block.unpower (b : Block) : Block :=
  let b := ((b.dropUnits.portsDown).plazasOff).memoryState stOff slOff
  { b with mem := Mem.reset, slow := Mem.reset, hazel := { Hazel.reset with stopped := b.hazel.stopped } }

/-! ### Entries (R16, R543, R544) -/

/-- Warm entries that Walnut holds. -/
def walnutWarm : List Nat :=
  [Od.eventNextSeq, Od.eventOldestSeq, Od.alertAck, Od.odpSubTimeoutS, Od.odpEvtRetryMs, Od.ptpStepThresholdNs, Od.throttleMs, Od.energyInMj, Od.pwrIdleMs]

/-- Volatile entries that neither a Warm reset nor Standby returns to a default: DT's state, the setpoint in force, the shed command, the straps, and the states that the reset itself sets. -/
def walnutVolatile : List Nat :=
  [Od.timeState, Od.pwrSetpointInForce, Od.pwrShedCmd, Od.strapSlot, Od.strapBoot, Od.strapMgmt, Od.moduleService, Od.pwrState]

/-- Saved and Factory entries. -/
def keepSaved (key : Nat) : Bool :=
  let p := odPersist (keyIdx key) (keySub key)
  p == .saved || p == .factory

def keepWarm (key : Nat) : Bool :=
  keepSaved key || odPersist (keyIdx key) (keySub key) == .warm || walnutVolatile.contains (keyIdx key)

def keepStandby (key : Nat) : Bool := keepSaved key || walnutWarm.contains (keyIdx key) || walnutVolatile.contains (keyIdx key)

/-! ### Standby and Retired (R537, R538) -/

/-- A power state is entered (R534). -/
def Block.enterPower (b : Block) (st : Nat) : Block := (b.setReg Od.pwrState 0 st).raise 0x0112 noCtx []

/-- Entry to Standby: ports go DOWN, host sessions close, contents are lost and entries return to what R543 keeps. -/
def Block.enterStandby (b : Block) : Block :=
  let b := (b.unpower.ptpCheck).keepRegs keepStandby
  let b := (List.range 8).foldl (fun b p => if b.ras.out.any (fun u => u / 256 == p) then b.setPlaza p plRetired else b) b
  (b.setReg Od.moduleService 0 svcManagement).enterPower pwrStandby

/-- Entry to Retired: every context stops, records that can be written are written, Hazel starts nothing more, and power is removed. -/
def Block.enterRetired (b : Block) (cause unit : Nat) : Block :=
  if b.power = pwrRetired then b
  else
    let b := (List.range 64).foldl (fun b c => b.stopCtx c) b
    let b := b.disp.tasks.foldl (fun b t => b.abortRecord t) b
    let b : Block := { b with hazel := { b.hazel with stopped := true } }
    let b := b.unpower.ptpCheck
    let b := b.setOct Od.retireCause 0 (beBytes 8 b.dt ++ beBytes 1 cause ++ beBytes 1 unit ++ List.replicate 6 0)
    ((b.setReg Od.moduleService 0 svcRetired).enterPower pwrRetired).raise 0xC115 noCtx []

/-- A stack reads LOST, with its event and record (R196, R197): cause 0 failed training, 1 no spare, 2 failed check. -/
def Block.markLost (b : Block) (k pc cause : Nat) : Block :=
  let b := (b.setReg Od.hbmStackState (k + 1) stLost).raise 0xC340 noCtx []
  b.setOct Od.hbmRetireRecord 0 (beBytes 8 b.dt ++ beBytes 1 k ++ beBytes 1 pc ++ beBytes 1 cause ++ List.replicate 5 0)

/-- A stack is lost, and the module retires (R196). -/
def Block.loseStack (b : Block) (k pc cause : Nat) : Block := (b.markLost k pc cause).enterRetired 1 k

/-- The slow tier is lost (R387). -/
def Block.loseSlow (b : Block) (channel : Nat) : Block :=
  ((b.setReg Od.slowState 0 slLost).raise 0xC398 noCtx []).enterRetired 2 channel

end Sys2Proof.Machine
end

