-- ==== Sys2Proof/Machine/Maintenance.lean ====
section
/-! DEFINITION. Upkeep of HBM, the Terraces and the slow tier: scrubbing, retraining, lane repair, refresh bands, buffer ageing (R173, R183, R187 to R196, R345, R346, R349, R387, R392). -/

namespace Sys2Proof.Machine

/-- The module is in Run or Idle. -/
def Block.awake (b : Block) : Bool := b.live && (b.power == pwrRun || b.power == pwrIdle)

/-- DT reaches an instant that a time-driven command owns. -/
def Block.reach (b : Block) (t : Nat) : Block := { b with dt := max b.dt t }

/-! ### Scrubbing -/

/-- A buffered line that holds bytes of an HBM word. -/
def Block.buffered (b : Block) (w : Nat) : Option WcbLine := b.hbm.wcb.find? (fun l => l.line == w / 8)

/-- HBM after a scrub found `r`: a word that a buffered line covers whole is not touched; under a line that covers it in part the bytes of the line stay. -/
def Block.scrubbedHbm (b : Block) (w : Nat) (r : Mem × Decoded) : Mem :=
  match b.buffered w, r.2 with
  | some l, .bad _ => if (coveredWords l.line l.mask).contains w then b.mem else b.mem.setPoison w true
  | some l, .poison _ => if (coveredWords l.line l.mask).contains w then b.mem else b.mem.setPoison w true
  | some l, _ => if (coveredWords l.line l.mask).contains w then b.mem else r.1
  | none, _ => r.1

def xHbmScrub (addr : Nat) (u : Upset) (b : Block) : Block :=
  if !b.awake || decide (addr ≥ hbmSize) || b.stackState (stackOf addr) != stInService then b
  else
    let r := scrubWord b.mem (addr / 8) u 1
    (b.foundWord u 2 addr r.2 (fun b => { b with mem := b.scrubbedHbm (addr / 8) r })).bumpFree Od.hbmOndieSeverityCount (stackOf addr + 1)

def xTerraceScrub (addr : Nat) (u : Upset) (b : Block) : Block :=
  match terraceOf addr with
  | none => b
  | some t =>
    if !b.awake || b.boroughDown t then b
    else
      let r := scrubWord b.mem (addr / 8) u 1
      b.foundWord u 1 addr r.2 (fun b => { b with mem := r.1 })

/-- The 16 bytes of an XTS unit. -/
def xtsUnit (l : List Byte) : List Byte := (padTo 16 0 l).take 16

/-- A slow-tier word that is not poisoned, as stored: the ciphertext of its unit (R493). -/
def Block.cipher (b : Block) (unit : Nat) : List Byte := xtsUnit (Config.xtsSeal b.hazel.key unit (b.slow.bytes (16 * unit) 16))

/-- A unit of the slow tier after one of its stored words has become `d`. -/
def Block.slowStored (b : Block) (w d : Nat) : Mem :=
  let c := b.cipher (w / 2)
  let c' := c.take (8 * (w % 2)) ++ leBytes 8 d ++ c.drop (8 * (w % 2) + 8)
  if c' = c then b.slow else b.slow.write 16 (16 * (w / 2)) (xtsUnit (Config.xtsOpen b.hazel.key (w / 2) c'))

def xSlowScrub (addr : Nat) (u : Upset) (b : Block) : Block :=
  if !b.awake || decide (addr ≥ b.slowCapacity) || b.slowTier != slInService then b
  else
    let w := addr / 8
    if b.slow.poisoned w then
      let r := scrubWord b.slow w u 2
      b.foundWord u 3 addr r.2 (fun b => { b with slow := r.1 })
    else
      let d := ofLE (((b.cipher (w / 2)).drop (8 * (w % 2))).take 8)
      let r := decodeWord (d ^^^ u.dataXor.toNat) (checkBits d ^^^ u.checkXor.toNat)
      b.foundWord u 3 addr r (fun b => match r with
        | .clean x => { b with slow := b.slowStored w x }
        | .checkBit x => { b with slow := b.slowStored w x }
        | .corrected x => { b with slow := b.slowStored w x }
        | .bad _ => { b with slow := (b.slow.poisonAt (2 * (w / 2))).poisonAt (2 * (w / 2) + 1) }
        | .poison _ => { b with slow := (b.slow.poisonAt (2 * (w / 2))).poisonAt (2 * (w / 2) + 1) })

/-! ### Retraining and lane repair -/

/-- The first retrain instant at or after `t`: multiples of HBM_RETRAIN_PERIOD_MS / 256 (R190, R431). -/
def retrainAt (period t : Nat) : Nat := ceilDiv (ceilDiv (4 * t) (15625 * period) * (15625 * period)) 4

/-- The length of a window (R191). -/
def windowNs : Nat := 1200

/-- HBM_RETRAIN_WINDOW: at its instant, or as a repair window in which that falls ends (R190, R433). -/
def xRetrainWindow (b : Block) : Block :=
  let k := b.hbm.nextPc / 32
  if !b.awake || b.stackState k != stInService then b
  else
    let t := retrainAt (b.reg Od.hbmRetrainPeriodMs 0) (max b.dt b.hbm.nextAt)
    let start := max t b.hbm.openUntil
    if !b.inOrder t 4 then b
    else
      let b := (b.reach start).bump Od.hbmRetrainCount (k + 1) 1
      { b with hbm := { b.hbm with nextPc := (b.hbm.nextPc + 1) % 256, nextAt := t + 1, openUntil := start + windowNs } }

/-- Is the spare of a half, `2 * pc + half`, in use? -/
def Block.spareUsed (b : Block) (h : Nat) : Bool := b.hbm.spares.any (fun e => e.1 == h)

/-- A lane of a half is remapped to its spare (R194). -/
def Block.remapLane (b : Block) (h lane : Nat) : Block :=
  let b : Block := { b with hbm := { b.hbm with spares := sput b.hbm.spares h lane } }
  (b.bump Od.hbmLanesRepaired (h / 64 + 1) 1).raise 0x4340 noCtx []

/-- The lanes that bring-up's lane test found failed are remapped; a half whose spare is in use fails, and its stack with it (R193 to R195, R199). -/
def Block.laneTest (b : Block) : Block :=
  let b := b.sys.laneFaults.foldl (fun b f =>
    let k := f.1 / 64
    if b.spareUsed f.1 then { b with sys := { b.sys with hbmOk := b.sys.hbmOk.set k false } } else b.remapLane f.1 f.2) b
  { b with sys := { b.sys with laneFaults := [] } }

/-- The lane test of a bring-up, at its end 320 ms after HBM start (R199, R528). -/
def Block.laneTested (b : Block) : Block :=
  if b.sys.laneFaults.isEmpty || !b.live || !b.trained true 2240 1340 then b
  else { ({ b with dt := b.phaseAt 2240 1340 } : Block).laneTest with dt := b.dt }

/-- A lane fault (R193 to R196): its repair window, which another open window delays, the spare of its half, or the loss of the stack. -/
def xLaneFault (pc half lane : Nat) (passes : Bool) (b : Block) : Block :=
  let k := pc / 32
  if !b.awake || b.stackState k != stInService then b
  else
    let b := b.bump Od.hbmRetrainCount (k + 1) 1
    let b : Block := { b with hbm := { b.hbm with openUntil := max b.dt b.hbm.openUntil + windowNs } }
    if b.spareUsed (2 * pc + half) then b.loseStack k pc 1
    else if !passes then b.loseStack k pc 2
    else b.remapLane (2 * pc + half) lane

/-! ### Temperatures -/

/-- The refresh band of a reading and the band before it (R187, R188). -/
def bandOf (old : Nat) (t : Int) : Nat :=
  let up := if t < 85 then 1 else if t < 95 then 2 else 3
  let down := if t ≤ 82 then 1 else if t ≤ 92 then 2 else 3
  if up ≥ old then up else min old (max up down)

def bandMult (band : Nat) : Nat := if band = 1 then 1 else if band = 2 then 2 else 4
def multBand (m : Nat) : Nat := if m = 1 then 1 else if m = 2 then 2 else 3

def xHbmTempRead (k : Nat) (t : Int) (b : Block) : Block :=
  if !b.live || !(b.stackState k == stInService || b.stackState k == stSelfRefresh) then b
  else
    let old := multBand (b.reg Od.hbmRefreshMult (k + 1))
    let band := bandOf old t
    let b := (b.setReg Od.hbmTempC (k + 1) (ofSigned 32 t)).setReg Od.hbmRefreshMult (k + 1) (bandMult band)
    let b : Block := if band = old then b else b.raise 0x0340 noCtx []
    let hot := decide (t ≥ 105)
    let b : Block := { b with gov := { b.gov with hbmHot := b.gov.hbmHot.set k hot } }
    if hot then b.raise 0x4341 noCtx [] else b

/-- SLOW_STATE shows a tier that serves or refreshes itself. -/
def Block.slowPowered (b : Block) : Bool := b.live && (b.slowTier == slInService || b.slowTier == slSelfRefresh)

/-- SLOW_TEMP_READ: the reading and the refresh-rate field of mode register 4; 0x4397 as a package reaches 105 °C (R346). -/
def xSlowTempRead (n : Nat) (t : Int) (rate : Nat) (b : Block) : Block :=
  if !b.slowPowered then b
  else
    let b := b.setReg Od.slowTempC (n + 1) (ofSigned 32 t)
    let hot := decide (t ≥ 105)
    let was := nth false b.gov.slowHot n
    let b : Block := { b with gov := { b.gov with slowHot := b.gov.slowHot.set n hot }, hazel := { b.hazel with refresh := sset 0 b.hazel.refresh n rate } }
    if hot && !was then b.raise 0x4397 noCtx [] else b

def xOscRead (c count : Nat) (b : Block) : Block :=
  if !b.awake || b.slowTier != slInService then b
  else { b with hazel := { b.hazel with osc := sset 0 b.hazel.osc c count } }

/-! ### Ageing and loss -/

/-- The oldest partial line of a pseudo-channel reaches HBM_WCB_AGE_NS and is written (R183). -/
def xWcbAge (pc : Nat) (b : Block) : Block :=
  match b.hbm.wcb.find? (fun l => l.pc == pc) with
  | none => b
  | some l => if !b.awake then b else (b.reach (l.at_ + b.reg Od.hbmWcbAgeNs 0)).evictOldest pc

def xSlowLost (c : Nat) (b : Block) : Block :=
  if !b.live || !(b.slowTier == slInService || b.slowTier == slTraining || b.slowTier == slSelfRefresh) then b
  else b.loseSlow c

def execHbmScrub (addr : Nat) (upset : Upset) (s : State) : Host.Outcome State Fault Refusal := .next (s.run (xHbmScrub addr upset))
def execTerraceScrub (addr : Nat) (upset : Upset) (s : State) : Host.Outcome State Fault Refusal := .next (s.run (xTerraceScrub addr upset))
def execSlowScrub (addr : Nat) (upset : Upset) (s : State) : Host.Outcome State Fault Refusal := .next (s.run (xSlowScrub addr upset))
def execHbmRetrainWindow (s : State) : Host.Outcome State Fault Refusal := .next (s.run xRetrainWindow)
def execHbmLaneFault (pc : Nat) (lane : HbmLane) (passes : Bool) (s : State) : Host.Outcome State Fault Refusal := .next (s.run (xLaneFault pc lane.half lane.lane passes))
def execHbmTempRead (stack : Nat) (tempC : Int) (s : State) : Host.Outcome State Fault Refusal := .next (s.run (xHbmTempRead stack tempC))
def execSlowTempRead (package : Nat) (reading : SlowReading) (s : State) : Host.Outcome State Fault Refusal := .next (s.run (xSlowTempRead package reading.tempC reading.refresh))
def execWck2dqOscRead (channel count : Nat) (s : State) : Host.Outcome State Fault Refusal := .next (s.run (xOscRead channel count))
def execWcbAgeExpiry (pc : Nat) (s : State) : Host.Outcome State Fault Refusal := .next (s.run (xWcbAge pc))
def execSlowTierLost (channel : Nat) (s : State) : Host.Outcome State Fault Refusal := .next (s.run (xSlowLost channel))

end Sys2Proof.Machine
end

