-- ==== Sys2Proof/Machine/Plaza.lean ====
section
/-! DEFINITION. MATMUL and DIST on the Plazas, the drain port and the feed timeout (R31 to R63, R76 to R79, R394, R395). -/

namespace Sys2Proof.Machine

/-! ### Cells (R45, R76 to R79) -/

/-- The initial value of a mode (R45). -/
def modeInit (mode : Nat) : F32 := if mode = 3 then negInf32 else if mode = 4 then inf32 else 0

/-- The exact value of an operand element, scaled by its block scale for the MX formats (R69, R76). -/
def operand (fmt : Nat) (e : Nat × Nat) : Num := if isMX fmt then mxValue fmt e.2 e.1 else (fmtOf fmt).decode e.1

/-- The per-pair result of L1, L2 or DOT, exact (R76). -/
def pairValue (mode : Nat) (s h : Num) : Num :=
  if mode = 1 then (Num.sub s h).abs
  else if mode = 2 then Num.mul (Num.sub s h) (Num.sub s h)
  else Num.mul s h

/-- One comparison of CMPCNT (R77, R79). -/
def countPair (acc : F32) (p : Num × Num) : F32 :=
  if p.1.isNan || p.2.isNan then nan32 else if Num.lt p.2 p.1 then fadd acc one32 else acc

/-- The accumulator after the pairs of one cycle (R76, R77). -/
def cellCycle (mode : Nat) (acc : F32) (ps : List (Num × Num)) : F32 :=
  if mode = 3 then ps.foldl (fun a p => fmax a (toF32 (Num.add p.1 p.2))) acc
  else if mode = 4 then ps.foldl (fun a p => fmin a (toF32 (Num.add p.1 p.2))) acc
  else if mode = 5 then ps.foldl countPair acc
  else toF32 (Num.sum (f32 acc :: ps.map (fun p => pairValue mode p.1 p.2)))

/-- The high part of an FP32 operand (R78). -/
def splitHi (x : F32) : F32 := if isNonFinite x then x else x &&& 0xFFFF0000#32

/-- The low part of an FP32 operand, rounded to BF16 (R78). -/
def splitLo (x : F32) : F32 := if isNonFinite x then 0 else bf16to32 (narrow 0 (fsub x (splitHi x))).1

/-- One k step of the three-pass DOT (R78). -/
def threePass (acc s h : F32) : F32 :=
  let a := ffma (splitHi s) (splitHi h) acc
  if isNonFinite s || isNonFinite h then fadd (fadd a 0) 0
  else ffma (splitLo s) (splitHi h) (ffma (splitHi s) (splitLo h) a)

/-- Runs of `p` pairs; `fuel` bounds their number. -/
def cellRuns (mode p : Nat) : Nat → F32 → List (Num × Num) → F32
  | 0, acc, _ => acc
  | n + 1, acc, l => if l.isEmpty then acc else cellRuns mode p n (cellCycle mode acc (l.take p)) (l.drop p)

/-- A cell's accumulator after its reduction elements in ascending k (R76 to R78). The encodings that a feed delivers are read in the task's own formats, whatever FMT the transfer carries (log entry 53). -/
def cellDot (mode fmtS fmtH : Nat) (acc : F32) (s h : List (Nat × Nat)) : F32 :=
  if fmtS = 7 then (s.zip h).foldl (fun a p => threePass a (BitVec.ofNat 32 p.1.1) (BitVec.ofNat 32 p.2.1)) acc
  else cellRuns mode (pairsPerCycle fmtS) s.length acc ((s.map (operand fmtS)).zip (h.map (operand fmtH)))

/-! ### Feeds (R36, R209) -/

/-- Where element `k` of a tile's row lies in the broadcast feed of the tile (R209). -/
def sIndex (rows k row kk : Nat) : Nat :=
  let c := kk / 32
  rows * 32 * c + row * (min 32 (k - 32 * c)) + kk % 32

/-- Row `row` of a tile's broadcast operand. -/
def sRow (feed : List Elem) (rows k row : Nat) : List (Nat × Nat) :=
  (List.range k).map (fun kk => let e := nth ⟨0, 127, false⟩ feed (sIndex rows k row kk); (e.v, e.scale))

/-- Column `col` of a tile's held operand. -/
def hCol (feed : List Elem) (cols k col : Nat) : List (Nat × Nat) :=
  (List.range k).map (fun kk => let e := nth ⟨0, 127, false⟩ feed (kk * cols + col); (e.v, e.scale))

/-! ### Samples (R394 to R396, R405) -/

/-- Capture bytes per reduction element and K_max (R395). -/
def captureBytes (fmt : Nat) : Nat :=
  if fmt = 0 ∨ fmt = 1 then 128 else if fmt = 2 ∨ fmt = 3 then 64 else if fmt = 6 then 34 else if fmt = 7 then 256 else 66

def captureMax (fmt : Nat) : Nat :=
  let k := (16777216 - 4096) / captureBytes fmt
  if isMX fmt then k / 32 * 32 else k

/-- May the shadow block take a sample now: idle in shadow mode, not retired, a capture slot free (R394)? -/
def Block.sampleRoom (b : Block) (p : Nat) : Bool :=
  let mine := b.ras.samples.filter (fun s => s.plaza == p)
  decide (mine.length < 2) && !mine.any (fun s => s.stage == 0) && !b.ras.retired.contains (unitCode p 144)
    && !b.ras.samples.any (fun s => (s.stage == 1 && s.arbiter == p) || (s.stage == 2 && s.fourth == p))

/-- Physical address of a capture slot of a Plaza (R396). -/
def Block.captureAt (b : Block) (p slot : Nat) : Nat :=
  terraceBase + p / 2 * terraceSize + b.reg Od.shadowCaptureOffset (p / 2 + 1) + p % 2 * 2 ^ 25 + slot * 2 ^ 24

/-- `n` bytes of a capture are written to its slot; the spec gives the slot no layout, so the bytes are free (R396, log entry 46). -/
def Block.writeCapture (b : Block) (p slot n : Nat) : Block :=
  let d := b.draw
  d.2.writePhys (b.captureAt p slot) ((List.range n).map (fun i => BitVec.ofNat 8 (d.1 >>> (8 * i))))

/-- Opens a sample of a block-tile (R394 to R396, R405). -/
def Block.openSample (b : Block) (t : Task) (x : MM) (block rows cols : Nat) (init : List F32) (s h : List (List (Nat × Nat))) : Block :=
  if !b.sampleRoom t.unit then b.bump Od.shadowSkipped (t.unit + 1) 1
  else
    let ks := min x.k (captureMax x.fmtS)
    let s := s.map (fun r => r.take ks)
    let h := h.map (fun r => r.take ks)
    let g := b.gate t.ctx
    let bank := (b.roundStep t.ctx + (if g.read then 1 else 0)) % 2
    let slot := if b.ras.samples.any (fun k => k.plaza == t.unit && k.slot == 0) then 1 else 0
    let vn := (List.range rows).flatMap (fun i => (List.range cols).map (fun j =>
      cellDot x.mode x.fmtS x.fmtH (nth 0 init (i * cols + j)) (nth [] s i) (nth [] h j)))
    let smp : Sample := {
      id := b.ras.nextSample, plaza := t.unit, block := block, ticket := t.ticket, ctx := t.ctx, bank := bank,
      mode := x.mode, fmt := x.fmtS, fmtH := x.fmtH, slot := slot, rows := rows, cols := cols, init := init, s := s, h := h, n := cyclesOf x.fmtS ks,
      vn := vn, vs := [], v3 := [], stage := 0, arbiter := 0, fourth := 0, suspects := [], outcome := 0, detached := false }
    let b := b.setGate t.ctx (g.opened bank)
    let b := { b with ras := { b.ras with samples := b.ras.samples ++ [smp], nextSample := b.ras.nextSample + 1 } }
    (b.bump Od.shadowSamples (t.unit + 1) 1).writeCapture t.unit slot (4096 + ks * captureBytes x.fmtS)

/-! ### A tile -/

/-- The operands of a tile: broadcast and held elements, and C. -/
structure Feeds where
  s : List Elem
  h : List Elem
  c : List Elem
  deriving DecidableEq, Repr

/-- The cells with which a block's set starts a tile: those kept, or the initial value in every cell that C does not load (R45, R49; log entry 53). -/
def MM.startCells (x : MM) (old : AccSet) : List (Nat × F32) :=
  if x.init = 2 then old.cells
  else if modeInit x.mode = 0 then []
  else (List.range 1024).map (fun i => (i, modeInit x.mode))

/-- One block of a tile: its cells, its set, its drain job and its sample (R31, R37, R38, R54). A block wholly outside M and N drains no set (log entry 53). -/
def Block.blockTile (b : Block) (t : Task) (x : MM) (sel : List Nat) (tile : Nat) (ij : Nat × Nat) (f : Feeds) (br bc : Nat) : Block :=
  let p := t.unit
  let rows := x.rowsIn ij.1
  let cols := x.colsIn ij.2
  let r0 := 32 * br
  let c0 := 32 * bc
  let nr := min 32 (rows - r0)
  let nc := min 32 (cols - c0)
  let block := 12 * (t.rect.1 + br) + t.rect.2.1 + bc
  let set := x.aset + tile % x.ns
  let start := x.startCells (b.accSet p block set)
  if nr = 0 ∨ nc = 0 then b.setAcc p block set ⟨some t.ctx, start⟩
  else
    let init := (List.range nr).flatMap (fun i => (List.range nc).map (fun j =>
      if x.init = 1 then BitVec.ofNat 32 (nth ⟨0, 127, false⟩ f.c ((r0 + i) * cols + c0 + j)).v
      else sget 0 start (32 * i + j)))
    let s := (List.range nr).map (fun i => sRow f.s rows x.k (r0 + i))
    let h := (List.range nc).map (fun j => hCol f.h cols x.k (c0 + j))
    let vals := if x.k = 0 then init
      else (List.range nr).flatMap (fun i => (List.range nc).map (fun j =>
        cellDot x.mode x.fmtS x.fmtH (nth 0 init (i * nc + j)) (nth [] s i) (nth [] h j)))
    let cells := (vals.zipIdx).foldl (fun cs v => sset 0 cs (32 * (v.2 / nc) + v.2 % nc) v.1) start
    let b := b.setAcc p block set ⟨some t.ctx, cells⟩
    let b := if sel.contains (tile * 144 + block) && x.k != 0 && b.plazaRuns p then b.openSample t x block nr nc init s h else b
    if x.drain then
      { b with plz := { b.plz with drains := b.plz.drains ++
          [⟨p, x.outQ, setKey p block set, ⟨t.ticket, t.ctx, 32 * x.h * ij.1 + r0, 32 * x.w * ij.2 + c0, nr, nc, vals, x.k == 0, false⟩⟩] } }
    else b

/-- One tile of a task, whose elements its intake holds (R36, R37). -/
def Block.tile (b : Block) (t : Task) (x : MM) (sel : List Nat) (tile : Nat) (ij : Nat × Nat) : Block :=
  let k := b.intake t.ticket
  let held := if x.takesH ij then nth [] k.bufs 1 else k.held
  let b := ((List.range x.h).flatMap (fun i => (List.range x.w).map (fun j => (i, j)))).foldl
    (fun b e => b.blockTile t x sel tile ij ⟨nth [] k.bufs 0, held, nth [] k.bufs 2⟩ e.1 e.2) b
  b.setIntake t.ticket { k with bufs := [[], [], []], heard := [b.dt, b.dt, b.dt], held := held, tile := tile + 1 }

/-- The set in which a tile would accumulate still drains an earlier tile; a task without reduction accumulates nothing (R39, R55). -/
def Block.setDrains (b : Block) (t : Task) (x : MM) (tile : Nat) : Bool :=
  x.k != 0 && b.plz.drains.any (fun j => (rectBlocks t.rect).any (fun k => j.key == setKey t.unit k (x.aset + tile % x.ns)))

/-- What the feeds still owe a tile: port, place, number. -/
def Block.tileWants (b : Block) (t : Task) (x : MM) (ij : Nat × Nat) : List (PortId × Nat × Nat) :=
  ((feedPorts t.unit x).zipIdx).map (fun p =>
    (p.1, p.2, nth 0 (x.tileNeeds ij) p.2 - (nth [] (b.intake t.ticket).bufs p.2).length))

/-- The tiles from a list on, in their order, as far as the feeds and the drain port let them, and up to one that is sampled, whose comparison comes next (R395, log entry 44); and the status of an early end (R39, R60). -/
def Block.tilesRun (b : Block) (t : Task) (x : MM) (sel : List Nat) : List ((Nat × Nat) × Nat) → Block × Option Nat
  | [] => (b, none)
  | v :: r =>
    if b.setDrains t x v.2 then (b, none)
    else
      let wants := b.tileWants t x v.1
      match b.takeFault wants with
      | some st => (b, some st)
      | none =>
        let b := wants.foldl (fun b u => b.takeInto t.ticket u) b
        if (b.tileWants t x v.1).all (fun u => u.2.2 == 0) then
          let b' := b.tile t x sel v.2 v.1
          if b'.ras.nextSample = b.ras.nextSample then b'.tilesRun t x sel r else (b', none)
        else (b, none)

/-- KEEP names a set of another context, or one without a record: any of the sets ASET to ASET + NSET of the rectangle's blocks, whether or not a tile uses it (R52; log entry 53). -/
def Block.keepFault (b : Block) (t : Task) (x : MM) : Bool :=
  x.init == 2 && (rectBlocks t.rect).any (fun k => (List.range x.ns).any (fun i =>
    (b.accSet t.unit k (x.aset + i)).ctx != some t.ctx))

/-- A Plaza task ends of itself; a sample of it that has not been compared settles clean (R399). -/
def Block.plazaEnd (b : Block) (t : Task) (status : Nat) : Block := (b.endTask t.ticket status (plazaUnit t)).settleEnded t.ticket

/-- The task's results stand: it waits for its drains, or ends (R55, R61). -/
def Block.plazaDone (b : Block) (t : Task) (x : MM) : Block :=
  let b := (b.setTask t.ticket (fun y => { y with stage := 1 })).dropIntake t.ticket
  if x.k = 0 then b.plazaEnd t sEmptyK
  else if b.plz.drains.any (fun j => j.set_.ticket == t.ticket) then b
  else b.plazaEnd t sOK

/-- The tiles that a task has still to compute, with their numbers. -/
def Block.tilesLeft (b : Block) (t : Task) (x : MM) : List ((Nat × Nat) × Nat) := (x.visit.zipIdx).drop (b.intake t.ticket).tile

/-- A Plaza task runs: it faults, or computes the tiles that its feeds and the drain port let it; a K = 0 task that loads C takes C first (R45 to R62; log entry 53). -/
def Block.plazaRun (b : Block) (t : Task) (sel : List Nat) : Block :=
  let x := mmOf t.desc
  if (b.intake t.ticket).tile == 0 && b.keepFault t x then b.endTask t.ticket sAddrFault (plazaUnit t)
  else
    let r := b.tilesRun t x sel (b.tilesLeft t x)
    let b := match r.2 with
      | some st => (if st = sPoisoned then r.1.consumePoison t.ctx t.ticket else r.1).faultPlaza t st
      | none => if (r.1.tilesLeft t x).isEmpty && r.1.ras.nextSample == b.ras.nextSample then r.1.plazaDone t x else r.1
    b.bumpFree Od.plazaFeedStallCycles (t.unit + 1)

/-- A Plaza command on a ticket of its opcode and mode, while the module is not shed (R460). -/
def Block.plazaCmd (b : Block) (op mode t : Nat) (sel : List Nat) : Block :=
  match b.starting t op with
  | some x => if (mmOf x.desc).mode = mode ∧ !b.gov.shed then b.plazaRun x sel else b
  | none => b

def execMatmul (t : Nat) (sel : List Nat) (s : State) : Host.Outcome State Fault Refusal := .next (s.run (fun b => b.plazaCmd opMatmul 0 t sel))
def execDistL1 (t : Nat) (sel : List Nat) (s : State) : Host.Outcome State Fault Refusal := .next (s.run (fun b => b.plazaCmd opDist 1 t sel))
def execDistL2 (t : Nat) (sel : List Nat) (s : State) : Host.Outcome State Fault Refusal := .next (s.run (fun b => b.plazaCmd opDist 2 t sel))
def execDistMaxplus (t : Nat) (sel : List Nat) (s : State) : Host.Outcome State Fault Refusal := .next (s.run (fun b => b.plazaCmd opDist 3 t sel))
def execDistMinplus (t : Nat) (sel : List Nat) (s : State) : Host.Outcome State Fault Refusal := .next (s.run (fun b => b.plazaCmd opDist 4 t sel))
def execDistCmpcnt (t : Nat) (sel : List Nat) (s : State) : Host.Outcome State Fault Refusal := .next (s.run (fun b => b.plazaCmd opDist 5 t sel))

/-! ### The drain port (R38, R94) -/

/-- Has a WVU input queue room (R94)? -/
def Block.queueRoom (b : Block) (p q : Nat) : Bool :=
  decide ((b.plz.queues.filter (fun x => x.wvu == p)).length < 256)
    && decide ((b.plz.queues.filter (fun x => x.wvu == p && x.queue == q)).length < 64)

/-- Is a set ready to leave a Plaza? One tagged EMPTY_K leaves after its task's completion record (R38, R55). -/
def Block.drainReady (b : Block) (p : Nat) (j : DrainJob) : Bool :=
  j.plaza == p && !(j.set_.emptyK && (b.task? j.set_.ticket).isSome)

/-- The task of a set that has left `was`: its next tile, where that waited for the set, waits for its feeds from now on, and the task ends with its last set (R39, R61, R62). -/
def Block.drainLeft (b was : Block) (j : DrainJob) : Block :=
  let t := j.set_.ticket
  match b.task? t with
  | none => b
  | some x =>
    if x.stage = 0 then
      let k := b.intake t
      let m := mmOf x.desc
      if (b.tilesLeft x m).head?.any (fun v => was.setDrains x m v.2 && !b.setDrains x m v.2) then
        b.setIntake t { k with heard := [b.dt, b.dt, b.dt] }
      else b
    else if b.plz.drains.any (fun k => k.set_.ticket == t) then b
    else b.plazaEnd x sOK

/-- The drain port serves one ready set whose queue has room; the served partition goes behind the others, and sets that stay behind have waited (R38, R94). What a set held stays in it (log entry 53). -/
def xTileDrain (p : Nat) (b : Block) : Block :=
  if b.gov.shed then b
  else
    let was := b
    let b' : Block := match b.plz.drains.find? (fun j => b.drainReady p j && b.queueRoom p j.queue) with
      | none => b
      | some j =>
        let left := b.plz.drains.erase j
        let same := fun (k : DrainJob) => k.plaza == p && k.set_.ticket == j.set_.ticket
        let b : Block := { b with plz := { b.plz with
          drains := left.filter (fun k => !same k) ++ left.filter same, queues := b.plz.queues ++ [(⟨p, j.queue, j.set_⟩ : QueuedSet)] } }
        b.drainLeft was j
    if b'.plz.drains.any (b'.drainReady p) then b'.bumpFree Od.plazaDrainStallCycles (p + 1) else b'

def execTileDrain (plaza : Nat) (s : State) : Host.Outcome State Fault Refusal := .next (s.run (xTileDrain plaza))

/-- Has a Plaza task waited for an element of a feed, since it last received one there, for the whole timeout (R62)? -/
def Block.starved (b : Block) (t : Task) (x : MM) : Bool :=
  match b.tilesLeft t x with
  | [] => false
  | v :: _ => !b.setDrains t x v.2 && (b.tileWants t x v.1).any (fun u =>
      let q := b.queue u.1
      let since := max t.issued (max (nth 0 (b.intake t.ticket).heard u.2.1) (portHeard q))
      decide ((portElems q).length < u.2.2) && decide (since + b.shedSince since + 1000 * b.reg Od.plazaFeedTimeoutUs 0 ≤ b.dt))

/-- The feed timeout (R62): a Plaza task that has starved aborts with TIMEOUT; it does not run while shed or while the Plaza drains for a test. -/
def xPlazaFeedTimeout (t : Nat) (b : Block) : Block :=
  match b.task? t with
  | some x =>
    if x.isRunning && x.stage == 0 && (opcodeOf x.desc == opMatmul || opcodeOf x.desc == opDist) && !b.gov.shed
        && !(b.ras.tests.any (fun k => k.plaza == x.unit && k.draining)) && b.starved x (mmOf x.desc) then
      (b.faultPlaza x sTimeout).bumpFree Od.plazaFeedStallCycles (x.unit + 1)
    else b
  | none => b

def execPlazaFeedTimeout (ticket : Nat) (s : State) : Host.Outcome State Fault Refusal := .next (s.run (xPlazaFeedTimeout ticket))

end Sys2Proof.Machine
end

