-- ==== Sys2Proof/Machine/Protected.lean ====
section
/-! DEFINITION. Protected writes: the owner's signature and its sequence number (R480, R489, R513). -/

namespace Sys2Proof.Machine

/-- The 80-byte message that the owner signs (R489). -/
def ownerMessage (deviceId : List Byte) (idx sub seq : Nat) (value : List Byte) (op : Nat) : List Byte :=
  deviceId ++ beBytes 2 idx ++ beBytes 1 sub ++ [0] ++ beBytes 8 seq ++ Config.sha256 value ++ beBytes 1 op ++ List.replicate 3 0

/-- A signature of an owner or host key, with the types and size that R480 allows, verifies. -/
def sigVerifies (key msg sig : List Byte) : Bool := lmsAccepts 5 25 key msg sig

/-- A protected operation is refused, with its event at most once per second (R489). -/
def Block.refuseProtected (b : Block) (st : Nat) : Block :=
  let b := b.bump Od.protWriteRefused 0 1
  let sec := b.dt / 10 ^ 9 + 1
  let b : Block := if b.wal.protEvt = sec then b else ({ b with wal := { b.wal with protEvt := sec } }).raise 0x4720 noCtx []
  b.answer st

/-- Does a protected write pass the checks of R489? -/
def Block.signed (b : Block) (idx sub op : Nat) (w : PWrite) : Bool :=
  decide (b.reg Od.ownerSeq 0 < w.seq)
    && sigVerifies (b.oct Od.ownerKey 0) (ownerMessage (b.oct Od.deviceId 0) idx sub w.seq w.value op) w.sig

/-- A protected write: OWNER_SEQ is written before the value is applied. -/
def Block.protect (b : Block) (idx sub op : Nat) (w : PWrite) (f : Block → Block) : Block :=
  b.onWrite idx false (fun b =>
    if b.signed idx sub op w then f (b.setReg Od.ownerSeq 0 w.seq) else b.refuseProtected stSigInvalid)

end Sys2Proof.Machine
end

