-- ==== Sys2Proof/Machine/Ras.lean ====
section
/-! DEFINITION. Shadow sampling, arbitration, observation, retirement and in-field tests (R394 to R416, R443, R545, R546). -/

namespace Sys2Proof.Machine

/-! ### The comparison (R397, R398) -/

/-- The FP32 value that is the least at or above a magnitude (R397). -/
def roundUp (x : Num) : F32 :=
  let r := toF32 x
  if Num.lt (f32 r) x then r + 1 else r

/-- Modes that a shadow block sums exactly. -/
def sumMode (mode : Nat) : Bool := mode == 0 || mode == 1 || mode == 2

/-- The per-pair values of one cell of a capture. -/
def Sample.pairs (x : Sample) (i j : Nat) : List Num :=
  ((nth [] x.s i).zip (nth [] x.h j)).map (fun p => pairValue x.mode (operand x.fmt p.1) (operand x.fmtH p.2))

/-- A cell as a working block or a narrow shadow block computes it. -/
def Sample.narrowCell (x : Sample) (i j : Nat) : F32 :=
  cellDot x.mode x.fmt x.fmtH (nth 0 x.init (i * x.cols + j)) (nth [] x.s i) (nth [] x.h j)

/-- A cell as a shadow block computes it in shadow mode. -/
def Sample.shadowCell (x : Sample) (i j : Nat) : F32 :=
  if sumMode x.mode then toF32 (Num.sum (f32 (nth 0 x.init (i * x.cols + j)) :: x.pairs i j)) else x.narrowCell i j

/-- The magnitude of a cell. -/
def Sample.magnitude (x : Sample) (i j : Nat) : F32 :=
  roundUp (Num.sum ((f32 (nth 0 x.init (i * x.cols + j))).abs :: (x.pairs i j).map Num.abs))

/-- Coordinates of the cells inside M and N, row by row. -/
def Sample.cells (x : Sample) : List (Nat × Nat) := (List.range x.rows).flatMap (fun i => (List.range x.cols).map (fun j => (i, j)))

/-- Values of a run with an error pattern laid over them, by cell number. -/
def Sample.run (x : Sample) (f : Nat → Nat → F32) (err : List (Nat × BitVec 32)) : List F32 :=
  (x.cells.zipIdx).map (fun c => f c.1.1 c.1.2 ^^^ (((err.find? (fun e => e.1 == c.2)).map (·.2)).getD 0))

/-- The bound on the difference of two finite values of a cell. -/
def Sample.bound (x : Sample) (i j : Nat) : Num :=
  let a := f32 (x.magnitude i j)
  let tau := Num.mul (.fin false (x.n + 2) 0) (Num.add (Num.scale (-24) a) (.fin false 1 (-149)))
  if x.fmt = 7 then Num.add tau (Num.scale (-13) a) else tau

/-- A cell agrees (R398). -/
def Sample.agrees (x : Sample) (i j : Nat) (v w : F32) : Bool :=
  let p := f32 v
  let q := f32 w
  if isNonFinite v || isNonFinite w then (p.isNan && q.isNan) || v == w
  else if !sumMode x.mode then v == w
  else Num.le (Num.sub p q).abs (x.bound i j)

/-- Numbers of the cells in which two runs disagree. -/
def Sample.disagreeing (x : Sample) (v w : List F32) : List Nat :=
  ((x.cells.zipIdx).filter (fun c => !x.agrees c.1.1 c.1.2 (nth 0 v c.2) (nth 0 w c.2))).map (·.2)

/-! ### Units: observation and retirement (R408, R409) -/

def hour : Nat := 3600 * 10 ^ 9

/-- The unit's Plaza must leave service when the unit retires. -/
def Block.retiresPlaza (b : Block) (unit : Nat) : Bool := unit % 256 != 144 || b.reg Od.shadowRetireAction 0 == 1

/-- A Plaza drains to RETIRED or OFFLINE. -/
def Block.sendOut (b : Block) (p : Nat) : Block :=
  let b : Block := if b.ras.leaving.contains p then b else { b with ras := { b.ras with leaving := b.ras.leaving ++ [p] } }
  if b.plaza p = plRetired then b else b.leaveService p plDraining

def Block.retireUnit (b : Block) (unit : Nat) : Block :=
  if b.ras.retired.contains unit then b
  else
    let b : Block := { b with ras := { b.ras with retired := b.ras.retired ++ [unit], observed := b.ras.observed.filter (fun o => o.unit != unit) } }
    let b := b.raise 0x83A6 noCtx []
    if b.retiresPlaza unit then ({ b with ras := { b.ras with out := b.ras.out ++ [unit] } }).sendOut (unit / 256) else b.raise 0x43AA noCtx []

/-- A unit with a transient fault enters observation; one already there, or without a free record, retires. -/
def Block.observe (b : Block) (unit cause : Nat) : Block :=
  if b.ras.retired.contains unit then b
  else if b.ras.observed.any (fun o => o.unit == unit) || decide (b.ras.observed.length ≥ 32) then b.retireUnit unit
  else { b with ras := { b.ras with observed := b.ras.observed ++ [⟨unit, cause, 0, b.dt, b.dt + hour⟩] } }

/-! ### Samples (R399 to R407) -/

def Block.sample? (b : Block) (id : Nat) : Option Sample := b.ras.samples.find? (fun x => x.id == id)

def Block.setSample (b : Block) (x : Sample) : Block :=
  { b with ras := { b.ras with samples := b.ras.samples.map (fun (y : Sample) => if y.id == x.id then x else y) } }

def Block.dropSample (b : Block) (x : Sample) : Block := { b with ras := { b.ras with samples := b.ras.samples.filter (fun (y : Sample) => y.id != x.id) } }

/-- Discards a sample (R399, R407): its count is released, and suspects of a settled dispute are observed without a replay. -/
def Block.discardSample (b : Block) (x : Sample) : Block :=
  let b := b.dropSample x
  if x.stage = 3 then x.suspects.foldl (fun b u => b.observe u 0) b else b.releaseSample x

def Block.discardSamples (b : Block) (p : Nat) : Block := (b.ras.samples.filter (fun x => x.plaza == p)).foldl (fun b x => b.discardSample x) b

/-- May the shadow block of a Plaza arbitrate (R400)? -/
def Block.eligible (b : Block) (p : Nat) : Bool :=
  b.plazaRuns p && !b.ras.observed.any (fun o => o.unit == unitCode p 144) && !b.ras.retired.contains (unitCode p 144)

/-- Eligible shadow blocks other than the disputing Plaza's, in the order of R261. -/
def Block.arbiters (b : Block) (p : Nat) : List Nat := (substitutes p).filter b.eligible

/-- A run preempts the shadow-mode sample of its shadow block. -/
def Block.preempt (b : Block) (p : Nat) : Block :=
  (b.ras.samples.filter (fun x => x.plaza == p && x.stage == 0)).foldl (fun b x => (b.discardSample x).bump Od.shadowSkipped (p + 1) 1) b

/-- The record of SHADOW_LAST_DISPUTE. -/
def Block.disputeRecord (b : Block) (x : Sample) (outcome cells : Nat) (arbiter fourth cls : Nat) : List Byte :=
  beBytes 8 b.dt ++ beBytes 4 x.ticket ++ beBytes 1 x.ctx ++ beBytes 1 x.plaza ++ beBytes 1 x.block ++ beBytes 1 outcome
    ++ beBytes 4 x.n ++ beBytes 2 cells ++ beBytes 1 arbiter ++ beBytes 1 fourth ++ beBytes 1 cls ++ List.replicate 7 0

/-- Suspect units of an outcome (R401). -/
def suspectsOf (x : Sample) (outcome : Nat) : List Nat :=
  let blk := unitCode x.plaza x.block
  let s := unitCode x.plaza 144
  let a := unitCode x.arbiter 144
  match outcome with
  | 1 => [blk]
  | 2 => [s]
  | 3 => [s, a]
  | 4 => [blk, s]
  | 5 => [blk, s, a]
  | _ => [blk, s]

/-- A dispute settles in an outcome (R401, R402, R405, R407, R408). -/
def Block.settleDispute (b : Block) (x : Sample) (outcome arbiter fourth : Nat) : Block :=
  let invalid := outcome != 2 && outcome != 3
  let b := b.releaseSample x
  let b : Block := if invalid && !x.detached then b.setGate x.ctx ((b.gate x.ctx).dispute x.bank) else b
  let b := b.setOct Od.shadowLastDispute 0 (b.disputeRecord x outcome (x.disagreeing x.vn x.vs).length arbiter fourth 0)
  let us := suspectsOf x outcome
  let again := us.filter (fun u => b.ras.observed.any (fun o => o.unit == u))
  let b := b.setSample { x with stage := 3, outcome := outcome, suspects := us }
  let b := us.foldl (fun b _ => b.raise 0x43A5 noCtx []) b
  let b : Block := if invalid then
      let b : Block := match b.task? x.ticket with
        | some t => if t.isRunning then b.faultPlaza t sShadowDispute else b
        | none => b
      b.raise 0x83A4 x.ctx (beBytes 4 x.ticket)
    else b
  again.foldl (fun b u => b.retireUnit u) b

/-- SHADOW_COMPARE (R398, R399). -/
def xCompare (id : Nat) (errBlock errShadow : List (Nat × BitVec 32)) (b : Block) : Block :=
  match b.sample? id with
  | none => b
  | some x =>
    if x.stage != 0 || b.gov.shed then b
    else
      let vn := x.run x.narrowCell errBlock
      let vs := x.run x.shadowCell errShadow
      let x : Sample := { x with vn := vn, vs := vs }
      if (x.disagreeing vn vs).isEmpty then (b.releaseSample x).dropSample x
      else
        let b := (b.raise 0x43A3 x.ctx []).bump Od.shadowDisputes (x.plaza + 1) 1
        match b.arbiters x.plaza with
        | [] => (b.setSample x).settleDispute x 6 0xFF 0xFF
        | a :: _ => (b.preempt a).setSample { x with stage := 1, arbiter := a }

/-- The next eligible shadow block after the arbiter's (R400). -/
def Block.fourthOf (b : Block) (x : Sample) : Option Nat :=
  (((substitutes x.plaza).dropWhile (· != x.arbiter)).drop 1).find? b.eligible

/-- A shadow or working block of Plaza `p` reads a capture for its run (R155, R168, R400, R404). -/
def Block.readCapture (b : Block) (x : Sample) (p : Nat) : Block :=
  b.contended (fun b => b.countReadFrom (p / 2) (b.captureAt x.plaza x.slot) (4096 + (nth [] x.s 0).length * captureBytes x.fmt))

/-- ARBITRATION_RUN (R400, R401). -/
def xArbitrate (id : Nat) (err : List (Nat × BitVec 32)) (b : Block) : Block :=
  match b.sample? id with
  | none => b
  | some x =>
    if b.gov.shed then b
    else if x.stage = 1 then
      let v3 := x.run x.narrowCell err
      let x : Sample := { x with v3 := v3 }
      let b := b.readCapture x x.arbiter
      if v3 = x.vn then b.settleDispute x 2 x.arbiter 0xFF
      else if (x.disagreeing v3 x.vs).isEmpty then b.settleDispute x 1 x.arbiter 0xFF
      else match b.fourthOf x with
        | none => b.settleDispute x 6 x.arbiter 0xFF
        | some q => (b.preempt q).setSample { x with stage := 2, fourth := q }
    else if x.stage = 2 then
      let v4 := x.run x.narrowCell err
      (b.readCapture x x.fourth).settleDispute x (if v4 = x.vn then 3 else if v4 = x.v3 then 4 else 5) x.arbiter x.fourth
    else b

/-- The values of the run that named a unit, and how the unit computes its replay (R404). -/
def Sample.named (x : Sample) (unit : Nat) : List F32 × (Nat → Nat → F32) :=
  if unit = unitCode x.plaza x.block then (x.vn, x.narrowCell)
  else if unit = unitCode x.plaza 144 then (x.vs, x.shadowCell)
  else (x.v3, x.narrowCell)

/-- The class of the last dispute after a replay, where the entry still holds it. -/
def Block.classify (b : Block) (x : Sample) (cls : Nat) : Block :=
  let r := b.oct Od.shadowLastDispute 0
  if ((r.drop 8).take 8) = beBytes 4 x.ticket ++ beBytes 1 x.ctx ++ beBytes 1 x.plaza ++ beBytes 1 x.block ++ beBytes 1 x.outcome then
    b.setOct Od.shadowLastDispute 0 (r.take 24 ++ beBytes 1 (max cls (nth 0#8 r 24).toNat) ++ r.drop 25)
  else b

/-- A working block is free for its replay once no running task holds it (R404). -/
def Block.blockFree (b : Block) (unit : Nat) : Bool :=
  unit % 256 == 144 || !b.disp.tasks.any (fun t => t.isRunning && t.unit == unit / 256 && (opcodeOf t.desc == opMatmul || opcodeOf t.desc == opDist)
    && (rectBlocks t.rect).contains (unit % 256))

/-- SHADOW_REPLAY (R404, R408). -/
def xReplay (id unit : Nat) (err : List (Nat × BitVec 32)) (b : Block) : Block :=
  match b.sample? id with
  | none => b
  | some x =>
    if x.stage != 3 || !x.suspects.contains unit || !b.blockFree unit || b.gov.shed then b
    else
      let n := x.named unit
      let v := x.run n.2 err
      let permanent := (x.disagreeing x.vn x.vs).all (fun c => nth 0 v c == nth 0 n.1 c)
      let b := (b.readCapture x (unit / 256)).classify x (if permanent then 2 else 1)
      let left := x.suspects.erase unit
      let b : Block := if left.isEmpty then b.dropSample x else b.setSample { x with suspects := left }
      if permanent then b.retireUnit unit else b.observe unit 0

/-- OBSERVATION_END (R408). -/
def xObservationEnd (unit : Nat) (b : Block) : Block :=
  { b with ras := { b.ras with observed := b.ras.observed.filter (fun o => !(o.unit == unit && decide (o.since + 7 * 24 * hour ≤ b.dt) && decide (o.passed ≥ 168))) } }

/-! ### In-field tests (R410 to R415, R443, R546) -/

/-- A held Plaza that is OFFLINE (R545). -/
def Block.held (b : Block) (p : Nat) : Bool := b.plaza p == plOffline && b.reg Od.plazaHold (p + 1) != 0

/-- A Plaza becomes TESTING: its rail goes to the test corner, and its clock by hops (R412, R467). A module that is shed starts no test (R460). -/
def Block.startTest (b : Block) (p : Nat) : Block :=
  let b := b.leaveIdle
  if b.gov.shed then b
  else
    let b : Block := { b with ras := { b.ras with tests := b.ras.tests.map (fun (x : Test) => if x.plaza == p then { x with draining := true } else x) } }
    let b := b.setPlaza p plTesting
    (b.setClock p (b.clockOf p)).replan p

/-- A due test starts where it may at once: on a Plaza that holds no task, or on a held one. -/
def Block.tryTest (b : Block) (p : Nat) : Block :=
  if b.testPlace || b.power == pwrPark || b.service != svcFull then b
  else if b.held p then b.startTest p
  else if b.plazaHolds p then b
  else b.drainForTest p

/-- The place of the one test is free again, or shedding has ended: deferred tests start in the order of their due instants (R410, R460). -/
def Block.nextTest (b : Block) : Block :=
  if b.gov.shed then b
  else match b.ras.tests.find? (fun x => decide (x.due ≤ b.dt) && !x.draining && !b.plazaHolds x.plaza && (b.plaza x.plaza == plInService || b.held x.plaza)) with
  | some x => b.tryTest x.plaza
  | none => b

/-- Tests in the order of their due instants. -/
def insertTest (t : Test) : List Test → List Test
  | [] => [t]
  | x :: r => if t.due < x.due then t :: x :: r else x :: insertTest t r

/-- A regular test replaces a test of its Plaza that is still to start (R415, R546). -/
def Block.addTest (b : Block) (t : Test) : Block :=
  { b with ras := { b.ras with tests := insertTest t (b.ras.tests.filter (fun x => !(x.plaza == t.plaza && !x.draining))) } }

/-- IFT_DUE (R410, R411). -/
def xIftDue (p : Nat) (b : Block) : Block :=
  let due := b.reg Od.iftNextDue (p + 1)
  if !b.live || b.service != svcFull || b.plaza p == plRetired || b.ras.tests.any (fun x => x.plaza == p && !x.observation) then b
  else ((b.reach (tickAt due)).addTest ⟨p, false, due, false, 0⟩).tryTest p

/-- OBSERVATION_TEST_DUE (R415); a regular test of the Plaza within the same hour takes its place. -/
def xObservationDue (unit : Nat) (b : Block) : Block :=
  match b.ras.observed.find? (fun o => o.unit == unit) with
  | none => b
  | some o =>
    let p := unit / 256
    if !b.live || b.service != svcFull || b.plaza p == plRetired || b.ras.tests.any (fun x => x.plaza == p) then b
    else
      let next := b.reg Od.iftNextDue (p + 1)
      if o.due ≤ next ∧ next < o.due + hour then b
      else ((b.reach (tickAt o.due)).addTest ⟨p, true, o.due, false, 0⟩).tryTest p

/-- The length of a test's window (R410, R415). -/
def Block.windowOf (b : Block) (x : Test) : Nat := if x.observation then hour else b.reg Od.iftGraceH 0 * hour

/-- IFT_GRACE_EXPIRED (R411). -/
def xGraceExpired (p : Nat) (b : Block) : Block :=
  match b.ras.tests.find? (fun x => x.plaza == p) with
  | none => b
  | some x =>
    if x.draining || b.testPlace || b.plaza p != plInService || b.power == pwrPark || !b.live then b
    else ((b.reach (x.due + b.windowOf x)).raise 0x43A9 noCtx []).drainForTest p

/-- A unit of the Plaza has retired that takes it out of service. -/
def Block.mustRetire (b : Block) (p : Nat) : Bool := b.ras.out.any (fun u => u / 256 == p)

/-- PLAZA_DRAINED (R409, R411, R545). -/
def xPlazaDrained (p : Nat) (b : Block) : Block :=
  if b.plaza p != plDraining || b.plazaBusy p then b
  else if b.ras.leaving.contains p then
    let b := b.noteReasons
    let b : Block := { b with ras := { b.ras with leaving := b.ras.leaving.erase p, tests := b.ras.tests.filter (fun x => x.plaza != p) } }
    if b.mustRetire p then
      let b := b.setPlaza p plRetired
      if (List.range 8).all (fun q => b.plaza q == plRetired) then (b.raise 0xC3AB noCtx []).enterRetired 3 0 else b.nextTest
    else
      let b := (b.setPlaza p plOffline).nextTest
      if b.reg Od.plazaHold (p + 1) = 0 then { b with sys := { b.sys with checks := b.sys.checks ++ [(p, .hold)] } } else b
  else if b.ras.tests.any (fun x => x.plaza == p && x.draining) then b.startTest p
  else b

/-- Failing units of a test or start check: permanent faults retire, transient ones are observed (R414). -/
def Block.judge (b : Block) (r : TestResult) : Block := r.failed.foldl (fun b f => if f.2 then b.retireUnit f.1 else b.observe f.1 1) b

/-- 0 pass, 1 transient failure, 2 permanent failure (R416). -/
def resultCode (r : TestResult) : Nat := if r.failed.any (·.2) then 2 else if r.failed.isEmpty then 0 else 1

/-- A test counts as an observation test of a unit: it is one, or a regular test that has taken its place (R415). -/
def countsFor (x : Test) (o : Obs) : Bool := x.observation || (decide (o.due ≤ x.due) && decide (x.due < o.due + hour))

/-- Observed units of a Plaza that passed count a test; their next is due an hour on (R408, R415). -/
def Block.countPasses (b : Block) (p : Nat) (x : Test) (r : TestResult) : Block :=
  { b with ras := { b.ras with observed := b.ras.observed.map (fun (o : Obs) =>
      if o.unit / 256 == p && countsFor x o && !r.failed.any (fun f => f.1 == o.unit) then { o with passed := o.passed + 1, due := b.dt + hour } else o) } }

/-- The margin data lower the characterized limit by one step at most (R443). -/
def Block.remeasure (b : Block) (p slack : Nat) : Block :=
  if slack ≥ b.reg Od.pgovMarginPs 0 then b
  else
    let f := b.fmaxOf p - 25
    (b.setReg Od.plazaFmaxMhz (p + 1) f).raise 0x442A noCtx (beBytes 1 p ++ beBytes 2 f)

/-- Writes IFT_LAST. -/
def Block.recordTest (b : Block) (p result : Nat) (observation : Bool) (t : Int) : Block :=
  b.setOct Od.iftLast (p + 1) (beBytes 8 b.dt ++ beBytes 1 result ++ beBytes 1 (if observation then 1 else 0) ++ beBytes 2 (ofSigned 16 t) ++ List.replicate 4 0)

/-- A Plaza leaves TESTING: to DRAINING where a unit of it has retired, to OFFLINE where it is held, else to service. The exit has brought its clock down to its limit and its rail back (R412, R442). -/
def Block.leaveTest (b : Block) (p : Nat) : Block :=
  let b := b.noteReasons
  let b : Block := if b.ras.leaving.contains p then b
    else if b.reg Od.plazaHold (p + 1) != 0 then b.setPlaza p plOffline
    else b.returnService p
  ((b.setClock p (min (b.clockOf p) (toGrid (b.fmaxOf p)))).replan p).nextTest

/-- IFT_DONE (R412 to R415). -/
def xIftDone (p : Nat) (r : TestResult) (b : Block) : Block :=
  match b.ras.tests.find? (fun x => x.plaza == p && x.draining) with
  | none => b
  | some x =>
    if b.plaza p != plTesting then b
    else
      let b : Block := { b with ras := { b.ras with tests := b.ras.tests.filter (fun y => y.plaza != p) } }
      let b := (b.recordTest p (resultCode r) x.observation r.tempC).remeasure p r.slackPs
      let b := (b.countPasses p x r).judge r
      let b : Block := if x.observation then b else b.setReg Od.iftNextDue (p + 1) (b.dt + b.reg Od.iftPeriodH 0 * hour)
      let b : Block := if resultCode r = 2 then b else b.raise 0x03A7 noCtx []
      b.leaveTest p

/-- A test is abandoned: it falls due again IFT_RETRY_MIN later with a fresh window (R413). -/
def Block.abandonTest (b : Block) (p : Nat) : Block :=
  match b.ras.tests.find? (fun x => x.plaza == p && x.draining) with
  | none => b
  | some x =>
    let due := b.dt + b.reg Od.iftRetryMin 0 * 60 * 10 ^ 9
    let b : Block := { b with ras := { b.ras with tests := b.ras.tests.filter (fun y => y.plaza != p), observed := b.ras.observed.map (fun (o : Obs) => if x.observation && o.unit / 256 == p then { o with due := due } else o) } }
    let b : Block := if x.observation then b else b.setReg Od.iftNextDue (p + 1) due
    ((b.recordTest p 3 x.observation (toSigned 16 (b.reg Od.tjC (p + 1)))).raise 0x43A8 noCtx []).leaveTest p

/-- A droop event during a test: the second one abandons it (R413). -/
def Block.droopInTest (b : Block) (p : Nat) : Block :=
  if b.plaza p != plTesting then b
  else match b.ras.tests.find? (fun x => x.plaza == p && x.draining) with
    | none => b
    | some x =>
      if x.droops ≥ 1 then b.abandonTest p
      else { b with ras := { b.ras with tests := b.ras.tests.map (fun (y : Test) => if y.plaza == p then { y with droops := y.droops + 1 } else y) } }

/-- IFT_REQUEST (R546). -/
def xIftRequest (p : Nat) (b : Block) : Block :=
  b.onWrite Od.iftRequest false (fun b =>
    if p > 7 then b.answer stRange
    else if b.service != svcFull || b.plaza p == plRetired then b.answer stWriteRefused
    else if b.ras.tests.any (fun x => x.plaza == p && x.draining) then b.answer stOK
    else (((b.setReg Od.iftNextDue (p + 1) b.dt).addTest ⟨p, false, b.dt, false, 0⟩).tryTest p).answer stOK)

/-- PLAZA_HOLD (R545). -/
def xPlazaHold (p v : Nat) (b : Block) : Block :=
  b.onWrite Od.plazaHold false (fun b =>
    if v > 2 then b.answer stRange
    else
      let b := (b.setReg Od.plazaHold (p + 1) v).answer stOK
      if b.service != svcFull || !b.live then b
      else if v != 0 then (if b.plaza p = plInService then b.sendOut p else b)
      else if b.plaza p = plOffline ∧ !b.sys.checks.any (fun c => c.1 == p) then { b with sys := { b.sys with checks := b.sys.checks ++ [(p, .hold)] } }
      else b)

/-- RAS_UNRETIRE (R409): the unit returns to observation; a Plaza that no other unit keeps retired is checked before it serves. -/
def xUnretire (w : PWrite) (b : Block) : Block :=
  b.protect Od.rasUnretire 0 0 w (fun b =>
    let u := ofBE w.value
    let p := u / 256
    if w.value.length != 2 then b.answer stLength
    else if !b.ras.retired.contains u then b.answer stRange
    else if b.ras.observed.length ≥ 32 then b.answer stWriteRefused
    else
      let b : Block := { b with ras := { b.ras with retired := b.ras.retired.erase u, out := b.ras.out.erase u, observed := b.ras.observed ++ [⟨u, 1, 0, b.dt, b.dt + hour⟩] } }
      let b := b.answer stOK
      if b.plaza p != plRetired || b.mustRetire p then b
      else
        let b := b.setPlaza p plOffline
        if b.service = svcFull ∧ b.reg Od.plazaHold (p + 1) = 0 then { b with sys := { b.sys with checks := b.sys.checks ++ [(p, .hold)] } } else b)

def execShadowCompare (sample : Nat) (errBlock errShadow : List (Nat × BitVec 32)) (s : State) : Host.Outcome State Fault Refusal := .next (s.run (xCompare sample errBlock errShadow))
def execArbitrationRun (sample : Nat) (err : List (Nat × BitVec 32)) (s : State) : Host.Outcome State Fault Refusal := .next (s.run (xArbitrate sample err))
def execShadowReplay (sample unit : Nat) (err : List (Nat × BitVec 32)) (s : State) : Host.Outcome State Fault Refusal := .next (s.run (xReplay sample unit err))
def execObservationEnd (unit : Nat) (s : State) : Host.Outcome State Fault Refusal := .next (s.run (xObservationEnd unit))
def execIftDue (plaza : Nat) (s : State) : Host.Outcome State Fault Refusal := .next (s.run (xIftDue plaza))
def execObservationTestDue (unit : Nat) (s : State) : Host.Outcome State Fault Refusal := .next (s.run (xObservationDue unit))
def execIftGraceExpired (plaza : Nat) (s : State) : Host.Outcome State Fault Refusal := .next (s.run (xGraceExpired plaza))
def execPlazaDrained (plaza : Nat) (s : State) : Host.Outcome State Fault Refusal := .next (s.run (xPlazaDrained plaza))
def execIftDone (plaza : Nat) (result : TestResult) (s : State) : Host.Outcome State Fault Refusal := .next (s.run (xIftDone plaza result))
def execIftRequest (value : Nat) (s : State) : Host.Outcome State Fault Refusal := .next (s.run (xIftRequest value))
def execPlazaHold (plaza value : Nat) (s : State) : Host.Outcome State Fault Refusal := .next (s.run (xPlazaHold plaza value))
def execRasUnretire (w : PWrite) (s : State) : Host.Outcome State Fault Refusal := .next (s.run (xUnretire w))

end Sys2Proof.Machine
end

