-- ==== Sys2Proof/Machine/Governor.lean ====
section
/-! DEFINITION. The Power Governor's ticks, setpoints, hops, droop, current, heat and shedding (R429, R439 to R461, R466). -/

namespace Sys2Proof.Machine

/-! ### c(t) and setpoints (R444 to R448) -/

/-- A setpoint takes effect; 0 withdraws it. c is brought to the instant, from which it moves toward the new C (R445). -/
def Block.setpoint (b : Block) (w : Nat) : Block := b.moveCap.setReg Od.pwrSetpointInForce 0 w

/-- Each immediate setpoint takes effect at the first tick at least 1 ms after its receipt, in the order of receipt (R448). -/
def Block.nowDue (b : Block) : Block :=
  let due := fun (x : Nat × Nat) => decide (x.2 + 10 ^ 6 ≤ b.dt)
  (b.gov.now.filter due).foldl (fun b x => b.setpoint x.1) { b with gov := { b.gov with now := b.gov.now.filter (fun x => !due x) } }

/-- Epochs whose setpoint is 2 ms away or nearer are planned: the clock predicted for them is a free frequency of the grid (R447). -/
def planEpochs : List CalEvent → Block → List CalEvent × Block
  | [], b => ([], b)
  | e :: r, b =>
    if e.rank = 2 ∧ e.clock = none ∧ e.at_ ≤ b.dt + 2 * 10 ^ 6 then
      let d := b.drawGrid
      let x := planEpochs r d.2
      ({ e with clock := some d.1 } :: x.1, x.2)
    else
      let x := planEpochs r b
      (e :: x.1, x.2)

def Block.planCal (b : Block) : Block :=
  let x := planEpochs b.cal.events b
  { x.2 with cal := { x.2.cal with events := x.1 } }

/-! ### Planned ceilings at a tick -/

/-- One grid step down or up of a ceiling; at the characterized limit it binds nothing. -/
def stepDown (n fmax c : Nat) : Nat := max 500 (toGrid (min c fmax) - 25 * n)
def stepUp (fmax c : Nat) : Nat := if c = noCeil ∨ fmax ≤ c + 25 then noCeil else c + 25

/-- Grid steps by which the greater excess over its bound asks the cap ceilings to fall (R454): averages in W, c in 10^-6 W, and the integral of c over the window of `n` ticks. -/
def capSteps (p1 p20 c n sum : Nat) : Nat :=
  let excess := fun (p lim : Nat) => if lim < p then ceilDiv (50 * (p - lim)) (max 1 lim) else 0
  max (excess (100 * n * 10 ^ 12 * p20) (99 * sum)) (excess (100 * 10 ^ 6 * p1) (102 * c))

/-- The reactive cap (R454). -/
def Block.reactiveCap (b : Block) (p1 p20 : Nat) : Block :=
  let n := b.gov.cHist.length
  let sum := b.gov.cHist.sum
  let steps := capSteps p1 p20 b.capNow n sum
  let learned := b.reg Od.pgovLearnState 0 == 2
  if steps ≠ 0 then
    let b := (List.range 8).foldl (fun b p => b.setCeil p (fun x => { x with cap := stepDown steps (b.fmaxOf p) x.cap })) b
    if learned then b.bump Od.pgovPredictMisses 0 1 else b
  else if 100 * n * 10 ^ 12 * p20 < 95 * sum then
    (List.range 8).foldl (fun b p => b.setCeil p (fun x =>
      let lim := if learned then b.gov.fplan else noCeil
      if x.cap < lim then { x with cap := min lim (stepUp (b.fmaxOf p) x.cap) } else x)) b
  else b

/-- After an epoch, hops follow c at ticks until it reaches C: the clock whose predicted power c allows is a free frequency of the grid (R447). -/
def Block.followTick (b : Block) : Block :=
  if !b.gov.following then b
  else if b.capNow = b.targetCap * 10 ^ 6 ∧ !b.cal.events.any (fun e => e.rank == 1 && decide (e.at_ ≤ b.dt)) then { b with gov := { b.gov with following := false } }
  else
    let d := b.drawGrid
    (List.range 8).foldl (fun b p => b.setCeil p (fun x => { x with cap := d.1 })) d.2

/-- A THERMAL request that holds for a Plaza: of a stack of its Borough, or of any slow-tier package (R189, R346). -/
def Block.heatAsked (b : Block) (p : Nat) : Bool :=
  nth false b.gov.hbmHot (p / 2 * 2) || nth false b.gov.hbmHot (p / 2 * 2 + 1) || b.gov.slowHot.any id

/-- An entry to a thermal ceiling raises its event at most once per second. -/
def Block.thermalEvent (b : Block) : Block :=
  let sec := b.dt / 10 ^ 9 + 1
  if b.gov.thermalEvt = sec then b else ({ b with gov := { b.gov with thermalEvt := sec } }).raise 0x4422 noCtx []

/-- The thermal ceiling of a Plaza at a tick (R459). -/
def Block.thermalTick (b : Block) (p : Nat) : Block :=
  let t := toSigned 16 (b.reg Od.tjC (p + 1))
  let lim : Int := b.reg Od.pgovTjThrottleC 0
  let c := (b.ceil p).thermal
  if t ≥ lim ∨ b.heatAsked p then
    let b := (b.setCeil p (fun x => { x with thermal := stepDown 1 (b.fmaxOf p) c }))
    let b : Block := { b with gov := { b.gov with cool := b.gov.cool.set p 0 } }
    if c = noCeil then b.thermalEvent else b
  else if t ≤ lim - 3 then
    let n := nth 0 b.gov.cool p + 1
    let b : Block := { b with gov := { b.gov with cool := b.gov.cool.set p (if n = 8 then 0 else n) } }
    if n = 8 then b.setCeil p (fun x => { x with thermal := stepUp (b.fmaxOf p) c }) else b
  else b

/-- THERM_N and its alarm (R459, R559). -/
def Block.thermPin (b : Block) : Block :=
  let ts := (List.range 8).map (fun p => toSigned 16 (b.reg Od.tjC (p + 1)))
  if ts.any (fun t => decide (t ≥ 105)) then
    if b.pins.therm then b else ({ b with pins := { b.pins with therm := true } }).raise 0x842B noCtx []
  else if ts.all (fun t => decide (t < 100)) && !b.sys.tripped then { b with pins := { b.pins with therm := false } }
  else b

/-- Plazas that a droop domain clocks (R438, R457). -/
def domainPlazas (d : Nat) : List Nat := if d < 8 then [d] else [2 * (d - 8), 2 * (d - 8) + 1]

/-- Droop storms of the tick that ended, and restoration (R457). -/
def Block.stormTick (b : Block) : Block :=
  let limit := b.reg Od.droopStormLimit 0
  let hit := (List.range 12).filter (fun d => decide (nth 0 b.gov.droopTick d > limit))
  let ps := (hit.flatMap domainPlazas).dedup
  let b := hit.foldl (fun b _ => b.raise 0x4423 noCtx []) b
  (List.range 8).foldl (fun b p =>
    if ps.contains p then
      let b := b.setCeil p (fun x => { x with storm := max 500 (toGrid (b.clockOf p) - 25) })
      { b with gov := { b.gov with stormAt := b.gov.stormAt.set p b.dt } }
    else if (b.ceil p).storm != noCeil && decide (nth 0 b.gov.stormAt p + 10 ^ 8 ≤ b.dt) then
      let b := b.setCeil p (fun x => { x with storm := stepUp (b.fmaxOf p) x.storm })
      { b with gov := { b.gov with stormAt := b.gov.stormAt.set p b.dt } }
    else b) b

/-- The current ceiling rises once power and current are low enough (R458). -/
def Block.currentTick (b : Block) (p1 amps : Nat) : Block :=
  if p1 < 2900 ∧ amps < 63 then
    (List.range 8).foldl (fun b p => b.setCeil p (fun x => { x with current := stepUp (b.fmaxOf p) x.current })) b
  else b

/-- Does a Plaza hold a task? -/
def Block.plazaActive (b : Block) (p : Nat) : Bool :=
  b.disp.tasks.any (fun t => t.isRunning && t.unit == p && (opcodeOf t.desc == opMatmul || opcodeOf t.desc == opDist))

/-- Start clocks and the rise limiter: what the predictions allow is a free frequency; an active Plaza keeps at least its clock (R450). -/
def Block.riseTick (b : Block) (p : Nat) : Block :=
  let d := b.drawGrid
  d.2.setCeil p (fun x => { x with rise := if b.plazaActive p then max (b.clockOf p) d.1 else d.1 })

/-- A GOVERNOR switch is under way: planned ceilings hold (R495). -/
def Block.governorSwitching (b : Block) : Bool := (nth FwKind.reset b.wal.kinds 2).switching

/-- The planned ceilings of a tick, wherever the Governor has power over the Plazas. -/
def Block.ceilingTick (b : Block) (i : TickInputs) : Block :=
  if !b.live || b.governorSwitching then b
  else
    let b := ((b.followTick).reactiveCap i.p1msW i.p20msW).stormTick
    let b := (List.range 8).foldl (fun b p => b.thermalTick p) b
    let b := b.currentTick i.p1msW i.currentA
    (List.range 8).foldl (fun b p => b.riseTick p) b

/-- The Governor plans at a tick; hops start in Run, outside shedding. -/
def Block.planTick (b : Block) (i : TickInputs) : Block :=
  let b := b.ceilingTick i
  if b.power != pwrRun || !b.live || b.gov.shed || b.governorSwitching then b else (List.range 8).foldl (fun b p => b.replan p) b

/-- The blocks that hold no task, on the Plazas that run. -/
def Block.idleBlocks (b : Block) : List Nat :=
  ((List.range 8).filter b.plazaRuns).flatMap (fun p => ((List.range 144).map (unitCode p)).filter (fun u =>
    !b.disp.tasks.any (fun t => t.isRunning && t.unit == p && (opcodeOf t.desc == opMatmul || opcodeOf t.desc == opDist)
      && (rectBlocks t.rect).any (fun k => unitCode p k == u))))

/-- The fill pattern of the coming millisecond (R451). What the work present will draw is a free number of watts; where that lies more than the slope
below the average of this tick, the idle blocks make up the difference, so that the average falls at the slope and never rises. -/
def Block.fillTick (b : Block) (p1 : Nat) : Block :=
  if b.reg Od.pgovFill 0 = 1 ∧ b.power = pwrRun ∧ b.live ∧ !b.gov.shed then
    let d := b.draw
    let w := p1 - b.reg Od.pwrSlopeWPerMs 0 - d.1
    d.2.setFill (if w = 0 then [] else d.2.idleBlocks) w
  else b.setFill [] 0

/-! ### Throttle reasons (R466) -/

/-- THROTTLE_MS of every reason that held during the tick that ends. -/
def Block.countThrottle (b : Block) : Block := ((b.gov.reasons ++ b.throttle).dedup).foldl (fun b r => b.bump Od.throttleMs r 1) b

/-! ### The tick -/

/-- What the sensors read (R332, R459, R470). -/
def Block.readInputs (b : Block) (i : TickInputs) : Block :=
  let b := b.setReg Od.pwrInputW 0 (f32ofNat i.p1msW).toNat
  let b := (i.tj.zipIdx).foldl (fun b t => b.setReg Od.tjC (t.2 + 1) (ofSigned 16 t.1)) b
  let b := ((i.laneSer.take 64).zipIdx).foldl (fun b l => b.setReg Od.fabLaneSer (l.2 + 1) l.1) b
  let limit := b.reg Od.fabLaneSerLimit 0
  { b with emith := { b.emith with laneTicks := (i.laneSer.zipIdx).foldl (fun m l => sset 0 m l.2 (if l.1 > limit then sget 0 m l.2 + 1 else 0)) b.emith.laneTicks } }

/-- MANAGEMENT_TICK (R429): DT reaches its next whole millisecond. -/
def xTick (i : TickInputs) (b : Block) : Block :=
  if !b.serving || b.walnutBusy then b
  else
    let b : Block := { b with dt := (b.dt / 10 ^ 6 + 1) * 10 ^ 6 }
    let b := (b.countThrottle.readInputs i).moveCap
    let b : Block := { b with gov := { b.gov with cHist := (b.gov.capArea :: b.gov.cHist).take 20, capArea := 0 } }
    let b := ((b.laneTested).nowDue).planCal
    let b := ((b.planTick i).thermPin).fillTick i.p1msW
    { b with gov := { b.gov with droopTick := List.replicate 13 0, reasons := [] } }

/-! ### Calendar events (R431, R433, R447) -/

/-- The earliest pending event of a rank; equal instants go in order of placement. -/
def Block.firstEvent (b : Block) (rank : Nat) : Option CalEvent :=
  (b.cal.events.filter (fun e => e.rank == rank)).foldl (fun m e => match m with
    | none => some e
    | some x => if e.at_ < x.at_ then some e else some x) none

def Block.dropEvent (b : Block) (e : CalEvent) : Block := { b with cal := { b.cal with events := b.cal.events.erase e } }

/-- POWER_SETPOINT: tick-timed. -/
def xPowerSetpoint (b : Block) : Block :=
  match b.firstEvent 1 with
  | none => b
  | some e => if !b.serving || !b.inOrder (tickAt e.at_) 1 then b else ((b.reach (tickAt e.at_)).dropEvent e).setpoint e.watts

/-- A planned clock becomes the cap ceiling of every Plaza and its hop begins, or is deferred by droop; later hops follow c (R447, R456). -/
def Block.fireEpoch (b : Block) (f : Nat) : Block :=
  let b := (List.range 8).foldl (fun b p => b.setCeil p (fun x => { x with cap := f })) b.noteReasons
  let b : Block := { b with gov := { b.gov with following := true } }
  if b.power != pwrRun || !b.live || b.gov.shed then b else (List.range 8).foldl (fun b p => b.replan p) b

/-- FREQUENCY_EPOCH: hardware-timed. -/
def xFrequencyEpoch (b : Block) : Block :=
  match b.firstEvent 2 with
  | none => b
  | some e =>
    if !b.serving || !b.inOrder e.at_ 2 then b
    else
      let b := (b.reach e.at_).dropEvent e
      match e.clock with
      | some f => b.fireEpoch f
      | none => let d := b.drawGrid; d.2.fireEpoch d.1

def okWatts (w : Nat) : Bool := w == 0 || (decide (900 ≤ w) && decide (w ≤ 2600))

/-- PWR_SETPOINT_SCHED: the setpoint and its epoch take two places, which must be free (R432, R447); an instant that has passed fires both at once, late. -/
def xSetpointSched (r : BitVec 128) (b : Block) : Block :=
  b.onWrite Od.pwrSetpointSched false (fun b =>
    let t := bits r.toNat 127 64
    let w := bits r.toNat 63 48
    if !okWatts w then b.answer stRange
    else if t > b.dt + 24 * hour then b.answer stWriteRefused
    else if b.cal.events.length + 2 > 1024 then (b.raise 0x4404 noCtx []).answer stWriteRefused
    else if t < b.dt then
      let d := b.drawGrid
      ((((d.2.noteReasons).setpoint w).fireEpoch d.1).bump Od.calLate 0 2).answer stOK
    else
      let n := b.cal.placed
      let b : Block := { b with cal := { b.cal with events := b.cal.events ++ [⟨t, 1, w, none, n⟩, ⟨t, 2, w, none, n + 1⟩], placed := n + 2 } }
      (if t < b.dt + 2 * 10 ^ 6 then b.planCal else b).answer stOK)

/-- PWR_SCHED_CANCEL (R447). -/
def xSchedCancel (t : Nat) (b : Block) : Block :=
  b.onWrite Od.pwrSchedCancel false (fun b =>
    ({ b with cal := { b.cal with events := b.cal.events.filter (fun e => decide (e.at_ < t)) } }).answer stOK)

/-- PWR_SETPOINT_NOW (R448). -/
def xSetpointNow (w : Nat) (b : Block) : Block :=
  b.onWrite Od.pwrSetpointNow false (fun b =>
    if !okWatts w then b.answer stRange else ({ b with gov := { b.gov with now := b.gov.now ++ [(w, b.dt)] } }).answer stOK)

/-! ### Hops and droop (R439, R455, R456) -/

/-- One grid step of a hop. -/
def hopNext (f t : Nat) : Nat := if f < t then min t (f + 25) else max t (f - 25)

/-- HOP_STEP: one grid step toward the target. -/
def xHopStep (p : Nat) (b : Block) : Block :=
  let f := b.clockOf p
  let t := b.targetOf p
  if b.power != pwrRun || !b.live || b.gov.shed || f = t then b else b.setClock p (hopNext f t)

/-- A hop under way in a domain that droops completes its step and stops; what its ceilings call for is planned afresh at a tick (R456). -/
def Block.stopHop (b : Block) (p : Nat) : Block :=
  let f := b.clockOf p
  let t := b.targetOf p
  if f = t then b else b.setTarget p (hopNext f t)

/-- A droop event begins in a domain, 12 being the input (R413, R455). -/
def Block.droopBegin (b : Block) (d : Nat) : Block :=
  let b := b.bump Od.droopEvents (d + 1) 1
  let b := ((List.range 8).filter (fun p => p == d || d == 12)).foldl (fun b p => b.stopHop p) b
  { b with gov := { b.gov with droop := b.gov.droop.set d true, droopTick := b.gov.droopTick.modify d (· + 1), droopSeen := true } }

/-- A droop event of any domain disturbs the test in progress (R413, R455). -/
def Block.droopStart (b : Block) (d : Nat) : Block :=
  if !b.awake || nth false b.gov.droop d then b
  else match (List.range 8).find? (fun p => b.plaza p == plTesting) with
    | some p => (b.droopBegin d).droopInTest p
    | none => b.droopBegin d

/-- A droop event ends; the reason it gave held until now. -/
def Block.droopOver (b : Block) (d : Nat) : Block :=
  let b := b.noteReasons
  { b with gov := { b.gov with droop := b.gov.droop.set d false } }

def xDroopDetect (d : Nat) (b : Block) : Block := b.droopStart d
def xDroopEnd (d : Nat) (b : Block) : Block := b.droopOver d
def xInputLow (b : Block) : Block := b.droopStart 12
def xInputLowEnd (b : Block) : Block := b.droopOver 12

/-! ### Current and heat (R458, R459) -/

/-- OVERCURRENT: every Plaza's current ceiling falls four grid steps, and with it the clock and the target of a hop under way. -/
def xOvercurrent (b : Block) : Block :=
  if !b.awake then b
  else
    let b := (List.range 8).foldl (fun b p =>
      (b.setCeil p (fun x => { x with current := stepDown 4 (b.fmaxOf p) x.current })).forceClock p) b.noteReasons
    let sec := b.dt / 10 ^ 9 + 1
    if b.gov.currentEvt = sec then b else ({ b with gov := { b.gov with currentEvt := sec } }).raise 0x4424 noCtx []

/-- Writes LAST_RESET (R548). -/
def Block.lastReset (b : Block) (kind unit cause : Nat) : Block :=
  b.setOct Od.lastReset 0 (beBytes 8 b.dt ++ beBytes 1 kind ++ beBytes 1 unit ++ beBytes 1 cause ++ List.replicate 5 0)

/-- THERMAL_TRIP: power leaves the Boroughs and the module enters Standby with THERM_N asserted. -/
def xThermalTrip (p : Nat) (b : Block) : Block :=
  if !b.live || b.plaza p == plRetired then b
  else
    let b := (b.raise 0xC42C noCtx []).lastReset 6 0 0
    let b : Block := { b with pins := { b.pins with therm := true }, sys := { b.sys with tripped := true } }
    (b.shedStop).enterStandby

/-! ### Shedding (R460, R461, R557) -/

/-- Shedding follows SHED_N and PWR_SHED_CMD in Run; a test in progress is abandoned as it begins. -/
def Block.shedCheck (b : Block) : Block :=
  if b.shedAsked && b.live && b.power == pwrRun then
    if b.gov.shed then b
    else
      let b := b.shedStart
      (List.range 8).foldl (fun b p => if b.plaza p = plTesting then b.abandonTest p else b) b
  else if b.gov.shed then b.shedStop.nextTest
  else b

def xShedAssert (b : Block) : Block :=
  ({ b with pins := { b.pins with shed := true } }).shedCheck

def xShedRelease (b : Block) : Block := ({ b with pins := { b.pins with shed := false } }).shedCheck

def xShedCmd (v : Nat) (b : Block) : Block :=
  b.onWrite Od.pwrShedCmd false (fun b => if v > 1 then b.answer stRange else ((b.setReg Od.pwrShedCmd 0 v).shedCheck).answer stOK)

def execManagementTick (inp : TickInputs) (s : State) : Host.Outcome State Fault Refusal := .next (s.run (xTick inp))
def execPowerSetpoint (s : State) : Host.Outcome State Fault Refusal := .next (s.run xPowerSetpoint)
def execFrequencyEpoch (s : State) : Host.Outcome State Fault Refusal := .next (s.run xFrequencyEpoch)
def execHopStep (plaza : Nat) (s : State) : Host.Outcome State Fault Refusal := .next (s.run (xHopStep plaza))
def execDroopDetect (domain : Nat) (s : State) : Host.Outcome State Fault Refusal := .next (s.run (xDroopDetect domain))
def execDroopEnd (domain : Nat) (s : State) : Host.Outcome State Fault Refusal := .next (s.run (xDroopEnd domain))
def execInputLowStretch (s : State) : Host.Outcome State Fault Refusal := .next (s.run xInputLow)
def execInputLowStretchEnd (s : State) : Host.Outcome State Fault Refusal := .next (s.run xInputLowEnd)
def execOvercurrent (s : State) : Host.Outcome State Fault Refusal := .next (s.run xOvercurrent)
def execThermalTrip (plaza : Nat) (s : State) : Host.Outcome State Fault Refusal := .next (s.run (xThermalTrip plaza))
def execShedAssert (s : State) : Host.Outcome State Fault Refusal := .next (s.run xShedAssert)
def execShedRelease (s : State) : Host.Outcome State Fault Refusal := .next (s.run xShedRelease)
def execPwrShedCmd (value : Nat) (s : State) : Host.Outcome State Fault Refusal := .next (s.run (xShedCmd value))
def execPwrSetpointNow (value : Nat) (s : State) : Host.Outcome State Fault Refusal := .next (s.run (xSetpointNow value))
def execPwrSetpointSched (record : BitVec 128) (s : State) : Host.Outcome State Fault Refusal := .next (s.run (xSetpointSched record))
def execPwrSchedCancel (value : Nat) (s : State) : Host.Outcome State Fault Refusal := .next (s.run (xSchedCancel value))

end Sys2Proof.Machine
end

