-- ==== Sys2Proof/Machine/Time.lean ====
section
/-! DEFINITION. Device time: its sources, states and steps, the PTP port and the pulse outputs (R417 to R427, R435). -/

namespace Sys2Proof.Machine

def srcFree : Nat := 0
def srcPtp : Nat := 1
def srcPps : Nat := 2

/-! ### Steps (R421, R435) -/

/-- The latest of the events of a rank that a forward step passes over; the others are superseded. -/
def Block.passedEvents (b : Block) (rank new : Nat) : List CalEvent := b.cal.events.filter (fun e => e.rank == rank && decide (e.at_ ≤ new))

/-- The event of the latest instant, the last placed among equals. -/
def latestEvent (l : List CalEvent) : Option CalEvent :=
  l.foldl (fun m e => match m with
    | none => some e
    | some x => if x.at_ ≤ e.at_ then some e else some x) none

/-- The calendar at a forward step: setpoints, epochs and releases (R435). -/
def Block.passCalendar (b : Block) (new : Nat) : Block :=
  let s := b.passedEvents 1 new
  let f := b.passedEvents 2 new
  let b := b.bump Od.calLate 0 (s.length - 1 + (f.length - 1))
  let b : Block := { b with cal := { b.cal with events := b.cal.events.filter (fun e => decide (new < e.at_)) } }
  let b : Block := match latestEvent s with
    | some e => b.setpoint e.watts
    | none => b
  let b : Block := match latestEvent f with
    | some e => (match e.clock with
      | some x => b.fireEpoch x
      | none => let d := b.drawGrid; d.2.fireEpoch d.1)
    | none => b
  { b with disp := { b.disp with release := b.disp.release.filter (fun r => decide (new < r.2 - 1)) } }

/-- The calendar at a backward step: a hold for a release lasts to the next release instant of the new DT (R435). -/
def Block.backCalendar (b : Block) : Block := b.disp.release.foldl (fun b r => b.releaseWritten r.1) b

/-- DT is set to a new value at once. -/
def Block.stepDT (b : Block) (new : Nat) : Block :=
  let d : Int := (new : Int) - b.dt
  let passes := decide (tickAt (b.dt + 1) ≤ new)
  let old := b.dt
  let b := b.moveCap
  let b : Block := { b with gov := { b.gov with capAt := new }, wal := { b.wal with refillAt := (b.wal.refillAt + d).toNat } }
  let b : Block := { b with hbm := { b.hbm with openUntil := (b.hbm.openUntil + d).toNat }, cal := { b.cal with exch := none } }
  let b := ({ b with dt := new }).bump Od.dtSteps 0 1
  let b := b.raise 0x4402 noCtx (beBytes 8 (ofSigned 64 d))
  let b : Block := if old < new then b.passCalendar new else b.backCalendar
  { b with hbm := { b.hbm with nextAt := new + 1 }, gov := { b.gov with gap := b.gov.gap || passes, sampled := if new < old then 0 else b.gov.sampled } }

/-! ### Measurements (R420, R422) -/

/-- ACQUIRING begins with `n` measurements in a row within 1 us; an offset beyond the threshold steps DT. -/
def Block.acquire (b : Block) (offset : Int) (n : Nat) : Block :=
  let b := ({ b with cal := { b.cal with good := n } }).setTimeState tsAcquiring
  if offset.natAbs > b.reg Od.ptpStepThresholdNs 0 then b.stepDT ((b.dt : Int) - offset).toNat else b

/-- LOCKED, with the offset as the bound at its last measurement. -/
def Block.lock (b : Block) (offset : Int) : Block :=
  let b := b.setTimeState tsLocked
  ({ b with cal := { b.cal with e0 := offset.natAbs, good := 0 } }).setReg Od.dtErrorBoundNs 0 offset.natAbs

/-- The source has measured an offset of DT. -/
def Block.measured (b : Block) (offset : Int) : Block :=
  let b := ({ b with cal := { b.cal with lastMeas := b.dt } }).setReg Od.dtOffsetNs 0 (ofSigned 64 offset)
  let far := decide (offset.natAbs > b.reg Od.ptpStepThresholdNs 0)
  let st := b.reg Od.timeState 0
  let n := if offset.natAbs ≤ 1000 then (if st = tsAcquiring then b.cal.good + 1 else 1) else 0
  let b : Block := if st = tsFreerun ∨ far then b.acquire offset n
    else if st = tsHoldover then b.lock offset
    else if st = tsLocked then b.lock offset
    else if n ≥ 16 then b.lock offset
    else { b with cal := { b.cal with good := n } }
  { b with cal := { b.cal with lastMeas := b.dt } }

/-! ### PTP (R423; IEEE 1588-2019, log entry 61) -/

/-- How long an Announce stands, and how far apart the two may be that qualify a master: 3 and 4 intervals of 2 s. -/
def announceTimeout : Nat := 6 * 10 ^ 9
def announceWindow : Nat := 8 * 10 ^ 9

/-- A master that may be chosen at `t`. -/
def PtpMaster.qualified (m : PtpMaster) (t : Nat) : Bool :=
  decide (t ≤ m.at_ + announceTimeout) && decide (m.ann.stepsRemoved < 255) && (match m.prev with
    | some p => decide (m.at_ ≤ p + announceWindow)
    | none => false)

/-- The first of two lists of attributes, the most significant first. -/
def listLt : List Nat → List Nat → Bool
  | a :: x, c :: y => decide (a < c) || (a == c && listLt x y)
  | [], _ :: _ => true
  | _, [] => false

/-- The data set comparison of the best master clock algorithm. -/
def PtpMaster.better (m n : PtpMaster) : Bool :=
  let key := fun (x : PtpMaster) => [x.ann.priority1, x.ann.clockClass, x.ann.accuracy, x.ann.variance, x.ann.priority2, x.ann.grandmaster]
  if m.ann.grandmaster = n.ann.grandmaster then listLt [m.ann.stepsRemoved, m.source] [n.ann.stepsRemoved, n.source] else listLt (key m) (key n)

/-- The master that a slave-only clock follows. -/
def Block.bestMaster (b : Block) : Option PtpMaster :=
  (b.cal.masters.filter (fun m => m.qualified b.dt)).foldl (fun r m => match r with
    | none => some m
    | some x => if m.better x then some m else some x) none

def Block.setExch (b : Block) (e : Option PtpExchange) : Block := { b with cal := { b.cal with exch := e } }

/-- An Announce is kept; the master that is best now is recorded, and an exchange with another ends. -/
def Block.announced (b : Block) (source : Nat) (a : PtpAnnounce) : Block :=
  let was := b.bestMaster.map (·.source)
  let old := b.cal.masters.find? (fun m => m.source == source)
  let b : Block := { b with cal := { b.cal with masters := b.cal.masters.filter (fun m => m.source != source) ++ [⟨source, a, b.dt, old.map (·.at_)⟩] } }
  match b.bestMaster with
  | none => b
  | some m =>
    let b := (b.setOct Od.ptpGmIdentity 0 (beBytes 8 m.ann.grandmaster)).setReg Od.utcOffset 0 (ofSigned 32 m.ann.utcOffset)
    if some m.source = was then b else b.setExch none

/-- The departure of a Sync is known: a Delay_Req leaves, at a free moment after now. -/
def Block.requestDelay (b : Block) (e : PtpExchange) : Block :=
  let d := b.draw
  let n := d.2.cal.reqSeq
  ({ d.2 with cal := { d.2.cal with reqSeq := (n + 1) % 2 ^ 16 } }).setExch (some { e with req := some (n, b.dt + d.1) })

/-- The measured offset of an exchange, from its four time stamps. -/
def offsetOf (t1 : Int) (t2 t3 : Nat) (t4 : Int) : Int := (((t2 : Int) - t1) - (t4 - (t3 : Int))) / 2

/-- A timing message of the chosen master. -/
def Block.ptpTiming (b : Block) (m : PtpBody) : Block :=
  match m, b.cal.exch with
  | .sync seq two t1, _ => if two then b.setExch (some ⟨seq, none, b.dt, none⟩) else b.requestDelay ⟨seq, some t1, b.dt, none⟩
  | .followUp seq t1, some e => if e.seq = seq ∧ e.t1 = none then b.requestDelay { e with t1 := some t1 } else b
  | .delayResp seq mine t4, some e => (match mine, e.t1, e.req with
    | true, some t1, some r => if r.1 = seq then (b.setExch none).measured (offsetOf t1 e.t2 r.2 t4) else b
    | _, _, _ => b)
  | _, _ => b

/-- PTP serves a message: on the port that PTP runs on, in PTP_DOMAIN and over PTP_TRANSPORT, outside recovery (R423, R425, R479). -/
def Block.ptpHears (b : Block) (m : PtpMessage) : Bool :=
  b.sys.phase == .up && b.reg Od.timeSource 0 == srcPtp && m.port == b.cal.ptpAt && b.portUp m.port && m.domain == b.reg Od.ptpDomain 0
    && m.transport == b.reg Od.ptpTransport 0

/-- PTP_MESSAGE: its receipt, `elapsedNs` of DT from now; a completed exchange with the chosen master is a measurement (R423). -/
def xPtp (m : PtpMessage) (b : Block) : Block :=
  if !b.serving then b
  else
    let b : Block := { b with dt := b.dt + m.elapsedNs }
    if !b.ptpHears m then b
    else match m.body with
      | .announce a => b.announced m.source a
      | x => if b.bestMaster.map (·.source) = some m.source then b.ptpTiming x else b

/-- The offset of DT from the nearest whole second. -/
def ppsOffset (dt : Nat) : Int :=
  let r : Nat := dt % 10 ^ 9
  if r < 5 * 10 ^ 8 then (r : Int) else (r : Int) - 1000000000

/-- PPS_IN_EDGE, `elapsed` ns of DT after the present (R421, R426). The edge that sets DT is a delivery of the source like any other (log entry 31). -/
def xPpsEdge (elapsed : Nat) (b : Block) : Block :=
  if !b.serving then b
  else
    let b : Block := { b with dt := b.dt + elapsed }
    if b.reg Od.timeSource 0 != srcPps || b.sys.phase != .up then b
    else match b.cal.timeSet with
      | some v => ({ b with cal := { b.cal with timeSet := none } }).stepDT (v / 10 ^ 9 * 10 ^ 9) |>.measured 0
      | none =>
        let o := ppsOffset b.dt
        if b.reg Od.timeState 0 = tsLocked ∧ o.natAbs > 10 ^ 8 then b.bump Od.ppsRejects 0 1 else b.measured o

/-- TIME_SET (R421). -/
def xTimeSet (v : Nat) (b : Block) : Block :=
  b.onWrite Od.timeSet false (fun b =>
    let src := b.reg Od.timeSource 0
    if src = srcPtp then b.answer stWriteRefused
    else if src = srcFree then (b.stepDT v).answer stOK
    else ({ b with cal := { b.cal with timeSet := some v } }).answer stOK)

/-- SOURCE_SILENCE: 3 s without a measurement while LOCKED (R420). -/
def xSilence (b : Block) : Block :=
  if !b.serving || b.reg Od.timeState 0 != tsLocked || b.reg Od.timeSource 0 == srcFree then b
  else (b.reach (b.cal.lastMeas + 3 * 10 ^ 9)).setTimeState tsHoldover

/-- HOLDOVER_LIMIT (R422). -/
def xHoldoverLimit (b : Block) : Block :=
  if !b.serving || b.reg Od.timeState 0 != tsHoldover then b
  else (b.reach (b.cal.lastMeas + b.reg Od.holdoverLimitS 0 * 10 ^ 9)).setTimeState tsFreerun

/-- PTP_PORT_RETURN (R425). -/
def xPortReturn (b : Block) : Block :=
  let p := b.reg Od.ptpPort 0
  if !b.serving || b.reg Od.timeSource 0 != srcPtp || b.cal.ptpAt == p || !b.portUp p then b
  else b.ptpTo p

/-- PPS_OUT_PULSE: PPS_OUT rises at the next whole second (R427). -/
def xPpsOut (b : Block) : Block :=
  if !b.serving || !b.ppsAllowed || !b.pins.enabled then b
  else
    let b := b.reach (ceilDiv b.dt (10 ^ 9) * 10 ^ 9)
    { b with pins := { b.pins with ppsOut := true } }

/-- MP_LINK_DOWN (R425). -/
def xMpDown (b : Block) : Block := if !b.serving then b else ({ b with cal := { b.cal with mpUp := false } }).ptpCheck

/-- A write of TIME_SOURCE: FREE runs free, another source has still to deliver (R419, R420). -/
def Block.sourceChanged (b : Block) (old : Nat) : Block :=
  let src := b.reg Od.timeSource 0
  if src = old then b
  else
    let b : Block := { b with cal := { b.cal with good := 0, timeSet := none, exch := none } }
    if src = srcFree then b.setTimeState tsFreerun else b.ptpCheck

def execPtpMessage (msg : PtpMessage) (s : State) : Host.Outcome State Fault Refusal := .next (s.run (xPtp msg))
def execPpsInEdge (elapsedNs : Nat) (s : State) : Host.Outcome State Fault Refusal := .next (s.run (xPpsEdge elapsedNs))
def execTimeSet (value : Nat) (s : State) : Host.Outcome State Fault Refusal := .next (s.run (xTimeSet value))
def execSourceSilence (s : State) : Host.Outcome State Fault Refusal := .next (s.run xSilence)
def execHoldoverLimit (s : State) : Host.Outcome State Fault Refusal := .next (s.run xHoldoverLimit)
def execPtpPortReturn (s : State) : Host.Outcome State Fault Refusal := .next (s.run xPortReturn)
def execPpsOutPulse (s : State) : Host.Outcome State Fault Refusal := .next (s.run xPpsOut)
def execMpLinkDown (s : State) : Host.Outcome State Fault Refusal := .next (s.run xMpDown)

end Sys2Proof.Machine
end

