-- ==== Sys2Proof/Machine/Walnut.lean ====
section
/-! DEFINITION. Walnut: images and their activation, attestation evidence, the owner and the traffic keys (R472 to R498). -/

namespace Sys2Proof.Machine

/-! ### Flash images (R477, R478, R494) -/

def kWalnut : Nat := 1
def kHazel : Nat := 2
def kGovernor : Nat := 3
def kConfig : Nat := 4

/-- The contents of a slot of a kind: as shipped, or as staged. -/
def Block.image (b : Block) (kind slot : Nat) : List Byte := sget (Config.shipped kind slot) b.wal.flash (2 * kind + slot)

def Block.setImage (b : Block) (kind slot : Nat) (v : List Byte) : Block :=
  { b with wal := { b.wal with flash := sset (Config.shipped kind slot) b.wal.flash (2 * kind + slot) v } }

/-- Bytes `lo` to `lo + n - 1`. -/
def slice {α : Type} (l : List α) (lo n : Nat) : List α := (l.drop lo).take n

def imgKey (i : List Byte) : Nat := ofLE (slice i 5 1)
def imgSvn (i : List Byte) : Nat := ofLE (slice i 8 4)
def imgVersion (i : List Byte) : Nat := ofLE (slice i 12 4)
def imgLength (i : List Byte) : Nat := ofLE (slice i 16 4)
def imgHash (i : List Byte) : List Byte := slice i 24 32

/-- The body limit (R475, R477). -/
def bodyMax : Nat := 8388608

/-- An image passes (R478). -/
def Block.passes (b : Block) (kind slot : Nat) : Bool :=
  let i := b.image kind slot
  let target := slice i 56 32
  let noTarget := target.all (· == 0)
  decide (i.length ≥ 2048 + imgLength i) && ofLE (slice i 0 4) == 0x44580031 && ofLE (slice i 4 1) == kind && decide (imgLength i ≤ bodyMax)
    && (slice i 6 2 ++ slice i 20 4 ++ slice i 88 40).all (· == 0)
    && decide (imgKey i < 4) && decide (b.reg Od.fwKeyFloor 0 ≤ imgKey i)
    && ofLE (slice i 128 2) == 1772 && lmsAccepts 20 20 (larathKey (imgKey i)) (slice i 0 128) (slice i 130 1772)
    && Config.sha256 (slice i 2048 (imgLength i)) == imgHash i
    && decide (b.reg Od.fwSvnFloor kind ≤ imgSvn i)
    && (if noTarget then kind != kConfig else target == b.oct Od.deviceId 0)

def Block.kind (b : Block) (k : Nat) : FwKind := nth FwKind.reset b.wal.kinds (k - 1)
def Block.setKind (b : Block) (k : Nat) (f : FwKind → FwKind) : Block := { b with wal := { b.wal with kinds := b.wal.kinds.modify (k - 1) f } }

/-- An image kind whose image in a slot runs, measured as it starts (R478, R486). -/
def Block.runSlot (b : Block) (k s : Nat) (x : FwKind) : FwKind := { x with running := s, header := (b.image k s).take 128 }

/-- Data written into a slot: an erased byte reads as nothing the spec states. -/
def stageBytes (old : List Byte) (off : Nat) (v : List Byte) : List Byte :=
  let old := if off = 0 then [] else old
  old.take off ++ (List.range (off - old.length)).map (fun i => Config.erased (old.length + i)) ++ v ++ old.drop (off + v.length)

/-- FW_STAGE (R479, R494). -/
def xStage (r : List Byte) (b : Block) : Block :=
  b.onWrite Od.fwStage true (fun b =>
    let k := ofBE (r.take 1)
    let off := ofBE (slice r 4 4)
    let v := r.drop 8
    if r.length < 8 ∨ v.length > 1024 then b.answer stLength
    else if k = 0 ∨ k > 4 ∨ (b.sys.phase = .recovery ∧ k ≠ kWalnut) ∨ off + v.length > 2048 + bodyMax then b.answer stRange
    else if (b.kind k).trial then b.answer stWriteRefused
    else
      let s := 1 - (b.kind k).active
      (b.setImage k s (stageBytes (b.image k s) off v)).answer stOK)

/-- An activation (R495): the staged slot, or the other one. On trial the staged slot is the active one, since staging is refused meanwhile (R494; log entry 53). R495 gives bits [6:3] of the value no meaning: they are taken as reserved and have no effect,
as R12 says of a reserved field (DEDUCED, log entry 53). -/
def Block.activate (b : Block) (v : Nat) : Block :=
  let k := bits v 2 0
  if k == 0 || decide (k > 4) || (b.sys.phase == .recovery && k != kWalnut) then b.answer stRange
  else
    let x := b.kind k
    let s := if x.trial && !bit v 7 then x.active else 1 - x.active
    if !b.passes k s then (b.raise 0x4702 noCtx []).answer stWriteRefused
    else (b.setKind k (fun y => { y with pending := some s })).answer stOK

/-- FW_ACTIVATE: protected, but for recovery, where a plain write does (R479, R502). -/
def xActivate (w : PWrite) (b : Block) : Block :=
  let f := fun (b : Block) => if w.value.length != 1 then b.answer stLength else b.activate (ofBE w.value)
  if b.sys.phase == .recovery then f b else b.protect Od.fwActivate 0 0 w f

/-- Does a setpoint, epoch or test due fall within `n` ns of now (R496)? -/
def Block.dueWithin (b : Block) (n : Nat) : Bool :=
  let soon := fun (t : Nat) => decide (b.dt ≤ t) && decide (t ≤ b.dt + n)
  b.cal.events.any (fun e => soon e.at_) || !b.gov.now.isEmpty
    || (List.range 8).any (fun p => b.plaza p != plRetired && soon (b.reg Od.iftNextDue (p + 1))) || b.ras.observed.any (fun o => soon o.due)

/-- May a pending activation of a kind switch now (R495, R496)? A GOVERNOR image switches at a tick. A CONFIG image waits for the next Cold or Power-on boot (R547), where
`Block.startPending` switches it. -/
def Block.mayActivate (b : Block) (k : Nat) : Bool :=
  if k = kWalnut then !b.dueWithin (310 * 10 ^ 6)
  else if k = kHazel then b.hazelTasks.isEmpty
  else if k = kGovernor then decide (b.dt % 10 ^ 6 = 0) && !b.dueWithin (13 * 10 ^ 6)
  else false

/-- The key in a slot, empty where there is none. -/
def Block.trafficKey (b : Block) (k : Nat) : List Byte := sget [] b.wal.keys k

/-- FW_SWITCH: for WALNUT, blocks of TXC are reserved ahead. No image runs that does not pass: a pending slot that FW_STAGE has overwritten meanwhile is
rejected here (R2, R478; log entry 56). -/
def xSwitch (k : Nat) (b : Block) : Block :=
  match (b.kind k).pending with
  | none => b
  | some s =>
    if b.sys.phase != .up || !b.mayActivate k then b
    else if !b.passes k s then (b.setKind k (fun y => { y with pending := none })).raise 0x4702 noCtx []
    else
      let b : Block := if k = kWalnut then (List.range 4).foldl (fun b n => if (b.trafficKey n).isEmpty then b else b.reserveTxc n) b else b
      b.setKind k (fun x => b.runSlot k s { x with active := s, trial := true, pending := none, switching := true, since := b.dt, fails := 0 })

/-- FW_CONFIRM (R497). -/
def xConfirm (w : PWrite) (b : Block) : Block :=
  b.protect Od.fwConfirm 0 0 w (fun b =>
    let k := ofBE w.value
    if w.value.length != 1 then b.answer stLength
    else if k = 0 ∨ k > 4 then b.answer stRange
    else if !(b.kind k).trial then b.answer stWriteRefused
    else
      let i := b.image k (b.kind k).active
      let b := (b.setKind k (fun y => { y with trial := false, fails := 0 })).setReg Od.fwSvnFloor k (max (b.reg Od.fwSvnFloor k) (imgSvn i))
      let b := b.setReg Od.fwKeyFloor 0 (max (b.reg Od.fwKeyFloor 0) (imgKey i))
      (b.raise 0x0704 noCtx []).answer stOK)

/-! ### Attestation (R481 to R486) -/

/-- Usable index records. -/
def Wal.usable (w : Wal) : Nat := (w.records.filter (·.ok)).length

/-- What a usable record holds, where its check bits fit (R482). -/
def IndexRecord.valid (r : IndexRecord) : Option TxcRecord :=
  if r.ok then r.held.bind (fun h => if h.check = Config.txcCheck h.stop h.seq then some h else none) else none

/-- The valid record with the highest sequence number, and its position (R482). -/
def Wal.last (w : Wal) : Option (TxcRecord × Nat) :=
  (w.records.zipIdx.filterMap (fun r => r.1.valid.map (fun h => (h, r.2)))).foldl (fun m r => match m with
    | none => some r
    | some l => if l.1.seq < r.1.seq then some r else some l) none

/-- Its position; before the first write the one from which the round begins. -/
def Wal.latest (w : Wal) : Nat := (w.last.map (·.2)).getD 7

/-- The reservation end in force, and the sequence number of the next record. -/
def Wal.endOfIndex (w : Wal) : Nat := (w.last.map (·.1.stop)).getD 0
def Wal.nextSeq (w : Wal) : Nat := (w.last.map (·.1.seq + 1)).getD 0

/-- The next usable record after `i` in round-robin order. -/
def Wal.nextRecord (w : Wal) (i : Nat) : Nat :=
  (((List.range 8).map (fun n => (i + 1 + n) % 8)).find? (fun j => (nth ⟨none, true⟩ w.records j).ok)).getD i

/-- Writes a reservation end: a record that fails its read-back is retired and the next one is tried. -/
def Block.reserveIndex (b : Block) (e seq : Nat) : Nat → Nat → Block
  | 0, _ => b
  | n + 1, i =>
    if b.wal.usable < 2 then b
    else
      let j := b.wal.nextRecord i
      if Config.mramFails 0 (8 * seq + j) then
        let b : Block := { b with wal := { b.wal with records := b.wal.records.modify j (fun r => { r with ok := false }) } }
        ((b.setReg Od.mramRecordsOk 0 b.wal.usable).raise 0x4712 noCtx []).reserveIndex e seq n j
      else { b with wal := { b.wal with records := b.wal.records.set j ⟨some ⟨e, seq, Config.txcCheck e seq⟩, true⟩ } }

/-- Signing state is exhausted (R484). -/
def Block.exhaust (b : Block) : Block :=
  if b.wal.attExhausted then b else ({ b with wal := { b.wal with attExhausted := true } }).raise 0x8711 noCtx []

/-- One measurement record of the evidence (R486). -/
def Block.measurement (b : Block) (k : Nat) : List Byte :=
  let i := (b.kind k).header
  beBytes 1 (b.kind k).running ++ [0, 0, 0] ++ beBytes 4 (imgSvn i) ++ beBytes 4 (imgVersion i) ++ imgHash i

/-- Bytes 0 to 1,963 of the evidence (R486). -/
def Block.evidenceBody (b : Block) (nonce : List Byte) (q : Nat) : List Byte :=
  let owner := b.oct Od.ownerKey 0
  beBytes 4 1 ++ b.oct Od.deviceId 0 ++ nonce ++ beBytes 8 b.dt ++ beBytes 1 (b.reg Od.timeState 0)
    ++ beBytes 1 ((if owner.isEmpty then 0 else 1) + (if b.power = pwrRetired then 2 else 0) + (if b.wal.attLow then 4 else 0)) ++ [0, 0]
    ++ (if owner.isEmpty then List.replicate 32 0 else Config.sha256 owner)
    ++ imgHash (b.kind kConfig).header
    ++ (List.range 4).flatMap (fun k => b.measurement (k + 1))
    ++ beBytes 8 (b.reg Od.bootCount 0) ++ beBytes 4 q ++ List.replicate 4 0 ++ b.oct Od.kemEk 0 ++ b.oct Od.devicePub 0

/-- The evidence with its signature at index `q` (R481). -/
def Block.evidence (b : Block) (nonce : List Byte) (q : Nat) : List Byte :=
  let m := b.evidenceBody nonce q
  m ++ beBytes 2 3124 ++ hssSign b.wal.seed q m

/-- Evidence is formed and released at the next index (R482, R484). -/
def Block.attest (b : Block) (n : Nat) (nonce : List Byte) (q : Nat) : Block :=
  let b := b.setOct Od.attEvidence n (b.evidence nonce q)
  let b : Block := { b.setReg Od.attIndex 0 (q + 1) with wal := { b.wal with tree := max b.wal.tree (q / 2 ^ 15) } }
  let b : Block := if 2 ^ 25 - (q + 1) = 1048576 then ({ b with wal := { b.wal with attLow := true } }).raise 0x4710 noCtx [] else b
  if q + 1 = 2 ^ 25 then b.exhaust else b

/-- ATT_REQUEST (R483, R485). -/
def xAttRequest (n : Nat) (nonce : List Byte) (b : Block) : Block :=
  b.onWrite Od.attRequest false (fun b =>
    let tokens := b.reg Od.attTokens 0
    if nonce.length != 32 then b.answer stLength
    else if b.wal.attExhausted then b.answer stWriteRefused
    else if tokens = 0 then b.answer stLimit
    else
      let q := b.reg Od.attIndex 0
      let b := b.setReg Od.attTokens 0 (tokens - 1)
      let i := b.wal.latest
      let b : Block := if q = b.wal.endOfIndex then b.reserveIndex (q + 16) b.wal.nextSeq 8 i else b
      if b.wal.usable < 2 then b.exhaust.answer stWriteRefused else (b.attest n nonce q).answer stOK)

/-- ATT_TOKEN_REFILL (R483). -/
def xRefill (b : Block) : Block :=
  if b.sys.phase != .up then b
  else
    let t := b.wal.refillAt + 10 ^ 10
    let b := (b.reach t).setReg Od.attTokens 0 (min 64 (b.reg Od.attTokens 0 + 1))
    { b with wal := { b.wal with refillAt := t } }

/-- BOTTOM_TREE_BUILD (R481): once leaf 16,384 of a tree has been used. -/
def xTreeBuild (b : Block) : Block :=
  let q := b.reg Od.attIndex 0
  if b.sys.phase != .up || decide (q % 2 ^ 15 ≤ 16384) || b.wal.tree != q / 2 ^ 15 || decide (b.wal.tree ≥ 1023) then b
  else { b with wal := { b.wal with tree := b.wal.tree + 1 } }

/-! ### The owner (R488, R490) -/

/-- The fields of an OWNER_ENROL record: key, SEQ, signature; none where its lengths do not fit. -/
def enrolFields (r : List Byte) : Option (List Byte × Nat × List Byte) :=
  let n := ofBE (slice r 64 2)
  if r.length ≥ 66 ∧ r.length = 66 + n then some (r.take 56, ofBE (slice r 56 8), r.drop 66) else none

/-- OWNER_ENROL: only from the management port (R500); the value that the signature covers is the new key. -/
def xEnrol (r : List Byte) (fromMP : Bool) (b : Block) : Block :=
  b.onWrite Od.ownerEnrol false (fun b =>
    match enrolFields r with
    | none => b.answer stLength
    | some (key, seq, sig) =>
      let owner := b.oct Od.ownerKey 0
      let msg := ownerMessage (b.oct Od.deviceId 0) Od.ownerEnrol 0 seq key 1
      if !fromMP then b.refuseProtected stWriteRefused
      else if !(sigVerifies (if owner.isEmpty then key else owner) msg sig && decide (b.reg Od.ownerSeq 0 < seq)) then b.refuseProtected stSigInvalid
      else ((((b.setReg Od.ownerSeq 0 seq).setOct Od.ownerKey 0 key).raise 0x0721 noCtx []).answer stOK))

/-- The slice number under which the gateway's host connections stand. -/
def hostSlice : Nat := 4

/-- Every open host session closes, and its connections with it (R490). -/
def Block.closeSessions (b : Block) : Block :=
  { b with emith := { b.emith with sessions := [], hostTx := [], hostRx := [], tx := b.emith.tx.filter (fun c => c.key.slice != hostSlice), rx := b.emith.rx.filter (fun c => c.key.slice != hostSlice) } }

/-- Every key slot is empty (R490). -/
def Block.clearKeys (b : Block) : Block :=
  let b := (List.range 8).foldl (fun b k => b.setOct Od.hostKey (k + 1) []) (b.setOct Od.ownerKey 0 [])
  let b := (List.range 4).foldl (fun b k => b.setOct Od.emithKey (k + 1) []) b
  { (b.closeSessions).setReg Od.emithKeyInstalled 0 0 with wal := { b.wal with keys := [] } }

/-- Every RWP entry returns to its default. -/
def Block.clearProtected (b : Block) : Block :=
  b.keepRegs (fun key => match odFind (keyIdx key) (keySub key) with
    | some e => e.acc != .rwp
    | none => true)

/-- OWNER_RELEASE. -/
def xOwnerRelease (w : PWrite) (b : Block) : Block :=
  b.protect Od.ownerRelease 0 2 w (fun b =>
    if w.value.length != 1 then b.answer stLength
    else if ofBE w.value > 1 then b.answer stRange
    else if ofBE w.value = 0 then b.answer stOK
    else ((b.clearKeys).clearProtected).answer stOK)

/-! ### Traffic keys (R320, R492) -/

/-- "emith fabric kek" and "emith key check" in ASCII. -/
def kekLabel : List Byte := [101, 109, 105, 116, 104, 32, 102, 97, 98, 114, 105, 99, 32, 107, 101, 107]
def checkLabel : List Byte := [101, 109, 105, 116, 104, 32, 107, 101, 121, 32, 99, 104, 101, 99, 107]

/-- A slot takes a key or becomes empty; a new key's TXC starts at 0. -/
def Block.setTrafficKey (b : Block) (k : Nat) (key : List Byte) : Block :=
  let v := b.reg Od.emithKeyInstalled 0
  let v' := if key.isEmpty then (if bit v k then v - 2 ^ k else v) else (v ||| 2 ^ k)
  let b := (b.setReg Od.emithKeyInstalled 0 v').setOct Od.emithKey (k + 1) (if key.isEmpty then [] else (Config.sha256 (checkLabel ++ key)).take 8)
  { b with wal := { b.wal with keys := sset [] b.wal.keys k key }, emith := if key.isEmpty then b.emith else { b.emith with txc := sset Txc.fresh b.emith.txc k (sget Txc.fresh b.emith.txc k).renew } }

/-- EMITH_KEY:k+1. -/
def xKeyInstall (sub : Nat) (w : PWrite) (b : Block) : Block :=
  b.protect Od.emithKey sub 0 w (fun b =>
    let k := sub - 1
    if w.value.isEmpty then
      if b.reg Od.emithTxKeySlot 0 = k then b.answer stWriteRefused else (b.setTrafficKey k []).answer stOK
    else if w.value.length != 1608 then b.answer stLength
    else
      let kek := Config.hkdf (kemDecaps b.wal.seed (w.value.take 1568)) (b.oct Od.deviceId 0) (kekLabel ++ beBytes 1 k) 32
      match Config.keyUnwrap kek (w.value.drop 1568) with
      | none => b.answer stWriteRefused
      | some key => (b.setTrafficKey k key).answer stOK)

def execFwStage (record : List Byte) (s : State) : Host.Outcome State Fault Refusal := .next (s.run (xStage record))
def execFwActivate (w : PWrite) (s : State) : Host.Outcome State Fault Refusal := .next (s.run (xActivate w))
def execFwRevert (w : PWrite) (s : State) : Host.Outcome State Fault Refusal := .next (s.run (xActivate w))
def execFwSwitch (kind : Nat) (s : State) : Host.Outcome State Fault Refusal := .next (s.run (xSwitch kind))
def execFwConfirm (w : PWrite) (s : State) : Host.Outcome State Fault Refusal := .next (s.run (xConfirm w))
def execAttRequest (n : Nat) (nonce : List Byte) (s : State) : Host.Outcome State Fault Refusal := .next (s.run (xAttRequest n nonce))
def execAttTokenRefill (s : State) : Host.Outcome State Fault Refusal := .next (s.run xRefill)
def execBottomTreeBuild (s : State) : Host.Outcome State Fault Refusal := .next (s.run xTreeBuild)
def execOwnerEnrol (record : List Byte) (fromMP : Bool) (s : State) : Host.Outcome State Fault Refusal := .next (s.run (xEnrol record fromMP))
def execOwnerRelease (w : PWrite) (s : State) : Host.Outcome State Fault Refusal := .next (s.run (xOwnerRelease w))
def execEmithKeyInstall (sub : Nat) (w : PWrite) (s : State) : Host.Outcome State Fault Refusal := .next (s.run (xKeyInstall sub w))

end Sys2Proof.Machine
end

