-- ==== Sys2Proof/Machine/Ports.lean ====
section
/-! DEFINITION. Ports: training, repair and degradation, received frames, pause, and neighbour resolution (R311 to R317, R332 to R334). -/

namespace Sys2Proof.Machine

/-! ### Port states (R340) -/

def ptDown : Nat := 0
def ptTraining : Nat := 1
def ptUp : Nat := 2
def ptDraining : Nat := 3
def ptRepairing : Nat := 4
def ptOff : Nat := 5

def isFabric (p : Nat) : Bool := decide (p < 16)
def isHost (p : Nat) : Bool := p == 32 || p == 33

/-- State of a fabric or host port by its code. -/
def Block.portState (b : Block) (p : Nat) : Nat := if isFabric p then b.reg Od.fabPortState (p + 1) else b.reg Od.hostPortState (p - 31)

def Block.setPortState (b : Block) (p st : Nat) : Block :=
  if isFabric p then b.setReg Od.fabPortState (p + 1) st else b.setReg Od.hostPortState (p - 31) st

/-- A port receives (R333). -/
def Block.receives (b : Block) (p : Nat) : Bool := (isFabric p || isHost p) && (b.portState p == ptUp || b.portState p == ptDraining)

/-- Mode in which a fabric port runs: 0 full, 1 two halves, 2 and 3 one half. -/
def Block.portModeNow (b : Block) (p : Nat) : Nat := sget 0 b.emith.modes p

/-- The port takes the mode of FAB_PORT_MODE as it trains; halves exist on a backplane only, so elsewhere it trains in full mode (R311, log entry 35). -/
def Block.takeMode (b : Block) (p : Nat) : Block :=
  if isFabric p then
    let m := b.reg Od.fabPortMode (p + 1)
    { b with emith := { b.emith with modes := sset 0 b.emith.modes p (if m = 0 || Config.backplane p then m else 0) } }
  else b

/-- The interfaces that a fabric port runs (R311, R316). -/
def Block.ifacesOf (b : Block) (n : Nat) : List Nat :=
  match b.portModeNow n with
  | 0 => [4 * n]
  | 1 => [4 * n + 1, 4 * n + 2]
  | 2 => [4 * n + 1]
  | _ => [4 * n + 2]

/-- Those of them that are UP. -/
def Block.ifacesUp (b : Block) (n : Nat) : List Nat := if b.portState n != ptUp then [] else b.ifacesOf n

/-- The port of an interface code: codes 128 to 130 are HP0, HP1 and MP (log entry 4). -/
def portOf (code : Nat) : Nat := if 128 ≤ code then code - 96 else code / 4

/-- Is an interface UP? -/
def Block.ifaceUp (b : Block) (code : Nat) : Bool :=
  if 128 ≤ code then isHost (portOf code) && b.portState (portOf code) == ptUp else (b.ifacesUp (code / 4)).contains code

/-- PMASK of R325. -/
def Block.pmask (b : Block) : Nat :=
  ((List.range 16).flatMap b.ifacesUp).foldl (fun m i => m ||| (if i % 4 = 0 then 2 ^ (i / 4) else 2 ^ (16 + 2 * (i / 4) + (i % 4 - 1)))) 0

/-! ### Link training (R312, R529) -/

/-- LINK_TRAINED: a port that is not UP, in repair or OFF comes up, or stays DOWN. -/
def xLinkTrained (p : Nat) (ok : Bool) (b : Block) : Block :=
  if p = 34 then (if b.serving then ({ b with cal := { b.cal with mpUp := ok } }).ptpCheck else b)
  else if !b.live || !(isFabric p || isHost p) then b
  else
    let b : Block := if p = 32 then { b with sys := { b.sys with hp0Trained := true } } else b
    if b.portState p != ptDown && b.portState p != ptTraining then b
    else if ok then ((b.takeMode p).setPortState p ptUp).ptpCheck
    else
      let b := b.setPortState p ptDown
      if b.service = svcFull then b else b.raise 0x4114 noCtx []

/-! ### Repair (R332 to R334) -/

/-- Ports in repair at a time. -/
def repairMax : Nat := 4

def Block.repair? (b : Block) (p : Nat) : Option Repair := b.emith.repairs.find? (fun r => r.port == p)

def Block.setRepairs (b : Block) (l : List Repair) : Block := { b with emith := { b.emith with repairs := l } }

/-- A port enters the drain. -/
def Block.startRepair (b : Block) (p : Nat) : Block :=
  let b := b.setRepairs (b.emith.repairs.map (fun (r : Repair) => if r.port == p then { r with phase := 1, at_ := b.dt } else r))
  let b : Block := if isFabric p then b.bump Od.fabRepairCount (p + 1) 1 else b
  (b.setPortState p ptDraining).ptpCheck

/-- Waiting ports enter repair in trigger order while there is room. -/
def Block.nextRepairs (b : Block) : Block :=
  let room := repairMax - (b.emith.repairs.filter (fun r => r.phase != 0)).length
  (((b.emith.repairs.filter (fun r => r.phase == 0)).take room).map (·.port)).foldl (fun b p => b.startRepair p) b

/-- A port is to be repaired. -/
def Block.requestRepair (b : Block) (p : Nat) (lane : Option Nat) : Block :=
  (b.setRepairs (b.emith.repairs ++ [⟨p, lane, 0, b.dt⟩])).nextRepairs

/-- A repair ends and leaves its place. -/
def Block.endRepair (b : Block) (p st : Nat) : Block :=
  (((b.setRepairs (b.emith.repairs.filter (fun r => r.port != p))).setPortState p st).ptpCheck).nextRepairs

/-- May a port run as a half (R334)? -/
def Block.canDegrade (b : Block) (p : Nat) : Bool :=
  isFabric p && b.reg Od.fabAllowDegrade 0 == 1 && Config.backplane p && decide (b.portModeNow p < 2)

/-- FAB_PORT_MODE becomes the half whose lanes do not hold the failed lane. -/
def Block.degrade (b : Block) (p : Nat) (lane : Option Nat) : Block :=
  (b.setReg Od.fabPortMode (p + 1) (if lane.getD 3 < 2 then 3 else 2)).raise 0x4382 noCtx []

/-- A port becomes OFF. -/
def Block.portOff (b : Block) (p : Nat) : Block := (b.endRepair p ptOff).raise 0x8385 noCtx []

/-- The lane triggered a repair within the last hour (R334). -/
def Block.laneAgain (b : Block) (p lane : Nat) : Bool :=
  let t := sget 0 b.emith.laneAt (4 * p + lane)
  t != 0 && decide (b.dt < t - 1 + 3600 * 10 ^ 9)

/-- LANE_SER_LIMIT. -/
def xLaneSer (p lane : Nat) (b : Block) : Block :=
  let k := 4 * p + lane
  if !b.live || !(isFabric p || isHost p) || b.portState p != ptUp || (b.repair? p).isSome
      || (isFabric p && decide (sget 0 b.emith.laneTicks k < b.reg Od.fabLaneFailTicks 0)) then b
  else
    let again := b.laneAgain p lane
    let b : Block := { b with emith := { b.emith with laneAt := sset 0 b.emith.laneAt k (b.dt + 1), laneTicks := sset 0 b.emith.laneTicks k 0 } }
    if !again then b.requestRepair p (some lane)
    else if b.canDegrade p then (b.degrade p (some lane)).requestRepair p (some lane)
    else b.portOff p

/-- PCS_ALIGNMENT_LOSS: a port that must wait for its repair is no longer UP. -/
def xPcsLoss (p : Nat) (b : Block) : Block :=
  if !b.live || !(isFabric p || isHost p) || b.portState p != ptUp then b
  else
    let b : Block := if (b.repair? p).isSome then b else b.requestRepair p none
    if b.portState p = ptUp then (b.setPortState p ptRepairing).ptpCheck else b

/-- The repair of a port in a phase. -/
def Block.inPhase (b : Block) (p phase : Nat) : Option Repair := b.emith.repairs.find? (fun r => r.port == p && r.phase == phase)

def Block.setPhase (b : Block) (p phase : Nat) : Block :=
  b.setRepairs (b.emith.repairs.map (fun (r : Repair) => if r.port == p then { r with phase := phase, at_ := b.dt } else r))

/-- PORT_DRAIN_END: 20 us after the drain began. -/
def xDrainEnd (p : Nat) (b : Block) : Block :=
  match b.inPhase p 1 with
  | none => b
  | some r => if !b.live then b else ((b.reach (r.at_ + 20000)).setPhase p 2).setPortState p ptRepairing

/-- PORT_RETRAIN_DONE. -/
def xRetrainDone (p : Nat) (b : Block) : Block :=
  match b.inPhase p 2 with
  | none => b
  | some _ => if !b.live then b else (b.takeMode p).setPhase p 3

/-- PORT_VERIFY_END: 10 ms after Retrain ended. -/
def xVerifyEnd (p : Nat) (ok : Bool) (b : Block) : Block :=
  match b.inPhase p 3 with
  | none => b
  | some r =>
    if !b.live then b
    else
      let b := b.reach (r.at_ + 10 ^ 7)
      if ok then (b.endRepair p ptUp).raise 0x0380 noCtx []
      else if b.canDegrade p then (b.degrade p r.lane).setPhase p 2
      else b.portOff p

/-- FAB_PORT_MODE: an OFF port trains again. -/
def xPortMode (p v : Nat) (b : Block) : Block :=
  b.onWrite Od.fabPortMode false (fun b =>
    if v > 3 then b.answer stRange
    else
      let b := b.setReg Od.fabPortMode (p + 1) v
      let b : Block := if b.portState p = ptOff ∧ b.live then b.setPortState p ptTraining else b
      b.answer stOK)

/-! ### Received frames (R313 to R315, R499) -/

/-- VID and PCP of a VLAN entry (R340). -/
def vidOf (v : Nat) : Nat := bits v 11 0
def pcpOf (v : Nat) : Nat := bits v 15 13

/-- The VLAN entry of a port's class. -/
def Block.vlanOf (b : Block) (p : Nat) : Nat := if isFabric p then b.reg Od.fabVlan 0 else b.reg Od.hostVlan 0

/-- A frame on the management VLAN of a host port (R499). -/
def Block.onMgmtVlan (b : Block) (p : Nat) (f : EthFrame) : Bool :=
  isHost p && b.reg Od.mgmtHostVid 0 != 0 && f.vid == some (b.reg Od.mgmtHostVid 0)

/-- Does a port accept a frame? -/
def Block.accepts (b : Block) (p : Nat) (f : EthFrame) : Bool :=
  if f.length > 9216 then false
  else if b.onMgmtVlan p f then f.kind == 2 || f.kind == 3 || f.kind == 4 || f.kind == 5
  else
    let vid := vidOf (b.vlanOf p)
    let tagOk := p == 34 || (if vid = 0 then f.vid.isNone else f.vid == some vid)
    let kindOk := (f.kind == 0 && isFabric p && f.udpPort == b.reg Od.emithUdpPort 0)
      || (f.kind == 0 && isHost p && f.udpPort == b.reg Od.emithHostUdpPort 0)
      || f.kind == 1 || f.kind == 2 || f.kind == 3 || (f.kind == 4 && b.reg Od.emithV4Base 0 != 0) || (f.kind == 5 && p == 34)
    tagOk && kindOk

/-- RX_DISCARD: counted on the fabric ports, for which FAB_RX_DISCARDS has subindices. -/
def xRxDiscard (p : Nat) (f : EthFrame) (b : Block) : Block :=
  if !(b.receives p) || b.accepts p f || !isFabric p then b else b.bump Od.fabRxDiscards (p + 1) 1

/-- Line rate of an interface in Gb/s (R311). -/
def ifaceGbps (code : Nat) : Nat := if code = 130 then 10 else if code < 128 ∧ code % 4 = 0 then 800 else 400

/-! ### Leaving an interface (R314, R329) -/

/-- DT until which a pause holds an interface. -/
def Block.pauseEnd (b : Block) (code : Nat) : Nat := max b.dt (sget 0 b.emith.paused code)

/-- What the frames queued on an interface take, their bytes divided by its rate, in units of 10 ps, of which every rate takes a whole number for a byte. -/
def Block.backlog (b : Block) (code : Nat) : Nat := sget 0 b.emith.txFree code - 100 * b.pauseEnd code

/-- DT at which a frame put on an interface now leaves. -/
def Block.departs (b : Block) (code : Nat) : Nat := max (b.pauseEnd code) (ceilDiv (sget 0 b.emith.txFree code) 100)

/-- Line time of an Emith frame of `n` payload bytes in bytes, with preamble, gap and tag (R315). -/
def lineBytes (n tag : Nat) : Nat := n + 134 + (if tag = 0 then 0 else 4)

/-- Queues a frame of `bytes` bytes of line time on an interface. -/
def Block.occupy (b : Block) (code bytes : Nat) : Block :=
  { b with emith := { b.emith with txFree := sset 0 b.emith.txFree code (max (100 * b.pauseEnd code) (sget 0 b.emith.txFree code) + bytes * (800 / ifaceGbps code)) } }

/-- The 96-bit IV: SRC_DEV as 32 bits, or zeros in a host session, and TXC (R319, R337). -/
def ivOf (src txc : Nat) : List Byte := beBytes 4 src ++ beBytes 8 txc

/-- A header with another TX_TS (R318). -/
def stampHeader (h : BitVec 256) (t : Nat) : Nat := at' 112 (bits h.toNat 255 112) + at' 64 (t % 2 ^ 48) + at' 0 (bits h.toNat 63 0)

/-- A frame that leaves at another DT, with the time stamp and the seal of that DT (R318, R319, R428). -/
def WireFrame.leaveAt (f : WireFrame) (t : Nat) : WireFrame :=
  if f.leaves = t then f
  else
    let n := stampHeader f.pkt.header t
    let c := Config.gcmSeal f.key f.iv (beBytes 32 n) f.plain
    { f with leaves := t, pkt := if f.key.isEmpty then { f.pkt with header := BitVec.ofNat 256 n } else ⟨BitVec.ofNat 256 n, c.1, c.2, f.pkt.ce⟩ }

/-- The DT at which a frame that has not left by `now` leaves when the pause that ended at `old` ends at `new_`. -/
def shifted (now old new_ t : Nat) : Nat := if now < t then t + new_ - old else t

/-- PFC_PAUSE_FRAME: the pause for the PCP of FAB_VLAN, in quanta of 512 bit times; frames that wait on the interface wait for its end. -/
def xPfc (code : Nat) (quanta : List Nat) (b : Block) : Block :=
  let p := portOf code
  if b.reg Od.fabPfcEnable 0 != 1 || !b.receives p || !(isHost p || (b.ifacesOf p).contains code) then b
  else
    let q := nth 0 quanta (pcpOf (b.reg Od.fabVlan 0))
    let until_ := if q = 0 then 0 else b.dt + ceilDiv (512 * q) (ifaceGbps code)
    let move := shifted b.dt (b.pauseEnd code) (max b.dt until_)
    let e := b.emith
    let waits := e.wire.any (fun f => f.iface == code && decide (b.dt < f.leaves)) || e.ndTx.any (fun f => f.iface == code && decide (b.dt < f.leaves))
    let free := sget 0 e.txFree code
    { b with emith := { e with
        paused := sset 0 e.paused code until_,
        txFree := if waits then sset 0 e.txFree code (free + 100 * max b.dt until_ - 100 * b.pauseEnd code) else e.txFree,
        wire := e.wire.map (fun f => if f.iface == code then f.leaveAt (move f.leaves) else f),
        ndTx := e.ndTx.map (fun f => if f.iface == code then { f with leaves := move f.leaves } else f) } }

/-! ### Addresses and neighbours (R316, R317) -/

/-- The IPv6 address of an interface. -/
def Block.ifaceV6 (b : Block) (dev code : Nat) : Nat := ofBE (b.oct Od.emithPrefix 0) * 2 ^ 64 + dev * 2 ^ 8 + code

/-- The IPv4 address of an interface, with IPv4 enabled. -/
def Block.ifaceV4 (b : Block) (dev code : Nat) : Nat :=
  bits (b.reg Od.emithV4Base 0) 31 23 * 2 ^ 23 + dev * 2 ^ 5 + code / 4 * 2 + (if code % 4 = 2 then 1 else 0)

/-- The MAC address of an interface: the factory base plus its offset; codes 128 to 130 are HP0, HP1 and MP. -/
def Block.ifaceMac (b : Block) (code : Nat) : Nat :=
  ofBE (b.oct Od.macBase 0) + (if 128 ≤ code then code - 96 else if code % 4 = 2 then 16 + code / 4 else code / 4)

/-- The link-local address that a MAC address forms under the modified EUI-64 rule (R499). -/
def linkLocal (mac : Nat) : Nat := 0xFE80 * 2 ^ 112 + (bits mac 47 24 ^^^ 0x020000) * 2 ^ 40 + 0xFFFE * 2 ^ 24 + bits mac 23 0

/-- Is an address one of the interface's own: that of R316, HOST_IP of a host port, or those of MP (R499)? -/
def Block.ownsIp (b : Block) (code ip : Nat) : Bool :=
  let dev := b.reg Od.deviceIndex 0
  if code = 130 then ip == linkLocal (b.ifaceMac 130) || (ip != 0 && ip == ofBE (b.oct Od.mgmtIp 0))
  else if 128 ≤ code then ip != 0 && ip == ofBE (b.oct Od.hostIp (code - 127))
  else ip == b.ifaceV6 dev code || (b.reg Od.emithV4Base 0 != 0 && ip == b.ifaceV4 dev code)

/-- Does the port of an interface code receive, and is there anything behind it to answer (R315, R495, R499)? -/
def Block.hearsNd (b : Block) (code : Nat) : Bool :=
  if code = 130 then b.serving && !b.walnutBusy && b.cal.mpUp else b.live && b.receives (portOf code)

/-- The tag that an interface puts on its frames: VID and PCP of its port class, 0 for none (R313). -/
def Block.tagOf (b : Block) (code : Nat) : Nat :=
  if code = 130 then 0
  else let v := b.vlanOf (portOf code); if vidOf v = 0 then 0 else v

/-- Line time in bytes of a solicitation, advertisement or ARP frame, or of an echo reply without data (RFC 4861, log entry 31). -/
def ndBytes (f : NdFrame) (tag : Nat) : Nat := (if f.kind = 3 then 86 else 110) + (if tag = 0 then 0 else 4)

/-- Puts a frame of neighbour resolution on an interface, behind what is queued there. -/
def Block.putNd (b : Block) (code : Nat) (f : NdFrame) : Block :=
  let b' : Block := { b with emith := { b.emith with ndTx := b.emith.ndTx ++ [⟨code, b.tagOf code, b.departs code, f⟩] } }
  b'.occupy code (ndBytes f (b.tagOf code))

def Block.gatewayIp (b : Block) : Nat := ofBE (b.oct Od.fabGateway 0)

/-- NEIGHBOR_REFRESH: a solicitation, or an ARP request, for FAB_GATEWAY. -/
def xNeighborRefresh (code : Nat) (b : Block) : Block :=
  if !b.live || !b.ifaceUp code then b else b.putNd code ⟨0, b.gatewayIp, b.ifaceMac code⟩

/-- NEIGHBOR_DISCOVERY: the gateway's reply resolves the link partner MAC; solicitations of the interface's own address and echo requests are answered. -/
def xNeighbor (code : Nat) (f : NdFrame) (b : Block) : Block :=
  if !b.hearsNd code then b
  else if f.kind = 1 then
    (if code < 130 ∧ f.ip = b.gatewayIp then { b with emith := { b.emith with macs := sset 0 b.emith.macs code (f.mac + 1) } } else b)
  else if f.kind = 0 ∧ b.ownsIp code f.ip then b.putNd code ⟨1, f.ip, b.ifaceMac code⟩
  else if f.kind = 2 ∧ b.ownsIp code f.ip then b.putNd code ⟨3, f.ip, b.ifaceMac code⟩
  else b

def execLinkTrained (port : Nat) (trained : Bool) (s : State) : Host.Outcome State Fault Refusal := .next (s.run (xLinkTrained port trained))
def execLaneSerLimit (port lane : Nat) (s : State) : Host.Outcome State Fault Refusal := .next (s.run (xLaneSer port lane))
def execPcsAlignmentLoss (port : Nat) (s : State) : Host.Outcome State Fault Refusal := .next (s.run (xPcsLoss port))
def execPortDrainEnd (port : Nat) (s : State) : Host.Outcome State Fault Refusal := .next (s.run (xDrainEnd port))
def execPortRetrainDone (port : Nat) (s : State) : Host.Outcome State Fault Refusal := .next (s.run (xRetrainDone port))
def execPortVerifyEnd (port : Nat) (passes : Bool) (s : State) : Host.Outcome State Fault Refusal := .next (s.run (xVerifyEnd port passes))
def execFabPortMode (port value : Nat) (s : State) : Host.Outcome State Fault Refusal := .next (s.run (xPortMode port value))
def execPfcPauseFrame (iface : Nat) (quanta : List Nat) (s : State) : Host.Outcome State Fault Refusal := .next (s.run (xPfc iface quanta))
def execRxDiscard (port : Nat) (frame : EthFrame) (s : State) : Host.Outcome State Fault Refusal := .next (s.run (xRxDiscard port frame))
def execNeighborRefresh (iface : Nat) (s : State) : Host.Outcome State Fault Refusal := .next (s.run (xNeighborRefresh iface))
def execNeighborDiscovery (iface : Nat) (frame : NdFrame) (s : State) : Host.Outcome State Fault Refusal := .next (s.run (xNeighbor iface frame))

end Sys2Proof.Machine
end

