-- ==== Sys2Proof/Machine/Emith.lean ====
section
/-! DEFINITION. The Emith transport: packets, connections, acknowledgement, spraying and congestion response (R318 to R331). -/

namespace Sys2Proof.Machine

/-! ### The packet (R318) -/

def etData : Nat := 1
def etAck : Nat := 2
def etProbe : Nat := 3
def etInit : Nat := 4
def etReply : Nat := 5

/-- The fields of an Emith header. -/
structure EHead where
  ver : Nat
  type : Nat
  retx : Nat
  areq : Nat
  key : Nat
  sslice : Nat
  dslice : Nat
  dst : Nat
  src : Nat
  wctx : Nat
  cgen : Nat
  len : Nat
  psn : Nat
  ts : Nat
  txc : Nat
  deriving DecidableEq, Repr

def eheadOf (h : BitVec 256) : EHead :=
  let f := fun hi lo => bits h.toNat hi lo
  { ver := f 255 252, type := f 251 248, retx := f 247 247, areq := f 246 246, key := f 245 244, sslice := f 243 242, dslice := f 241 240,
    dst := f 239 222, src := f 221 204, wctx := f 203 188, cgen := f 187 172, len := f 171 159, psn := f 143 112, ts := f 111 64, txc := f 63 0 }

def EHead.num (h : EHead) : Nat :=
  at' 252 h.ver + at' 248 h.type + at' 247 h.retx + at' 246 h.areq + at' 244 h.key + at' 242 h.sslice + at' 240 h.dslice + at' 222 h.dst
    + at' 204 h.src + at' 188 h.wctx + at' 172 h.cgen + at' 159 h.len + at' 112 h.psn + at' 64 h.ts + at' 0 h.txc

/-- The bytes of a header, which are the additional authenticated data (R319). -/
def EHead.bytes (h : EHead) : List Byte := beBytes 32 h.num

/-- UDP source port (R318). -/
def udpSource (txc : Nat) : Nat := 0xC000 + txc % 0x4000

def Block.session? (b : Block) (n : Nat) : Option Session := b.emith.sessions.find? (fun x => x.num == n)
def Block.setSession (b : Block) (n : Nat) (f : Session → Session) : Block :=
  { b with emith := { b.emith with sessions := b.emith.sessions.map (fun x => if x.num == n then f x else x) } }

/-- Puts an Emith packet, sealed with a key where it has one, on an interface behind what is queued there; the codepoint of DATA and ACK is ECT(0) (R313, R318, R330). -/
def Block.putFrame (b : Block) (iface dest : Nat) (hd : EHead) (plain key iv : List Byte) : Block :=
  let c := if key.isEmpty then (plain, List.replicate 16 0) else Config.gcmSeal key iv hd.bytes plain
  let vlan := b.tagOf iface
  let dscp := b.reg Od.emithDscp 0
  let f : WireFrame :=
    { iface := iface, mac := sget 0 b.emith.macs iface - 1, tag := vlan, dscp := if hd.type = etData then bits dscp 5 0 else bits dscp 13 8,
      ecn := if hd.type = etData ∨ hd.type = etAck then 2 else 0, dest := dest, sport := udpSource hd.txc, leaves := b.departs iface,
      pkt := ⟨BitVec.ofNat 256 hd.num, c.1, c.2, false⟩, plain := plain, key := key, iv := iv }
  { b with emith := { b.emith with wire := b.emith.wire ++ [f] } }.occupy iface (lineBytes plain.length vlan)

/-- Seals and puts on an interface a packet of a connection to `key.peer`; none where no key or no TXC is left. -/
def Block.sendPacket (b : Block) (key : ConnKey) (hd : EHead) (payload : List Byte) (iface dest : Nat) : Option Block :=
  let hd := { hd with ver := 1, len := payload.length, ts := b.departs iface % 2 ^ 48, src := b.reg Od.deviceIndex 0, wctx := key.wctx }
  if key.slice = hostSlice then
    match b.session? key.wctx with
    | none => none
    | some x =>
      let hd := { hd with key := 0, sslice := 0, dslice := 0, dst := 0, txc := x.txc }
      some ((b.setSession x.num (fun y => { y with txc := y.txc + 1, usedAt := b.dt })).putFrame iface dest hd payload x.d2h (ivOf 0 x.txc))
  else
    let slot := b.reg Od.emithTxKeySlot 0
    let k := b.trafficKey slot
    if k.isEmpty then none
    else match b.takeTxc slot with
      | (none, _) => none
      | (some n, b) =>
        let hd := { hd with key := slot, sslice := key.slice, dslice := key.peerSlice, dst := key.peer, txc := n }
        some (b.putFrame iface dest hd payload k (ivOf hd.src n))

/-! ### Spraying (R329) -/

/-- The rail of an interface code; host ports stand at 128 and 129. -/
def railOf (code : Nat) : Nat := code / 4

/-- Does the peer show an UP interface on a rail? -/
def railUp (mask : Option Nat) (n : Nat) : Bool :=
  match mask with
  | none => true
  | some m => bit m n || bit m (16 + 2 * n) || bit m (17 + 2 * n)

def Block.maskOf (b : Block) (dev : Nat) : Option Nat :=
  let v := sget 0 b.emith.masks dev
  if v = 0 then none else some (v - 1)

/-- Interfaces that are eligible for a connection. -/
def Block.eligibleIfaces (b : Block) (key : ConnKey) : List Nat :=
  if key.slice = hostSlice then [128, 129].filter b.ifaceUp
  else ((List.range 16).filter (railUp (b.maskOf key.peer))).flatMap b.ifacesUp

/-- Those of a list on which the least is queued. -/
def Block.leastQueued (b : Block) (l : List Nat) : List Nat := l.filter (fun c => l.all (fun d => decide (b.backlog c ≤ b.backlog d)))

/-- The first code after the one used last, in turn. -/
def nextIface (last : Nat) (l : List Nat) : Option Nat :=
  match l.find? (fun c => decide (last < c)) with
  | some c => some c
  | none => l.head?

/-- The interface for a packet, avoiding `prev` where another is eligible. -/
def Block.pickIface (b : Block) (key : ConnKey) (last : Nat) (prev : Option Nat) : Option Nat :=
  let l := b.eligibleIfaces key
  let others := l.filter (fun c => some c != prev)
  nextIface last (b.leastQueued (if others.isEmpty then l else others))

/-- The peer's interface on the rail, and the half taken last. -/
def Block.destIface (b : Block) (key : ConnKey) (iface half : Nat) : Nat × Nat :=
  if key.slice = hostSlice then (0, half)
  else
    let n := railOf iface
    match b.maskOf key.peer with
    | none => (4 * n, half)
    | some m =>
      if bit m n then (4 * n, half)
      else if bit m (16 + 2 * n) && bit m (17 + 2 * n) then (4 * n + 1 + (1 - half), 1 - half)
      else if bit m (16 + 2 * n) then (4 * n + 1, half) else (4 * n + 2, half)

/-! ### Sending connections (R322, R323, R327, R328, R330, R331) -/

def connMax : Nat := 8192
def windowMax : Nat := 1024

def Block.tx? (b : Block) (key : ConnKey) : Option TxConn := b.emith.tx.find? (fun c => c.key == key)
def Block.setTx (b : Block) (key : ConnKey) (f : TxConn → TxConn) : Block :=
  { b with emith := { b.emith with tx := b.emith.tx.map (fun c => if c.key == key then f c else c) } }

/-- CGEN of a new connection (R323). -/
def Block.newCgen (b : Block) (key : ConnKey) : Nat :=
  match b.emith.cgens.find? (fun e => e.1 == key.peer * 8 + key.peerSlice + (if key.slice = hostSlice then 4 else 0)) with
  | some e => wrap 16 (e.2 + 1)
  | none => b.dt / 10 ^ 6 % 2 ^ 16

/-- A new sending connection. -/
def Block.openTx (b : Block) (key : ConnKey) : Block :=
  let g := b.newCgen key
  let k := key.peer * 8 + key.peerSlice + (if key.slice = hostSlice then 4 else 0)
  let c : TxConn :=
    { key := key, cgen := g, next := 0, unacked := [], rate := 1000 * b.reg Od.emithInitGbps 0, cutAt := 0, incAt := 0, bins := [],
      srtt := 0, rttvar := 0, rto := 1000 * b.reg Od.emithRtoMinUs 0, iface := 255, half := 1, usedAt := b.dt, freeAt := 0 }
  { b with emith := { b.emith with tx := b.emith.tx ++ [c], cgens := b.emith.cgens.filter (fun e => e.1 != k) ++ [(k, g)] } }

/-- ns that a packet takes at a rate in Mb/s. -/
def paceNs (bytes rate : Nat) : Nat := ceilDiv (8000 * bytes) (max rate 1)

/-- Sends a DATA packet of a connection; `prev` is the interface of the previous attempt. -/
def Block.sendData (b : Block) (c : TxConn) (psn : Nat) (payload : List Byte) (retx : Nat) (prev : Option Nat) : Option (Nat × Block) :=
  match b.pickIface c.key c.iface prev with
  | none => none
  | some i =>
    let d := b.destIface c.key i c.half
    let hd : EHead := ⟨1, etData, retx, 0, 0, 0, 0, 0, 0, 0, c.cgen, 0, psn, 0, 0⟩
    match b.sendPacket c.key hd payload i d.1 with
    | none => none
    | some b =>
      some (i, b.setTx c.key (fun x => { x with iface := i, half := d.2, usedAt := b.dt, freeAt := max b.dt x.freeAt + paceNs (payload.length + 48) x.rate }))

/-- The payload of a queued parcel, or of a host command. -/
def Parcel.payload (p : Parcel) : List Byte := beBytes 16 p.header.toNat ++ p.body

def Parcel.key (p : Parcel) : ConnKey := ⟨true, p.slice, p.dev, if p.slice = hostSlice then 0 else p.slice, p.wctx⟩

/-- The parcels that a slice, or the gateway, has to send. -/
def Block.outgoing (b : Block) (slice : Nat) : List Parcel := if slice = hostSlice then b.emith.hostTx else b.rb.tx.filter (fun p => p.slice == slice)

/-- Has a connection room in its window? -/
def TxConn.room (c : TxConn) : Bool := decide (c.unacked.length < windowMax)

/-- The first parcel of a connection whose flow holds a credit. -/
def Block.nextParcelOf (b : Block) (slice : Nat) (key : ConnKey) : Option Parcel := (b.outgoing slice).find? (fun p => p.key == key && b.hasCredit p)

/-- Connections of a slice that have room and something to send that holds a credit, in turn after the one served last. -/
def Block.sendTurn (b : Block) (slice : Nat) : List TxConn :=
  let all := b.emith.tx.filter (fun c => c.key.slice == slice)
  let last := (b.emith.served.find? (fun e => e.1 == slice)).map (·.2)
  let i := match all.findIdx? (fun c => some c.key == last) with
    | some i => i + 1
    | none => 0
  (all.drop i ++ all.take i).filter (fun c => c.room && (b.nextParcelOf slice c.key).isSome)

/-- The connection to serve: the first in turn that pacing lets send, or the one that it lets send first. -/
def Block.chooseTx (b : Block) (slice : Nat) : Option TxConn :=
  let l := b.sendTurn slice
  match l.find? (fun c => decide (c.freeAt ≤ b.dt)) with
  | some c => some c
  | none => l.foldl (fun m c => match m with
    | none => some c
    | some x => if c.freeAt < x.freeAt then some c else some x) none

/-- A parcel waits for a connection on a full table: counted once (R322). -/
def Block.waitTable (b : Block) (p : Parcel) : Block :=
  if p.at_ != 0 then b
  else ({ b with rb := { b.rb with tx := b.rb.tx.replace p { p with at_ := 1 } } }).bump Od.emithTableFull 0 1

/-- Opens a connection for each parcel that has none; on a full table the parcel waits. -/
def Block.openNeeded (b : Block) (slice : Nat) : Block :=
  (b.outgoing slice).foldl (fun b p =>
    if (b.tx? p.key).isSome then b
    else if (b.emith.tx.filter (fun c => c.key.slice == slice)).length ≥ connMax then b.waitTable p
    else b.openTx p.key) b

/-- Credits may have come for the flows that a slice has spent. -/
def Block.awaitCredits (b : Block) (slice : Nat) : Block := (((b.outgoing slice).filterMap b.flowOf).dedup).foldl Block.awaitCredit b

/-- Removes the first queued parcel equal to `p`. -/
def Block.unqueue (b : Block) (p : Parcel) : Block :=
  if p.slice = hostSlice then { b with emith := { b.emith with hostTx := b.emith.hostTx.erase p } }
  else { b with rb := { b.rb with tx := b.rb.tx.erase p } }

/-- Does the slice, or the gateway, work now? -/
def Block.sliceRuns (b : Block) (slice : Nat) : Bool := b.live && b.power != pwrPark && (slice == hostSlice || !b.boroughDown slice)

/-- EMITH_SEND. -/
def xSend (slice : Nat) (b : Block) : Block :=
  if !(b.live && (slice == hostSlice || !b.boroughDown slice)) then b
  else
    let b := (b.openNeeded slice).awaitCredits slice
    match b.chooseTx slice with
    | none => b
    | some c =>
      match b.nextParcelOf slice c.key with
      | none => b
      | some p =>
        let b := b.reach c.freeAt
        match b.sendData c c.next p.payload 0 none with
        | none => b
        | some (i, b) =>
          let sent : SentPkt := ⟨c.next, p.payload, b.dt, 0, i⟩
          let b := b.setTx c.key (fun x => { x with next := wrap 32 (x.next + 1), unacked := x.unacked ++ [sent] })
          let b : Block := { b with emith := { b.emith with served := b.emith.served.filter (fun e => e.1 != slice) ++ [(slice, c.key)] } }
          let b : Block := if slice = hostSlice then b else b.bump Od.rbBytesSent (slice + 1) p.payload.length
          (b.spendCredit p).unqueue p

/-- A connection fails (R328). -/
def Block.failTx (b : Block) (key : ConnKey) : Block :=
  (({ b with emith := { b.emith with tx := b.emith.tx.filter (fun c => c.key != key) } }).bump Od.emithConnFails 0 1).raise 0x8383 noCtx (beBytes 4 key.peer)

/-- Sends an unacknowledged packet again when pacing lets it (R327, R331); at the limit the connection fails (R328). -/
def Block.retransmit (b : Block) (key : ConnKey) (psn : Nat) : Block :=
  match b.tx? key with
  | none => b
  | some c =>
    match c.unacked.find? (fun s => s.psn == psn) with
    | none => b
    | some s =>
      match (b.reach c.freeAt).sendData c psn s.payload 1 (some s.iface) with
      | none => b
      | some (i, b) =>
        let b := b.bump Od.emithRetransmits 0 1
        if s.tries + 1 ≥ b.reg Od.emithRetryLimit 0 then b.failTx key
        else b.setTx key (fun x => { x with unacked := x.unacked.map (fun y => if y.psn == psn then { y with tries := y.tries + 1, at_ := b.dt, iface := i } else y) })

/-- The least retransmission timeout that the samples give (R327). -/
def Block.rtoOf (b : Block) (c : TxConn) : Nat := max (1000 * b.reg Od.emithRtoMinUs 0) (c.srtt + 4 * c.rttvar)

/-- RTO_EXPIRY: the timeout doubles, up to 10 ms. -/
def xRto (key : ConnKey) (psn : Nat) (b : Block) : Block :=
  match b.tx? key with
  | none => b
  | some c =>
    match c.unacked.find? (fun s => s.psn == psn) with
    | none => b
    | some s =>
      if !b.live then b
      else
        let b := (b.reach (s.at_ + c.rto)).setTx key (fun x => { x with rto := min (10 ^ 7) (2 * x.rto) })
        b.retransmit key psn

/-! ### Acceptance (R318, R321) -/

/-- The age of a packet in ns. -/
def Block.ageOf (b : Block) (ts : Nat) : Int := toSigned 48 (b.dt % 2 ^ 48 + 2 ^ 48 - ts)

/-- Authentication failure: counted, with its event at most once per second. -/
def Block.authFail (b : Block) : Block :=
  let b := b.bump Od.emithAuthFails 0 1
  let sec := b.dt / 10 ^ 9 + 1
  if b.emith.authEvt = sec then b else ({ b with emith := { b.emith with authEvt := sec } }).raise 0x4384 noCtx []

/-- Accepts or discards a received packet of a type; the plaintext with it. A packet of a session keeps it open (R337). -/
def Block.accept (b : Block) (type port : Nat) (p : Packet) : Option (EHead × List Byte) × Block :=
  let h := eheadOf p.header
  if !b.live || !b.receives port || h.ver != 1 || h.type != type then (none, b)
  else
    let k := if isHost port then ((b.session? h.wctx).map (·.h2d)).getD [] else b.trafficKey h.key
    if k.isEmpty then (none, b)
    else match Config.gcmOpen k (ivOf (if isHost port then 0 else h.src) h.txc) (beBytes 32 p.header.toNat) p.payload p.tag with
      | none => (none, b.authFail)
      | some text =>
        let age := b.ageOf h.ts
        if h.dst != b.reg Od.deviceIndex 0 || decide (age > 10 ^ 6 * (b.reg Od.emithMaxAgeMs 0 : Int)) || decide (age < -1000000) then (none, b)
        else (some (h, text), if isHost port then b.setSession h.wctx (fun x => { x with usedAt := b.dt }) else b)

/-! ### Receiving connections (R322 to R326) -/

def Block.rx? (b : Block) (key : ConnKey) : Option RxConn := b.emith.rx.find? (fun c => c.key == key)
def Block.setRx (b : Block) (key : ConnKey) (f : RxConn → RxConn) : Block :=
  { b with emith := { b.emith with rx := b.emith.rx.map (fun c => if c.key == key then f c else c) } }

/-- The receiving connection that a packet belongs to, and the sending one that an ACK answers. -/
def rxKey (h : EHead) (host : Bool) : ConnKey := if host then ⟨false, hostSlice, 0, 0, h.wctx⟩ else ⟨false, h.dslice, h.src, h.sslice, h.wctx⟩
def txKey (h : EHead) (host : Bool) : ConnKey := { rxKey h host with sending := true }

/-- A fresh receiving connection. -/
def RxConn.fresh (key : ConnKey) (cgen dt : Nat) : RxConn :=
  { key := key, cgen := cgen, cum := 0, marks := [], since := 0, firstAt := none, dmax := 0, ce := 0, covered := 0, usedAt := dt, sentAt := dt, iface := 255, half := 1 }

/-- The least recently used connection of a slice whose every PSN is acknowledged. -/
def Block.idleRx (b : Block) (slice : Nat) : Option RxConn :=
  (b.emith.rx.filter (fun c => c.key.slice == slice && c.since == 0)).foldl (fun m c => match m with
    | none => some c
    | some x => if c.usedAt < x.usedAt then some c else some x) none

/-- State for a packet's connection; none when the packet is to be discarded (R322, R323). -/
def Block.openRx (b : Block) (key : ConnKey) (cgen : Nat) : Bool × Block :=
  let put := fun (b : Block) => { b with emith := { b.emith with rx := b.emith.rx ++ [RxConn.fresh key cgen b.dt] } }
  match b.rx? key with
  | some c =>
    let d := (cgen + 2 ^ 16 - c.cgen) % 2 ^ 16
    if d = 0 then (true, b)
    else if d ≤ 32767 then (true, b.setRx key (fun _ => RxConn.fresh key cgen b.dt))
    else (false, b)
  | none =>
    if (b.emith.rx.filter (fun c => c.key.slice == key.slice)).length < connMax then (true, put b)
    else
      let b := b.bump Od.emithTableFull 0 1
      match b.idleRx key.slice with
      | none => (false, b)
      | some v => (true, put { b with emith := { b.emith with rx := b.emith.rx.filter (fun c => c.key != v.key) } })

/-- CUM advances past every contiguous mark. -/
def advanceCum : Nat → Nat → List Nat → Nat × List Nat
  | 0, cum, marks => (cum, marks)
  | n + 1, cum, marks => if marks.contains cum then advanceCum n (wrap 32 (cum + 1)) (marks.filter (· != cum)) else (cum, marks)

/-- The 50 bytes of an ACK (R325). -/
def ackBytes (cum : Nat) (marks : List Nat) (dmax ce covered mask : Nat) : List Byte :=
  let sack := (List.range 256).foldl (fun m i => if marks.contains (wrap 32 (cum + 1 + i)) then m + 2 ^ i else m) 0
  beBytes 4 cum ++ beBytes 32 sack ++ beBytes 4 dmax ++ beBytes 2 ce ++ beBytes 2 covered ++ beBytes 6 mask

/-- Sends an ACK or a PROBE of a receiving connection: what it covers starts afresh. DMAX is a free value where it covers no packet. -/
def Block.sendAck (b : Block) (key : ConnKey) (type : Nat) : Block :=
  match b.rx? key with
  | none => b
  | some c =>
    match b.pickIface key c.iface none with
    | none => b
    | some i =>
      let d := b.destIface key i c.half
      let v := if c.covered = 0 then b.draw else (c.dmax, b)
      let hd : EHead := ⟨1, type, 0, 0, 0, 0, 0, 0, 0, 0, c.cgen, 0, 0, 0, 0⟩
      match v.2.sendPacket key hd (ackBytes c.cum c.marks v.1 (min c.ce 65535) (min c.covered 65535) b.pmask) i d.1 with
      | none => b
      | some b => b.setRx key (fun x => { x with since := 0, firstAt := none, dmax := 0, ce := 0, covered := 0, sentAt := b.dt, usedAt := b.dt, iface := i, half := d.2 })

/-- A command of a host waits until R339 lets it take effect. -/
def Block.holdHost (b : Block) (port : Nat) (h : EHead) (text : List Byte) : Block :=
  { b with emith := { b.emith with hostRx := b.emith.hostRx ++ [⟨h.wctx, h.cgen, h.psn, port, text⟩] } }

/-- A DATA packet of an open connection: duplicate, out of the window, or delivered once (R324); one beyond the window has arrived above a missing PSN (R326). -/
def Block.takeData (b : Block) (key : ConnKey) (port : Nat) (h : EHead) (text : List Byte) (ce : Bool) : Block :=
  match b.rx? key with
  | none => b
  | some c =>
    let off := (h.psn + 2 ^ 32 - c.cum) % 2 ^ 32
    let b := b.setRx key (fun x => { x with usedAt := b.dt })
    if off ≥ 2 ^ 31 ∨ c.marks.contains h.psn then b.sendAck key etAck
    else if off ≥ windowMax then (b.setRx key (fun x => { x with since := x.since + 1, firstAt := some (x.firstAt.getD b.dt) })).sendAck key etAck
    else
      let m := advanceCum (c.marks.length + 1) c.cum (c.marks ++ [h.psn])
      let delay := b.ageOf h.ts
      let v := if delay < 0 then (let d := b.draw; (wrap 32 d.1, d.2)) else (min delay.toNat (2 ^ 32 - 1), b)
      let b := v.2.setRx key (fun x => { x with
        cum := m.1, marks := m.2, since := x.since + 1, firstAt := some (x.firstAt.getD b.dt), dmax := max x.dmax v.1,
        ce := x.ce + (if ce then 1 else 0), covered := x.covered + 1 })
      let b : Block := if key.slice = hostSlice then b.holdHost port h text else b.arrive key.slice key.peer key.wctx text
      if c.since + 1 ≥ 8 || h.areq == 1 || ce || off != 0 then b.sendAck key etAck else b

/-- EMITH_DATA. On a host port the payload is a command, held for its own row. -/
def xData (p : Packet) (port : Nat) (b : Block) : Block :=
  match b.accept etData port p with
  | (none, b) => b
  | (some (h, text), b) =>
    let key := rxKey h (isHost port)
    if !b.sliceRuns key.slice && !(isHost port && b.live) then b
    else match b.openRx key h.cgen with
      | (false, b) => b
      | (true, b) => b.takeData key port h text p.ce

/-! ### Acknowledgement and congestion response (R325, R327, R330) -/

/-- The fields of an ACK payload: CUM, SACK, DMAX, CE, COVERED, PMASK. -/
def ackFields (l : List Byte) : Nat × Nat × Nat × Nat × Nat × Nat :=
  let f := fun lo n => ofBE ((l.drop lo).take n)
  (f 0 4, f 4 32, f 36 4, f 40 2, f 42 2, f 44 6)

/-- Does an ACK show a PSN as received? -/
def acked (cum sack psn : Nat) : Bool :=
  let off := (psn + 2 ^ 32 - cum) % 2 ^ 32
  decide (off ≥ 2 ^ 31) || (decide (1 ≤ off) && decide (off ≤ 256) && bit sack (off - 1))

/-- A round-trip sample, with the gains of RFC 6298. -/
def TxConn.sample (c : TxConn) (r : Nat) : TxConn :=
  if c.srtt = 0 then { c with srtt := r, rttvar := r / 2 }
  else { c with rttvar := (3 * c.rttvar + (max c.srtt r - min c.srtt r)) / 4, srtt := (7 * c.srtt + r) / 8 }

/-- The two bins of 5 s with a DMAX added, and the least of them. -/
def addBin (bins : List (Nat × Nat)) (dt dmax : Nat) : List (Nat × Nat) :=
  let i := dt / (5 * 10 ^ 9)
  let keep := bins.filter (fun e => decide (e.1 + 1 = i) || e.1 == i)
  if keep.any (fun e => e.1 == i) then keep.map (fun e => if e.1 == i then (i, min e.2 dmax) else e) else keep ++ [(i, dmax)]

/-- The update of the rate (R330), in Mb/s; `rmax` and `ai` likewise. -/
def TxConn.adapt (c : TxConn) (now dmax ce covered target rmax ai : Nat) : TxConn :=
  let c := { c with bins := addBin c.bins now dmax }
  let q := dmax - (c.bins.map (·.2)).foldl min dmax
  if ce > 0 ∧ now - c.cutAt ≥ c.srtt then { c with rate := max 1000 (c.rate - (if covered = 0 then c.rate else c.rate * ce / (2 * covered))), cutAt := now }
  else if q > target ∧ now - c.cutAt ≥ c.srtt then { c with rate := max 1000 (c.rate - c.rate * (3 * (q - target)) / (10 * q)), cutAt := now }
  else if q ≤ target ∧ now - c.incAt ≥ c.srtt then { c with rate := min rmax (c.rate + ai), incAt := now }
  else c

/-- What an ACK or PROBE says of a sending connection: acknowledged packets leave and a sample is taken. -/
def Block.takeAck (b : Block) (key : ConnKey) (cum sack : Nat) : Block :=
  match b.tx? key with
  | none => b
  | some c =>
    let newly := c.unacked.filter (fun s => acked cum sack s.psn)
    let rest := c.unacked.filter (fun s => !acked cum sack s.psn)
    b.setTx key (fun x =>
      let y := { x with unacked := rest, usedAt := b.dt }
      let y := match (newly.filter (fun s => s.tries == 0)).getLast? with
        | some s => y.sample (b.dt - s.at_)
        | none => y
      if newly.isEmpty then y else { y with rto := b.rtoOf y })

/-- Packets that an ACK or PROBE shows as lost are sent again: for each PSN at once the first time, and at most once per srtt after that (R327). -/
def Block.resendLost (b : Block) (key : ConnKey) (cum sack : Nat) : Block :=
  match b.tx? key with
  | none => b
  | some c =>
    let higher := fun (psn : Nat) =>
      let off := (psn + 2 ^ 32 - cum) % 2 ^ 32
      ((List.range 256).filter (fun i => decide (off < i + 1) && bit sack i)).length
    let lost := c.unacked.filter (fun s => decide (3 ≤ higher s.psn) && (s.tries == 0 || decide (s.at_ + c.srtt ≤ b.dt)))
    lost.foldl (fun b s => b.retransmit key s.psn) b

/-- An ACK or a PROBE arrives; only an ACK updates the rate. -/
def Block.ackArrives (b : Block) (type : Nat) (p : Packet) (port : Nat) : Block :=
  match b.accept type port p with
  | (none, b) => b
  | (some (h, text), b) =>
    let key := txKey h (isHost port)
    if text.length != 50 then b
    else
      let f := ackFields text
      let b : Block := if isHost port then b else { b with emith := { b.emith with masks := sset 0 b.emith.masks h.src (f.2.2.2.2.2 + 1) } }
      match b.tx? key with
      | none => b
      | some c =>
        if c.cgen != h.cgen then b
        else
          let b := b.takeAck key f.1 f.2.1
          let covered := f.2.2.2.2.1
          let b : Block := if type != etAck then b
            else b.setTx key (fun x => x.adapt b.dt f.2.2.1 f.2.2.2.1 covered (b.reg Od.emithTargetNs 0) (if isHost port then 800000 else 3200000) (1000 * b.reg Od.emithAiGbps 0))
          b.resendLost key f.1 f.2.1

def xAck (p : Packet) (port : Nat) (b : Block) : Block := b.ackArrives etAck p port
def xProbe (p : Packet) (port : Nat) (b : Block) : Block := b.ackArrives etProbe p port

/-! ### Timers (R322, R326) -/

/-- ACK_DELAY_EXPIRY: 2 us after the first unacknowledged arrival. -/
def xAckDelay (key : ConnKey) (b : Block) : Block :=
  match (b.rx? key).bind (·.firstAt) with
  | none => b
  | some t => if !b.live then b else (b.reach (t + 2000)).sendAck key etAck

/-- PROBE_INTERVAL: 100 us without an ACK to the peer. -/
def xProbeDue (key : ConnKey) (b : Block) : Block :=
  match b.rx? key with
  | none => b
  | some c => if !b.live || c.since != 0 then b else (b.reach (c.sentAt + 100000)).sendAck key etProbe

/-- CONN_IDLE_EXPIRY: 1,000 ms without a packet. -/
def xConnIdle (key : ConnKey) (b : Block) : Block :=
  if key.sending then
    match b.tx? key with
    | none => b
    | some c => { b.reach (c.usedAt + 10 ^ 9) with emith := { b.emith with tx := b.emith.tx.filter (fun x => x.key != key) } }
  else match b.rx? key with
    | none => b
    | some c => { b.reach (c.usedAt + 10 ^ 9) with emith := { b.emith with rx := b.emith.rx.filter (fun x => x.key != key) } }

def execEmithSend (slice : Nat) (s : State) : Host.Outcome State Fault Refusal := .next (s.run (xSend slice))
def execEmithData (pkt : Packet) (port : Nat) (s : State) : Host.Outcome State Fault Refusal := .next (s.run (xData pkt port))
def execEmithAck (pkt : Packet) (port : Nat) (s : State) : Host.Outcome State Fault Refusal := .next (s.run (xAck pkt port))
def execEmithProbe (pkt : Packet) (port : Nat) (s : State) : Host.Outcome State Fault Refusal := .next (s.run (xProbe pkt port))
def execAckDelayExpiry (conn : ConnKey) (s : State) : Host.Outcome State Fault Refusal := .next (s.run (xAckDelay conn))
def execProbeInterval (conn : ConnKey) (s : State) : Host.Outcome State Fault Refusal := .next (s.run (xProbeDue conn))
def execRtoExpiry (conn : ConnKey) (psn : Nat) (s : State) : Host.Outcome State Fault Refusal := .next (s.run (xRto conn psn))
def execConnIdleExpiry (conn : ConnKey) (s : State) : Host.Outcome State Fault Refusal := .next (s.run (xConnIdle conn))

end Sys2Proof.Machine
end

