-- ==== Sys2Proof/Machine/HostSession.lean ====
section
/-! DEFINITION. Host sessions: the handshake, and the commands WRITE, READ and DOORBELL (R335 to R339, R536). -/

namespace Sys2Proof.Machine

/-! ### Handshake (R335, R336) -/

/-- "emith h2d" and "emith d2h" in ASCII. -/
def h2dLabel : List Byte := [101, 109, 105, 116, 104, 32, 104, 50, 100]
def d2hLabel : List Byte := [101, 109, 105, 116, 104, 32, 100, 50, 104]

/-- The lowest session number that is free. -/
def Block.freeSession (b : Block) : Option Nat := ((List.range 16).map (· + 1)).find? (fun n => !b.emith.sessions.any (fun x => x.num == n))

/-- Why an HS_INIT is refused: 0 none, 1 signature invalid, 2 slot empty or mask not permitted, 3 no free session. -/
def Block.hsRefusal (b : Block) (p : List Byte) : Nat :=
  let slot := ofBE (slice p 32 1)
  let mask := ofBE (slice p 34 8)
  let n := ofBE (slice p 1610 2)
  let rec_ := b.oct Od.hostKey (slot + 1)
  if slot > 7 ∨ rec_.length ≠ 64 then 2
  else if !(p.length == 1612 + n && decide (n ≤ 2484) && sigVerifies (rec_.take 56) (Config.sha256 (p.take 1612)) (p.drop 1612)) then 1
  else if mask &&& ofBE (rec_.drop 56) != mask then 2
  else if b.freeSession.isNone then 3
  else 0

/-- Puts an HS_REPLY on the host port: unencrypted, with zero tag bytes. -/
def Block.sendReply (b : Block) (port : Nat) (payload : List Byte) : Block :=
  let h : EHead := ⟨1, etReply, 0, 0, 0, 0, 0, 0, b.reg Od.deviceIndex 0, 0, 0, payload.length, 0, b.departs (96 + port) % 2 ^ 48, 0⟩
  b.putFrame (96 + port) 0 h payload [] []

/-- 32 random bytes. -/
def Block.nonce (b : Block) : List Byte × Block := (bytesOf 32 (Config.drbg b.wal.draws), { b with wal := { b.wal with draws := b.wal.draws + 1 } })

/-- Opens a session and answers the host. -/
def Block.openSession (b : Block) (port : Nat) (p : List Byte) (n : Nat) : Block :=
  let r := b.nonce
  let b := r.2
  let mask := ofBE (slice p 34 8)
  let ss := kemDecaps b.wal.seed (slice p 42 1568)
  let salt := p.take 32 ++ r.1
  let key := fun (label : List Byte) => Config.hkdf ss salt (label ++ beBytes 1 n) 32
  let body := r.1 ++ beBytes 1 n ++ [0] ++ beBytes 8 mask
  let confirm := (Config.gcmSeal (key d2hLabel) (List.replicate 12 0) (Config.sha256 p ++ body) []).2
  let x : Session := ⟨n, ofBE (slice p 32 1), mask, key h2dLabel, key d2hLabel, b.dt, b.dt, 1, false, port⟩
  (({ b with emith := { b.emith with sessions := b.emith.sessions ++ [x] } }).sendReply port (body ++ confirm)).raise 0x0386 noCtx []

/-- Refuses a session: CONFIRM is a free value, since no key exists to form it. -/
def Block.refuseSession (b : Block) (port : Nat) (why : Nat) : Block :=
  let r := b.nonce
  let b : Block := { r.2 with freeCount := r.2.freeCount + 1 }
  let confirm := padTo 16 0 ((Config.freeBytes r.2.freeCount).take 16)
  (b.sendReply port (r.1 ++ [0] ++ beBytes 1 why ++ beBytes 8 0 ++ confirm)).raise 0x4387 noCtx []

/-- HS_INIT: at most 100 are accepted per second. -/
def xHsInit (port : Nat) (p : List Byte) (b : Block) : Block :=
  if !b.live || b.walnutBusy || !isHost port || !b.receives port then b
  else
    let sec := b.dt / 10 ^ 9
    let n := if b.emith.hsSecond = sec then b.emith.hsCount else 0
    if n ≥ 100 then b
    else
      let b : Block := { b with emith := { b.emith with hsSecond := sec, hsCount := n + 1 } }
      let why := b.hsRefusal p
      match b.freeSession with
      | some k => if why = 0 then b.openSession port p k else b.refuseSession port why
      | none => b.refuseSession port why

/-! ### Closing (R337) -/

/-- A session closes: its connections, the commands not yet in effect and the answers that still wait go. -/
def Block.closeSession (b : Block) (n : Nat) : Block :=
  let mine := fun (k : ConnKey) => k.slice == hostSlice && k.wctx == n
  { b with emith := { b.emith with
      sessions := b.emith.sessions.filter (fun x => x.num != n), tx := b.emith.tx.filter (fun c => !mine c.key),
      rx := b.emith.rx.filter (fun c => !mine c.key), hostTx := b.emith.hostTx.filter (fun p => p.wctx != n),
      hostRx := b.emith.hostRx.filter (fun c => c.session != n) } }

/-- SESSION_TIMEOUT: after 60 s without a packet or 24 hours. -/
def xSessionTimeout (n : Nat) (b : Block) : Block :=
  match b.session? n with
  | none => b
  | some x => (b.reach (min (x.usedAt + 60 * 10 ^ 9) (x.opened + 86400 * 10 ^ 9))).closeSession n

/-! ### Commands (R338, R339) -/

/-- The fields of a command header. -/
structure HHead where
  hop : Nat
  ctx : Nat
  len : Nat
  cause : Nat
  va : Nat
  tag : Nat
  rest : Nat
  deriving DecidableEq, Repr

def hheadOf (h : Nat) : HHead :=
  { hop := bits h 127 124, ctx := bits h 123 118, len := bits h 117 105, cause := bits h 104 96, va := bits h 95 48, tag := bits h 47 32, rest := bits h 31 0 }

def HHead.num (h : HHead) : Nat := at' 124 h.hop + at' 118 h.ctx + at' 105 h.len + at' 96 h.cause + at' 48 h.va + at' 32 h.tag + h.rest

/-- Queues an answer of a session. -/
def Block.hostAnswer (b : Block) (n : Nat) (h : HHead) (body : List Byte) : Block :=
  { b with emith := { b.emith with hostTx := b.emith.hostTx ++ [⟨hostSlice, 0, n, BitVec.ofNat 128 h.num, body, 0⟩] } }

/-- A command fails: ERROR with its cause, and later doorbells of the session are not delivered. -/
def Block.hostError (b : Block) (n : Nat) (h : HHead) (cause : Nat) : Block :=
  (b.setSession n (fun x => { x with failed := true })).hostAnswer n { hop := 5, ctx := h.ctx, len := 0, cause := cause, va := h.va, tag := h.tag, rest := 0 } []

/-- A command whose header or length does not fit (cause 12). -/
def hostMalformed (h : HHead) (p : List Byte) : Bool :=
  decide (p.length < 16) || decide (h.len > 4080) || h.cause != 0 || h.rest != 0
    || (if h.hop = 1 then p.length != 16 + h.len else if h.hop = 2 then p.length != 16 else if h.hop = 4 then h.len != 8 || p.length != 24 else true)

/-- The physical pieces of `n` bytes from a virtual address, at most two pages; or the cause, where a poisoned table word has none stated and gives a free value. -/
def Block.hostRange (b : Block) (c va n : Nat) (write : Bool) : Except (Option Nat) (List (Nat × Nat)) :=
  if n = 0 then .ok []
  else if va + n > 2 ^ 48 then .error (some 6)
  else
    let n0 := min n (2 ^ 21 - va % 2 ^ 21)
    match b.walk c va write false with
    | .fail k => .error (some k)
    | .poison => .error none
    | .ok pa =>
      if n0 = n then .ok [(pa, n)]
      else match b.walk c (va + n0) write false with
        | .fail k => .error (some k)
        | .poison => .error none
        | .ok pb => .ok [(pa, n0), (pb, n - n0)]

/-- The table entries read for a range that does not translate, counted (R155, R200). -/
def Block.countHostWalks (b : Block) (k c va n : Nat) (write : Bool) : Block :=
  if va + n > 2 ^ 48 then b
  else
    let next := va + (pageSize - va % pageSize)
    let first : Bool := match b.walk c va write false with
      | .ok _ => true
      | _ => false
    let b := b.countWalk (some k) c va
    if first && decide (next < va + n) then b.countWalk (some k) c next else b

/-- Fails with a cause of a translation. -/
def Block.hostFault (b : Block) (n : Nat) (h : HHead) (cause : Option Nat) : Block :=
  match cause with
  | some k => b.hostError n h k
  | none => let d := b.draw; d.2.hostError n h (wrap 9 d.1)

/-- The header of a held command. -/
def HostCmd.head (c : HostCmd) : HHead := hheadOf (ofBE (c.text.take 16))

/-- The Borough at whose port the gateway's bytes of a command pass (R20, R155). -/
def HostCmd.borough (c : HostCmd) : Nat := if c.port = 32 then 0 else 3

/-- The command of a session held with a PSN. -/
def Block.heldCmd (b : Block) (n psn : Nat) : Option HostCmd := b.emith.hostRx.find? (fun c => c.session == n && c.psn == psn)

/-- The held commands of its session that come before one: those of an earlier generation, and of its own those of a lower PSN. -/
def Block.heldBefore (b : Block) (c : HostCmd) : List HostCmd :=
  b.emith.hostRx.filter (fun d => d.session == c.session && d.cgen == c.cgen && d.psn != c.psn && serialGe c.psn d.psn)
    ++ (b.emith.hostRx.takeWhile (fun d => d != c)).filter (fun d => d.session == c.session && d.cgen != c.cgen)

/-- Have all packets of a lower PSN arrived? None comes any more for a generation whose connection is gone. -/
def Block.complete (b : Block) (c : HostCmd) : Bool :=
  match b.rx? ⟨false, hostSlice, 0, 0, c.session⟩ with
  | some x => x.cgen != c.cgen || !serialGe c.psn x.cum
  | none => true

/-- Do the byte ranges of two WRITE commands overlap? -/
def HHead.overlaps (h k : HHead) : Bool := h.ctx == k.ctx && decide (h.va < k.va + k.len) && decide (k.va < h.va + h.len)

/-- May a held command take effect (R339)? A WRITE waits for the overlapping WRITEs of lower PSNs, every other command for all commands of lower PSNs. -/
def Block.mayTake (b : Block) (c : HostCmd) : Bool :=
  b.complete c && (b.heldBefore c).all (fun d => c.head.hop == 1 && d.head.hop == 1 && !c.head.overlaps d.head)

/-- The command of an open session that is held with a PSN takes effect, once it may; `mine` are the operations that the row covers. -/
def Block.hostCommand (b : Block) (n psn : Nat) (mine : Nat → Bool) (f : Session → HostCmd → Block → Block) : Block :=
  match b.session? n, b.heldCmd n psn with
  | some x, some c =>
    if !b.live || !mine c.head.hop || !b.mayTake c then b
    else
      let b : Block := { b with emith := { b.emith with hostRx := b.emith.hostRx.erase c } }
      if hostMalformed c.head c.text then b.hostError n c.head 12
      else if !bit x.granted c.head.ctx then b.hostError n c.head 9
      else f x c b
  | _, _ => b

/-- The translation and the bytes that a command moves, counted (R155, R168, R200). -/
def Block.countHost (b : Block) (c : HostCmd) (l : List (Nat × Nat)) (read : Bool) : Block :=
  let k := c.borough
  let h := c.head
  let b := l.foldl (fun (r : Block × Nat) e => (r.1.countWalk (some k) h.ctx r.2, r.2 + e.2)) (b, h.va)
  l.foldl (fun b e => (if read then b.countRead e.1 e.2 else b).countRemote k e.1 e.2) b.1

/-- HOST_WRITE: nothing is stored when any part of the range does not translate. -/
def xHostWrite (n psn : Nat) (b : Block) : Block :=
  b.contended (fun b => b.hostCommand n psn (fun o => o != 2 && o != 4) (fun _ c b =>
    let h := c.head
    if b.power = pwrPark then b.hostError n h 8
    else match b.hostRange h.ctx h.va h.len true with
      | .error k => (b.countHostWalks c.borough h.ctx h.va h.len true).hostFault n h k
      | .ok l => (l.foldl (fun (r : Block × List Byte) e => (r.1.writePhys e.1 (r.2.take e.2), r.2.drop e.2)) (b.countHost c l false, c.text.drop 16)).1))

/-- HOST_READ: READ_DATA with the bytes, those of P in a poisoned word. -/
def xHostRead (n psn : Nat) (b : Block) : Block :=
  b.contended (fun b => b.hostCommand n psn (· == 2) (fun _ c b =>
    let h := c.head
    if b.power = pwrPark then b.hostError n h 8
    else match b.hostRange h.ctx h.va h.len false with
      | .error k => (b.countHostWalks c.borough h.ctx h.va h.len false).hostFault n h k
      | .ok l =>
        let data := l.flatMap (fun e => (b.readPhys e.1 e.2).1)
        let b := if l.any (fun e => (b.readPhys e.1 e.2).2) then b.consumePoison h.ctx noTicket else b
        (b.countHost c l true).hostAnswer n { h with hop := 3 } data))

/-- HOST_DOORBELL: after an earlier failure it is not delivered. -/
def xHostDoorbell (n psn : Nat) (b : Block) : Block :=
  b.hostCommand n psn (· == 4) (fun x c b =>
    let h := c.head
    let w := ofBE (slice c.text 16 8)
    let ring := b.ring (bits w 63 50)
    if x.failed then b.hostError n h 11
    else if bits ring.cfg.toNat 239 234 != h.ctx then b.hostError n h 10
    else b.doorbellWord w)

def execHsInit (port : Nat) (payload : List Byte) (s : State) : Host.Outcome State Fault Refusal := .next (s.run (xHsInit port payload))
def execSessionTimeout (session : Nat) (s : State) : Host.Outcome State Fault Refusal := .next (s.run (xSessionTimeout session))
def execHostWrite (session psn : Nat) (s : State) : Host.Outcome State Fault Refusal := .next (s.run (xHostWrite session psn))
def execHostRead (session psn : Nat) (s : State) : Host.Outcome State Fault Refusal := .next (s.run (xHostRead session psn))
def execHostDoorbell (session psn : Nat) (s : State) : Host.Outcome State Fault Refusal := .next (s.run (xHostDoorbell session psn))

end Sys2Proof.Machine
end

