-- ==== Sys2Proof/Machine/Boot.lean ====
section
/-! DEFINITION. Boot, Cold and Warm reset, exit from Standby, and the input (R474 to R479, R527 to R529, R539, R543, R553 to R563). -/

namespace Sys2Proof.Machine

/-! ### Milestones (R548) -/

/-- BRINGUP_LOG with a milestone at its place. -/
def Block.milestone (b : Block) (i t : Nat) : Block :=
  let l := padTo 48 0 (b.oct Od.bringupLog 0)
  b.setOct Od.bringupLog 0 (l.take (8 * i) ++ beBytes 8 t ++ l.drop (8 * i + 8))

/-- The Plazas that bring-up checks: those that are not RETIRED (R529). -/
def Block.checkAll (b : Block) : Block :=
  { b with sys := { b.sys with checks := ((List.range 8).filter (fun p => b.plaza p != plRetired)).map (fun p => (p, .bringup)) } }

/-- Plazas whose units keep them out of service are RETIRED (R409). -/
def Block.markRetired (b : Block) : Block := (List.range 8).foldl (fun b p => if b.mustRetire p then b.setPlaza p plRetired else b) b

/-- The outcomes of the trainings of a bring-up and what LAST_RESET will record of it; a Warm reset keeps THERM_N as it stands unless the module was tripped. -/
def Block.bringupSys (b : Block) (boot : BootInputs) (kind cause : Nat) : Block :=
  { b with sys := { b.sys with start := b.dt, kind := kind, cause := cause, hbmOk := boot.hbmTrained, slowOk := boot.slowTrained, edgesOk := boot.edgesTrained, laneFaults := boot.laneFaults, passed := [], hp0Trained := false, tripped := false }, pins := { b.pins with therm := b.pins.therm && kind == 2 && !b.sys.tripped } }

/-- Bring-up begins: no Plaza serves, the memories train, and the Plazas that are not RETIRED are checked (R529). -/
def Block.beginBringup (b : Block) (boot : BootInputs) (kind cause : Nat) : Block :=
  ((((b.bringupSys boot kind cause).setReg Od.moduleService 0 svcManagement).plazasOff.markRetired).memoryState stTraining slTraining).checkAll

/-! ### Images (R476, R478, R497) -/

/-- A pending activation of an image kind switches at a start, if its slot still passes (R478, R495; log entry 56). -/
def Block.startPending (b : Block) (k : Nat) : Block :=
  match (b.kind k).pending with
  | some s =>
    if b.passes k s then (b.setKind k (fun x => b.runSlot k s { x with active := s, trial := true, pending := none, switching := false, since := b.dt, fails := 0 })).raise 0x0700 noCtx []
    else (b.setKind k (fun x => { x with pending := none, switching := false })).raise 0x4702 noCtx []
  | none => b.setKind k (fun x => { x with switching := false })

/-- A failed start on trial is counted, and the third reverts (R497). -/
def Block.countStart (b : Block) (bad : List Nat) (k : Nat) : Block :=
  let x := b.kind k
  if !(x.trial && bad.contains k) then b.setKind k (fun y => { y with fails := 0 })
  else if x.fails + 1 < 3 then b.setKind k (fun y => { y with fails := y.fails + 1 })
  else (b.setKind k (fun y => { y with active := 1 - y.active, trial := false, fails := 0 })).raise 0x4701 noCtx []

/-- An image kind at a start. -/
def Block.startKind (b : Block) (bad : List Nat) (k : Nat) : Block := (b.startPending k).countStart bad k

/-- Chooses the slot that runs: the one asked for, or the other; none passes where the flag is false. -/
def Block.chooseSlot (b : Block) (k : Nat) (alternate : Bool) : Bool × Block :=
  let a := (b.kind k).active
  if alternate && b.passes k (1 - a) then (true, b.setKind k (b.runSlot k (1 - a)))
  else if b.passes k a then (true, b.setKind k (b.runSlot k a))
  else if b.passes k (1 - a) then (true, (b.setKind k (fun x => b.runSlot k (1 - a) { x with active := 1 - a, trial := false })).raise 0x4701 noCtx [])
  else (false, b)

/-! ### What a Power-on or Cold reset leaves (R543) -/

/-- DT at which Walnut serves (R475); the events of the boot carry it. -/
def bootDt : Nat := 146 * 10 ^ 6

/-- Walnut's own state at a boot. -/
def Wal.atBoot (w : Wal) : Wal := { w with refillAt := bootDt, protEvt := 0, tree := max w.tree (w.endOfIndex / 2 ^ 15), draws := w.draws + 1 }

/-- Everything but Saved and Factory storage, the fatal log and what has been sent returns to its reset value; DT restarts at 0, and Walnut serves at `bootDt`. -/
def Block.coldClear (b : Block) : Block :=
  let b := b.keepRegs keepSaved
  { b with
    dt := bootDt, log := [], odp := { Odp.reset with tx := b.odp.tx }, cal := { Cal.reset with ptpAt := b.reg Od.ptpPort 0 }, gov := { Gov.reset with capAt := bootDt }, disp := Disp.reset, plz := Plz.reset,
    se := SeState.reset, mem := Mem.reset, slow := Mem.reset, hbm := { Hbm.reset with spares := b.hbm.spares }, rb := Rb.reset,
    ras := { Ras.reset with observed := b.ras.observed, retired := b.ras.retired, out := b.ras.out, nextSample := b.ras.nextSample },
    emith := { Emith.reset with wire := b.emith.wire, ndTx := b.emith.ndTx, txc := b.emith.txc.map (fun e => (e.1, e.2.resume)) },
    hazel := { Hazel.reset with key := bytesOf 64 (Config.drbg b.wal.draws) }, wal := b.wal.atBoot,
    sys := Sys.reset }

/-- The attestation index of the latest valid record (R482), with what its value brings (R484). -/
def Block.loadIndex (b : Block) : Block :=
  let q := b.wal.endOfIndex
  let b := (b.setReg Od.attIndex 0 q).setReg Od.mramRecordsOk 0 b.wal.usable
  let b : Block := if 2 ^ 25 - q ≤ 1048576 ∧ !b.wal.attLow then ({ b with wal := { b.wal with attLow := true } }).raise 0x4710 noCtx [] else b
  if q ≥ 2 ^ 25 then b.exhaust else b

/-- Straps (R560). -/
def Block.loadStraps (b : Block) (boot : BootInputs) : Block :=
  ((b.setReg Od.strapSlot 0 (boot.strapSlot % 64)).setReg Od.strapBoot 0 (boot.strapBoot % 4)).setReg Od.strapMgmt 0 (if boot.strapMgmt then 1 else 0)

/-- Reconstructions of the device seed until one gives it (R472): four that fail leave no identity to read (R474). -/
def Block.identity (b : Block) (boot : BootInputs) : Block :=
  let failed := boot.pufReads.takeWhile (fun r => (reconstruct r).isNone)
  if failed.length ≥ 4 then
    { (b.setOct Od.deviceId 0 (List.replicate 32 0)).setOct Od.kemEk 0 (List.replicate 1568 0) with wal := { b.wal with seed := [] } }
  else
    let seed := ((boot.pufReads.drop failed.length).head?.bind reconstruct).getD Config.deviceSeed
    { (b.setOct Od.deviceId 0 (octDefault Od.deviceId 0)).setOct Od.kemEk 0 (octDefault Od.kemEk 0) with wal := { b.wal with seed := seed } }

/-- Without a device seed the module retires (R474). -/
def Block.retireUnknown (b : Block) : Block := (b.raise 0xC730 noCtx []).enterRetired 4 0

/-- Walnut serves: DT in FREERUN, outputs enabled (R475, R553). -/
def Block.walnutServes (b : Block) : Block :=
  (({ b with pins := { b.pins with enabled := true } }).raise 0x4403 noCtx []).ptpCheck

/-- The other images start; the kinds without an image that passes are listed (R478). -/
def Block.startOthers (b : Block) (boot : BootInputs) : List Nat × Block :=
  [kHazel, kGovernor, kConfig].foldl (fun (r : List Nat × Block) k =>
    let c := (r.2.startKind boot.badStarts k).chooseSlot k false
    (if c.1 then r.1 else r.1 ++ [k], c.2)) ([], b)

/-- Walnut has started: the module is in Run with its first milestone, and causes of retirement on record are marked (R197, R409, R548). -/
def Block.walnutUp (b : Block) : Block :=
  let b := (b.setReg Od.pwrState 0 pwrRun).raise 0x0112 noCtx []
  (({ b with sys := { b.sys with phase := .up } }).milestone 0 b.dt).markRetired

/-- Bring-up begins, counted from DT 0. -/
def Block.bringup (b : Block) (boot : BootInputs) (kind cause : Nat) : Block :=
  let t := b.dt
  let b := ({ b with dt := 0 }).beginBringup boot kind cause
  ({ b with dt := t }).shedCheck

/-- After Walnut serves: recorded causes of retirement are evaluated, the other images are checked, and bring-up begins (R197, R409, R474, R478). -/
def Block.afterWalnut (b : Block) (boot : BootInputs) (kind cause : Nat) : Block :=
  let b := b.walnutUp
  if b.wal.seed.isEmpty then b.retireUnknown
  else
    let go := b.startOthers boot
    let b := go.2
    let record := b.oct Od.hbmRetireRecord 0
    if !go.1.isEmpty then b.enterRetired 5 (go.1.headD 0)
    else if !record.isEmpty then b.enterRetired 1 (nth 0#8 record 8).toNat
    else if (List.range 8).all (fun p => b.plaza p == plRetired) then b.enterRetired 3 0
    else b.bringup boot kind cause

/-- Walnut's start reads the index records, reconstructs the device seed, loads the straps and counts the boot, over entries and storage that stay (R475). The known-answer tests of the ROM leave nothing behind: R475 names no outcome of theirs. -/
def Block.bootStart (b : Block) (boot : BootInputs) : Block :=
  (((b.coldClear.loadIndex).identity boot).loadStraps boot).bump Od.bootCount 0 1

/-- Recovery (R479). -/
def Block.enterRecovery (b : Block) : Block :=
  let b := b.walnutServes.raise 0xC731 noCtx []
  let b : Block := { b with sys := { b.sys with phase := .recovery } }
  if b.wal.seed.isEmpty then b.retireUnknown else b

/-- Walnut's own image starts: a failed start holds Walnut, and without an image that passes it serves recovery (R478, R479, R497). -/
def Block.startWalnut (b : Block) (boot : BootInputs) (kind : Nat) : Block :=
  let b := b.startKind boot.badStarts kWalnut
  if (b.kind kWalnut).fails ≠ 0 then { b with sys := { b.sys with phase := .held, kind := kind } }
  else
    let c := b.chooseSlot kWalnut (boot.strapBoot % 4 == 2)
    if c.1 then (c.2.walnutServes).afterWalnut boot kind 1 else c.2.enterRecovery

/-- A Power-on or Cold reset runs (R475, R528). -/
def Block.coldBoot (b : Block) (boot : BootInputs) (kind : Nat) : Block :=
  let b := b.bootStart boot
  if boot.strapBoot % 4 = 1 then b.enterRecovery else b.startWalnut boot kind

/-! ### The pins of the input and of reset (R555, R556, R563) -/

/-- Walnut is held: no output is driven and every rail but VWAL is off. -/
def Block.hold (b : Block) (phase : Phase) (kind : Nat) : Block :=
  let b := b.unpower
  { b with pins := { b.pins with enabled := false, alert := false, therm := false, ppsOut := false }, sys := { b.sys with phase := phase, kind := kind } }

/-- POWER_ON: PGOOD rises; with RST_N asserted bring-up waits for its release. -/
def xPowerOn (boot : BootInputs) (b : Block) : Block :=
  if b.pins.pgood then b
  else
    let b : Block := { b with pins := { b.pins with pgood := true, vwal := true } }
    if b.pins.rst then b.hold .held 0 else b.coldBoot boot 0

/-- LOSS_OF_INPUT: PGOOD falls. -/
def xLossOfInput (b : Block) : Block :=
  if !b.pins.pgood then b else ({ b with pins := { b.pins with pgood := false } }).hold .off 0

/-- RST_N_ASSERT. -/
def xRstAssert (b : Block) : Block :=
  let b : Block := { b with pins := { b.pins with rst := true } }
  if b.sys.phase == .off then b else b.hold .held 1

/-- RST_N_RELEASE: a Cold reset runs, or the Power-on reset that waited. -/
def xRstRelease (boot : BootInputs) (b : Block) : Block :=
  if !b.pins.rst then b
  else
    let b : Block := { b with pins := { b.pins with rst := false } }
    if b.pins.pgood then b.coldBoot boot b.sys.kind else b

/-- UNDERVOLTAGE_LOCKOUT: the converter starts at 44 V rising and stops at 42 V falling; without it nothing runs. -/
def xLockout (mv : Nat) (b : Block) : Block :=
  if mv ≥ 44000 then { b with pins := { b.pins with vwal := true } }
  else if mv ≤ 42000 then
    let b : Block := { b with pins := { b.pins with vwal := false } }
    if b.sys.phase == .off then b else b.hold .off 0
  else b

/-! ### Warm reset (R539, R543) -/

/-- A reset, bring-up or check that covers the whole module is in progress (R542). -/
def Block.inBringup (b : Block) : Bool := b.live && b.service != svcFull

/-- Everything but Walnut, DT, the slow tier and its key starts afresh, 10 ms after the response. -/
def Block.warmReset (b : Block) (boot : BootInputs) : Block :=
  let away := b.power != pwrRun
  let b : Block := { b with dt := b.dt + 10 ^ 7 }
  let b := ((b.dropUnits.portsDown).ptpCheck).keepRegs keepWarm
  let b : Block := { b with mem := Mem.reset, hazel := { Hazel.reset with key := b.hazel.key, rules := b.hazel.rules, stages := b.hazel.stages } }
  let b : Block := if away then b.enterPower pwrRun else b
  let b := b.beginBringup boot 2 0
  (b.milestone 0 b.dt).shedCheck

/-- DEVICE_RESET. -/
def xDeviceReset (v : Nat) (boot : BootInputs) (b : Block) : Block :=
  b.onWrite Od.deviceReset false (fun b =>
    if v != 1 then b.answer stRange
    else if b.inBringup then b.answer stWriteRefused
    else (b.answer stOK).warmReset boot)

def execPowerOn (boot : BootInputs) (s : State) : Host.Outcome State Fault Refusal := .next (s.run (xPowerOn boot))
def execLossOfInput (s : State) : Host.Outcome State Fault Refusal := .next (s.run xLossOfInput)
def execRstNAssert (s : State) : Host.Outcome State Fault Refusal := .next (s.run xRstAssert)
def execRstNRelease (boot : BootInputs) (s : State) : Host.Outcome State Fault Refusal := .next (s.run (xRstRelease boot))
def execDeviceReset (value : Nat) (boot : BootInputs) (s : State) : Host.Outcome State Fault Refusal := .next (s.run (xDeviceReset value boot))
/-- Above the absolute maximum that R563 gives for any time, the spec states nothing. -/
def execUndervoltageLockout (millivolts : Nat) (s : State) : Host.Outcome State Fault Refusal :=
  if millivolts > 66000 then .fault .inputAbsoluteMaximum else .next (s.run (xLockout millivolts))

end Sys2Proof.Machine
end

