-- ==== Sys2Proof/Machine/Resets.lean ====
section
/-! DEFINITION. Start checks, Borough resets and Plaza resets (R527, R529, R539 to R543, R545). -/

namespace Sys2Proof.Machine

/-- A completed reset writes LAST_RESET and raises its event (R539). -/
def Block.resetDone (b : Block) (kind unit cause : Nat) : Block := (b.lastReset kind unit cause).raise 0x0113 noCtx []

/-! ### Entries of units (R543) -/

/-- Entries at their defaults for some subindices. -/
def Block.defaultSubs (b : Block) (idxs subs : List Nat) : Block :=
  idxs.foldl (fun b i => subs.foldl (fun b k => b.setReg i k (odDefault i k)) b) b

/-- Counters of a Plaza, its WVU and its S. -/
def plazaCounters : List Nat :=
  [Od.plazaTaskAborts, Od.plazaFeedStallCycles, Od.plazaDrainStallCycles, Od.wvuBusyCycles, Od.wvuNfDetectCount, Od.wvuOrthoDropped,
   Od.shadowSamples, Od.shadowSkipped, Od.shadowDisputes]

/-- Counters of the Terrace, the Dispatcher and the Roundabout slice of a Borough. -/
def boroughCounters : List Nat :=
  [Od.terraceReadBytes, Od.terraceWriteBytes, Od.terraceAddElements, Od.terraceBankStallCycles, Od.terraceRemoteBytes, Od.terraceAccUnordered,
   Od.terraceAccNonfinite, Od.dispTasksCompleted, Od.rbBytesSent, Od.rbBytesReceived]

def engineCounters : List Nat := [Od.seBytesRead, Od.seBytesDelivered, Od.sePrefetchDiscardBytes, Od.seTlbMisses, Od.seAgedGrants]

/-! ### A Plaza's own state -/

/-- Pp, WVUp and S of Pp hold nothing; transfers still queued on its ports belong to the Stream Engines and stay (R541). -/
def Block.emptyPlaza (b : Block) (p : Nat) : Block :=
  let b := b.discardSamples p
  let b : Block := { b with plz := { b.plz with sets := b.plz.sets.filter (fun e => e.1 / 2304 != p), drains := b.plz.drains.filter (fun j => j.plaza != p), queues := b.plz.queues.filter (fun q => q.wvu != p), outs := b.plz.outs.filter (fun o => o.wvu != p), ports := b.plz.ports.filter (fun e => e.port.unit != p || e.status == 0) } }
  b.defaultSubs plazaCounters [p + 1]

/-- A running task of a Plaza or its WVU. -/
def onPlaza (p : Nat) (t : Task) : Bool :=
  t.isRunning && t.unit == p && (opcodeOf t.desc == opMatmul || opcodeOf t.desc == opDist || opcodeOf t.desc == opVector)

/-- Tasks on a Plaza and its WVU abort (R61). -/
def Block.abortOn (b : Block) (p : Nat) : Block :=
  (b.disp.tasks.filter (onPlaza p)).foldl (fun b t => if opcodeOf t.desc = opVector then b.failVector t sAborted else b.abortPlaza t sAborted) b

/-- A Plaza goes OFFLINE for its start check, and its logical Plazas move (R261). -/
def Block.offForCheck (b : Block) (p : Nat) (why : CheckFor) : Block :=
  if b.plaza p = plRetired then b
  else
    let b := (b.noteReasons).leaveService p plOffline
    { b with sys := { b.sys with checks := b.sys.checks.filter (fun c => c.1 != p) ++ [(p, why)] }, ras := { b.ras with leaving := b.ras.leaving.filter (· != p), tests := b.ras.tests.filter (fun x => x.plaza != p || !x.draining) } }

/-! ### START_CHECK_DONE -/

/-- A Plaza with a clean check goes where its reset or hold sends it. -/
def Block.afterCheck (b : Block) (p : Nat) : Block :=
  let b : Block := if b.reg Od.plazaHold (p + 1) != 0 then b.setPlaza p plOffline else b.returnService p
  ((b.setClock p (b.wanted p)).setTarget p (b.wanted p)).nextTest

/-- A Plaza whose units keep it out of service is RETIRED; with the last of them the module retires (R409). -/
def Block.retirePlaza (b : Block) (p : Nat) : Block :=
  let b : Block := { b with ras := { b.ras with leaving := b.ras.leaving.filter (· != p), tests := b.ras.tests.filter (fun x => x.plaza != p) } }
  let b := (b.setPlaza p plRetired).remapAway p
  if (List.range 8).all (fun q => b.plaza q == plRetired) then (b.raise 0xC3AB noCtx []).enterRetired 3 0 else b

/-- The last start check of a Borough reset ends it. -/
def Block.boroughDone (b : Block) (k : Nat) (silent : Bool) : Block :=
  if b.sys.checks.any (fun c => c.1 / 2 == k && (c.2 == .boroughReset true || c.2 == .boroughReset false)) then b
  else b.resetDone 3 k (if silent then 2 else 0)

def xCheckDone (p : Nat) (r : TestResult) (b : Block) : Block :=
  match b.sys.checks.find? (fun c => c.1 == p) with
  | none => b
  | some c =>
    if !b.live then b
    else
      let b : Block := { b with sys := { b.sys with checks := b.sys.checks.filter (fun x => x.1 != p) } }
      let b : Block := if c.2 = .bringup then r.failed.foldl (fun b _ => b.raise 0x4114 noCtx []) b else b
      let b := b.judge r
      let out := b.mustRetire p
      let b : Block := if out then b.retirePlaza p else b
      if !b.live then b
      else match c.2 with
        | .bringup => if out then b else { b.setPlaza p plOffline with sys := { b.sys with passed := b.sys.passed ++ [p] } }
        | .boroughReset silent => (if out then b else b.afterCheck p).boroughDone (p / 2) silent
        | .plazaReset => (if out then b else b.afterCheck p).resetDone 4 p 0
        | .hold => if out then b else b.afterCheck p

/-! ### Borough reset (R540) -/

/-- The Borough of the unit that a running task was issued to; none for Hazel's tasks. -/
def unitBorough (t : Task) : Option Nat :=
  let o := opcodeOf t.desc
  if !t.isRunning then none
  else if o = opMatmul ∨ o = opDist ∨ o = opVector then some (t.unit / 2)
  else if o = opXfer then some (t.unit / 4)
  else if o = opCollective ∨ o = opNormClose then some t.unit
  else if o = opFence ∨ o = opEvent then some (homeOf t.ring)
  else none

/-- Contexts that a Borough reset resets. -/
def Block.boroughCtxs (b : Block) (k : Nat) : List Nat :=
  (List.range 64).filter (fun c => b.disp.tasks.any (fun t => t.ctx == c && (homeOf t.ring == k || unitBorough t == some k))
    || b.rb.cfgs.any (fun e => (cohortOf e.2).enabled && (cohortOf e.2).ctx == c))

/-- Ports and connections of a Borough go. -/
def Block.boroughLinks (b : Block) (k : Nat) : Block :=
  let b := (List.range 4).foldl (fun b n => b.setReg Od.fabPortState (4 * k + n + 1) ptDown) b
  let b := (b.defaultSubs [Od.fabRxDiscards] ((List.range 4).map (fun n => 4 * k + n + 1))).defaultSubs [Od.fabLaneSer] ((List.range 16).map (fun n => 16 * k + n + 1))
  let b : Block := if k = 0 then b.setReg Od.hostPortState 1 ptDown else if k = 3 then b.setReg Od.hostPortState 2 ptDown else b
  let mine := fun (p : Nat) => p / 4 == k || (k == 0 && p == 32) || (k == 3 && p == 33)
  let b : Block := { b with emith := { b.emith with repairs := b.emith.repairs.filter (fun r => !mine r.port), tx := b.emith.tx.filter (fun c => c.key.slice != k), rx := b.emith.rx.filter (fun c => c.key.slice != k) }, rb := { b.rb with rx := b.rb.rx.filter (fun p => p.slice != k), tx := b.rb.tx.filter (fun p => p.slice != k) } }
  (b.ptpCheck).nextRepairs

/-- Everything else on a Borough: Terrace, engines, learned profile, and for B0 the norm kernel. -/
def Block.boroughUnits (b : Block) (k : Nat) : Block :=
  let lo := terraceBase + k * terraceSize
  let b := (b.defaultSubs boroughCounters [k + 1]).defaultSubs engineCounters ((List.range 4).map (fun e => 4 * k + e + 1))
  let b := b.forgetProfile
  { b with
    mem := b.mem.clear lo (lo + terraceSize),
    se := { b.se with tlb := b.se.tlb.filter (fun (e : TlbEntry) => e.engine / 4 != k), streams := b.se.streams.filter (fun s => s.engine / 4 != k) },
    rb := if k = 0 then { b.rb with sums := [] } else b.rb }

/-- A Borough reset of Bk, up to its start checks. -/
def Block.boroughReset (b : Block) (k : Nat) (silent : Bool) : Block :=
  let b := (b.boroughCtxs k).foldl (fun b c => b.resetCtx c) b
  let b := [2 * k, 2 * k + 1].foldl (fun b p => ((b.abortOn p).emptyPlaza p).offForCheck p (.boroughReset silent)) b
  ((b.boroughUnits k).boroughLinks k).boroughDone k silent

/-- A Borough reset of Bk is in progress. -/
def Block.boroughBusy (b : Block) (k : Nat) : Bool := b.sys.checks.any (fun c => c.1 / 2 == k && (c.2 == .boroughReset true || c.2 == .boroughReset false))

/-- BOROUGH_RESET. -/
def xBoroughReset (k : Nat) (b : Block) : Block :=
  b.onWrite Od.boroughReset false (fun b =>
    if k > 3 then b.answer stRange
    else if !b.live || b.service != svcFull || b.boroughBusy k then b.answer stWriteRefused
    else (b.answer stOK).boroughReset k false)

/-- BOROUGH_SILENCE. -/
def xBoroughSilence (k : Nat) (b : Block) : Block :=
  if !b.live || b.walnutBusy || b.service != svcFull || b.boroughBusy k then b else b.boroughReset k true

/-! ### Plaza reset (R541) -/

/-- PLAZA_RESET. -/
def xPlazaReset (p : Nat) (b : Block) : Block :=
  b.onWrite Od.plazaReset false (fun b =>
    if p > 7 then b.answer stRange
    else if !b.live || b.service != svcFull || b.plaza p == plRetired || b.sys.checks.any (fun c => c.1 == p) then b.answer stWriteRefused
    else
      let b := b.answer stOK
      let b : Block := if b.plaza p = plTesting then b.abandonTest p else b
      ((b.abortOn p).emptyPlaza p).offForCheck p .plazaReset)

def execStartCheckDone (plaza : Nat) (result : TestResult) (s : State) : Host.Outcome State Fault Refusal := .next (s.run (xCheckDone plaza result))
def execBoroughReset (value : Nat) (s : State) : Host.Outcome State Fault Refusal := .next (s.run (xBoroughReset value))
def execBoroughSilence (borough : Nat) (s : State) : Host.Outcome State Fault Refusal := .next (s.run (xBoroughSilence borough))
def execPlazaReset (value : Nat) (s : State) : Host.Outcome State Fault Refusal := .next (s.run (xPlazaReset value))

end Sys2Proof.Machine
end

