-- ==== Sys2Proof/Machine/Power.lean ====
section
/-! DEFINITION. Service levels and power states (R529 to R537, R542). -/

namespace Sys2Proof.Machine

/-! ### Service levels (R530 to R533) -/

/-- Start checks of bring-up that are still to end. -/
def Block.checking (b : Block) (ps : List Nat) : Bool := b.sys.checks.any (fun c => c.2 == .bringup && ps.contains c.1)

/-- P0 or P1 has passed its start check. -/
def Block.limitedPlaza (b : Block) : Bool := b.sys.passed.contains 0 || b.sys.passed.contains 1

/-- The module passes through LIMITED (R530). -/
def Block.usesLimited (b : Block) : Bool := b.reg Od.limitedEnable 0 == 1 && b.limitedPlaza

/-- SERVICE_LIMITED: rail ramps, and with them the phase, wait while the module is shed (R542). -/
def xServiceLimited (b : Block) : Block :=
  if !b.live || b.service != svcManagement || b.gov.shed || !b.usesLimited || b.checking [0, 1] || !b.sys.hp0Trained then b
  else
    let b := (b.reach (b.phaseAt 600 340)).setReg Od.moduleService 0 svcLimited
    let ps := [0, 1].filter b.sys.passed.contains
    let b := ps.foldl (fun b p =>
      let b := b.setPlaza p plLimited
      (b.setClock p (b.wanted p)).setTarget p (b.wanted p)) b
    let b := (List.range 8).foldl (fun b p => b.setReg Od.dispPlazaMap (p + 1) (if ps.contains (p % 2) then p % 2 else 1 - p % 2)) b
    let b : Block := { b with disp := { b.disp with maps := [] } }
    (b.milestone 1 b.dt).raise 0x0110 noCtx []

/-- The Plaza map at full service: the identity, with substitutes for Plazas out of service (R261, R533). -/
def Block.fullMap (b : Block) : List Nat := (List.range 8).map (fun p => if b.plaza p = plInService then p else (b.substitute p).getD p)

/-- The first tests and observation tests are placed (R410, R415). -/
def Block.placeTests (b : Block) : Block :=
  let b := (List.range 8).foldl (fun b p => b.setReg Od.iftNextDue (p + 1) (b.dt + b.reg Od.iftPeriodH 0 * hour * (p + 1) / 8)) b
  { b with ras := { b.ras with observed := b.ras.observed.map (fun (o : Obs) => { o with due := b.dt + hour }) } }

/-- Die-to-die edges whose training failed (R529). -/
def Block.edgesFailed (b : Block) : List Nat := (List.range 4).filter (fun e => !(nth true b.sys.edgesOk e))

/-- BRINGUP_LOG with the milestones of the memories and the edges that have been reached by now (R548). -/
def Block.reached (b : Block) : Block :=
  let b := if b.slowTier = slInService then b.milestone 2 (b.phaseAt b.slowReadyMs 220) else b
  let b := if b.trained b.edgesFailed.isEmpty 1720 1020 then b.milestone 3 (b.phaseAt 1720 1020) else b
  if (List.range 8).all (fun k => b.stackState k == stInService) then b.milestone 4 (b.phaseAt 5790 4890) else b

/-- A Plaza that has passed its start check is in service, or goes OFFLINE where it is held, once it holds no task (R529, R533, R545). -/
def Block.toService (b : Block) (p : Nat) : Block :=
  if b.reg Od.plazaHold (p + 1) = 0 then b.setPlaza p plInService
  else if b.plazaBusy p then { b.setPlaza p plDraining with ras := { b.ras with leaving := b.ras.leaving ++ [p] } }
  else b.setPlaza p plOffline

/-- The Switch phase (R533). -/
def Block.switchFull (b : Block) : Block :=
  let b := b.sys.passed.foldl Block.toService b
  let b := (b.setReg Od.moduleService 0 svcFull).memoryState stInService slInService
  let b := b.setMap b.fullMap
  let b := b.sys.passed.foldl (fun b p =>
    let b := b.riseTick p
    if b.plazaActive p then b.replan p else (b.setClock p (b.wanted p)).setTarget p (b.wanted p)) b
  let b : Block := { b.placeTests with hbm := { b.hbm with nextPc := 0, nextAt := b.dt + 1 } }
  let b := (((b.milestone 2 (b.phaseAt b.slowReadyMs 220)).milestone 3 (b.phaseAt 1720 1020)).milestone 4 (b.phaseAt 5790 4890)).milestone 5 b.dt
  let b := b.raise 0x0111 noCtx []
  if b.sys.kind = 5 then b.lastReset 5 0 0 else b.resetDone b.sys.kind 0 b.sys.cause

/-- SERVICE_FULL: a training that failed retires the module in its place, each failed unit with its event (R196, R387, R529). The record of several stacks that fail at one bring-up names the last, RETIRE_CAUSE the first; for each its first pseudo-channel and cause 0 (log entry 58). -/
def xServiceFull (b : Block) : Block :=
  if !b.live || b.service == svcFull || b.gov.shed then b
  else if !b.sys.slowOk then ((b.reach (b.phaseAt 1520 220)).reached.raise 0x4114 noCtx []).loseSlow 0
  else if !b.edgesFailed.isEmpty then
    (b.edgesFailed.foldl (fun b _ => b.raise 0x4114 noCtx []) (b.reach (b.phaseAt 1720 1020)).reached).enterRetired 6 (b.edgesFailed.headD 0)
  else if (b.service == svcManagement && b.usesLimited) || b.checking (List.range 8) then b
  else
    let b := (b.reach (b.phaseAt 2240 1340)).laneTested
    match (List.range 8).filter (fun k => !(nth true b.sys.hbmOk k)) with
    | k :: r => ((k :: r).foldl (fun b k => (b.raise 0x4114 noCtx []).markLost k (32 * k) 0) (b.reach (b.phaseAt 5790 4890)).reached).enterRetired 1 k
    | [] => (b.reach (b.phaseAt 5820 4920)).switchFull.shedCheck

/-! ### Park, Standby and Run (R536, R537) -/

/-- May the module enter Park or Standby from Run or Idle? -/
def Block.mayPark (b : Block) : Bool :=
  b.service == svcFull && (b.power == pwrRun || b.power == pwrIdle) && b.disp.tasks.isEmpty

/-- The write-combining buffers are written out (R198). -/
def Block.flushWcb (b : Block) : Block :=
  let b := b.hbm.wcb.foldl (fun b l => b.bump Od.hbmWcbRmwCount (l.pc / 32 + 1) 1) b
  { b with hbm := { b.hbm with wcb := [] } }

/-- PARK_REQUEST: a test in progress runs to its end. -/
def xPark (b : Block) : Block :=
  b.onWrite Od.pwrStateReq false (fun b =>
    if !b.mayPark then b.answer stWriteRefused
    else
      let b := b.answer stOK
      let b := (b.flushWcb.memoryState stSelfRefresh slSelfRefresh).enterPower pwrPark
      b.shedCheck)

/-- STANDBY_REQUEST. -/
def xStandby (b : Block) : Block :=
  b.onWrite Od.pwrStateReq false (fun b =>
    if !(b.mayPark || b.power == pwrPark) then b.answer stWriteRefused
    else ((b.answer stOK).shedStop).enterStandby)

/-- Exit from Park: every pseudo-channel is retrained, which opens no window (R190); tests whose window has passed fall due again (R192, R542). -/
def Block.leavePark (b : Block) : Block :=
  let late := fun (x : Test) => !x.draining && decide (x.due + b.windowOf x < b.dt)
  let b : Block := { b with ras := { b.ras with tests := b.ras.tests.map (fun (x : Test) => if late x then { x with due := b.dt } else x) }, hbm := { b.hbm with nextAt := b.dt + 1 } }
  (((b.memoryState stInService slInService).enterPower pwrRun).nextTest).shedCheck

/-- Exit from Standby: bring-up from the power of B0, with a new key of the slow tier (R350, R493, R528, R537). -/
def Block.leaveStandby (b : Block) (boot : BootInputs) : Block :=
  let b : Block := { b with hazel := { b.hazel with key := bytesOf 64 (Config.drbg b.wal.draws) }, wal := { b.wal with draws := b.wal.draws + 1 } }
  let b := (b.enterPower pwrRun).beginBringup boot 5 0
  (b.milestone 0 b.dt).shedCheck

/-- The exit from Standby is in progress until full service (R537, R542). -/
def Block.exitingStandby (b : Block) : Bool := b.live && b.sys.kind == 5 && b.service != svcFull

/-- RUN_REQUEST. -/
def xRun (boot : BootInputs) (b : Block) : Block :=
  b.onWrite Od.pwrStateReq false (fun b =>
    if b.power = pwrPark then (b.answer stOK).leavePark
    else if b.power = pwrStandby then (b.answer stOK).leaveStandby boot
    else b.answer (if b.exitingStandby then stWriteRefused else stOK))

/-- IDLE_ENTRY: PWR_IDLE_MS after the last ticket, root computation and test (R535). -/
def xIdle (b : Block) : Block :=
  if !b.live || b.power != pwrRun || b.service != svcFull || b.gov.shed || b.busy then b
  else (b.reach (b.sys.busyAt + b.reg Od.pwrIdleMs 0 * 10 ^ 6)).enterPower pwrIdle

def execServiceLimited (s : State) : Host.Outcome State Fault Refusal := .next (s.run xServiceLimited)
def execServiceFull (s : State) : Host.Outcome State Fault Refusal := .next (s.run xServiceFull)
def execRunRequest (boot : BootInputs) (s : State) : Host.Outcome State Fault Refusal := .next (s.run (xRun boot))
def execParkRequest (s : State) : Host.Outcome State Fault Refusal := .next (s.run xPark)
def execStandbyRequest (s : State) : Host.Outcome State Fault Refusal := .next (s.run xStandby)
def execIdleEntry (s : State) : Host.Outcome State Fault Refusal := .next (s.run xIdle)

end Sys2Proof.Machine
end

