-- ==== Sys2Proof/Machine/OdView.lean ====
section
/-! DEFINITION. What each entry of the object dictionary reads as (R15, R16, R63, R91, R115, R146, R168, R200, R235, R272, R310, R340, R388, R416, R436, R470, R498, R507, R508, R525, R548). -/

namespace Sys2Proof.Machine

/-! ### Clocks (R438, R460, R470, R534) -/

/-- The clocks of the Plazas run: in Run, outside shedding. -/
def Block.clocksRun (b : Block) : Bool := b.live && b.power == pwrRun && !b.gov.shed && b.service != svcManagement

/-- A clock in a domain with an active droop event runs at half rate (R440, R455). -/
def stretched (droop : Bool) (f : Nat) : Nat := if droop then f / 2 else f

/-- PLAZA_CLOCK_MHZ. -/
def Block.plazaClockNow (b : Block) (p : Nat) : Nat :=
  if b.clocksRun && (b.plazaRuns p || b.plaza p == plTesting) then stretched (b.drooping p) (b.clockOf p) else 0

/-- The fallback of a Borough without a Plaza in service, under the current and droop ceilings of its Plazas. -/
def Block.fallbackClock (b : Block) (k : Nat) : Nat :=
  let c := [b.ceil (2 * k), b.ceil (2 * k + 1)]
  let f := (c.map (fun x => min x.current x.storm)).foldl min 1700
  if f = 1700 then 1700 else toGrid f

/-- The clock of a Borough's logic before its own stretching (R438, R460, R534). -/
def Block.boroughClock (b : Block) (k : Nat) : Nat :=
  if !b.live || b.boroughDown k || b.gov.shed || b.power == pwrPark then 0
  else if b.power = pwrIdle then 500
  else
    match ([2 * k, 2 * k + 1].filter b.plazaRuns).map b.plazaClockNow with
    | [] => b.fallbackClock k
    | f :: r => r.foldl max f

/-- BOROUGH_CLOCK_MHZ: the Borough's droop detectors stretch it (R438, R455). -/
def Block.boroughClockNow (b : Block) (k : Nat) : Nat := stretched (nth false b.gov.droop (8 + k)) (b.boroughClock k)

/-! ### Numbers that the state gives -/

/-- DT_ERROR_BOUND_NS (R422): in HOLDOVER it grows by 100 ns for each second since the last measurement. -/
def Block.errorBound (b : Block) : Nat :=
  if b.reg Od.timeState 0 = tsHoldover then b.cal.e0 + ceilDiv (100 * (b.dt - b.cal.lastMeas)) (10 ^ 9) else b.reg Od.dtErrorBoundNs 0

/-- Connections of a slice: sending ones in the upper half. -/
def Block.connCount (b : Block) (k : Nat) : Nat :=
  at' 16 ((b.emith.tx.filter (fun c => c.key.slice == k)).length) + (b.emith.rx.filter (fun c => c.key.slice == k)).length

/-- A number entry as a client reads it. -/
def Block.odNumber (b : Block) (cl : Client) (idx sub : Nat) : Nat :=
  let k := sub - 1
  let mine := fun (f : OdpClient → Nat) => ((b.client? cl).map f).getD 0
  if idx = Od.eventOldestSeq then b.oldestSeq
  else if idx = Od.dtNow then b.dt
  else if idx = Od.dtErrorBoundNs then b.errorBound
  else if idx = Od.hbmStackState then b.stackState k
  else if idx = Od.slowState then b.slowTier
  else if idx = Od.slowTierGib then b.part.gib
  else if idx = Od.calPending then b.cal.events.length
  else if idx = Od.plazaClockMhz then b.plazaClockNow k
  else if idx = Od.pwrCapEffective then b.capNow / 10 ^ 6
  else if idx = Od.throttleNow then b.throttleBits
  else if idx = Od.boroughClockMhz then b.boroughClockNow k
  else if idx = Od.ctxTickets then (b.ctxTasks k).length
  else if idx = Od.dispTicketsUsed then (b.boroughTasks k).length
  else if idx = Od.seActiveXfers then b.engineLoad k
  else if idx = Od.ctxTaintEntries then (b.se.taints.filter (fun t => t.ctx == k)).length
  else if idx = Od.rbActive then (b.runningOn opCollective k).length
  else if idx = Od.emithConns then b.connCount k
  else if idx = Od.hostSessions then (b.emith.sessions.map (fun s => 2 ^ (s.num - 1))).sum
  else if idx = Od.attRemaining then (if b.wal.attExhausted then 0 else 2 ^ 25 - b.reg Od.attIndex 0)
  else if idx = Od.dispRingSelect then mine (·.ringSel)
  else if idx = Od.rbCohortSelect then mine (·.cohortSel)
  else if idx = Od.dispTokenSelect then b.tokenSel cl
  else if idx = Od.dispTokenValue then b.token (b.tokenSel cl)
  else b.reg idx sub

/-! ### Records -/

/-- An event record in its 32 bytes (R515). -/
def EventRec.bytes (r : EventRec) : List Byte :=
  beBytes 4 r.seq ++ beBytes 2 r.code ++ beBytes 1 r.ctx ++ [0] ++ beBytes 8 r.dt ++ (padTo 16 0 r.arg).take 16

/-- The 48 bytes of DISP_RING_STATUS (R272). -/
def Block.ringStatus (b : Block) (k : Nat) : List Byte :=
  let r := b.ring k
  let st := match r.state with
    | .disabled => 0
    | .active => 1
    | .halted => 2
  beBytes 32 r.cfg.toNat ++ beBytes 1 st ++ beBytes 1 (if b.isHeld k then (b.holdOf k).reason else 0) ++ beBytes 1 r.reason ++ [0] ++ beBytes 2 r.producer ++ beBytes 2 r.fetch
    ++ beBytes 8 r.failVA

/-- A parcel of a cohort slot that no task of this member takes yet (R296). -/
def Block.early (b : Block) (slot : Nat) (p : Parcel) : Bool :=
  (b.cohort slot).owns p
    && !(if closeKind p.head.kind then b.rb.closes.any (fun c => c.slot == slot && c.step % 2 == p.head.sp)
      else b.rb.colls.any (fun c => c.slot == slot && c.seq == p.head.seq && c.step % 2 == p.head.sp))

/-- The 40 bytes of RB_COHORT_STATUS (R310). -/
def Block.cohortStatus (b : Block) (slot : Nat) : List Byte :=
  let active := (b.rb.colls.filter (·.slot == slot)).length + (b.rb.closes.filter (·.slot == slot)).length
  beBytes 32 (sget 0 b.rb.cfgs slot).toNat ++ beBytes 2 active ++ beBytes 2 (b.rb.rx.filter (b.early slot)).length ++ List.replicate 4 0

/-- The 8 bytes of CTX_GATE_STATE (R416). -/
def Gate.bytes (g : Gate) : List Byte :=
  beBytes 2 g.open0 ++ beBytes 2 g.open1
    ++ beBytes 1 ((if g.disp0 then 1 else 0) + (if g.disp1 then 2 else 0) + (if g.read then 4 else 0)) ++ List.replicate 3 0

/-- A record of RAS_OBSERVED (R416). -/
def Obs.bytes (o : Obs) : List Byte := beBytes 2 o.unit ++ beBytes 1 o.cause ++ [0] ++ beBytes 2 o.passed ++ [0, 0] ++ beBytes 8 o.since

/-- The 24 bytes of FW_SLOT_STATE (R498). -/
def Block.slotState (b : Block) (k : Nat) : List Byte :=
  let x := b.kind k
  let flag := fun (c : Bool) => beBytes 1 (if c then 1 else 0)
  beBytes 1 x.active ++ flag x.trial ++ flag x.pending.isSome ++ beBytes 1 x.fails
    ++ beBytes 4 (imgSvn (b.image k 0)) ++ beBytes 4 (imgSvn (b.image k 1)) ++ beBytes 4 (imgVersion (b.image k 0))
    ++ beBytes 4 (imgVersion (b.image k 1)) ++ List.replicate 4 0

/-- A record of ODP_CLIENTS (R525). -/
def OdpClient.bytes (c : OdpClient) : List Byte :=
  beBytes 16 c.id.addr ++ beBytes 2 c.id.port ++ beBytes 1 ((c.events.map (·.mask)).getD 0) ++ beBytes 1 c.streams.length
    ++ beBytes 4 (c.last / 10 ^ 6)

/-- An entry of no fixed length as a client reads it. -/
def Block.odOctets (b : Block) (cl : Client) (idx sub : Nat) : List Byte :=
  let k := sub - 1
  if idx = Od.eventLog then b.log.flatMap EventRec.bytes
  else if idx = Od.fatalLog then b.fatal.flatMap EventRec.bytes
  else if idx = Od.odpClients then b.odp.clients.flatMap OdpClient.bytes
  else if idx = Od.dispRingStatus then b.ringStatus (((b.client? cl).map (·.ringSel)).getD 0)
  else if idx = Od.rbCohortStatus then b.cohortStatus (((b.client? cl).map (·.cohortSel)).getD 0)
  else if idx = Od.partNumber then b.part.name
  else if idx = Od.bringupLog then (if b.inBringup then b.reached else b).oct idx sub
  else if idx = Od.ctxGateState then (b.gate k).bytes
  else if idx = Od.rasObserved then b.ras.observed.flatMap Obs.bytes
  else if idx = Od.rasRetired then b.ras.retired.flatMap (beBytes 2)
  else if idx = Od.fwSlotState then b.slotState sub
  else if idx = Od.powerStream then b.gov.power
  else if idx = Od.railStream then b.gov.rail
  else b.oct idx sub

/-- The bytes that an entry's subindex reads as (R507). -/
def Block.odValue (b : Block) (cl : Client) (e : OdEntry) (sub : Nat) : List Byte :=
  if e.ty.width = 0 then b.odOctets cl e.idx sub else beBytes (e.ty.width / 8) (b.odNumber cl e.idx sub)

/-- What a subindex is: one of a row's, or the count of R508. -/
inductive OdItem where
  | entry (e : OdEntry)
  | count (n : Nat)
  deriving DecidableEq, Repr

/-- The subindex of an index; none where the dictionary has none (R508, R526). -/
def odItem (idx sub : Nat) : Option OdItem :=
  match odFind idx sub with
  | some e => some (.entry e)
  | none => if sub = 0 then (odCount idx).map .count else none

/-- Has a subindex a type of fixed length (R508)? -/
def OdItem.fixed : OdItem → Bool
  | .entry e => e.ty.width != 0
  | .count _ => true

/-- The width in bytes of a subindex of fixed length. -/
def OdItem.size : OdItem → Nat
  | .entry e => e.ty.width / 8
  | .count _ => 1

end Sys2Proof.Machine
end

