-- ==== Sys2Proof/Machine/OdWrite.lean ====
section
/-! DEFINITION. Writes of the object dictionary: checks, refusals and effects of each entry (R12, R91, R235, R255, R271, R310, R340, R351, R356, R396, R416, R434, R436, R452, R470, R505 to R512, R525, R532). -/

namespace Sys2Proof.Machine

/-! ### Refusals of an entry's own rule -/

/-- Entries of a context, which R271 closes while it is RESETTING. -/
def contextEntries : List Nat :=
  [Od.ctxRoundSeed, Od.ctxRoundStep, Od.ctxTtRoot, Od.ctxTokenBase, Od.ctxTokenCount, Od.ctxStepRelease, Od.hazelStep, Od.hazelAdopt,
   Od.hazelSkewResolve, Od.hazelRegion, Od.paceMode]

/-- WRITE_REFUSED where a condition holds. -/
def refusedIf (c : Bool) : Nat := if c then stWriteRefused else stOK

/-- RANGE where a condition fails. -/
def inRangeIf (c : Bool) : Nat := if c then stOK else stRange

/-- The first status that is not OK. -/
def firstRefusal : List Nat → Nat
  | [] => stOK
  | s :: r => if s = stOK then firstRefusal r else s

/-- Does a token range extend beyond the tokens or meet another context's (R255)? -/
def Block.tokenClash (b : Block) (c base n : Nat) : Bool :=
  n != 0 && (decide (base + n > 65536)
    || (List.range 64).any (fun o =>
      let lo := b.reg Od.ctxTokenBase (o + 1)
      let m := b.reg Od.ctxTokenCount (o + 1)
      o != c && m != 0 && decide (base < lo + m) && decide (lo < base + n)))

/-- May a first-level table lie at an address (R235, R532)? -/
def Block.rootFits (b : Block) (a : Nat) : Bool :=
  let lo := if b.service = svcLimited then terraceBase else 0
  let hi := if b.service = svcLimited then terraceBase + terraceSize else hbmSize
  a % 2 ^ 17 == 0 && decide (lo ≤ a) && decide (a + 2 ^ 17 ≤ hi)

/-- Size of a Terrace and of its capture region (R149, R396). -/
def captureSize : Nat := 2 ^ 26

/-- A receive window that R310 refuses on slice `k`. -/
def Block.badWindow (b : Block) (k off n : Nat) : Bool :=
  let cap := b.reg Od.shadowCaptureOffset (k + 1)
  let cohorts := (b.rb.cfgs.filter (fun e => (cohortOf e.2).enabled)).length
  !(b.runningOn opCollective k).isEmpty || decide (n / 4096 < 32 * cohorts) || overlaps (off, off + n) (cap, cap + captureSize)
    || decide (off + n > terraceSize)

/-- A capture region that R396 refuses on Terrace `k`, but for its alignment and its window. -/
def Block.badCapture (b : Block) (k off : Nat) : Bool :=
  let lo := b.reg Od.rbRecvOffset (k + 1)
  overlaps (off, off + captureSize) (lo, lo + b.reg Od.rbRecvSize (k + 1)) || b.ras.samples.any (fun s => s.plaza / 2 == k && s.stage != 3)

/-- A region that R351 refuses: base and size in units of 2 MiB. -/
def Block.badRegion (b : Block) (c : Nat) (v : List Byte) : Bool :=
  let lo := ofBE (v.take 8) * 2 ^ 21
  let n := ofBE ((v.drop 8).take 8) * 2 ^ 21
  b.ctxBusy c || (n != 0 && (decide (lo < slowReserved) || decide (lo + n > b.slowCapacity)
    || (List.range 64).any (fun o => o != c && (b.region o).2 != 0 && overlaps (lo, lo + n) ((b.region o).1, (b.region o).1 + (b.region o).2))))

/-- A rule slot that R356 refuses. -/
def badRule (u : Rule) : Bool :=
  u.reserved || decide (u.wfmt > 1) || decide (u.mom > 2) || decide (u.second > 5) || decide (u.dir > 2)
    || (u.dir == 1 && (u.second == 0 || u.second == 5))
    || (u.second == 5 && (u.dir != 0 || u.every == 0 || u.niter == 0 || u.lag == 0 || decide (u.lag > u.every)))
    || ((u.second == 3 || u.second == 4 || u.second == 5) && u.wdC != 0)
    || (u.bias && ((u.mom != 0 && u.b1 == one32) || (decide (1 ≤ u.second) && decide (u.second ≤ 4) && u.b2 == one32)))
    || [u.b1, u.a1, u.b2, u.a2, u.eps, u.eps1, u.wdC, u.wdD, u.bs, u.as_].any isNonFinite

/-- An IPv4 address in the 16 bytes of MGMT_IP (R525). -/
def isV4 (ip : List Byte) : Bool := (ip.take 12).all (· == 0) && !ip.all (· == 0)

/-- A port code of R436 other than none. -/
def portCode (n : Nat) : Bool := decide (n < 16) || (decide (32 ≤ n) && decide (n ≤ 34))

/-- A cohort slot is enabled. -/
def Block.anyCohort (b : Block) : Bool := b.rb.cfgs.any (fun e => (cohortOf e.2).enabled)

/-- The status with which an entry's own rule answers a value of a fitting length (R506). -/
def Block.ownRefusal (b : Block) (idx sub : Nat) (v : List Byte) : Nat :=
  let n := ofBE v
  let k := sub - 1
  if contextEntries.contains idx && b.resetting k then stWriteRefused
  else if idx = Od.ctxRoundSeed ∨ idx = Od.ctxRoundStep ∨ idx = Od.hazelStep then refusedIf (b.ctxBusy k)
  else if idx = Od.ctxTtRoot then firstRefusal [refusedIf (b.service == svcManagement || b.ctxBusy k), inRangeIf (b.rootFits n)]
  else if idx = Od.ctxTokenBase then refusedIf (b.ctxBusy k || b.tokenClash k n (b.reg Od.ctxTokenCount sub))
  else if idx = Od.ctxTokenCount then refusedIf (b.ctxBusy k || b.tokenClash k (b.reg Od.ctxTokenBase sub) n)
  else if idx = Od.rbRecvOffset then firstRefusal [inRangeIf (n % 2 ^ 21 == 0), refusedIf (b.badWindow k n (b.reg Od.rbRecvSize sub))]
  else if idx = Od.rbRecvSize then refusedIf (b.badWindow k (b.reg Od.rbRecvOffset sub) n)
  else if idx = Od.shadowCaptureOffset then
    firstRefusal [inRangeIf (n % 2 ^ 21 == 0 && decide (n + captureSize ≤ terraceSize)), refusedIf (b.badCapture k n)]
  else if idx = Od.emithTxKeySlot then refusedIf (b.trafficKey n).isEmpty
  else if idx = Od.hazelRuleSlot then refusedIf (badRule (ruleOf (BitVec.ofNat 512 n)))
  else if idx = Od.hazelRegion then refusedIf (b.badRegion k v)
  else if idx = Od.ctxStepRelease then inRangeIf (decide (ofBE ((v.drop 8).take 4) ≤ 3600000000))
  else if idx = Od.ptpPort then inRangeIf (portCode n)
  else if idx = Od.ptpPortAlt then inRangeIf (portCode n || n == 255)
  else if idx = Od.pgovLearnCtx then inRangeIf (decide (n < 64) || n == 255)
  else if idx = Od.mgmtPrefixLen then inRangeIf (decide (n ≤ 32) || !isV4 (b.oct Od.mgmtIp 0))
  else if idx = Od.mgmtHostVid then refusedIf (n != 0 && n == vidOf (b.reg Od.hostVlan 0))
  else if idx = Od.deviceIndex then refusedIf (b.reg Od.emithKeyInstalled 0 != 0 || !b.disp.tasks.isEmpty || b.anyCohort)
  else if idx = Od.mgmtClientFilter then (if v.length % 17 = 0 ∧ v.length ≤ 136 then stOK else stLength)
  else stOK

/-! ### Lengths and ranges (R506, R507) -/

/-- Does a value have the length of its entry's type? An empty HOST_KEY slot is an empty value. -/
def fitsLength (e : OdEntry) (v : List Byte) : Bool :=
  if e.ty.width != 0 then v.length * 8 == e.ty.width
  else if e.idx = Od.dispRingConfig ∨ e.idx = Od.rbCohortConfig then v.length == 32
  else e.len == 0 || v.length == e.len || (e.idx == Od.hostKey && v.isEmpty)

/-- Does a number lie in the range of its entry? -/
def fitsRange (e : OdEntry) (v : List Byte) : Bool := e.ty.width == 0 || (decide (e.rmin ≤ ofBE v) && decide (ofBE v ≤ e.rmax))

/-! ### Effects -/

/-- A value with its reserved fields at 0 (R12). -/
def keptValue (idx : Nat) (v : List Byte) : List Byte :=
  if idx = Od.fabVlan ∨ idx = Od.hostVlan then beBytes 2 (ofBE v &&& 0xEFFF)
  else if idx = Od.emithDscp then beBytes 2 (ofBE v &&& 0x3F3F)
  else if idx = Od.ctxStepRelease then v.take 12 ++ List.replicate 4 0
  else v

/-- Changes what Walnut keeps of a client. -/
def Block.setClient (b : Block) (c : Client) (f : OdpClient → OdpClient) : Block :=
  { b with odp := { b.odp with clients := b.odp.clients.map (fun x => if Client.same x.id c then f x else x) } }

/-- CTX_TT_ROOT written: the context becomes or ceases to be a limited one (R532). -/
def Block.rootWritten (b : Block) (c : Nat) : Block :=
  let m := b.reg Od.limitedCtx 0
  let m := if bit m c then m - 2 ^ c else m
  b.setReg Od.limitedCtx 0 (if b.service = svcLimited then m + 2 ^ c else m)

/-- PGOV_LEARN_CTX written: the profile of another context is of no use (R452). -/
def Block.learnWritten (b : Block) (old : Nat) : Block :=
  if b.reg Od.pgovLearnCtx 0 = old then b else b.forgetProfile

/-- A value is stored, with what its rule makes of the change. -/
def Block.store (b : Block) (cl : Client) (e : OdEntry) (sub : Nat) (v : List Byte) : Block :=
  let v := keptValue e.idx v
  let n := ofBE v
  let old := b.reg e.idx sub
  if e.idx = Od.dispRingSelect then b.setClient cl (fun x => { x with ringSel := n })
  else if e.idx = Od.rbCohortSelect then b.setClient cl (fun x => { x with cohortSel := n })
  else if e.idx = Od.dispTokenSelect then b.setClient cl (fun x => { x with tokenSel := n })
  else
    let b : Block := if e.idx = Od.pwrCapOwner ∨ e.idx = Od.pwrSlopeWPerMs then b.noteReasons.moveCap else b
    let b : Block := if e.ty.width = 0 then b.setOct e.idx sub v else b.setReg e.idx sub n
    if e.idx = Od.ctxTtRoot then b.rootWritten (sub - 1)
    else if e.idx = Od.ctxStepRelease then b.releaseWritten (sub - 1)
    else if e.idx = Od.timeSource then b.sourceChanged old
    else if e.idx = Od.ptpPort then (b.ptpTo n).ptpCheck
    else if e.idx = Od.ptpPortAlt then b.ptpCheck
    else if e.idx = Od.pgovLearnCtx then b.learnWritten old
    else if e.idx = Od.silentStepsLimit then (List.range 64).foldl Block.countSilent b
    else b

/-- A write of an entry that has no command of its own. -/
def Block.plainWrite (b : Block) (cl : Client) (e : OdEntry) (sub : Nat) (v : List Byte) : Block :=
  b.onWrite e.idx false (fun b =>
    let st := b.ownRefusal e.idx sub v
    if st = stOK then (b.store cl e sub v).answer stOK else b.answer st)

/-! ### Entries with a command of their own -/

/-- The trainings of a bring-up that a plain write starts: their outcomes are free (log entry 1). -/
def Block.drawBoot (b : Block) : BootInputs × Block :=
  let h := b.draw
  let s := h.2.draw
  let e := s.2.draw
  let f := e.2.draw
  let l := f.2.draw
  (⟨0, 0, false, [], (List.range 8).map (bit h.1), bit s.1 0, (List.range 4).map (bit e.1), [], ((List.range 512).filter (bit f.1)).map (fun h => (h, bits l.1 (8 * h + 7) (8 * h)))⟩, l.2)

/-- PWR_STATE_REQ. -/
def xPwrStateReq (n : Nat) (b : Block) : Block :=
  if n = 0 then let d := b.drawBoot; xRun d.1 d.2
  else if n = 2 then xPark b
  else if n = 3 then xStandby b
  else b.onWrite Od.pwrStateReq false (fun b => b.answer stRange)

/-- ALERT_ACK (R518). -/
def xAlertAck (n : Nat) (b : Block) : Block := b.onWrite Od.alertAck false (fun b => (b.setReg Od.alertAck 0 n).answer stOK)

/-- A write whose value has a fitting length and range: the entry's command, or a plain write. -/
def Block.writeFit (b : Block) (cl : Client) (e : OdEntry) (sub : Nat) (v : List Byte) : Block :=
  let n := ofBE v
  let k := sub - 1
  if e.idx = Od.deviceReset then let d := b.drawBoot; xDeviceReset n d.1 d.2
  else if e.idx = Od.pwrStateReq then xPwrStateReq n b
  else if e.idx = Od.boroughReset then xBoroughReset n b
  else if e.idx = Od.plazaReset then xPlazaReset n b
  else if e.idx = Od.plazaHold then xPlazaHold k n b
  else if e.idx = Od.iftRequest then xIftRequest n b
  else if e.idx = Od.dispRingConfig then xRingConfig (BitVec.ofNat 256 n) b
  else if e.idx = Od.dispRingResume then xRingResume n b
  else if e.idx = Od.dispTokenValue then xTokenValue cl n b
  else if e.idx = Od.ctxReset then xCtxReset k n b
  else if e.idx = Od.rbCohortConfig then xCohortConfig (BitVec.ofNat 256 n) b
  else if e.idx = Od.hazelSkewResolve then b.resolveHold k (n == 1)
  else if e.idx = Od.fabPortMode then xPortMode k n b
  else if e.idx = Od.pwrSetpointNow then xSetpointNow n b
  else if e.idx = Od.pwrSetpointSched then xSetpointSched (BitVec.ofNat 128 n) b
  else if e.idx = Od.pwrSchedCancel then xSchedCancel n b
  else if e.idx = Od.pwrShedCmd then xShedCmd n b
  else if e.idx = Od.timeSet then xTimeSet n b
  else if e.idx = Od.alertAck then xAlertAck n b
  else if e.idx = Od.ownerEnrol then xEnrol v (cl.via == 34) b
  else if e.idx = Od.attRequest then xAttRequest sub v b
  else if e.idx = Od.fwStage then xStage v b
  else b.plainWrite cl e sub v

/-! ### WRITE and PWRITE -/

/-- Entries that recovery serves (R479, R502). -/
def recoveryEntries : List Nat := [Od.deviceId, Od.devicePub, Od.deviceCert, Od.fwSlotState, Od.fwStage, Od.fwActivate]

/-- Is a subindex served now? Of FW_SLOT_STATE recovery serves the one of kind WALNUT (R479). -/
def Block.serves (b : Block) (idx sub : Nat) : Bool :=
  b.sys.phase != .recovery || (recoveryEntries.contains idx && (idx != Od.fwSlotState || sub == kWalnut))

/-- A WRITE of one subindex. -/
def Block.writeOne (b : Block) (cl : Client) (idx sub : Nat) (v : List Byte) : Block :=
  match odItem idx sub with
  | none => b.answer stNoEntry
  | some (.count _) => b.answer (if b.serves idx sub then stWriteRefused else stNoEntry)
  | some (.entry e) =>
    if !b.serves idx sub then b.answer stNoEntry
    else if e.acc = .ro ∨ e.per = .factory then b.answer stWriteRefused
    else if b.sys.phase = .recovery ∧ idx = Od.fwActivate then (if v.length = 1 then xActivate ⟨0, [], v⟩ b else b.answer stLength)
    else if e.acc = .rwp then b.answer stSigRequired
    else if !fitsLength e v then b.answer stLength
    else if !fitsRange e v then b.answer stRange
    else b.writeFit cl e sub v

/-- Values one after the other, until one is refused. -/
def Block.writeSeq (b : Block) (cl : Client) (idx : Nat) : List (Nat × List Byte) → Block
  | [] => b.answer stOK
  | (s, v) :: r =>
    let b' := b.writeOne cl idx s v
    if b'.odp.status = stOK then b'.writeSeq cl idx r else b'

/-- A WRITE of several subindices: each value is checked before any is applied, and none is applied if one is refused (R508). -/
def Block.writeAll (b : Block) (cl : Client) (idx : Nat) (vs : List (Nat × List Byte)) : Block :=
  match vs.find? (fun x => (b.writeOne cl idx x.1 x.2).odp.status != stOK) with
  | some x => b.answer (b.writeOne cl idx x.1 x.2).odp.status
  | none =>
    let b' := b.writeSeq cl idx vs
    if b'.odp.status = stOK then b' else b.answer b'.odp.status

/-- A protected write that has no command of its own. -/
def Block.plainProtected (b : Block) (cl : Client) (e : OdEntry) (sub : Nat) (w : PWrite) : Block :=
  b.protect e.idx sub 0 w (fun b =>
    if !fitsLength e w.value then b.answer stLength
    else if !fitsRange e w.value then b.answer stRange
    else
      let st := b.ownRefusal e.idx sub w.value
      if st = stOK then (b.store cl e sub w.value).answer stOK else b.answer st)

/-- A PWRITE (R513). -/
def Block.pwriteOne (b : Block) (cl : Client) (idx sub : Nat) (w : PWrite) : Block :=
  match odItem idx sub with
  | none => b.answer stNoEntry
  | some (.count _) => b.answer (if b.serves idx sub then stSigRequired else stNoEntry)
  | some (.entry e) =>
    if !b.serves idx sub then b.answer stNoEntry
    else if e.acc ≠ .rwp ∨ b.sys.phase = .recovery then b.answer stSigRequired
    else if idx = Od.fwActivate then xActivate w b
    else if idx = Od.fwConfirm then xConfirm w b
    else if idx = Od.ownerRelease then xOwnerRelease w b
    else if idx = Od.emithKey then xKeyInstall sub w b
    else if idx = Od.rasUnretire then xUnretire w b
    else b.plainProtected cl e sub w

def execAlertAck (value : Nat) (s : State) : Host.Outcome State Fault Refusal := .next (s.run (xAlertAck value))

end Sys2Proof.Machine
end

