-- ==== Sys2Proof/Machine/Odp.lean ====
section
/-! DEFINITION. ODP: frames, clients, requests and their responses, subscriptions (R499 to R514, R517, R519, R522, R523). -/

namespace Sys2Proof.Machine

/-! ### Frames (R503) -/

/-- The fields of a frame header. -/
structure OHead where
  ver : Nat
  op : Nat
  resp : Bool
  last : Bool
  rsv : Nat
  status : Nat
  count : Nat
  reqId : Nat
  idx : Nat
  sub : Nat
  len : Nat
  offset : Nat
  dt : Nat
  deriving DecidableEq, Repr

def oheadOf (h : BitVec 192) : OHead :=
  let f := fun hi lo => bits h.toNat hi lo
  { ver := f 191 188, op := f 187 184, resp := f 183 183 == 1, last := f 182 182 == 1, rsv := f 181 176 + f 71 64, status := f 175 168,
    count := f 167 160, reqId := f 159 144, idx := f 143 128, sub := f 127 120, len := f 119 104, offset := f 103 72, dt := f 63 0 }

/-- The header with its reserved bits at 0. -/
def OHead.num (h : OHead) : Nat :=
  at' 188 h.ver + at' 184 h.op + at' 183 (if h.resp then 1 else 0) + at' 182 (if h.last then 1 else 0) + at' 168 h.status
    + at' 160 h.count + at' 144 h.reqId + at' 128 h.idx + at' 120 h.sub + at' 104 h.len + at' 72 h.offset + wrap 64 h.dt

/-- The header of a frame. -/
def frameHead (f : Frame) : OHead := oheadOf f.header

/-- A frame of a header and its data. -/
def frameOf (h : OHead) (data : List Byte) : Frame := ⟨BitVec.ofNat 192 { h with len := data.length }.num, data, false⟩

/-- Operations (R504). -/
def oRead : Nat := 1
def oWrite : Nat := 2
def oPwrite : Nat := 3
def oSubscribe : Nat := 4
def oEvent : Nat := 5
def oEventAck : Nat := 6
def oStream : Nat := 7

/-- The most data bytes of a frame. -/
def dataMax : Nat := 4072

/-- The response to a request (R503): its fields echoed, OFFSET for READ alone, with the status, the data and the DT at which it is formed. -/
def responseOf (h : OHead) (status : Nat) (last : Bool) (dt : Nat) (data : List Byte) : Frame :=
  frameOf { h with resp := true, last := last, rsv := 0, status := status, offset := if h.op = oRead then h.offset else 0, dt := dt } data

/-- The address that serves a client (R499): HOST_IP of its port; on MP the link-local one for a client with a link-local address or without MGMT_IP, else
MGMT_IP (log entry 41). -/
def Block.odpAddr (b : Block) (c : Client) : Nat :=
  let ip := ofBE (b.oct Od.mgmtIp 0)
  if c.via ≠ 34 then ofBE (b.oct Od.hostIp (c.via - 31))
  else if ip = 0 ∨ c.addr / 2 ^ 118 = 0x3FA then linkLocal (b.ifaceMac 130)
  else ip

/-- A frame with the address and port that it leaves from. -/
def Block.sent (b : Block) (c : Client) (f : Frame) : OdpSent := ⟨c, b.odpAddr c, b.reg Od.odpUdpPort 0, f⟩

/-- Walnut sends a frame to a client from the address and port that `old` has (R501). -/
def Block.sendFrom (b old : Block) (c : Client) (f : Frame) : Block := { b with odp := { b.odp with tx := b.odp.tx ++ [old.sent c f] } }

/-- Walnut sends a frame to a client. -/
def Block.sendFrame (b : Block) (c : Client) (f : Frame) : Block := b.sendFrom b c f

/-! ### Clients (R500, R511, R520) -/

/-- Does an address lie in a prefix of MGMT_CLIENT_FILTER? -/
def inPrefix (addr : Nat) (p : List Byte) : Bool :=
  let n := ofBE (p.take 1)
  addr >>> (128 - n) == ofBE (p.drop 1) >>> (128 - n)

/-- Does the client filter let an address through? -/
def Block.filterPasses (b : Block) (addr : Nat) : Bool :=
  let f := b.oct Od.mgmtClientFilter 0
  f.isEmpty || b.sys.phase == .recovery || (chunks 17 8 f).any (inPrefix addr)

/-- Is ODP served where a datagram arrives: on ODP_UDP_PORT, on MP at MGMT_IP and the link-local address, on a host port at its HOST_IP in the management VLAN (R499, R502)? -/
def Block.servedAt (b : Block) (c : Client) : Bool :=
  c.dport == b.reg Od.odpUdpPort 0
    && ((c.via == 34 && c.dst != 0 && (c.dst == ofBE (b.oct Od.mgmtIp 0) || c.dst == linkLocal (b.ifaceMac 130)))
      || ((c.via == 32 || c.via == 33) && b.sys.phase != .recovery && b.reg Od.mgmtHostVid 0 != 0 && c.vid == some (b.reg Od.mgmtHostVid 0)
        && c.dst != 0 && c.dst == ofBE (b.oct Od.hostIp (c.via - 31))))

/-- The end of each subscription of a client raises its event (R520). -/
def Block.endSubs (b : Block) (x : OdpClient) : Block :=
  iter (fun b => b.raise 0x0761 noCtx (beBytes 2 x.id.port)) ((if x.events.isSome then 1 else 0) + x.streams.length) b

/-- How many clients Walnut keeps. -/
def clientMax : Nat := 32

/-- The client that has been silent for longest. -/
def oldestClient : List OdpClient → Option OdpClient
  | [] => none
  | x :: r => match oldestClient r with
    | some y => if y.last < x.last then some y else some x
    | none => some x

/-- Forgets the client silent for longest, with its subscriptions. -/
def Block.forgetOldest (b : Block) : Block :=
  match oldestClient b.odp.clients with
  | some x => { b with odp := { b.odp with clients := b.odp.clients.filter (fun y => !Client.same y.id x.id) } }.endSubs x
  | none => b

/-- A frame of a client that is kept has come, whatever becomes of it (R520). -/
def Block.heard (b : Block) (c : Client) : Block := b.setClient c (fun x => { x with last := b.dt })

/-- A request of a client has come: it is kept, or becomes the newest of those kept. -/
def Block.touch (b : Block) (c : Client) : Block :=
  if (b.client? c).isSome then b.heard c
  else
    let b : Block := if b.odp.clients.length ≥ clientMax then b.forgetOldest else b
    { b with odp := { b.odp with clients := b.odp.clients ++ [⟨c, b.dt, 0, 0, 0, none, [], none, []⟩] } }

/-- How long a kept response and a snapshot last, and how many responses a client has (R511, R514). -/
def keepNs : Nat := 2 * 10 ^ 9
def keptMax : Nat := 64

/-- The response kept for a REQ_ID. -/
def Block.kept (b : Block) (c : Client) (reqId : Nat) : Option Frame :=
  ((b.client? c).bind (fun x => x.replies.find? (fun r => r.1 == reqId && decide (b.dt < r.2.1 + keepNs)))).map (·.2.2)

/-- Sends a response from where the request before `b` was served, and keeps it (R501, R511). -/
def Block.respond (b old : Block) (c : Client) (h : OHead) (f : Frame) : Block :=
  (b.sendFrom old c f).setClient c (fun x => { x with replies := lastN keptMax (x.replies.filter (fun r => r.1 != h.reqId) ++ [(h.reqId, old.dt, f)]) })

/-! ### READ (R508, R512, R514, R517) -/

/-- Records of one READ of EVENT_LOG or one EVENT frame. -/
def frameRecords : Nat := 127

/-- A READ of EVENT_LOG from a SEQ on: records and LAST (R517). -/
def Block.readLog (b : Block) (seq : Nat) : List Byte × Bool :=
  if serialGe seq (b.reg Od.eventNextSeq 0) then ([], true)
  else
    let l := b.log.filter (fun r => serialGe r.seq seq)
    ((l.take frameRecords).flatMap EventRec.bytes, decide (l.length ≤ frameRecords))

/-- The bytes of a value from an offset on, and LAST (R514). -/
def window (v : List Byte) (offset : Nat) : List Byte × Bool := ((v.drop offset).take dataMax, decide (v.length ≤ offset + dataMax))

/-- The snapshot that a client holds of an entry. -/
def Block.snapshot (b : Block) (c : Client) (idx sub : Nat) : Option (List Byte) :=
  ((b.client? c).bind (·.snap)).bind (fun s => if s.1 = idx ∧ s.2.1 = sub ∧ b.dt < s.2.2.2 + keepNs then some s.2.2.1 else none)

/-- A READ of one subindex: data, LAST, and the client's snapshot taken. -/
def Block.readOne (b : Block) (c : Client) (h : OHead) (e : OdEntry) : (List Byte × Bool) × Block :=
  if h.idx = Od.eventLog then (b.readLog h.offset, b)
  else
    let v := b.odValue c e h.sub
    if h.offset = 0 then
      (window v 0, if v.length ≤ dataMax then b else b.setClient c (fun x => { x with snap := some (h.idx, h.sub, v, b.dt) }))
    else (window ((b.snapshot c h.idx h.sub).getD v) h.offset, b)

/-- The subindices of a request with what they are; none where one does not exist or is not served. -/
def Block.items (b : Block) (h : OHead) : Option (List (Nat × OdItem)) :=
  (List.range h.count).foldr (fun i acc => match acc, odItem h.idx (h.sub + i) with
    | some l, some x => if b.serves h.idx (h.sub + i) then some ((h.sub + i, x) :: l) else none
    | _, _ => none) (some [])

/-- What a subindex reads as. -/
def Block.itemValue (b : Block) (c : Client) (x : Nat × OdItem) : List Byte :=
  match x.2 with
  | .entry e => b.odValue c e x.1
  | .count n => beBytes 1 n

/-- Does a subindex refuse reads? -/
def OdItem.unreadable : OdItem → Bool
  | .entry e => e.acc == .wo
  | .count _ => false

/-- A READ: status, data, LAST. -/
def Block.read (b : Block) (c : Client) (h : OHead) : (Nat × List Byte × Bool) × Block :=
  match b.items h with
  | none => ((stNoEntry, [], true), b)
  | some l =>
    if decide (h.count > 1) && !l.all (fun x => x.2.fixed) then ((stMalformed, [], true), b)
    else if l.any (fun x => x.2.unreadable) then ((stReadRefused, [], true), b)
    else match l with
      | [(_, .entry e)] => let r := b.readOne c h e; ((stOK, r.1.1, r.1.2), r.2)
      | _ => let w := window (l.flatMap (b.itemValue c)) h.offset; ((stOK, w.1, w.2), b)

/-! ### WRITE and PWRITE (R508, R513) -/

/-- The values of a WRITE of several subindices. -/
def splitValues : List (Nat × OdItem) → List Byte → List (Nat × List Byte)
  | [], _ => []
  | x :: r, v => (x.1, v.take x.2.size) :: splitValues r (v.drop x.2.size)

/-- A WRITE; its status is left in `odp.status`. -/
def Block.write (b : Block) (c : Client) (h : OHead) (v : List Byte) : Block :=
  match b.items h with
  | none => b.answer stNoEntry
  | some l =>
    if h.count = 1 then b.writeOne c h.idx h.sub v
    else if !l.all (fun x => x.2.fixed) then b.answer stMalformed
    else if v.length ≠ (l.map (fun x => x.2.size)).sum then b.answer stMalformed
    else b.writeAll c h.idx (splitValues l v)

/-- The block of R513 and the value; none where the data is too short for it. -/
def pwriteOf (v : List Byte) : Option PWrite :=
  let n := ofBE (slice v 8 2)
  if v.length < 10 + n then none else some ⟨ofBE (v.take 8), slice v 10 n, v.drop (10 + n)⟩

/-- A PWRITE. -/
def Block.pwrite (b : Block) (c : Client) (h : OHead) (v : List Byte) : Block :=
  match pwriteOf v with
  | none => b.answer stMalformed
  | some w => if h.count ≠ 1 then b.answer stMalformed else b.pwriteOne c h.idx h.sub w

/-! ### SUBSCRIBE and EVENT_ACK (R519 to R523) -/

/-- Subscriptions that the module holds of each kind. -/
def subMax : Nat := 16

/-- A SUBSCRIBE of the event log. -/
def Block.subscribeEvents (b : Block) (c : Client) (v : List Byte) : Block :=
  let mask := ofBE (v.take 1)
  let start := ofBE (v.drop 4)
  let mine := (b.client? c).bind (·.events)
  if b.sys.phase = .recovery then b.answer stLimit
  else if v.length ≠ 8 then b.answer stMalformed
  else if mask = 0 then (b.setClient c (fun x => { x with events := none })).answer stOK
  else match mine with
    | some s =>
      if s.mask = mask ∧ s.start = start then b.answer stOK
      else (b.setClient c (fun x => { x with events := some ⟨mask, start, start, start, s.frames, false, b.dt⟩ })).answer stOK
    | none =>
      if (b.odp.clients.filter (fun x => x.events.isSome)).length ≥ subMax then b.answer stLimit
      else (b.setClient c (fun x => { x with events := some ⟨mask, start, start, start, 0, false, b.dt⟩ })).answer stOK

/-- Is an index a stream? -/
def isStream (idx : Nat) : Bool := idx == Od.powerStream || idx == Od.railStream

/-- A SUBSCRIBE of a stream. -/
def Block.subscribeStream (b : Block) (c : Client) (idx : Nat) (v : List Byte) : Block :=
  let decim := ofBE (v.take 2)
  let batch := ofBE (slice v 2 1)
  let all := b.odp.clients.flatMap (·.streams)
  let mine := ((b.client? c).map (·.streams)).getD []
  let others := mine.filter (fun s => s.idx != idx)
  if b.sys.phase = .recovery then b.answer stLimit
  else if !isStream idx then b.answer stNoEntry
  else if v.length ≠ 4 then b.answer stMalformed
  else if decim = 0 then (b.setClient c (fun x => { x with streams := others })).answer stOK
  else if decim > 1000 ∨ batch = 0 ∨ batch > 32 then b.answer stRange
  else match mine.find? (fun s => s.idx == idx) with
    | some s =>
      if s.decim = decim ∧ s.batch = batch then b.answer stOK
      else (b.setClient c (fun x => { x with streams := others ++ [⟨idx, decim, batch, 0, s.frames, []⟩] })).answer stOK
    | none =>
      if all.length ≥ subMax then b.answer stLimit
      else (b.setClient c (fun x => { x with streams := others ++ [⟨idx, decim, batch, 0, 0, []⟩] })).answer stOK

/-- Changes a client's event subscription. -/
def Block.setEvents (b : Block) (c : Client) (f : EventSub → EventSub) : Block := b.setClient c (fun x => { x with events := x.events.map f })

/-- `n` records on from a SEQ, which wraps. -/
def seqAdd (a n : Nat) : Nat := (a + n) % 2 ^ 32

/-- From a SEQ to a later one. -/
def seqSub (a c : Nat) : Nat := (a + 2 ^ 32 - c % 2 ^ 32) % 2 ^ 32

/-- An acknowledgement: it moves the cursor where it names a place that frames have covered (R522). -/
def Block.ack (b : Block) (c : Client) (v : List Byte) : Block :=
  let n := ofBE v
  if v.length ≠ 4 then b.answer stMalformed
  else (b.setEvents c (fun s =>
    if seqSub n s.cursor = 0 ∨ seqSub n s.cursor > seqSub s.sent s.cursor then s
    else { s with cursor := n, moved := b.dt, overrun := s.overrun && !serialGe n b.oldestSeq })).answer stOK

/-! ### A datagram arrives (R499, R500, R503, R505, R511) -/

/-- The cases in which a request is MALFORMED whatever it names (R505). -/
def OHead.malformed (h : OHead) : Bool :=
  h.rsv != 0 || h.resp || h.status != 0 || h.dt != 0 || h.count == 0 || decide (h.len > dataMax) || h.op == 0 || h.op == oEvent
    || decide (h.op > oEventAck) || (h.op == oRead && h.len != 0) || (h.op != oRead && h.offset != 0)

/-- The effect of a request on the block and its response. -/
def Block.execute (b : Block) (c : Client) (h : OHead) (v : List Byte) : Frame × Block :=
  let t := b.dt
  if h.malformed then (responseOf h stMalformed true t [], b)
  else if h.op = oRead then
    let r := b.read c h
    (responseOf h r.1.1 r.1.2.2 t r.1.2.1, r.2)
  else
    let b :=
      if h.op = oWrite then b.write c h v
      else if h.op = oPwrite then b.pwrite c h v
      else if h.op = oEventAck then b.ack c v
      else if h.idx = Od.eventLog then b.subscribeEvents c v
      else b.subscribeStream c h.idx v
    (responseOf h b.odp.status true t [], b)

/-- Requests per second that Walnut serves. -/
def requestMax : Nat := 2000

/-- Discards a datagram without a response. -/
def Block.dropDatagram (b : Block) : Block := b.bump Od.odpDropped 0 1

/-- Counts a request in the present second of DT. -/
def Block.countRequest (b : Block) : Block :=
  let sec := b.dt / 10 ^ 9
  { b with odp := { b.odp with second := sec, requests := if b.odp.second = sec then b.odp.requests + 1 else 1 } }

/-- The second's requests are used up. -/
def Block.overRate (b : Block) : Bool := b.odp.second == b.dt / 10 ^ 9 && decide (b.odp.requests ≥ requestMax)

/-- A request that Walnut serves: counted, and answered afresh or with the response kept for its REQ_ID (R511). -/
def Block.request (b : Block) (c : Client) (h : OHead) (f : Frame) : Block :=
  let b := (b.countRequest).touch c
  match b.kept c h.reqId with
  | some r => b.sendFrame c r
  | none =>
    let r := b.execute c h (f.data.take h.len)
    r.2.respond b c h r.1

/-- A datagram of a client arrives at Walnut. -/
def Block.datagram (b : Block) (c : Client) (f : Frame) : Block :=
  let h := frameHead f
  if !b.serving || b.walnutBusy || !b.servedAt c then b
  else
    let b := b.laneTested.heard c
    if !b.filterPasses c.addr || f.short || decide (f.data.length < h.len) then b.dropDatagram
    else if h.ver ≠ 1 then b
    else if b.overRate then b.dropDatagram
    else b.request c h f

/-- What a frame's header asks for: 1 READ, 2 WRITE, 3 PWRITE, 4 and 5 SUBSCRIBE of the event log and of another index, 6 EVENT_ACK, 0 no request. -/
def OHead.request (h : OHead) : Nat :=
  if h.op = oRead then 1
  else if h.op = oWrite then 2
  else if h.op = oPwrite then 3
  else if h.op = oSubscribe then (if h.idx = Od.eventLog then 4 else 5)
  else if h.op = oEventAck then 6
  else 0

/-- A datagram that a command delivers: of its own request, or of none. -/
def xRequest (k : Nat) (c : Client) (f : Frame) (b : Block) : Block :=
  if f.short ∨ (frameHead f).request = k ∨ (frameHead f).request = 0 then b.datagram c f else b

def xOdpRead (c : Client) (f : Frame) (b : Block) : Block := xRequest 1 c f b
def xOdpWrite (c : Client) (f : Frame) (b : Block) : Block := xRequest 2 c f b
def xPwrite (c : Client) (f : Frame) (b : Block) : Block := xRequest 3 c f b
def xSubscribeEvents (c : Client) (f : Frame) (b : Block) : Block := xRequest 4 c f b
def xSubscribeStream (c : Client) (f : Frame) (b : Block) : Block := xRequest 5 c f b
def xEventAck (c : Client) (f : Frame) (b : Block) : Block := xRequest 6 c f b

/-! ### Expiries (R511, R514, R520) -/

/-- A client has sent nothing for ODP_SUB_TIMEOUT_S: its subscriptions end. -/
def xSubExpired (c : Client) (b : Block) : Block :=
  match b.client? c with
  | none => b
  | some x =>
    if !b.serving || b.walnutBusy || (x.events.isNone && x.streams.isEmpty) then b
    else
      let b := b.reach (x.last + b.reg Od.odpSubTimeoutS 0 * 10 ^ 9)
      (b.setClient c (fun y => { y with events := none, streams := [] })).endSubs x

/-- The snapshot of a client ends. -/
def xSnapshotExpiry (c : Client) (b : Block) : Block :=
  match (b.client? c).bind (·.snap) with
  | none => b
  | some s => if !b.serving then b else (b.reach (s.2.2.2 + keepNs)).setClient c (fun y => { y with snap := none })

/-- A kept response ends. -/
def xReplyExpiry (c : Client) (reqId : Nat) (b : Block) : Block :=
  match (b.client? c).bind (fun x => x.replies.find? (fun r => r.1 == reqId)) with
  | none => b
  | some r => if !b.serving then b else (b.reach (r.2.1 + keepNs)).setClient c (fun y => { y with replies := y.replies.filter (fun q => q.1 != reqId) })

def execOdpRead (client : Client) (frame : Frame) (s : State) : Host.Outcome State Fault Refusal := .next (s.run (xOdpRead client frame))
def execOdpWrite (client : Client) (frame : Frame) (s : State) : Host.Outcome State Fault Refusal := .next (s.run (xOdpWrite client frame))
def execPwrite (client : Client) (frame : Frame) (s : State) : Host.Outcome State Fault Refusal := .next (s.run (xPwrite client frame))
def execSubscribeEvents (client : Client) (frame : Frame) (s : State) : Host.Outcome State Fault Refusal := .next (s.run (xSubscribeEvents client frame))
def execSubscribeStream (client : Client) (frame : Frame) (s : State) : Host.Outcome State Fault Refusal := .next (s.run (xSubscribeStream client frame))
def execEventAck (client : Client) (frame : Frame) (s : State) : Host.Outcome State Fault Refusal := .next (s.run (xEventAck client frame))
def execOdpSubExpired (client : Client) (s : State) : Host.Outcome State Fault Refusal := .next (s.run (xSubExpired client))
def execOdpSnapshotExpiry (client : Client) (s : State) : Host.Outcome State Fault Refusal := .next (s.run (xSnapshotExpiry client))
def execOdpReplyCacheExpiry (client : Client) (reqId : Nat) (s : State) : Host.Outcome State Fault Refusal := .next (s.run (xReplyExpiry client reqId))

end Sys2Proof.Machine
end

