-- ==== Sys2Proof/Machine/Telemetry.lean ====
section
/-! DEFINITION. What Walnut sends unasked: event frames and telemetry (R431, R435, R468, R469, R495, R516, R521 to R524). -/

namespace Sys2Proof.Machine

/-- A frame that the device sends of itself: EVENT or STREAM. -/
def pushFrame (op status reqId idx offset dt : Nat) (data : List Byte) : Frame :=
  frameOf { ver := 1, op := op, resp := false, last := false, rsv := 0, status := status, count := 1, reqId := reqId % 2 ^ 16, idx := idx,
            sub := 0, len := 0, offset := offset, dt := dt } data

/-! ### Events (R521, R522) -/

/-- Log records that may stand unacknowledged. -/
def eventWindow : Nat := 1024

/-- How many records a frame covers, and those that its mask selects, at most `room` of them. -/
def cover (mask : Nat) : Nat → List EventRec → Nat × List EventRec
  | _, [] => (0, [])
  | room, r :: l =>
    if bit mask (r.code / 2 ^ 14) then
      match room with
      | 0 => (0, [])
      | room + 1 => let x := cover mask room l; (x.1 + 1, r :: x.2)
    else let x := cover mask room l; (x.1 + 1, x.2)

/-- An EVENT frame from `s.sent` up to `next`, and the subscription after it. -/
def Block.pushEvents (b : Block) (c : Client) (s : EventSub) (status offset next : Nat) (overrun : Bool) (recs : List EventRec) : Block :=
  let f := pushFrame oEvent status s.frames Od.eventLog offset b.dt (beBytes 4 next ++ recs.flatMap EventRec.bytes)
  (b.sendFrame c f).setEvents c (fun s =>
    { s with sent := next, frames := s.frames + 1, overrun := overrun, moved := if s.sent = s.cursor then b.dt else s.moved })

/-- Records from the cursor on are lost, and the frame that says so is due. -/
def EventSub.mustReport (s : EventSub) (oldest : Nat) : Bool :=
  !serialGe s.cursor oldest && (!s.overrun || s.sent == s.cursor || !serialGe s.sent oldest)

/-- The loss is a new one, which raises its event. -/
def EventSub.newLoss (s : EventSub) (oldest : Nat) : Bool := !s.overrun || (s.sent != s.cursor && !serialGe s.sent oldest)

/-- The next EVENT frame of a subscription, if one is due. -/
def Block.sendEvents (b : Block) (c : Client) : Block :=
  match (b.client? c).bind (·.events) with
  | none => b
  | some s =>
    if s.mustReport b.oldestSeq then
      let b : Block := if s.newLoss b.oldestSeq then b.raise 0x4760 noCtx [] else b
      b.pushEvents c s stLimit s.cursor b.oldestSeq true []
    else
      let l := (b.log.filter (fun r => serialGe r.seq s.sent)).take (eventWindow - seqSub s.sent s.cursor)
      let x := cover s.mask frameRecords l
      if x.1 = 0 then b else b.pushEvents c s stOK s.sent (seqAdd s.sent x.1) s.overrun x.2

/-- Walnut sends to subscribers. -/
def Block.pushes (b : Block) : Bool := b.sys.phase == .up && !b.walnutBusy

/-- EVENT_SEND. -/
def xEventSend (c : Client) (b : Block) : Block := if b.pushes then b.sendEvents c else b

/-- EVENT_RETRY: ODP_EVT_RETRY_MS without an acknowledgement that moves the cursor. -/
def xEventRetry (c : Client) (b : Block) : Block :=
  match (b.client? c).bind (·.events) with
  | none => b
  | some s =>
    if !b.pushes || s.sent == s.cursor then b
    else
      let b := b.reach (s.moved + b.reg Od.odpEvtRetryMs 0 * 10 ^ 6)
      (b.setEvents c (fun s => { s with sent := s.cursor })).sendEvents c

/-! ### Telemetry (R469, R523, R524) -/

/-- A stream subscription at a sample: every DECIM-th is kept, and BATCH of them fill a frame. -/
def StreamSub.sample (s : StreamSub) (t : Nat) (record : List Byte) : StreamSub × Option (List (Nat × List Byte)) :=
  let n := s.seen + 1
  if n % s.decim ≠ 0 then ({ s with seen := n }, none)
  else
    let l := s.buf ++ [(t, record)]
    if l.length < s.batch then ({ s with seen := n, buf := l }, none)
    else ({ s with seen := n, buf := [], frames := s.frames + 1 }, some l)

/-- A STREAM frame of a batch of records. -/
def streamFrame (idx frames : Nat) (l : List (Nat × List Byte)) : Frame :=
  pushFrame oStream stOK frames idx 0 ((l.head?.map (·.1)).getD 0) (l.flatMap (·.2))

/-- A record goes to every subscriber of its stream. -/
def Block.publish (b : Block) (idx t : Nat) (record : List Byte) : Block :=
  b.odp.clients.foldl (fun b x => match x.streams.find? (fun s => s.idx == idx) with
    | none => b
    | some s =>
      let r := s.sample t record
      let b := b.setClient x.id (fun y => { y with streams := y.streams.map (fun z => if z.idx == idx then r.1 else z) })
      match r.2 with
      | some l => b.sendFrame x.id (streamFrame idx s.frames l)
      | none => b) b

/-- Records held through a switch of the WALNUT image. -/
def heldMax : Nat := 512

/-- A record of a sample: sent, or held while the WALNUT image switches (R495). -/
def Block.telemetry (b : Block) (idx t : Nat) (record : List Byte) : Block :=
  if b.walnutBusy then
    if b.odp.held.length < heldMax then { b with odp := { b.odp with held := b.odp.held ++ [(idx, t, record)] } } else b
  else b.publish idx t record

/-- FLAGS of a POWER_STREAM record. -/
def Block.powerFlags (b : Block) : Nat :=
  (if b.gov.gap then 1 else 0) + (if b.gov.shed then 2 else 0) + (if b.gov.droopSeen || b.gov.droop.any id then 4 else 0)
    + (if b.reg Od.timeState 0 = tsLocked then 0 else 8)

/-- A POWER_STREAM record in its 64 bytes. -/
def Block.powerRecord (b : Block) (m : PowerSample) : List Byte :=
  beBytes 8 b.dt ++ beBytes 4 m.p1ms.toNat ++ beBytes 4 m.p20ms.toNat ++ beBytes 4 m.vin.toNat ++ beBytes 4 m.iin.toNat
    ++ beBytes 2 (b.capNow / 10 ^ 6) ++ beBytes 2 b.targetCap ++ beBytes 1 b.throttleBits ++ beBytes 1 b.powerFlags
    ++ (List.range 8).flatMap (fun i => beBytes 2 (b.plazaClockNow (7 - i)))
    ++ beBytes 8 m.energyMj ++ beBytes 2 b.gov.seq ++ List.replicate 8 0

/-- A RAIL_STREAM record in its 120 bytes. -/
def Block.railRecord (b : Block) (m : PowerSample) : List Byte :=
  beBytes 8 b.dt ++ ((padTo 27 0 m.rails).take 27).flatMap (fun r => beBytes 4 r.toNat) ++ List.replicate 4 0

/-- TELEMETRY_SAMPLE: at the next tick instant not yet sampled; in Standby and Retired only POWER_STREAM is published (R534). -/
def xTelemetry (m : PowerSample) (b : Block) : Block :=
  let at_ := tickAt (max b.dt (b.gov.sampled + 1))
  if b.sys.phase != .up || !b.inOrder at_ 5 then b
  else
    let b := (b.reach at_).setReg Od.energyInMj 0 m.energyMj
    let p := b.powerRecord m
    let r := b.railRecord m
    let b : Block := { b with gov := { b.gov with seq := (b.gov.seq + 1) % 2 ^ 16, gap := false, droopSeen := false, sampled := b.dt, power := p, rail := if b.live then r else b.gov.rail } }
    let b := b.telemetry Od.powerStream b.dt p
    if b.live then b.telemetry Od.railStream b.dt r else b

/-! ### The end of a firmware switch (R495) -/

/-- The bound of the interruption of a kind, in ns. -/
def switchNs (k : Nat) : Nat := if k = kWalnut then 300 * 10 ^ 6 else if k = kHazel then 20 * 10 ^ 6 else 3 * 10 ^ 6

/-- Delivers the records held through the switch. -/
def Block.flushHeld (b : Block) : Block :=
  let l := b.odp.held
  l.foldl (fun b r => b.publish r.1 r.2.1 r.2.2) { b with odp := { b.odp with held := [] } }

/-- A start of the image that was switched to fails within its bound, 1 s for WALNUT: it starts again, and the third failure reverts (R497). -/
def Block.startFailed (b : Block) (k : Nat) : Block :=
  let x := b.kind k
  let b := b.reach (x.since + (if k = kWalnut then 10 ^ 9 else switchNs k))
  if x.fails + 1 < 3 then b.setKind k (fun y => { y with fails := y.fails + 1, since := b.dt })
  else (b.setKind k (fun y => b.runSlot k (1 - y.active) { y with active := 1 - y.active, trial := false, fails := 0, switching := false })).raise 0x4701 noCtx []

/-- FW_ACTIVATED: the image runs, or its start has failed. -/
def xActivated (k : Nat) (started : Bool) (b : Block) : Block :=
  let x := b.kind k
  if b.sys.phase != .up || !x.switching then b
  else
    let b := if started then ((b.reach (x.since + switchNs k)).setKind k (fun y => { y with switching := false, fails := 0 })).raise 0x0700 noCtx [] else b.startFailed k
    if k = kWalnut ∧ !b.walnutBusy then b.flushHeld else b

def execEventSend (client : Client) (s : State) : Host.Outcome State Fault Refusal := .next (s.run (xEventSend client))
def execEventRetry (client : Client) (s : State) : Host.Outcome State Fault Refusal := .next (s.run (xEventRetry client))
def execTelemetrySample (meas : PowerSample) (s : State) : Host.Outcome State Fault Refusal := .next (s.run (xTelemetry meas))
def execFwActivated (f : FwStart) (s : State) : Host.Outcome State Fault Refusal := .next (s.run (xActivated f.kind f.started))

end Sys2Proof.Machine
end

