-- ==== Sys2Proof/Machine/Wvu.lean ====
section
/-! DEFINITION. The Wide Vector Units: VECTOR tasks (R92 to R115). -/

namespace Sys2Proof.Machine

/-! ### Constants and composite functions (R99) -/

/-- The FP32 value nearest to `n / d`. -/
def f32Ratio (n d : Nat) : F32 := toF32 (Num.div (.fin false n 0) (.fin false d 0))

def kappa0 : F32 := f32Ratio 7978845608 (10 ^ 10)
def kappa1 : F32 := f32Ratio 44715 (10 ^ 6)
def half32 : F32 := 0x3F000000#32
def two32 : F32 := 0x40000000#32
def three32 : F32 := 0x40400000#32
def negOne32 : F32 := 0xBF800000#32

/-- s(a) of R99. -/
def sig (a : F32) : F32 := fdiv one32 (fadd one32 (fexp (fneg a)))

def tanh32 (x : F32) : F32 := ffma two32 (sig (fmul two32 x)) negOne32

/-- tanh(u) of GELU. -/
def geluT (x : F32) : F32 := tanh32 (fmul kappa0 (ffma (fmul kappa1 (fmul x x)) x x))

/-- fn(x) (R99). -/
def actFn (fn : Nat) (x : F32) : F32 :=
  match fn with
  | 0 => x
  | 1 => if flt 0 x then x else 0
  | 2 => sig x
  | 3 => fmul x (sig x)
  | 4 => tanh32 x
  | _ => fmul (fmul half32 x) (fadd one32 (geluT x))

/-- fn'(x) (R99). -/
def actDeriv (fn : Nat) (x : F32) : F32 :=
  match fn with
  | 0 => one32
  | 1 => if flt 0 x then one32 else 0
  | 2 => let s := sig x; fmul s (fsub one32 s)
  | 3 => let s := sig x; fmul s (ffma x (fsub one32 s) one32)
  | 4 => let t := tanh32 x; fsub one32 (fmul t t)
  | _ =>
    let t := geluT x
    fadd (fmul half32 (fadd one32 t))
      (fmul (fmul half32 x) (fmul (fsub one32 (fmul t t)) (fmul kappa0 (ffma (fmul three32 kappa1) (fmul x x) one32))))

/-! ### The canonical reduction (R97) -/

/-- One pass of the first stage: each lane takes its next element. -/
def lanePass {α : Type} (f : F32 → α → F32) : List F32 → List α → List F32
  | p :: ps, v :: vs => f p v :: lanePass f ps vs
  | ps, [] => ps
  | [], _ => []

/-- One level of the tree; a lane without a partner meets +0. -/
def pairUp : List F32 → List F32
  | a :: b :: r => fadd a b :: pairUp r
  | [a] => [fadd a 0]
  | [] => []

/-- The two stages of R97 over the lanes that hold elements; the other lanes hold +0. -/
def canonical {α : Type} (f : F32 → α → F32) (v : List α) : F32 :=
  let lanes := (chunks 1024 v.length v).foldl (lanePass f) (List.replicate (min 1024 v.length) 0)
  nth 0 (iter pairUp 10 lanes) 0

def canonSum (v : List F32) : F32 := canonical fadd v
def canonDot (u w : List F32) : F32 := canonical (fun p (x : F32 × F32) => ffma x.1 x.2 p) (u.zip w)

/-! ### Row operations (R100 to R103) -/

def rowMax : List F32 → F32
  | [] => negInf32
  | x :: r => r.foldl fmax x

/-- The row holds a NaN or +∞ (R100). -/
def rowHot (x : List F32) : Bool := x.any (fun v => (f32 v).isNan || v == inf32)

/-- Every element is -∞ (R100). -/
def rowMasked (x : List F32) : Bool := x.all (· == negInf32)

/-- e_i, s and r of R100. -/
def softParts (x : List F32) : List F32 × F32 × F32 :=
  let m := rowMax x
  let e := x.map (fun v => fexp (fsub v m))
  let s := canonSum e
  (e, s, fdiv one32 s)

def softmaxRow (x : List F32) : List F32 :=
  if rowHot x then x.map (fun _ => nan32)
  else if rowMasked x then x.map (fun _ => 0)
  else let p := softParts x; p.1.map (fun e => fmul e p.2.2)

def softmaxBwdRow (y dy : List F32) : List F32 :=
  let d := canonDot dy y
  (y.zip dy).map (fun p => fmul p.1 (fsub p.2 d))

/-- d_i and ρ of LAYERNORM (R101). -/
def lnParts (x : List F32) (eps : F32) : List F32 × F32 :=
  let l := f32ofNat x.length
  let mu := fdiv (canonSum x) l
  let d := x.map (fun v => fsub v mu)
  (d, fdiv one32 (fsqrt (fadd (fdiv (canonDot d d) l) eps)))

/-- ρ of RMSNORM (R101). -/
def rmsRho (x : List F32) (eps : F32) : F32 :=
  fdiv one32 (fsqrt (fadd (fdiv (canonDot x x) (f32ofNat x.length)) eps))

def layernormRow (x gamma beta : List F32) (eps : F32) : List F32 :=
  let p := lnParts x eps
  ((p.1.zip gamma).zip beta).map (fun t => ffma (fmul t.1.1 p.2) t.1.2 t.2)

def rmsnormRow (x gamma : List F32) (eps : F32) : List F32 :=
  let r := rmsRho x eps
  (x.zip gamma).map (fun t => fmul (fmul t.1 r) t.2)

/-- x̂ and ρ of a backward normalization (R102). -/
def normHat (rms : Bool) (x : List F32) (eps : F32) : List F32 × F32 :=
  if rms then let r := rmsRho x eps; (x.map (fun v => fmul v r), r)
  else let p := lnParts x eps; (p.1.map (fun v => fmul v p.2), p.2)

/-- dx of a backward normalization (R102). -/
def normBwdRow (rms : Bool) (x dy gamma : List F32) (eps : F32) : List F32 :=
  let l := f32ofNat x.length
  let g := (dy.zip gamma).map (fun t => fmul t.1 t.2)
  let h := normHat rms x eps
  let b := fdiv (canonDot g h.1) l
  if rms then (g.zip h.1).map (fun t => fmul h.2 (fsub t.1 (fmul t.2 b)))
  else
    let a := fdiv (canonSum g) l
    (g.zip h.1).map (fun t => fmul h.2 (fsub t.1 (ffma t.2 b a)))

/-- dγ over the rows in ascending order, one accumulator per column (R102). -/
def colDot (len : Nat) (dy hat : List (List F32)) : List F32 :=
  (dy.zip hat).foldl (fun acc r => (acc.zip (r.1.zip r.2)).map (fun t => ffma t.2.1 t.2.2 t.1)) (List.replicate len 0)

/-- dβ over the rows in ascending order (R102). -/
def colSum (len : Nat) (dy : List (List F32)) : List F32 :=
  dy.foldl (fun acc r => (acc.zip r).map (fun t => fadd t.1 t.2)) (List.replicate len 0)

/-- Loss and gradient of a row (R103). The cases are tried in the order in which the rule lists them, so an ignored row stays +0 whatever it holds (log entry 53). -/
def xentRow (x : List F32) (target : Nat) (scale : F32) : F32 × List F32 :=
  if target = noTicket then (0, x.map (fun _ => 0))
  else if rowHot x then (nan32, x.map (fun _ => nan32))
  else if rowMasked x then (inf32, x.map (fun _ => nan32))
  else
    let p := softParts x
    (fsub (fadd (fln p.2.1) (rowMax x)) (nth 0 x target),
     (p.1.zipIdx).map (fun e => fmul (fsub (fmul e.1 p.2.2) (if e.2 = target then one32 else 0)) scale))

/-! ### ORTHO (R105) -/

/-- An element of a square matrix held row by row. -/
def mat (r : Nat) (a : List F32) (i j : Nat) : F32 := nth 0 a (i * r + j)

/-- A sum of products over `k` in ascending order, using fma (R105). -/
def fmaSum (ps : List (F32 × F32)) : F32 := ps.foldl (fun acc p => ffma p.1 p.2 acc) 0

/-- Row `j` of R, and whether its column is dropped. -/
def orthoRow (r : Nat) (a : List F32) (tau dmax : F32) (rr : List (List F32)) (j : Nat) : List F32 × Bool :=
  let col := fun i => rr.map (fun row => nth 0 row i)
  let d := fsub (mat r a j j) (fmaSum ((col j).zip (col j)))
  if Num.le (f32 d) (f32 (fmul tau dmax)) then (List.replicate r 0, true)
  else
    let q := fsqrt d
    ((List.range r).map (fun i =>
      if i < j then 0 else if i = j then q else fdiv (fsub (mat r a j i) (fmaSum ((col j).zip (col i)))) q), false)

/-- All rows of R from row `j` on. -/
def orthoRows (r : Nat) (a : List F32) (tau dmax : F32) : Nat → List (List F32 × Bool) → List (List F32 × Bool)
  | 0, acc => acc
  | n + 1, acc => orthoRows r a tau dmax n (acc ++ [orthoRow r a tau dmax (acc.map (·.1)) acc.length])

/-- T by columns: entry `(i, j)` from the columns before `j` (R105). -/
def orthoT (r : Nat) (rr : List (List F32 × Bool)) : Nat → List (List F32) → List (List F32)
  | 0, cols => cols
  | n + 1, cols =>
    let j := cols.length
    let rjj := fun k => nth 0 (nth ([], true) rr k).1 j
    let col := (List.range r).map (fun i =>
      if (nth ([], true) rr j).2 || (nth ([], true) rr i).2 || j < i then 0
      else if i = j then fdiv one32 (rjj j)
      else
        let s := fmaSum ((List.range (j - i)).map (fun k => (nth 0 (nth [] cols (i + k)) i, rjj (i + k))))
        fdiv (fneg s) (rjj j))
    orthoT r rr n (cols ++ [col])

/-- The factor T row by row, and how many columns were dropped. -/
def ortho (r : Nat) (a : List F32) (tau : F32) : List F32 × Nat :=
  if a.any isNonFinite then (a.map (fun _ => nan32), 0)
  else
    let dmax := rowMax ((List.range r).map (fun i => mat r a i i))
    let rr := if (f32 dmax).isZero then List.replicate r (List.replicate r 0, true) else orthoRows r a tau dmax r []
    let cols := orthoT r rr r []
    ((List.range r).flatMap (fun i => cols.map (fun c => nth 0 c i)), (rr.filter (·.2)).length)

/-! ### TOPK (R107) -/

/-- Does element `a` rank before `b`? NaN ranks last, equal values by lower index. -/
def ranksBefore (largest : Bool) (a b : F32 × Nat) : Bool :=
  let x := f32 a.1
  let y := f32 b.1
  if x.isNan then y.isNan && decide (a.2 < b.2)
  else if y.isNan then true
  else if (if largest then Num.lt y x else Num.lt x y) then true
  else if (if largest then Num.lt x y else Num.lt y x) then false
  else decide (a.2 < b.2)

def rankInsert (largest : Bool) (a : F32 × Nat) : List (F32 × Nat) → List (F32 × Nat)
  | [] => [a]
  | b :: r => if ranksBefore largest a b then a :: b :: r else b :: rankInsert largest a r

/-- The k best of a row, padded (R107). -/
def topk (largest : Bool) (k : Nat) (x : List F32) : List (F32 × Nat) :=
  padTo k (if largest then negInf32 else inf32, noTicket) (((x.zipIdx).foldl (fun l a => rankInsert largest a l) []).take k)

/-! ### Inputs -/

/-- An element of a stream as FP32 (R75). -/
def streamValue (fmt : Nat) (e : Elem) : F32 :=
  if fmt = 7 then BitVec.ofNat 32 e.v else toF32 (operand fmt (e.v, e.scale))

/-- The entries of a queue from which the first `n` of its elements come, up to the first transfer still to deliver or ended early. -/
def takenEntries : Nat → List PortEntry → List PortEntry
  | _, [] => []
  | n, e :: r =>
    let rest := if e.done && e.status == 0 then takenEntries (n - e.elems.length) r else []
    if min n e.elems.length = 0 then rest else e :: rest

/-- Elements that a task still wants from its stream ports: port, place in its intake, number. -/
def Block.vectorWants (b : Block) (t : Task) (v : Vec) : List (PortId × Nat × Nat) :=
  (v.takes t.unit).map (fun u => (u.1, u.2.1, u.2.2 - nth 0 (b.intake t.ticket).got u.2.1))

/-- A transfer of another format than FMT 7 brings elements of C (R112). -/
def Block.cFormatFault (b : Block) (t : Task) (v : Vec) : Bool :=
  (b.vectorWants t v).any (fun u => u.2.1 == 2 && (takenEntries u.2.2 (b.queue u.1)).any (fun e => match b.task? e.ticket with
    | some x => x.xfer.fmt != 7
    | none => false))

/-- The products that stand in the queue of a VECTOR task and that no task takes yet, by producing task, oldest first. -/
def Block.products (b : Block) (t : Task) (v : Vec) : List Nat :=
  ((b.plz.queues.filter (fun q => q.wvu == t.unit && q.queue == v.xPort && q.set_.ctx == t.ctx)).map (·.set_.ticket)).eraseDups.filter
    (fun p => !b.plz.gathered.any (fun g => g.2.ticket == p))

/-- Tasks issued before a VECTOR task that take from its queue and hold nothing yet (R93, R95). -/
def Block.queuedBefore (b : Block) (t : Task) (v : Vec) : List Task :=
  b.disp.tasks.filter (fun y => y.isRunning && y.stage == 0 && opcodeOf y.desc == opVector && y.unit == t.unit && y.ctx == t.ctx
    && (vecOf y.desc).srcX == 0 && (vecOf y.desc).xPort == v.xPort && decide (y.order < t.order)
    && !b.plz.gathered.any (fun g => g.1 == y.ticket))

/-- The producing task whose sets a VECTOR task takes: that of the sets it holds, or the product that falls to it in the order of issue of the queue's tasks, whichever of them works first (R93, R95, log entry 12). -/
def Block.producer (b : Block) (t : Task) (v : Vec) : Option Nat :=
  match b.plz.gathered.find? (fun g => g.1 == t.ticket) with
  | some g => some g.2.ticket
  | none => (b.products t v)[(b.queuedBefore t v).length]?

/-- Non-finite values of a drained set that a task tests as inputs: cause, row, column (R56, R108). -/
def Vec.setInputs (v : Vec) (d : Drained) : List (Nat × Nat × Nat) :=
  if !v.nfIn || d.emptyK then []
  else ((d.vals.zipIdx).filter (fun e => isNonFinite e.1)).map (fun e => (0, d.row + e.2 / d.cols, d.col + e.2 % d.cols))

/-- Non-finite values among elements that a task takes of its stream `place` after `got` others and tests as inputs: cause, row, column (R108); those of C stand in row 0 (log entry 53). -/
def Vec.streamInputs (v : Vec) (place got : Nat) (l : List Elem) : List (Nat × Nat × Nat) :=
  if !v.nfIn || (place == 2 && v.op == 0x10) then []
  else
    let fmt := if place = 0 then v.fmtX else if place = 1 then v.fmtZ else 7
    ((l.zipIdx).filter (fun e => isNonFinite (streamValue fmt e.1))).map (fun e =>
      (0, if place = 2 then 0 else (got + e.2) / v.len, (got + e.2) % v.len))

/-- One detection: the count, the bank, and for the first of a WVU in a bank the event and CTX_NF_FIRST (R109). -/
def Block.detect (b : Block) (t : Task) (op : Nat) (d : Nat × Nat × Nat) : Block :=
  let b := (b.bump Od.wvuNfDetectCount (t.unit + 1) 1)
  let told := (b.gate t.ctx).told (t.step % 2)
  let r := (b.nonfinite t.ctx t.step).2
  if told || decide (t.step < b.roundStep t.ctx) then r
  else
    ((r.setGate t.ctx ((r.gate t.ctx).tell (t.step % 2))).setOct Od.ctxNfFirst (t.ctx + 1)
      (beBytes 4 t.ticket ++ beBytes 1 op ++ beBytes 1 d.1 ++ beBytes 2 0 ++ beBytes 4 d.2.1 ++ beBytes 4 d.2.2)).raise
      0x4310 t.ctx []

/-- Takes the producer's sets that stand in the queue now, and tests them (R38, R93, R108). -/
def Block.gather (b : Block) (t : Task) (v : Vec) : Block :=
  match b.producer t v with
  | none => b
  | some pt =>
    let mine := fun (q : QueuedSet) => q.wvu == t.unit && q.queue == v.xPort && q.set_.ticket == pt
    let new := (b.plz.queues.filter mine).map (·.set_)
    let b : Block := { b with plz := { b.plz with
      gathered := b.plz.gathered ++ new.map (fun d => (t.ticket, d)), queues := b.plz.queues.filter (fun q => !mine q) } }
    (new.flatMap v.setInputs).foldl (fun b d => b.detect t v.op d) b

/-- A task takes what a stream port holds for it, and tests it (R108, R211). -/
def Block.takeStream (b : Block) (t : Task) (v : Vec) (u : PortId × Nat × Nat) : Block :=
  (v.streamInputs u.2.1 (nth 0 (b.intake t.ticket).got u.2.1) ((portElems (b.queue u.1)).take u.2.2)).foldl (fun b d => b.detect t v.op d)
    (b.takeInto t.ticket u)

/-- The sets that a VECTOR task holds. -/
def Block.heldSets (b : Block) (t : Nat) : List Drained := (b.plz.gathered.filter (fun g => g.1 == t)).map (·.2)

/-- A set's tag falls outside the task's rows and columns (R112). -/
def tagOutside (v : Vec) (d : Drained) : Bool := decide (v.rows < d.row + d.rows) || decide (v.len < d.col + d.cols)

/-- The value at an element from the drained sets, with the EMPTY_K tag. -/
def setValue (sets : List Drained) (i j : Nat) : Option (F32 × Bool) :=
  match sets.find? (fun d => decide (d.row ≤ i ∧ i < d.row + d.rows ∧ d.col ≤ j ∧ j < d.col + d.cols)) with
  | some d => some (nth 0 d.vals ((i - d.row) * d.cols + (j - d.col)), d.emptyK)
  | none => none

/-- X of a task row by row, with the exemption of each element; none while a value is missing. -/
def Block.xValues (b : Block) (t : Task) (v : Vec) : Option (List (F32 × Bool)) :=
  if v.srcX = 1 then some ((nth [] (b.intake t.ticket).bufs 0).map (fun e => (streamValue v.fmtX e, false)))
  else
    let sets := b.heldSets t.ticket
    ((List.range v.rows).flatMap (fun i => (List.range v.len).map (fun j => (i, j)))).mapM (fun p => setValue sets p.1 p.2)

/-! ### Results -/

/-- What an operation computes: Y row by row with its width, Y2, row losses and their sum, dropped columns, and an address fault. -/
structure VecOut where
  width : Nat
  y : List F32
  /-- Y2 as 32-bit words. -/
  y2 : List (BitVec 32)
  losses : List F32
  dropped : Nat
  fault : Bool
  deriving DecidableEq, Repr

/-- The operation of a VECTOR task on its inputs (R98 to R107). -/
def Vec.compute (v : Vec) (x z c : List F32) (targets : List Nat) : VecOut :=
  let xs := chunks v.len v.rows x
  let zs := chunks v.len v.rows z
  let rowsOut := fun (y : List F32) => (⟨v.len, y, [], [], 0, false⟩ : VecOut)
  let cj := fun j => if v.cEn then nth 0 c j else 0
  let zi := fun i => if v.zEn then nth 0 z i else 0
  match v.op with
  | 0x01 => rowsOut ((x.zipIdx).map (fun e => ffma v.alpha e.1 (ffma v.beta (zi e.2) (cj (e.2 % v.len)))))
  | 0x02 => rowsOut ((x.zip z).map (fun e => fmul (fmul e.1 e.2) v.alpha))
  | 0x03 => rowsOut ((x.zipIdx).map (fun e => actFn v.fn (fadd e.1 (cj (e.2 % v.len)))))
  | 0x04 => rowsOut ((x.zip z).map (fun e => fmul e.2 (actDeriv v.fn e.1)))
  | 0x05 => rowsOut x
  | 0x08 => rowsOut (xs.flatMap softmaxRow)
  | 0x09 => rowsOut ((xs.zip zs).flatMap (fun r => softmaxBwdRow r.1 r.2))
  | 0x0A => rowsOut (xs.flatMap (fun r => layernormRow r (c.take v.len) (c.drop v.len) v.eps))
  | 0x0B =>
    let hat := xs.map (fun r => (normHat false r v.eps).1)
    { rowsOut ((xs.zip zs).flatMap (fun r => normBwdRow false r.1 r.2 c v.eps)) with
      y2 := colDot v.len zs hat ++ colSum v.len zs }
  | 0x0C => rowsOut (xs.flatMap (fun r => rmsnormRow r c v.eps))
  | 0x0D =>
    let hat := xs.map (fun r => (normHat true r v.eps).1)
    { rowsOut ((xs.zip zs).flatMap (fun r => normBwdRow true r.1 r.2 c v.eps)) with y2 := colDot v.len zs hat }
  | 0x10 =>
    let r := (xs.zip targets).map (fun p => xentRow p.1 p.2 v.eps)
    let losses := r.map (·.1)
    { rowsOut (r.flatMap (·.2)) with
      y2 := losses ++ [canonSum losses], losses := losses,
      fault := targets.any (fun t => t != noTicket && decide (v.len ≤ t)) }
  | 0x11 => ⟨1, xs.map canonSum, [], [], 0, false⟩
  | 0x18 => let o := ortho (v.param + 1) x v.eps; { rowsOut o.1 with dropped := o.2 }
  | _ =>
    let k := v.param + 1
    let r := xs.map (topk (v.fn == 1) k)
    ⟨k, r.flatMap (fun l => l.map (·.1)), r.flatMap (fun l => l.map (fun e => BitVec.ofNat 32 e.2)), [], 0, false⟩

/-- The format in which Y leaves: the factor of ORTHO and the values of TOPK are FP32 whatever FMT_Y says (R105, R107). -/
def Vec.outFmt (v : Vec) : Nat := if v.op = 0x18 ∨ v.op = 0x1C then 7 else v.fmtY

/-- One output element in the format of Y: stochastic for a gradient in BF16, RNE otherwise; counts of the two saturations (R75, R82, R85). -/
def Vec.outElem (v : Vec) (k : RoundKey) (e : Nat) (x : F32) : Nat × Nat × Nat :=
  if v.grad != 0 && v.outFmt == 0 then
    let r := srBF16 x (k.draw 0 (v.eBase + e) 16)
    (r.1, if r.2 then 1 else 0, 0)
  else
    let r := narrow v.outFmt x
    (r.1, 0, if r.2 then 1 else 0)

/-- The output elements of Y; an MX format takes blocks of 32 along each row, the last of a row the shorter for what is left (R71, log entry 53). -/
def Vec.outElems (v : Vec) (k : RoundKey) (width : Nat) (y : List F32) : List Elem × Nat × Nat × Nat :=
  if isMX v.outFmt then
    let blocks := (chunks width y.length y).flatMap (fun r => (chunks 32 r.length r).map (mxEncode v.outFmt))
    (blocks.flatMap (fun m => m.2.1.map (fun e => ⟨e, m.1, false⟩)), 0, (blocks.map (·.2.2)).sum,
      (blocks.filter (fun m => m.1 == 255)).length)
  else
    let r := (y.zipIdx).map (fun p => v.outElem k p.2 p.1)
    (r.map (fun e => ⟨e.1, 127, false⟩), (r.map (·.2.1)).sum, (r.map (·.2.2)).sum, 0)

/-! ### Non-finite detection (R108 to R110) -/

/-- Row operations by OP (R99). -/
def isRowOp (op : Nat) : Bool := [0x08, 0x09, 0x0A, 0x0B, 0x0C, 0x0D, 0x10, 0x11].contains op

/-- Is an output element exempt: drawn from an EMPTY_K tile, in a row that holds such a value, or padding (R56, R108)? -/
def Vec.exempt (v : Vec) (x : List (F32 × Bool)) (o : VecOut) (i : Nat) : Bool :=
  if isRowOp v.op then ((x.drop (i / o.width * v.len)).take v.len).any (·.2)
  else if v.op = 0x1C then
    let c := (nth 0#32 o.y2 i).toNat
    c == noTicket || (nth (0, false) x (i / o.width * v.len + c)).2
  else v.op != 0x18 && (nth (0, false) x i).2

/-- What a task detects among its outputs as they leave and its losses: cause, row, column of each non-finite value that it tests (R108, R115). The spec names no order within a task and no place for values of no single row: Y, Y2, then the losses; Y2 sums and the task sum stand in row NROWS (log entry 53). -/
def Vec.detections (v : Vec) (x : List (F32 × Bool)) (o : VecOut) (y : List Elem) : List (Nat × Nat × Nat) :=
  let at_ := fun (cause w i : Nat) => (cause, i / w, i % w)
  let rowExempt := fun i => ((x.drop (i * v.len)).take v.len).any (·.2)
  let outs := if v.nfOut || v.grad != 0 then
      ((y.zipIdx).filter (fun e => isNonFinite (streamValue v.outFmt e.1) && !v.exempt x o e.2)).map (fun e => at_ 1 o.width e.2)
        ++ (if v.op = 0x0B ∨ v.op = 0x0D then
              ((o.y2.zipIdx).filter (fun e => isNonFinite e.1 && !x.any (·.2))).map (fun e => (1, v.rows, e.2)) else [])
    else []
  let loss := if v.op = 0x10 then
      ((o.losses.zipIdx).filter (fun e => isNonFinite e.1 && !rowExempt e.2)).map (fun e => (2, e.2, 0))
        ++ (if isNonFinite (nth 0#32 o.y2 v.rows) && !x.any (·.2) then [(2, v.rows, 0)] else [])
    else []
  outs ++ loss

/-! ### A VECTOR task runs -/

/-- Ends a VECTOR task early. -/
def Block.vectorFail (b : Block) (t : Task) (st : Nat) : Block :=
  (if st = sPoisoned then b.consumePoison t.ctx t.ticket else b).failVector t st

/-- The early end that a task's inputs impose: an aborted tile, a tag outside, a C format, poison, or a feed that ended (R111, R112, R231). -/
def Block.vectorFault (b : Block) (t : Task) (v : Vec) : Option Nat :=
  let sets := b.heldSets t.ticket
  if v.srcX = 0 && sets.any (·.aborted) then some sAborted
  else if v.srcX = 0 && sets.any (tagOutside v) then some sAddrFault
  else if b.cFormatFault t v then some sAddrFault
  else b.takeFault (b.vectorWants t v)

/-- The output elements of a task's Y as they leave, with the three counts of Vec.outElems. -/
def Block.vectorY (b : Block) (t : Task) (v : Vec) (o : VecOut) : List Elem × Nat × Nat × Nat :=
  v.outElems (b.roundKey t.ctx t.step (if v.grad = 2 then siteLrFactor else siteWvuGrad) v.tag) o.width o.y

/-- The outputs wait on their ports; the task runs until transfers have drained them (R212). Of an MX output the element codes leave; the spec gives its scales no place on the port (R70, log entry 53). -/
def Block.vectorOut (b : Block) (t : Task) (v : Vec) (o : VecOut) : Block :=
  let y := b.vectorY t v o
  let b := ((b.bump Od.srSaturateCount 2 y.2.1).bump Od.convSaturateCount 1 y.2.2.1).bump Od.mxNanBlockCount 4 y.2.2.2
  let b := b.bump Od.wvuOrthoDropped (t.unit + 1) o.dropped
  let outs := [⟨t.unit, v.yPort, t.ticket, y.1⟩]
    ++ (if v.y2En then [⟨t.unit, v.y2Port, t.ticket, o.y2.map (fun w => ⟨w.toNat, 127, false⟩)⟩] else [])
  let b := { b with plz := { b.plz with outs := b.plz.outs ++ outs, gathered := b.plz.gathered.filter (fun g => g.1 != t.ticket) } }
  (b.dropIntake t.ticket).setTask t.ticket (fun x => { x with stage := 1 })

/-- A VECTOR task takes its inputs as they come, and with all of them computes and offers its outputs (R92 to R111). -/
def Block.vectorRun (b : Block) (t : Task) : Block :=
  let v := vecOf t.desc
  let b := if v.srcX = 0 then b.gather t v else b
  match b.vectorFault t v with
  | some st => b.vectorFail t st
  | none =>
    let b := (b.vectorWants t v).foldl (fun b u => b.takeStream t v u) b
    if !(b.vectorWants t v).all (fun u => u.2.2 == 0) then b
    else match b.xValues t v with
      | none => b
      | some x =>
        let z := (nth [] (b.intake t.ticket).bufs 1).map (streamValue v.fmtZ)
        let cs := nth [] (b.intake t.ticket).bufs 2
        let c := cs.map (streamValue 7)
        let o := v.compute (x.map (·.1)) z c (cs.map (·.v))
        if o.fault then b.vectorFail t sAddrFault
        else
          let b := (v.detections x o (b.vectorY t v o).1).foldl (fun b d => b.detect t v.op d) b
          (b.vectorOut t v o).bumpFree Od.wvuBusyCycles (t.unit + 1)

/-- A VECTOR command on a ticket of its operation, while the module is not shed. -/
def Block.vectorCmd (b : Block) (op t : Nat) : Block :=
  match b.starting t opVector with
  | some x => if (vecOf x.desc).op = op ∧ !b.gov.shed then b.vectorRun x else b
  | none => b

def execAxpby (t : Nat) (s : State) : Host.Outcome State Fault Refusal := .next (s.run (fun b => b.vectorCmd 0x01 t))
def execMul (t : Nat) (s : State) : Host.Outcome State Fault Refusal := .next (s.run (fun b => b.vectorCmd 0x02 t))
def execAct (t : Nat) (s : State) : Host.Outcome State Fault Refusal := .next (s.run (fun b => b.vectorCmd 0x03 t))
def execActBwd (t : Nat) (s : State) : Host.Outcome State Fault Refusal := .next (s.run (fun b => b.vectorCmd 0x04 t))
def execCast (t : Nat) (s : State) : Host.Outcome State Fault Refusal := .next (s.run (fun b => b.vectorCmd 0x05 t))
def execSoftmax (t : Nat) (s : State) : Host.Outcome State Fault Refusal := .next (s.run (fun b => b.vectorCmd 0x08 t))
def execSoftmaxBwd (t : Nat) (s : State) : Host.Outcome State Fault Refusal := .next (s.run (fun b => b.vectorCmd 0x09 t))
def execLayernorm (t : Nat) (s : State) : Host.Outcome State Fault Refusal := .next (s.run (fun b => b.vectorCmd 0x0A t))
def execLayernormBwd (t : Nat) (s : State) : Host.Outcome State Fault Refusal := .next (s.run (fun b => b.vectorCmd 0x0B t))
def execRmsnorm (t : Nat) (s : State) : Host.Outcome State Fault Refusal := .next (s.run (fun b => b.vectorCmd 0x0C t))
def execRmsnormBwd (t : Nat) (s : State) : Host.Outcome State Fault Refusal := .next (s.run (fun b => b.vectorCmd 0x0D t))
def execXent (t : Nat) (s : State) : Host.Outcome State Fault Refusal := .next (s.run (fun b => b.vectorCmd 0x10 t))
def execSum (t : Nat) (s : State) : Host.Outcome State Fault Refusal := .next (s.run (fun b => b.vectorCmd 0x11 t))
def execOrtho (t : Nat) (s : State) : Host.Outcome State Fault Refusal := .next (s.run (fun b => b.vectorCmd 0x18 t))
def execTopk (t : Nat) (s : State) : Host.Outcome State Fault Refusal := .next (s.run (fun b => b.vectorCmd 0x1C t))

end Sys2Proof.Machine
end

