-- ==== Sys2Proof/Machine/Dispatch.lean ====
section
/-! DEFINITION. The meaning of each command: one arm for each row of the table. -/

namespace Sys2Proof.Machine

def exec (i : Instr) (s : State) : Host.Outcome State Fault Refusal :=
  match i with
  | .powerOn boot => Sys2Proof.Machine.execPowerOn boot s
  | .lossOfInput => Sys2Proof.Machine.execLossOfInput s
  | .rstNAssert => Sys2Proof.Machine.execRstNAssert s
  | .rstNRelease boot => Sys2Proof.Machine.execRstNRelease boot s
  | .deviceReset value boot => Sys2Proof.Machine.execDeviceReset value boot s
  | .boroughReset value => Sys2Proof.Machine.execBoroughReset value s
  | .boroughSilence borough => Sys2Proof.Machine.execBoroughSilence borough s
  | .plazaReset value => Sys2Proof.Machine.execPlazaReset value s
  | .ctxReset ctx value => Sys2Proof.Machine.execCtxReset ctx value s
  | .ctxResetDone ctx => Sys2Proof.Machine.execCtxResetDone ctx s
  | .startCheckDone plaza result => Sys2Proof.Machine.execStartCheckDone plaza result s
  | .serviceLimited => Sys2Proof.Machine.execServiceLimited s
  | .serviceFull => Sys2Proof.Machine.execServiceFull s
  | .runRequest boot => Sys2Proof.Machine.execRunRequest boot s
  | .parkRequest => Sys2Proof.Machine.execParkRequest s
  | .standbyRequest => Sys2Proof.Machine.execStandbyRequest s
  | .idleEntry => Sys2Proof.Machine.execIdleEntry s
  | .plazaHold plaza value => Sys2Proof.Machine.execPlazaHold plaza value s
  | .iftRequest value => Sys2Proof.Machine.execIftRequest value s
  | .rasUnretire w => Sys2Proof.Machine.execRasUnretire w s
  | .dispRingConfig record => Sys2Proof.Machine.execDispRingConfig record s
  | .dispRingResume value => Sys2Proof.Machine.execDispRingResume value s
  | .dispTokenValue client value => Sys2Proof.Machine.execDispTokenValue client value s
  | .doorbell word => Sys2Proof.Machine.execDoorbell word s
  | .descriptorFetch ring => Sys2Proof.Machine.execDescriptorFetch ring s
  | .taskIssue head => Sys2Proof.Machine.execTaskIssue head s
  | .taskComplete ticket => Sys2Proof.Machine.execTaskComplete ticket s
  | .dispHoldLong ring => Sys2Proof.Machine.execDispHoldLong ring s
  | .fenceTokens ticket => Sys2Proof.Machine.execFenceTokens ticket s
  | .fenceRing ticket => Sys2Proof.Machine.execFenceRing ticket s
  | .fenceContext ticket => Sys2Proof.Machine.execFenceContext ticket s
  | .turnFence ticket => Sys2Proof.Machine.execTurnFence ticket s
  | .notify ticket => Sys2Proof.Machine.execNotify ticket s
  | .eventDoorbell ticket => Sys2Proof.Machine.execEventDoorbell ticket s
  | .tokenAdd ticket => Sys2Proof.Machine.execTokenAdd ticket s
  | .timeWait ticket => Sys2Proof.Machine.execTimeWait ticket s
  | .timeWaitCompletion ticket => Sys2Proof.Machine.execTimeWaitCompletion ticket s
  | .matmul ticket sel => Sys2Proof.Machine.execMatmul ticket sel s
  | .distL1 ticket sel => Sys2Proof.Machine.execDistL1 ticket sel s
  | .distL2 ticket sel => Sys2Proof.Machine.execDistL2 ticket sel s
  | .distMaxplus ticket sel => Sys2Proof.Machine.execDistMaxplus ticket sel s
  | .distMinplus ticket sel => Sys2Proof.Machine.execDistMinplus ticket sel s
  | .distCmpcnt ticket sel => Sys2Proof.Machine.execDistCmpcnt ticket sel s
  | .tileDrain plaza => Sys2Proof.Machine.execTileDrain plaza s
  | .plazaFeedTimeout ticket => Sys2Proof.Machine.execPlazaFeedTimeout ticket s
  | .axpby ticket => Sys2Proof.Machine.execAxpby ticket s
  | .mul ticket => Sys2Proof.Machine.execMul ticket s
  | .act ticket => Sys2Proof.Machine.execAct ticket s
  | .actBwd ticket => Sys2Proof.Machine.execActBwd ticket s
  | .cast ticket => Sys2Proof.Machine.execCast ticket s
  | .softmax ticket => Sys2Proof.Machine.execSoftmax ticket s
  | .softmaxBwd ticket => Sys2Proof.Machine.execSoftmaxBwd ticket s
  | .layernorm ticket => Sys2Proof.Machine.execLayernorm ticket s
  | .layernormBwd ticket => Sys2Proof.Machine.execLayernormBwd ticket s
  | .rmsnorm ticket => Sys2Proof.Machine.execRmsnorm ticket s
  | .rmsnormBwd ticket => Sys2Proof.Machine.execRmsnormBwd ticket s
  | .xent ticket => Sys2Proof.Machine.execXent ticket s
  | .sum ticket => Sys2Proof.Machine.execSum ticket s
  | .ortho ticket => Sys2Proof.Machine.execOrtho ticket s
  | .topk ticket => Sys2Proof.Machine.execTopk ticket s
  | .copy ticket => Sys2Proof.Machine.execCopy ticket s
  | .rearm ticket => Sys2Proof.Machine.execRearm ticket s
  | .release ticket => Sys2Proof.Machine.execRelease ticket s
  | .inval ticket => Sys2Proof.Machine.execInval ticket s
  | .allReduce ticket => Sys2Proof.Machine.execAllReduce ticket s
  | .reduceScatter ticket => Sys2Proof.Machine.execReduceScatter ticket s
  | .allGather ticket => Sys2Proof.Machine.execAllGather ticket s
  | .broadcast ticket => Sys2Proof.Machine.execBroadcast ticket s
  | .allToAll ticket => Sys2Proof.Machine.execAllToAll ticket s
  | .barrier ticket => Sys2Proof.Machine.execBarrier ticket s
  | .normClose ticket => Sys2Proof.Machine.execNormClose ticket s
  | .normCloseContribute ctx => Sys2Proof.Machine.execNormCloseContribute ctx s
  | .rbCohortConfig record => Sys2Proof.Machine.execRbCohortConfig record s
  | .reduceParcel slice => Sys2Proof.Machine.execReduceParcel slice s
  | .gatherParcel slice => Sys2Proof.Machine.execGatherParcel slice s
  | .allToAllParcel slice => Sys2Proof.Machine.execAllToAllParcel slice s
  | .broadcastParcel slice => Sys2Proof.Machine.execBroadcastParcel slice s
  | .barrierParcel slice => Sys2Proof.Machine.execBarrierParcel slice s
  | .closeUp slice => Sys2Proof.Machine.execCloseUp slice s
  | .closeDown slice => Sys2Proof.Machine.execCloseDown slice s
  | .paceUp slice => Sys2Proof.Machine.execPaceUp slice s
  | .paceDown slice => Sys2Proof.Machine.execPaceDown slice s
  | .rbTimeout ticket => Sys2Proof.Machine.execRbTimeout ticket s
  | .rbCloseStalled ticket => Sys2Proof.Machine.execRbCloseStalled ticket s
  | .updateDense ticket => Sys2Proof.Machine.execUpdateDense ticket s
  | .updateRows ticket => Sys2Proof.Machine.execUpdateRows ticket s
  | .rootCompute => Sys2Proof.Machine.execRootCompute s
  | .gatherRows ticket => Sys2Proof.Machine.execGatherRows ticket s
  | .gatherSpan ticket => Sys2Proof.Machine.execGatherSpan ticket s
  | .gatherWorking ticket => Sys2Proof.Machine.execGatherWorking ticket s
  | .scatterAddRows ticket => Sys2Proof.Machine.execScatterAddRows ticket s
  | .scatterAddSpan ticket => Sys2Proof.Machine.execScatterAddSpan ticket s
  | .hazelSkewAdopt ctx => Sys2Proof.Machine.execHazelSkewAdopt ctx s
  | .hazelSkewDiscard ctx => Sys2Proof.Machine.execHazelSkewDiscard ctx s
  | .shadowCompare sample errBlock errShadow => Sys2Proof.Machine.execShadowCompare sample errBlock errShadow s
  | .arbitrationRun sample err => Sys2Proof.Machine.execArbitrationRun sample err s
  | .shadowReplay sample unit err => Sys2Proof.Machine.execShadowReplay sample unit err s
  | .observationEnd unit => Sys2Proof.Machine.execObservationEnd unit s
  | .iftDue plaza => Sys2Proof.Machine.execIftDue plaza s
  | .observationTestDue unit => Sys2Proof.Machine.execObservationTestDue unit s
  | .iftGraceExpired plaza => Sys2Proof.Machine.execIftGraceExpired plaza s
  | .plazaDrained plaza => Sys2Proof.Machine.execPlazaDrained plaza s
  | .iftDone plaza result => Sys2Proof.Machine.execIftDone plaza result s
  | .hbmRetrainWindow => Sys2Proof.Machine.execHbmRetrainWindow s
  | .hbmLaneFault pc lane passes => Sys2Proof.Machine.execHbmLaneFault pc lane passes s
  | .hbmTempRead stack tempC => Sys2Proof.Machine.execHbmTempRead stack tempC s
  | .wcbAgeExpiry pc => Sys2Proof.Machine.execWcbAgeExpiry pc s
  | .hbmScrub addr upset => Sys2Proof.Machine.execHbmScrub addr upset s
  | .terraceScrub addr upset => Sys2Proof.Machine.execTerraceScrub addr upset s
  | .slowScrub addr upset => Sys2Proof.Machine.execSlowScrub addr upset s
  | .slowTempRead package reading => Sys2Proof.Machine.execSlowTempRead package reading s
  | .wck2dqOscRead channel count => Sys2Proof.Machine.execWck2dqOscRead channel count s
  | .slowTierLost channel => Sys2Proof.Machine.execSlowTierLost channel s
  | .emithSend slice => Sys2Proof.Machine.execEmithSend slice s
  | .emithData pkt port => Sys2Proof.Machine.execEmithData pkt port s
  | .emithAck pkt port => Sys2Proof.Machine.execEmithAck pkt port s
  | .emithProbe pkt port => Sys2Proof.Machine.execEmithProbe pkt port s
  | .ackDelayExpiry conn => Sys2Proof.Machine.execAckDelayExpiry conn s
  | .probeInterval conn => Sys2Proof.Machine.execProbeInterval conn s
  | .rtoExpiry conn psn => Sys2Proof.Machine.execRtoExpiry conn psn s
  | .connIdleExpiry conn => Sys2Proof.Machine.execConnIdleExpiry conn s
  | .hsInit port payload => Sys2Proof.Machine.execHsInit port payload s
  | .sessionTimeout session => Sys2Proof.Machine.execSessionTimeout session s
  | .hostWrite session psn => Sys2Proof.Machine.execHostWrite session psn s
  | .hostRead session psn => Sys2Proof.Machine.execHostRead session psn s
  | .hostDoorbell session psn => Sys2Proof.Machine.execHostDoorbell session psn s
  | .neighborRefresh iface => Sys2Proof.Machine.execNeighborRefresh iface s
  | .linkTrained port trained => Sys2Proof.Machine.execLinkTrained port trained s
  | .laneSerLimit port lane => Sys2Proof.Machine.execLaneSerLimit port lane s
  | .pcsAlignmentLoss port => Sys2Proof.Machine.execPcsAlignmentLoss port s
  | .portDrainEnd port => Sys2Proof.Machine.execPortDrainEnd port s
  | .portRetrainDone port => Sys2Proof.Machine.execPortRetrainDone port s
  | .portVerifyEnd port passes => Sys2Proof.Machine.execPortVerifyEnd port passes s
  | .fabPortMode port value => Sys2Proof.Machine.execFabPortMode port value s
  | .ptpMessage msg => Sys2Proof.Machine.execPtpMessage msg s
  | .ppsInEdge elapsedNs => Sys2Proof.Machine.execPpsInEdge elapsedNs s
  | .timeSet value => Sys2Proof.Machine.execTimeSet value s
  | .sourceSilence => Sys2Proof.Machine.execSourceSilence s
  | .holdoverLimit => Sys2Proof.Machine.execHoldoverLimit s
  | .ptpPortReturn => Sys2Proof.Machine.execPtpPortReturn s
  | .ppsOutPulse => Sys2Proof.Machine.execPpsOutPulse s
  | .managementTick inp => Sys2Proof.Machine.execManagementTick inp s
  | .powerSetpoint => Sys2Proof.Machine.execPowerSetpoint s
  | .frequencyEpoch => Sys2Proof.Machine.execFrequencyEpoch s
  | .stepRelease ctx => Sys2Proof.Machine.execStepRelease ctx s
  | .telemetrySample meas => Sys2Proof.Machine.execTelemetrySample meas s
  | .hopStep plaza => Sys2Proof.Machine.execHopStep plaza s
  | .droopDetect domain => Sys2Proof.Machine.execDroopDetect domain s
  | .droopEnd domain => Sys2Proof.Machine.execDroopEnd domain s
  | .inputLowStretch => Sys2Proof.Machine.execInputLowStretch s
  | .overcurrent => Sys2Proof.Machine.execOvercurrent s
  | .thermalTrip plaza => Sys2Proof.Machine.execThermalTrip plaza s
  | .shedAssert => Sys2Proof.Machine.execShedAssert s
  | .shedRelease => Sys2Proof.Machine.execShedRelease s
  | .pwrShedCmd value => Sys2Proof.Machine.execPwrShedCmd value s
  | .pwrSetpointNow value => Sys2Proof.Machine.execPwrSetpointNow value s
  | .pwrSetpointSched record => Sys2Proof.Machine.execPwrSetpointSched record s
  | .pwrSchedCancel value => Sys2Proof.Machine.execPwrSchedCancel value s
  | .attRequest n nonce => Sys2Proof.Machine.execAttRequest n nonce s
  | .attTokenRefill => Sys2Proof.Machine.execAttTokenRefill s
  | .bottomTreeBuild => Sys2Proof.Machine.execBottomTreeBuild s
  | .ownerEnrol record fromMP => Sys2Proof.Machine.execOwnerEnrol record fromMP s
  | .ownerRelease w => Sys2Proof.Machine.execOwnerRelease w s
  | .emithKeyInstall sub w => Sys2Proof.Machine.execEmithKeyInstall sub w s
  | .fwStage record => Sys2Proof.Machine.execFwStage record s
  | .fwActivate w => Sys2Proof.Machine.execFwActivate w s
  | .fwRevert w => Sys2Proof.Machine.execFwRevert w s
  | .fwSwitch kind => Sys2Proof.Machine.execFwSwitch kind s
  | .fwConfirm w => Sys2Proof.Machine.execFwConfirm w s
  | .odpRead client frame => Sys2Proof.Machine.execOdpRead client frame s
  | .odpWrite client frame => Sys2Proof.Machine.execOdpWrite client frame s
  | .pwrite client frame => Sys2Proof.Machine.execPwrite client frame s
  | .subscribeEvents client frame => Sys2Proof.Machine.execSubscribeEvents client frame s
  | .subscribeStream client frame => Sys2Proof.Machine.execSubscribeStream client frame s
  | .eventSend client => Sys2Proof.Machine.execEventSend client s
  | .eventAck client frame => Sys2Proof.Machine.execEventAck client frame s
  | .eventRetry client => Sys2Proof.Machine.execEventRetry client s
  | .odpSubExpired client => Sys2Proof.Machine.execOdpSubExpired client s
  | .odpSnapshotExpiry client => Sys2Proof.Machine.execOdpSnapshotExpiry client s
  | .odpReplyCacheExpiry client reqId => Sys2Proof.Machine.execOdpReplyCacheExpiry client reqId s
  | .alertAck value => Sys2Proof.Machine.execAlertAck value s
  | .inputLowStretchEnd => Sys2Proof.Machine.execInputLowStretchEnd s
  | .mpLinkDown => Sys2Proof.Machine.execMpLinkDown s
  | .undervoltageLockout millivolts => Sys2Proof.Machine.execUndervoltageLockout millivolts s
  | .pfcPauseFrame iface quanta => Sys2Proof.Machine.execPfcPauseFrame iface quanta s
  | .rxDiscard port frame => Sys2Proof.Machine.execRxDiscard port frame s
  | .neighborDiscovery iface frame => Sys2Proof.Machine.execNeighborDiscovery iface frame s
  | .fwActivated start => Sys2Proof.Machine.execFwActivated start s

end Sys2Proof.Machine
end

