-- ==== Sys2Proof/Safety.lean ====
section
/-! DEFINITION. The words in which statements about a step are said: what it answers, what it keeps, and what holds at every moment. -/

namespace Sys2Proof

open Machine

/-- The outputs follow the log, the time state and Walnut's enable (R427, R518, R553). -/
def Settled (b : Block) : Prop := settle b = b

/-- An outcome that is a next state satisfying `P`. -/
def Goes (o : Host.Outcome State Fault Refusal) (P : State → Prop) : Prop := ∃ t, o = .next t ∧ P t

/-- Every number entry but those with the keys of `l` reads as before. -/
def RegsKept (l : List Nat) (b c : Block) : Prop := ∀ i k, odKey i k ∉ l → c.reg i k = b.reg i k

/-- Every octet-string entry but those with the keys of `l` reads as before. -/
def OctsKept (l : List Nat) (b c : Block) : Prop := ∀ i k, odKey i k ∉ l → c.oct i k = b.oct i k

/-- Every number entry but those of the indices of `l` reads as before. -/
def IdxKept (l : List Nat) (b c : Block) : Prop := ∀ i k, i < 65536 → i ∉ l → c.reg i k = b.reg i k

/-- Entries that the early end of tasks and transfers can write (R61, R109, R219, R227, R233, R359, R516). -/
def endIdx : List Nat := [Od.eventNextSeq, Od.ctxTaintOverflow, Od.plazaTaskAborts, Od.sePrefetchDiscardBytes, Od.hazelStageFaults, Od.ctxNfFlags]

/-- A management write reaches its entry: Walnut serves outside recovery, no image of it is switching, and the module is not Retired (R495, R502, R538). -/
abbrev Writable (b : Block) : Prop := b.sys.phase = .up ∧ b.walnutBusy = false ∧ b.service ≠ svcRetired

/-- The newest record of the event log. -/
def LastEvent (b : Block) (code ctx : Nat) (arg : List Byte) : Prop :=
  ∃ r, b.log.getLast? = some r ∧ r.code = code ∧ r.ctx = ctx ∧ r.dt = b.dt ∧ r.arg = arg

/-- The unit of a ticket has ended its task with a status and the unit part of its record (R243). -/
def EndedWith (b : Block) (t st u : Nat) : Prop := ∃ x, b.task? t = some x ∧ x.phase = .ended st u

/-- A ring is among the 32 whose fetch reads its Borough has outstanding at once (R260). -/
abbrev FetchServed (b : Block) (k : Nat) : Prop := b.served (sget 0 b.disp.turnFetch (homeOf k)) 32 k (b.fetchAsks (homeOf k)) = true

/-- The ready head of a ring is among the four that a cycle of its Borough issues (R260). -/
abbrev IssueServed (b : Block) (k : Nat) : Prop :=
  b.noteReady.served (sget 0 b.disp.turnIssue (homeOf k)) 4 k (b.noteReady.issueAsks (homeOf k)) = true

/-- The next record of the norm close of a kind that a slice can consume, with its NORM_CLOSE and cohort (R295). -/
def nextClose (b : Block) (slice kind : Nat) : Option (Parcel × Close × Cohort) :=
  (b.rb.rx.filterMap (fun p => if p.slice == slice && p.head.kind == kind then (b.closeFor p).map (fun w => (p, w)) else none)).head?

/-- The keys of an entry's subindices `lo` to `hi`. -/
def subKeys (i lo hi : Nat) : List Nat := (List.range (hi + 1 - lo)).map (fun n => odKey i (lo + n))

/-- Power has left every unit but Walnut (R167, R198, R337, R350, R528, R555): contents and work are gone, ports and connections are down, and only the entries that say so have changed. -/
def Unpowered (b c : Block) : Prop :=
  c.mem = Mem.reset ∧ c.slow = Mem.reset ∧ c.disp = Disp.reset ∧ c.plz = Plz.reset ∧ c.se = SeState.reset ∧ c.rb = Rb.reset
  ∧ c.emith.tx = [] ∧ c.emith.rx = [] ∧ c.emith.sessions = []
  ∧ (∀ n < 16, c.reg Od.fabPortState (n + 1) = 0) ∧ (∀ n < 2, c.reg Od.hostPortState (n + 1) = 0)
  ∧ (∀ p < 8, c.plaza p = if b.plaza p = plRetired then plRetired else plOffline)
  ∧ (∀ k < 8, c.stackState k = if b.stackState k = stLost then stLost else stOff)
  ∧ RegsKept (subKeys Od.fabPortState 1 16 ++ subKeys Od.hostPortState 1 2 ++ subKeys Od.plazaState 1 8 ++ subKeys Od.hbmStackState 1 8
      ++ [odKey Od.slowState 0]) b c
  ∧ c.odb = b.odb ∧ c.log = b.log ∧ c.fatal = b.fatal ∧ c.dt = b.dt ∧ c.odp = b.odp ∧ c.cal = b.cal ∧ c.wal = b.wal

/-- One of the first four reads of the PUF gives the device seed (R472, R474). -/
def Identified (boot : BootInputs) : Prop := (boot.pufReads.takeWhile (fun r => (reconstruct r).isNone)).length < 4

/-- Every image of a booting machine starts: none has an activation waiting or is on trial, and the image in its active slot passes (R478, R495, R497). -/
def ImagesStart (b : Block) : Prop :=
  ∀ k ∈ [kWalnut, kHazel, kGovernor, kConfig], (b.kind k).pending = none ∧ (b.kind k).trial = false ∧ b.passes k (b.kind k).active = true

/-- Bring-up has begun from a cleared machine, DT at the instant at which Walnut serves (R475, R528, R529). -/
def BringingUp (kind : Nat) (t : State) : Prop :=
  t.sys.phase = .up ∧ t.dt = bootDt ∧ t.power = pwrRun ∧ t.service = svcManagement ∧ t.pins.enabled = true ∧ t.sys.kind = kind
    ∧ t.mem = Mem.reset ∧ t.slow = Mem.reset ∧ t.disp = Disp.reset ∧ (∀ p < 8, t.plaza p = plRetired ∨ t.plaza p = plOffline)
    ∧ t.sys.checks = ((List.range 8).filter (fun p => t.plaza p != plRetired)).map (fun p => (p, .bringup))

/-- What a boot leaves (R472 to R475, R478, R479, R528, R529, R543). With STRAP_BOOT at recovery, recovery. With it at 0, where the device is identified, every image starts, no stack is on record as lost and some Plaza is not RETIRED,
bring-up begun; else Walnut held by a failed start of its image, recovery for want of an image, or Retired. A device that four reads do not identify has DEVICE_ID and KEM_EK of zeros, and Walnut retires it once it serves. -/
def Booted (boot : BootInputs) (kind : Nat) (s t : State) : Prop :=
  (boot.strapBoot % 4 = 1 → Identified boot → t.sys.phase = .recovery ∧ t.pins.enabled = true ∧ LastEvent t.toBlock 0xC731 noCtx [] ∧ t.dt = bootDt
    ∧ t.mem = Mem.reset ∧ t.slow = Mem.reset ∧ t.disp = Disp.reset
    ∧ t.reg Od.bootCount 0 = wrap (odWidth Od.bootCount 0) (s.reg Od.bootCount 0 + 1))
  ∧ (¬ Identified boot → (t.service = svcRetired ∨ t.sys.phase = .held) ∧ t.oct Od.deviceId 0 = List.replicate 32 0 ∧ t.oct Od.kemEk 0 = List.replicate 1568 0)
  ∧ (boot.strapBoot % 4 = 0 → Identified boot → ImagesStart (s.toBlock.bootStart boot) → s.oct Od.hbmRetireRecord 0 = [] → (∃ p < 8, ∀ u ∈ s.ras.out, u / 256 ≠ p) → BringingUp kind t)
  ∧ (boot.strapBoot % 4 ≠ 1 → t.service = svcRetired ∨ t.sys.phase = .held ∨ t.sys.phase = .recovery ∨ BringingUp kind t)

/-- No output is driven (R553). -/
def Undriven (b : Block) : Prop := b.pins.enabled = false ∧ b.pins.alert = false ∧ b.pins.therm = false ∧ b.pins.ppsOut = false

/-- The frames sent are one more Emith packet of a connection, on an interface: queued behind what waits there, with its DT of departure as TX_TS, the tag of the interface, and ECT(0) on DATA and ACK (R313, R318, R329, R330). -/
def Sent (s t : Block) (iface : Nat) (conn : ConnKey) (type cgen psn len : Nat) : Prop :=
  ∃ (f : WireFrame) (h : EHead), t.emith.wire = s.emith.wire ++ [f] ∧ f.iface = iface ∧ f.tag = s.tagOf iface ∧ ((type = etData ∨ type = etAck) → f.ecn = 2)
    ∧ f.leaves = ({ s with dt := t.dt } : Block).departs iface ∧ f.pkt.header = BitVec.ofNat 256 h.num
    ∧ h.ver = 1 ∧ h.type = type ∧ h.wctx = conn.wctx ∧ h.cgen = cgen ∧ h.psn = psn ∧ h.len = len ∧ h.ts = f.leaves % 2 ^ 48

/-- A connection between devices can send: its key slot holds a key and gives a TXC (R318, R319). -/
abbrev CanSend (b : Block) (conn : ConnKey) : Prop :=
  conn.slice ≠ hostSlice ∧ b.trafficKey (b.reg Od.emithTxKeySlot 0) ≠ [] ∧ (b.takeTxc (b.reg Od.emithTxKeySlot 0)).1 ≠ none

/-- A command of an open session is held with a PSN and may take effect (R339). -/
abbrev HostTaken (b : Block) (n psn : Nat) (x : Session) (c : HostCmd) : Prop :=
  b.session? n = some x ∧ b.heldCmd n psn = some c ∧ b.live = true ∧ b.mayTake c = true

/-- Walnut takes datagrams that come as this client's does (R499, R500), and no outcome of the bring-up's lane test is due (R199). -/
abbrev Reached (b : Block) (c : Client) : Prop := b.serving = true ∧ b.walnutBusy = false ∧ b.servedAt c = true ∧ b.laneTested = b

/-- A request of kind `k` reaches Walnut from a client that it keeps, within the rate, and is executed (R499, R500, R503, R505, R511). -/
abbrev Requested (b : Block) (c : Client) (f : Frame) (k : Nat) : Prop :=
  Reached b c ∧ f.short = false ∧ b.filterPasses c.addr = true ∧ (frameHead f).len ≤ f.data.length ∧ (frameHead f).ver = 1
  ∧ b.overRate = false ∧ (b.client? c).isSome = true ∧ b.kept c (frameHead f).reqId = none ∧ (frameHead f).request = k ∧ (frameHead f).malformed = false

/-- The only frame sent is the response to a request, with its status, LAST and data (R503). -/
def Responded (s t : Block) (c : Client) (f : Frame) (status : Nat) (last : Bool) (data : List Byte) : Prop :=
  t.odp.tx = s.odp.tx ++ [s.sent c (responseOf (frameHead f) status last s.dt data)]

/-- The six requests as commands, with their kinds. -/
def requests (c : Client) (f : Frame) : List (Instr × Nat) :=
  [(.odpRead c f, 1), (.odpWrite c f, 2), (.pwrite c f, 3), (.subscribeEvents c f, 4), (.subscribeStream c f, 5), (.eventAck c f, 6)]

/-- The four commands that move shedding, each with SHED_N and PWR_SHED_CMD as it leaves them and the condition under which it reaches them (R460, R557). -/
def shedCommands (b : Block) : List (Instr × Bool × Nat × Prop) :=
  [(.shedAssert, true, b.reg Od.pwrShedCmd 0, True), (.shedRelease, false, b.reg Od.pwrShedCmd 0, True),
   (.pwrShedCmd 0, b.pins.shed, 0, Writable b), (.pwrShedCmd 1, b.pins.shed, 1, Writable b)]

/-- Shedding has begun now, with every task in its place (R460). -/
def ShedBegun (b c : Block) : Prop :=
  c.gov.shed = true ∧ c.gov.shedAt = b.dt ∧ LastEvent c 0x0425 noCtx [] ∧ c.disp = b.disp ∧ c.plz = b.plz ∧ c.mem = b.mem ∧ c.emith = b.emith ∧ c.ras = b.ras
  ∧ c.gov.clock = b.gov.clock ∧ c.dt = b.dt ∧ RegsKept [odKey Od.pwrShedCmd 0, odKey Od.eventNextSeq 0] b c

/-- Shedding has ended now, with c at 450 W and every Plaza at a start clock (R461). -/
def ShedEnded (b c : Block) : Prop :=
  c.gov.shed = false ∧ c.gov.sheds = b.gov.sheds ++ [(b.gov.shedAt, b.dt)] ∧ LastEvent c 0x0426 noCtx [] ∧ c.gov.cap = 450 * 10 ^ 6 ∧ c.gov.capAt = b.dt
  ∧ (∀ p < 8, c.clockOf p = c.wanted p ∧ c.targetOf p = c.wanted p) ∧ c.disp = b.disp ∧ c.plz = b.plz ∧ c.mem = b.mem ∧ c.emith = b.emith ∧ c.ras = b.ras ∧ c.dt = b.dt
  ∧ RegsKept [odKey Od.pwrShedCmd 0, odKey Od.eventNextSeq 0] b c

/-- Entries whose write is a command of its own, or has an effect beyond its own value. -/
def activeEntries : List Nat :=
  [Od.deviceReset, Od.pwrStateReq, Od.boroughReset, Od.plazaReset, Od.plazaHold, Od.iftRequest, Od.dispRingConfig, Od.dispRingResume, Od.dispTokenValue,
   Od.ctxReset, Od.rbCohortConfig, Od.hazelSkewResolve, Od.fabPortMode, Od.pwrSetpointNow, Od.pwrSetpointSched, Od.pwrSchedCancel, Od.pwrShedCmd, Od.timeSet,
   Od.alertAck, Od.ownerEnrol, Od.attRequest, Od.fwStage, Od.dispRingSelect, Od.rbCohortSelect, Od.dispTokenSelect, Od.ctxTtRoot, Od.ctxStepRelease,
   Od.timeSource, Od.ptpPort, Od.ptpPortAlt, Od.pgovLearnCtx, Od.silentStepsLimit, Od.fabVlan, Od.hostVlan, Od.emithDscp]

/-- The records that the next EVENT frame of a subscription covers, and those of them that it carries (R521). -/
def dueEvents (b : Block) (e : EventSub) : Nat × List EventRec :=
  cover e.mask frameRecords ((b.log.filter (fun r => serialGe r.seq e.sent)).take (eventWindow - seqSub e.sent e.cursor))

/-- That frame. -/
def eventFrame (b : Block) (e : EventSub) : Frame :=
  pushFrame oEvent stOK e.frames Od.eventLog e.sent b.dt (beBytes 4 (seqAdd e.sent (dueEvents b e).1) ++ (dueEvents b e).2.flatMap EventRec.bytes)

/-- What a Borough reset of Bk clears (R540). -/
def BoroughCleared (k : Nat) (b : Block) : Prop :=
  (∀ a, terraceBase + k * terraceSize ≤ a → a < terraceBase + (k + 1) * terraceSize → b.mem.byte a = 0#8 ∧ b.mem.poisoned (a / 8) = false)
  ∧ (∀ e ∈ b.se.tlb, e.engine / 4 ≠ k) ∧ (∀ x ∈ b.se.streams, x.engine / 4 ≠ k)
  ∧ (∀ x ∈ b.rb.rx, x.slice ≠ k) ∧ (∀ x ∈ b.rb.tx, x.slice ≠ k)
  ∧ (∀ c ∈ b.emith.tx, c.key.slice ≠ k) ∧ (∀ c ∈ b.emith.rx, c.key.slice ≠ k)
  ∧ b.gov.profile = List.replicate 64 0 ∧ b.reg Od.pgovLearnState 0 = (if b.reg Od.pgovLearnCtx 0 = 255 then 0 else 1) ∧ (k = 0 → b.rb.sums = [])

end Sys2Proof
end

