-- ==== Sys2Proof/Certificates/Slice0/Obligations.lean ====
section
/-! DEFINITION. Statements about the model, for the provers. -/

open Sys2Proof Sys2Proof.Machine

/-- The command at the front of the queue runs with the queue's rest. An empty queue leaves the machine as it is: the model's choice (log entry 7). -/
def Obligations.StepRunsFront : Prop :=
  (∀ (s : State) (c : Instr) (rest : List Instr), s.pending = c :: rest → step s = exec c { s with pending := rest })
  ∧ (∀ s : State, s.pending = [] → step s = .next s)

/-- Every command leaves the waiting commands as they are, so a step takes exactly one command off the queue. -/
def Obligations.QueueIsFifo : Prop :=
  (∀ (c : Instr) (s t : State), exec c s = .next t → t.pending = s.pending)
  ∧ ∀ s t : State, step s = .next t → t.pending = s.pending.tail

/-- The machine after reset: Off with no pin driven, nothing in memory, logs or queue, every entry at its default (R11, R534). What an entry without a reset value reads as is the model's choice (log entry 2). -/
def Obligations.ResetState : Prop :=
  (State.reset.pending = [] ∧ State.reset.sys.phase = .off ∧ State.reset.log = [] ∧ State.reset.fatal = []
  ∧ State.reset.mem = Mem.reset ∧ State.reset.slow = Mem.reset ∧ State.reset.pins = Pins.reset ∧ State.reset.disp.tasks = []
  ∧ (∀ i k, State.reset.reg i k = odDefault i k) ∧ ∀ i k, State.reset.oct i k = octDefault i k)
  ∧ (Settled State.reset.toBlock)

/-- The outputs are settled after every step from a state in which they are. -/
def Obligations.SettledKept : Prop := ∀ s t : State, Settled s.toBlock → step s = .next t → Settled t.toBlock

/-- ALERT_N is asserted exactly while the outputs are enabled and the log holds a record whose severity is at least ALERT_LEVEL and whose SEQ is at or after ALERT_ACK, after every step from a settled state; a write of ALERT_ACK is accepted and releases ALERT_N unless a later record meets the condition (R518). -/
def Obligations.AlertFollowsLog : Prop :=
  (∀ s t : State, Settled s.toBlock → step s = .next t →
    (t.pins.alert = true ↔ t.pins.enabled = true
      ∧ ∃ r ∈ t.log, t.reg Od.alertLevel 0 ≤ r.code / 2 ^ 14 ∧ serialGe r.seq (t.reg Od.alertAck 0) = true))
  ∧ ∀ (s : State) (v : Nat), s.sys.phase = .up → s.toBlock.walnutBusy = false → v < 2 ^ 32 → Goes (exec (.alertAck v) s) fun t =>
    t.odp.status = stOK ∧ t.reg Od.alertAck 0 = v ∧ t.log = s.log ∧ RegsKept [odKey Od.alertAck 0] s.toBlock t.toBlock
    ∧ ((∀ r ∈ s.log, s.reg Od.alertLevel 0 ≤ r.code / 2 ^ 14 → serialGe r.seq v = false) → t.pins.alert = false)
    ∧ ((∃ r ∈ s.log, s.reg Od.alertLevel 0 ≤ r.code / 2 ^ 14 ∧ serialGe r.seq v = true) → t.pins.alert = s.pins.enabled)

/-- Writing one entry of the register file changes what that entry reads as, reduced to its width, and no other entry. -/
def Obligations.RegisterFile : Prop :=
  ∀ (b : Block) (i k v : Nat), (b.setReg i k v).reg i k = v % 2 ^ odWidth i k ∧ RegsKept [odKey i k] b (b.setReg i k v)
    ∧ b.setReg i k v = { b with od := (b.setReg i k v).od }

/-- A word with one data bit in error is corrected (R391 case 4), unless case 1 takes it first: the received word differs from poison in one bit. -/
def Obligations.SingleErrorCorrected : Prop :=
  ∀ d i : Nat, d < 2 ^ 64 → i < 64 → let r := d ^^^ (1 <<< i)
    decodeWord r (checkBits d) = .corrected d ∨ (decodeWord r (checkBits d) = .poison true ∧ ∃ j < 64, r ^^^ (1 <<< j) = poisonWord)

/-- Two data bits in error are found and not corrected (R391 case 5), unless the received word is poison itself, which case 1 may take. -/
def Obligations.DoubleErrorDetected : Prop :=
  ∀ d i j : Nat, d < 2 ^ 64 → i < 64 → j < i → let r := d ^^^ (1 <<< i) ^^^ (1 <<< j)
    decodeWord r (checkBits d) = .bad (checkBits d ^^^ checkBits r) ∨ (r = poisonWord ∧ decodeWord r (checkBits d) = .poison false)

/-- POWER_ON (R528), LOSS_OF_INPUT (R556), RST_N_ASSERT and RST_N_RELEASE (R555) and UNDERVOLTAGE_LOCKOUT (R563): in every state each of the first four completes, and the fifth up to 66 V. A level that a pin already has changes nothing. PGOOD low leaves the module in Off, and RST_N asserted leaves it held, each without any unit's power and with no output driven (R553); PGOOD high with RST_N released boots it, as does the release of RST_N with PGOOD high. Above the absolute maximum of the input that R563 gives for any time the machine stops: the spec gives no effect there. What a boot leaves beyond the rules is the model's: log entries 13, 30. -/
def Obligations.PowerPins : Prop :=
  ((∀ s : State,
    (s.pins.pgood = true → Goes (exec .lossOfInput s) fun t =>
      t.sys.phase = .off ∧ t.pins.pgood = false ∧ t.pins.vwal = s.pins.vwal ∧ t.pins.rst = s.pins.rst ∧ Undriven t.toBlock ∧ Unpowered s.toBlock t.toBlock)
    ∧ (s.pins.pgood = false → Goes (exec .lossOfInput s) fun t => t.toBlock = settle s.toBlock))
  ∧ (∀ s : State,
    (s.sys.phase ≠ .off → Goes (exec .rstNAssert s) fun t =>
      t.sys.phase = .held ∧ t.sys.kind = 1 ∧ t.pins.rst = true ∧ t.pins.pgood = s.pins.pgood ∧ Undriven t.toBlock ∧ Unpowered s.toBlock t.toBlock)
    ∧ (s.sys.phase = .off → Goes (exec .rstNAssert s) fun t => t.toBlock = settle { s.toBlock with pins := { s.pins with rst := true } }))
  ∧ (∀ (s : State) (boot : BootInputs),
    (s.pins.pgood = true → Goes (exec (.powerOn boot) s) fun t => t.toBlock = settle s.toBlock)
    ∧ (s.pins.pgood = false → s.pins.rst = true → Goes (exec (.powerOn boot) s) fun t =>
      t.sys.phase = .held ∧ t.sys.kind = 0 ∧ t.pins.pgood = true ∧ t.pins.vwal = true ∧ Undriven t.toBlock ∧ Unpowered s.toBlock t.toBlock)
    ∧ (s.pins.pgood = false → s.pins.rst = false → Goes (exec (.powerOn boot) s) fun t => t.pins.pgood = true ∧ t.pins.vwal = true ∧ Booted boot 0 s t))
  ∧ (∀ (s : State) (boot : BootInputs),
    (s.pins.rst = false → Goes (exec (.rstNRelease boot) s) fun t => t.toBlock = settle s.toBlock)
    ∧ (s.pins.rst = true → s.pins.pgood = false → Goes (exec (.rstNRelease boot) s) fun t => t.toBlock = settle { s.toBlock with pins := { s.pins with rst := false } })
    ∧ (s.pins.rst = true → s.pins.pgood = true → Goes (exec (.rstNRelease boot) s) fun t => t.pins.rst = false ∧ Booted boot s.sys.kind s t))
  ∧ (∀ (s : State) (mv : Nat),
    (44000 ≤ mv → mv ≤ 66000 → Goes (exec (.undervoltageLockout mv) s) fun t => t.toBlock = settle { s.toBlock with pins := { s.pins with vwal := true } })
    ∧ (42000 < mv → mv < 44000 → Goes (exec (.undervoltageLockout mv) s) fun t => t.toBlock = settle s.toBlock)
    ∧ (mv ≤ 42000 → s.sys.phase = .off → Goes (exec (.undervoltageLockout mv) s) fun t => t.toBlock = settle { s.toBlock with pins := { s.pins with vwal := false } })
    ∧ (mv ≤ 42000 → s.sys.phase ≠ .off → Goes (exec (.undervoltageLockout mv) s) fun t =>
      t.pins.vwal = false ∧ t.sys.phase = .off ∧ Undriven t.toBlock ∧ Unpowered s.toBlock t.toBlock)))
  ∧ (∀ (s : State) (mv : Nat), exec (.undervoltageLockout mv) s = .fault .inputAbsoluteMaximum ↔ 66000 < mv)

/-- DEVICE_RESET with 1 starts a Warm reset (R539, R543): the response is OK, and 10 ms later the module comes up again with HBM and the Terraces cleared, the slow tier and its key kept, no ticket, ring or connection left, and every Plaza that is not RETIRED to be checked. Another value is out of range. What the spec does not fix of it is the model's: log entries 13, 26. -/
def Obligations.WarmReset : Prop :=
  (∀ (s : State) (boot : BootInputs), Writable s.toBlock → s.toBlock.inBringup = false → Goes (exec (.deviceReset 1 boot) s) fun t =>
    t.odp.status = stOK ∧ t.dt = s.dt + 10 ^ 7 ∧ t.service = svcManagement ∧ t.power = pwrRun ∧ t.sys.kind = 2
    ∧ t.mem = Mem.reset ∧ t.slow = s.slow ∧ t.hazel.key = s.hazel.key ∧ t.disp = Disp.reset ∧ t.rb = Rb.reset ∧ t.se = SeState.reset
    ∧ t.emith.tx = [] ∧ t.emith.sessions = [] ∧ (∀ p < 8, t.plaza p = plRetired ∨ t.plaza p = plOffline)
    ∧ t.sys.checks = ((List.range 8).filter (fun p => t.plaza p != plRetired)).map (fun p => (p, .bringup)) ∧ t.wal = s.wal)
  ∧ ∀ (s : State) (boot : BootInputs) (v : Nat), Writable s.toBlock → v ≠ 1 → Goes (exec (.deviceReset v boot) s) fun t =>
    t.toBlock = settle (s.toBlock.answer stRange)

/-- BOROUGH_RESET and BOROUGH_SILENCE start a Borough reset of Bk (R539, R540): Terrace k reads zero, the engines of Bk hold no translation and no stream, its slice no parcel and no connection, the learned profile is cleared, and B0 loses the norm kernel. PLAZA_RESET (R541): the Plaza is OFFLINE with a start check due, and its accumulator sets, ready drains and WVU input queues are empty. What the spec does not fix of it is the model's: log entry 26. -/
def Obligations.UnitResets : Prop :=
  ((∀ (s : State) (k : Nat), k < 4 → Writable s.toBlock → s.toBlock.live = true → s.service = svcFull → s.toBlock.boroughBusy k = false →
    Goes (exec (.boroughReset k) s) fun t => BoroughCleared k t.toBlock)
  ∧ ∀ (s : State) (k : Nat), k < 4 → s.toBlock.live = true → s.toBlock.walnutBusy = false → s.service = svcFull → s.toBlock.boroughBusy k = false →
    Goes (exec (.boroughSilence k) s) fun t => BoroughCleared k t.toBlock)
  ∧ (∀ (s : State) (p : Nat), p < 8 → Writable s.toBlock → s.toBlock.live = true → s.service = svcFull → s.plaza p ≠ plRetired →
    (∀ c ∈ s.sys.checks, c.1 ≠ p) → Goes (exec (.plazaReset p) s) fun t =>
      t.plaza p = plOffline ∧ t.sys.checks.getLast? = some (p, .plazaReset)
      ∧ (∀ e ∈ t.plz.sets, e.1 / 2304 ≠ p) ∧ (∀ j ∈ t.plz.drains, j.plaza ≠ p) ∧ (∀ q ∈ t.plz.queues, q.wvu ≠ p) ∧ ∀ o ∈ t.plz.outs, o.wvu ≠ p)

/-- CTX_RESET with 1 stops a context that is not resetting (R270): it is RESETTING, none of its tasks still runs, its rings have dropped what was published and not fetched, and no drained set or root computation of it is left. Memory, the slow tier and the links are as before, and entries other than those that an aborted task writes. CTX_RESET_DONE ends the reset of a context (R270): it is READY, holds no ticket, taint, translation or armed stream, its rings are ACTIVE and empty, and event 0x0364 names it. What the spec does not fix of it is the model's: log entry 25. -/
def Obligations.ContextResets : Prop :=
  (∀ (s : State) (c : Nat), c < 64 → Writable s.toBlock → s.service ≠ svcManagement → s.toBlock.resetting c = false →
    Goes (exec (.ctxReset c 1) s) fun t =>
      t.odp.status = stOK ∧ t.toBlock.resetting c = true ∧ (∀ x ∈ t.disp.tasks, x.ctx = c → x.isRunning = false)
      ∧ (∀ k, cfgCtx (t.toBlock.ring k).cfg = c → (t.toBlock.ring k).fetch = (t.toBlock.ring k).producer ∧ t.toBlock.holdOf k = Hold.none)
      ∧ (∀ j ∈ t.plz.drains, j.set_.ctx ≠ c) ∧ (∀ q ∈ t.plz.queues, q.set_.ctx ≠ c) ∧ (∀ j ∈ t.hazel.roots, j.ctx ≠ c)
      ∧ IdxKept (Od.ctxState :: endIdx) s.toBlock t.toBlock
      ∧ t.mem = s.mem ∧ t.slow = s.slow ∧ t.emith = s.emith ∧ t.dt = s.dt ∧ t.wal = s.wal ∧ t.gov = s.gov)
  ∧ (∀ (s : State) (c : Nat), c < 64 → s.toBlock.resetting c = true → s.toBlock.live = true → Goes (exec (.ctxResetDone c) s) fun t =>
    t.reg Od.ctxState (c + 1) = 0 ∧ t.toBlock.ctxBusy c = false ∧ LastEvent t.toBlock 0x0364 c []
    ∧ (∀ x ∈ t.se.taints, x.ctx ≠ c) ∧ (∀ x ∈ t.se.tlb, x.ctx ≠ c) ∧ (∀ x ∈ t.se.streams, x.ctx ≠ c)
    ∧ (∀ e ∈ t.disp.rings, cfgCtx e.2.cfg = c → e.2.state ≠ .disabled → e.2.state = .active ∧ e.2.fetch = e.2.producer ∧ e.2.reason = 0))

/-- START_CHECK_DONE (R527, R529, R541): a clean check in bring-up leaves the Plaza OFFLINE and passed; after a Plaza reset it returns it to service, with event 0x0113; a permanent failure of a block retires it. In every case the check is no longer pending. What the spec does not fix of it is the model's: log entry 26. -/
def Obligations.StartCheck : Prop :=
  (∀ (s : State) (p : Nat) (r : TestResult), p < 8 → s.toBlock.live = true → s.sys.checks.find? (fun c => c.1 == p) = some (p, .bringup) → r.failed = [] →
    s.toBlock.mustRetire p = false → Goes (exec (.startCheckDone p r) s) fun t =>
      t.plaza p = plOffline ∧ p ∈ t.sys.passed ∧ (∀ c ∈ t.sys.checks, c.1 ≠ p) ∧ RegsKept [odKey Od.plazaState (p + 1)] s.toBlock t.toBlock)
  ∧ (∀ (s : State) (p : Nat) (r : TestResult), p < 8 → s.toBlock.live = true → s.sys.checks.find? (fun c => c.1 == p) = some (p, .plazaReset) → r.failed = [] →
    s.toBlock.mustRetire p = false → s.service = svcFull → s.reg Od.plazaHold (p + 1) = 0 → s.ras.tests = [] →
    Goes (exec (.startCheckDone p r) s) fun t => t.plaza p = plInService ∧ t.mapNow p = p ∧ LastEvent t.toBlock 0x0113 noCtx [] ∧ ∀ c ∈ t.sys.checks, c.1 ≠ p)
  ∧ ∀ (s : State) (p k : Nat) (r : TestResult) (why : CheckFor), p < 8 → k < 144 → s.toBlock.live = true → s.sys.checks.find? (fun c => c.1 == p) = some (p, why) →
    r.failed = [(unitCode p k, true)] → Goes (exec (.startCheckDone p r) s) fun t =>
      t.plaza p = plRetired ∧ unitCode p k ∈ t.ras.retired ∧ ∀ c ∈ t.sys.checks, c.1 ≠ p

/-- SERVICE_LIMITED (R530): once P0 and P1 have been checked and HP0 has trained, the module is LIMITED with the Plazas that passed, every logical Plaza served by one of them, and event 0x0110. SERVICE_FULL (R529, R533): with every training passed and nothing shed the module is FULL, its memories in service, and each Plaza that passed is IN_SERVICE unless it is held; a failed training of the slow tier, of the edges or of a stack retires the module instead. What the spec does not fix of it is the model's: log entries 9, 13, 26, 28. -/
def Obligations.Service : Prop :=
  (∀ s : State, s.toBlock.live = true → s.service = svcManagement → s.gov.shed = false → s.toBlock.usesLimited = true → s.toBlock.checking [0, 1] = false →
    s.sys.hp0Trained = true → Goes (exec .serviceLimited s) fun t =>
      t.service = svcLimited ∧ (∀ p < 2, p ∈ s.sys.passed → t.plaza p = plLimited) ∧ (∀ p < 8, t.mapNow p < 2 ∧ t.mapNow p ∈ s.sys.passed)
      ∧ LastEvent t.toBlock 0x0110 noCtx [] ∧ t.dt = max s.dt (s.toBlock.phaseAt 600 340) ∧ t.mem = s.mem ∧ t.slow = s.slow
      ∧ RegsKept (odKey Od.moduleService 0 :: odKey Od.eventNextSeq 0 :: subKeys Od.plazaState 1 2 ++ subKeys Od.dispPlazaMap 1 8) s.toBlock t.toBlock)
  ∧ ((∀ s : State, s.toBlock.live = true → s.service ≠ svcFull → s.gov.shed = false → s.toBlock.shedAsked = false → (s.service = svcManagement → s.toBlock.usesLimited = false) →
    s.toBlock.checking (List.range 8) = false → s.sys.slowOk = true → s.toBlock.edgesFailed = [] → (∀ k < 8, nth true s.toBlock.laneTest.sys.hbmOk k = true) →
    Goes (exec .serviceFull s) fun t =>
      t.service = svcFull ∧ (∀ p < 8, p ∈ s.sys.passed → t.plaza p = if s.reg Od.plazaHold (p + 1) = 0 then plInService else if s.toBlock.plazaBusy p then plDraining else plOffline)
      ∧ (∀ k < 8, t.toBlock.stackState k = stInService ∨ t.toBlock.stackState k = stLost) ∧ t.dt = max s.dt (s.toBlock.phaseAt 5820 4920) ∧ t.mem = s.mem ∧ t.slow = s.slow)
  ∧ ∀ s : State, s.toBlock.live = true → s.service ≠ svcFull → s.gov.shed = false → (s.service = svcManagement → s.toBlock.usesLimited = false) →
    s.toBlock.checking (List.range 8) = false → (s.sys.slowOk = false ∨ s.toBlock.edgesFailed ≠ [] ∨ ∃ k < 8, nth true s.toBlock.laneTest.sys.hbmOk k = false) →
    Goes (exec .serviceFull s) fun t => t.service = svcRetired ∧ t.power = pwrRetired ∧ LastEvent t.toBlock 0xC115 noCtx [] ∧ t.mem = Mem.reset ∧ t.disp = Disp.reset)

/-- RUN_REQUEST (R536, R537, R542): it leaves Park with memory kept and every stack back in service; it leaves Standby into a bring-up of kind 5; in Run or Idle it changes nothing but its answer; it is refused while the exit from Standby goes on (the model's reading, log entry 23; also the model's: log entries 9 and 28). PARK_REQUEST (R198, R536): without tickets, at full service, the write-combining buffers are written out, memories refresh themselves and the module is in Park; otherwise the write is refused. STANDBY_REQUEST (R350, R537): from Park, or where Park may be entered, contents, tickets, connections and sessions are lost and only Walnut serves, with event 0x0112. IDLE_ENTRY (R535): PWR_IDLE_MS after the last moment with a ticket, a root computation or a test, the module is Idle, with event 0x0112 and no other entry changed. -/
def Obligations.PowerStates : Prop :=
  ((∀ (s : State) (boot : BootInputs), Writable s.toBlock → s.power = pwrPark → Goes (exec (.runRequest boot) s) fun t =>
    t.odp.status = stOK ∧ t.power = pwrRun ∧ t.mem = s.mem ∧ t.slow = s.slow ∧ t.hbm.nextAt = s.dt + 1
    ∧ ∀ k < 8, t.toBlock.stackState k = if s.toBlock.stackState k = stLost then stLost else stInService)
  ∧ (∀ (s : State) (boot : BootInputs), Writable s.toBlock → s.power = pwrStandby → Goes (exec (.runRequest boot) s) fun t =>
    t.odp.status = stOK ∧ t.power = pwrRun ∧ t.service = svcManagement ∧ t.sys.kind = 5 ∧ (∀ p < 8, t.plaza p = plRetired ∨ t.plaza p = plOffline)
    ∧ t.sys.checks = ((List.range 8).filter (fun p => t.plaza p != plRetired)).map (fun p => (p, .bringup)))
  ∧ ∀ (s : State) (boot : BootInputs), Writable s.toBlock → s.power ≠ pwrPark → s.power ≠ pwrStandby → Goes (exec (.runRequest boot) s) fun t =>
    t.toBlock = settle (s.toBlock.answer (if s.toBlock.exitingStandby then stWriteRefused else stOK)))
  ∧ ((∀ s : State, Writable s.toBlock → s.toBlock.mayPark = true → Goes (exec .parkRequest s) fun t =>
    t.odp.status = stOK ∧ t.power = pwrPark ∧ t.hbm.wcb = [] ∧ t.mem = s.mem ∧ t.slow = s.slow ∧ t.disp = s.disp
    ∧ ∀ k < 8, t.toBlock.stackState k = if s.toBlock.stackState k = stLost then stLost else stSelfRefresh)
  ∧ ∀ s : State, Writable s.toBlock → s.toBlock.mayPark = false → Goes (exec .parkRequest s) fun t => t.toBlock = settle (s.toBlock.answer stWriteRefused))
  ∧ (∀ s : State, Writable s.toBlock → (s.toBlock.mayPark = true ∨ s.power = pwrPark) → Goes (exec .standbyRequest s) fun t =>
    t.odp.status = stOK ∧ t.power = pwrStandby ∧ t.service = svcManagement ∧ t.mem = Mem.reset ∧ t.slow = Mem.reset ∧ t.disp = Disp.reset
    ∧ t.emith.tx = [] ∧ t.emith.rx = [] ∧ t.emith.sessions = [] ∧ t.dt = s.dt ∧ t.wal = s.wal ∧ LastEvent t.toBlock 0x0112 noCtx [])
  ∧ (∀ s : State, s.toBlock.live = true → s.power = pwrRun → s.service = svcFull → s.gov.shed = false → s.toBlock.busy = false → Goes (exec .idleEntry s) fun t =>
    t.power = pwrIdle ∧ t.dt = max s.dt (s.sys.busyAt + s.reg Od.pwrIdleMs 0 * 10 ^ 6) ∧ LastEvent t.toBlock 0x0112 noCtx []
    ∧ RegsKept [odKey Od.pwrState 0, odKey Od.eventNextSeq 0] s.toBlock t.toBlock ∧ t.mem = s.mem ∧ t.disp = s.disp ∧ t.gov = s.gov)

/-- PLAZA_HOLD (R545): the value is kept and answered OK; a Plaza in service drains towards OFFLINE, and a held Plaza that is released gets a start check. IFT_REQUEST (R546): a regular test of the Plaza is due now, or is already starting. -/
def Obligations.PlazaWrites : Prop :=
  (∀ (s : State) (p v : Nat), p < 8 → v ≤ 2 → Writable s.toBlock → Goes (exec (.plazaHold p v) s) fun t =>
    t.odp.status = stOK ∧ t.reg Od.plazaHold (p + 1) = v ∧ t.mem = s.mem ∧ t.disp.tasks = s.disp.tasks
    ∧ (s.service = svcFull → s.toBlock.live = true → v ≠ 0 → s.plaza p = plInService → t.plaza p = plDraining ∧ p ∈ t.ras.leaving)
    ∧ (s.service = svcFull → s.toBlock.live = true → v = 0 → s.plaza p = plOffline → ∃ c ∈ t.sys.checks, c.1 = p)
    ∧ (s.service ≠ svcFull → RegsKept [odKey Od.plazaHold (p + 1)] s.toBlock t.toBlock))
  ∧ (∀ (s : State) (p v : Nat), 2 < v → Writable s.toBlock → Goes (exec (.plazaHold p v) s) fun t => t.toBlock = settle (s.toBlock.answer stRange))
  ∧ (∀ (s : State) (p : Nat), p < 8 → Writable s.toBlock → s.service = svcFull → s.plaza p ≠ plRetired → s.dt < 2 ^ 64 →
    (∀ x ∈ s.ras.tests, x.plaza = p → x.draining = false) → Goes (exec (.iftRequest p) s) fun t =>
      t.odp.status = stOK ∧ t.reg Od.iftNextDue (p + 1) = s.dt ∧ t.dt = s.dt ∧ ∃ x ∈ t.ras.tests, x.plaza = p ∧ x.observation = false ∧ x.due = s.dt)
  ∧ (∀ (s : State) (p : Nat), p < 8 → Writable s.toBlock → s.service = svcFull → s.plaza p ≠ plRetired → (∃ x ∈ s.ras.tests, x.plaza = p ∧ x.draining = true) →
    Goes (exec (.iftRequest p) s) fun t => t.toBlock = settle (s.toBlock.answer stOK))
  ∧ ∀ (s : State) (p : Nat), Writable s.toBlock → (7 < p ∨ s.service ≠ svcFull ∨ s.plaza p = plRetired) → Goes (exec (.iftRequest p) s) fun t =>
    t.toBlock = settle (s.toBlock.answer (if 7 < p then stRange else stWriteRefused))

/-- DISP_RING_CONFIG (R238), DISP_RING_RESUME (R251) and DISP_TOKEN_VALUE (R272): what a write does to its ring or token, that every other ring or token stays, and when it is refused. -/
def Obligations.RingWrites : Prop :=
  (∀ (s : State) (r : BitVec 256), Writable s.toBlock → s.service ≠ svcManagement → s.toBlock.resetting (cfgCtx r) = false → s.toBlock.ringResetting (cfgRing r) = false →
    (s.toBlock.ring (cfgRing r)).state = .disabled → cfgEnable r = true → (∀ x ∈ s.disp.tasks, x.ring ≠ cfgRing r) → badRing r = false →
    Goes (exec (.dispRingConfig r) s) fun t =>
      t.odp.status = stOK ∧ t.toBlock.ring (cfgRing r) = { Ring.empty with cfg := r, state := .active } ∧ (∀ k, k ≠ cfgRing r → t.toBlock.ring k = s.toBlock.ring k)
      ∧ t.disp.tasks = s.disp.tasks ∧ t.mem = s.mem ∧ RegsKept [] s.toBlock t.toBlock)
  ∧ (∀ (s : State) (r : BitVec 256), Writable s.toBlock → s.service ≠ svcManagement → s.toBlock.ringResetting (cfgRing r) = false → cfgEnable r = false →
    Goes (exec (.dispRingConfig r) s) fun t =>
      t.odp.status = stOK ∧ (t.toBlock.ring (cfgRing r)).state = .disabled ∧ (t.toBlock.ring (cfgRing r)).cfg = cfgKept r ∧ (t.toBlock.ring (cfgRing r)).fetch = (s.toBlock.ring (cfgRing r)).fetch
      ∧ (t.toBlock.ring (cfgRing r)).producer = (s.toBlock.ring (cfgRing r)).producer ∧ t.disp.tasks = s.disp.tasks ∧ (∀ k, k ≠ cfgRing r → t.toBlock.ring k = s.toBlock.ring k)
      ∧ RegsKept [] s.toBlock t.toBlock)
  ∧ (∀ (s : State) (r : BitVec 256), Writable s.toBlock → (s.service = svcManagement ∨ s.toBlock.ringResetting (cfgRing r) = true
      ∨ (cfgEnable r = true ∧ (s.toBlock.resetting (cfgCtx r) = true ∨ (s.toBlock.ring (cfgRing r)).state ≠ .disabled ∨ (∃ x ∈ s.disp.tasks, x.ring = cfgRing r) ∨ badRing r = true))) →
    Goes (exec (.dispRingConfig r) s) fun t => t.toBlock = settle (s.toBlock.answer stWriteRefused))
  ∧ (∀ (s : State) (k : Nat), Writable s.toBlock → (s.toBlock.ring k).state = .halted → (s.toBlock.ring k).reason ≠ 7 → Goes (exec (.dispRingResume k) s) fun t =>
      t.odp.status = stOK ∧ t.toBlock.ring k = { s.toBlock.ring k with state := .active, reason := 0, failVA := 0 } ∧ ∀ j, j ≠ k → t.toBlock.ring j = s.toBlock.ring j)
  ∧ (∀ (s : State) (k : Nat), Writable s.toBlock → ((s.toBlock.ring k).state ≠ .halted ∨ (s.toBlock.ring k).reason = 7) →
    Goes (exec (.dispRingResume k) s) fun t => t.toBlock = settle (s.toBlock.answer stWriteRefused))
  ∧ ∀ (s : State) (c : Client) (v : Nat), Writable s.toBlock → v < 2 ^ 32 → Goes (exec (.dispTokenValue c v) s) fun t =>
    t.odp.status = stOK ∧ t.toBlock.token (s.toBlock.tokenSel c) = v ∧ (∀ n, n ≠ s.toBlock.tokenSel c → t.toBlock.token n = s.toBlock.token n)
    ∧ t.disp.rings = s.disp.rings ∧ t.mem = s.mem ∧ RegsKept [] s.toBlock t.toBlock

/-- Doorbells (R240, R241, R266): one that an active ring of a context that is not resetting accepts replaces the producer index, and the DT since which work waits, and nothing else; any other is counted, raises 0x4362 and leaves every ring as it was. An EVENT of kind DOORBELL delivers its own to a ring of its context, and ends with ADDR_FAULT for a ring of another. -/
def Obligations.Doorbells : Prop :=
  (∀ (s : State) (w : BitVec 64) (r : Ring), s.toBlock.live = true → r = s.toBlock.ring (bits w.toNat 63 50) → bits w.toNat 49 16 = 0 → r.state = .active →
    s.toBlock.resetting (cfgCtx r.cfg) = false → (bits w.toNat 15 0 + 2 ^ 16 - r.fetch) % 2 ^ 16 ≤ 2 ^ cfgLog r.cfg → Goes (exec (.doorbell w) s) fun t =>
      t.toBlock.ring (bits w.toNat 63 50) = { r with producer := bits w.toNat 15 0, workAt := (t.toBlock.ring (bits w.toNat 63 50)).workAt } ∧ (∀ k, k ≠ bits w.toNat 63 50 → t.toBlock.ring k = s.toBlock.ring k)
      ∧ t.disp.tasks = s.disp.tasks ∧ t.mem = s.mem ∧ RegsKept [] s.toBlock t.toBlock)
  ∧ (∀ (s : State) (w : BitVec 64) (r : Ring), s.toBlock.live = true → r = s.toBlock.ring (bits w.toNat 63 50) →
    (bits w.toNat 49 16 ≠ 0 ∨ r.state ≠ .active ∨ s.toBlock.resetting (cfgCtx r.cfg) = true ∨ 2 ^ cfgLog r.cfg < (bits w.toNat 15 0 + 2 ^ 16 - r.fetch) % 2 ^ 16) →
    Goes (exec (.doorbell w) s) fun t =>
      t.disp = s.disp ∧ t.mem = s.mem ∧ (∃ c, LastEvent t.toBlock 0x4362 c [] ∧ (r.state ≠ .disabled → c = cfgCtx r.cfg))
      ∧ t.reg Od.dispDoorbellRejects 0 = wrap (odWidth Od.dispDoorbellRejects 0) (s.reg Od.dispDoorbellRejects 0 + 1)
      ∧ RegsKept [odKey Od.dispDoorbellRejects 0, odKey Od.eventNextSeq 0] s.toBlock t.toBlock)
  ∧ (∀ (s : State) (k : Nat) (x : Task) (r : Ring), s.toBlock.starting k opEvent = some x → eventKind x.desc = 1 → s.gov.shed = false → r = s.toBlock.ring (eventRing x.desc) →
    cfgCtx r.cfg = x.ctx → r.state = .active → s.toBlock.resetting x.ctx = false → (eventProducer x.desc + 2 ^ 16 - r.fetch) % 2 ^ 16 ≤ 2 ^ cfgLog r.cfg →
    Goes (exec (.eventDoorbell k) s) fun t => EndedWith t.toBlock k sOK 0 ∧ t.toBlock.ring (eventRing x.desc) = { r with producer := eventProducer x.desc, workAt := (t.toBlock.ring (eventRing x.desc)).workAt })
  ∧ ∀ (s : State) (k : Nat) (x : Task), s.toBlock.starting k opEvent = some x → eventKind x.desc = 1 → s.gov.shed = false →
    cfgCtx (s.toBlock.ring (eventRing x.desc)).cfg ≠ x.ctx → Goes (exec (.eventDoorbell k) s) fun t => EndedWith t.toBlock k sAddrFault 0 ∧ t.disp.rings = s.disp.rings

/-- DESCRIPTOR_FETCH (R248, R250, R253): a well-formed descriptor at the fetch index gets a ticket and is held; a malformed one halts its ring with its REASON and makes no task. TASK_ISSUE (R258, R259, R260, R264): the head of a ring that nothing holds, among the four that a cycle of its Borough issues, runs from this moment, or ends TAINTED where its source is; one not among them waits; a head that something holds stays, and its ring shows the reason. A head whose ticket-table entry is poisoned ends POISONED without issuing (R393). What the spec does not fix of it is the model's: log entries 47 and 54. -/
def Obligations.FetchAndIssue : Prop :=
  ((∀ (s : State) (k pa tk : Nat) (r : Ring) (d : Desc) (b : Block), r = s.toBlock.ring k → s.toBlock.dispRuns = true → s.toBlock.resetting (cfgCtx r.cfg) = false → FetchServed s.toBlock k →
    s.service = svcFull → r.state = .active → r.fetch ≠ r.producer → (s.toBlock.heldTasks k).length < 8 →
    s.toBlock.slotAddr (cfgCtx r.cfg) (cfgBase r.cfg + 64 * (r.fetch % 2 ^ cfgLog r.cfg)) false = some pa → (s.toBlock.readPhys pa 64).2 = false →
    d = BitVec.ofNat 512 (ofLE (s.toBlock.readPhys pa 64).1) → s.toBlock.malformed (cfgCtx r.cfg) d = 0 → s.toBlock.newTicket k = some (tk, b) →
    Goes (exec (.descriptorFetch k) s) fun t =>
      (∃ x ∈ t.disp.tasks, x.ticket = tk ∧ x.desc = d ∧ x.ring = k ∧ x.ctx = cfgCtx r.cfg ∧ x.index = r.fetch ∧ (passOf d ≠ passFwd → x.phase = .held))
      ∧ ∀ x ∈ s.disp.tasks, ∃ y ∈ t.disp.tasks, y.ticket = x.ticket ∧ y.desc = x.desc)
  ∧ ∀ (s : State) (k pa m : Nat) (r : Ring) (d : Desc), r = s.toBlock.ring k → s.toBlock.dispRuns = true → s.toBlock.resetting (cfgCtx r.cfg) = false → FetchServed s.toBlock k →
    s.service = svcFull → r.state = .active → r.fetch ≠ r.producer → (s.toBlock.heldTasks k).length < 8 →
    s.toBlock.slotAddr (cfgCtx r.cfg) (cfgBase r.cfg + 64 * (r.fetch % 2 ^ cfgLog r.cfg)) false = some pa → (s.toBlock.readPhys pa 64).2 = false →
    d = BitVec.ofNat 512 (ofLE (s.toBlock.readPhys pa 64).1) → s.toBlock.malformed (cfgCtx r.cfg) d = m → m ≠ 0 → Goes (exec (.descriptorFetch k) s) fun t =>
      (t.toBlock.ring k).state = .halted ∧ ((t.toBlock.ring k).reason = m ∨ (t.toBlock.ring k).reason = 7) ∧ (t.toBlock.ring k).fetch = r.fetch ∧ t.disp.tasks = s.disp.tasks)
  ∧ ((∀ (s : State) (k : Nat) (x : Task), (s.toBlock.heldTasks k).head? = some x → s.toBlock.dispRuns = true → s.toBlock.resetting x.ctx = false →
    s.toBlock.issueHold x = 0 → IssueServed s.toBlock k → opcodeOf x.desc ≠ opXfer → opcodeOf x.desc ≠ opGather → opcodeOf x.desc ≠ opScatter → Goes (exec (.taskIssue ⟨k, false⟩) s) fun t =>
      ∃ y, t.toBlock.task? x.ticket = some y ∧ y.phase = .running ∧ y.issued = s.dt ∧ y.desc = x.desc ∧ y.ctx = x.ctx ∧ y.step = s.toBlock.roundStep x.ctx
        ∧ t.toBlock.holdOf x.ring = Hold.none ∧ t.mem = s.mem ∧ t.slow = s.slow ∧ t.dt = s.dt)
  ∧ (∀ (s : State) (k : Nat) (x : Task), (s.toBlock.heldTasks k).head? = some x → s.toBlock.dispRuns = true → s.toBlock.resetting x.ctx = false →
    s.toBlock.issueHold x = 0 → IssueServed s.toBlock k → (opcodeOf x.desc = opXfer ∨ opcodeOf x.desc = opGather ∨ opcodeOf x.desc = opScatter) → Goes (exec (.taskIssue ⟨k, false⟩) s) fun t =>
      ∃ y, t.toBlock.task? x.ticket = some y ∧ y.desc = x.desc ∧ y.issued = s.dt ∧ (y.phase = .running ∨ ∃ u, y.phase = .ended sTainted u))
  ∧ (∀ (s : State) (k : Nat) (x : Task), (s.toBlock.heldTasks k).head? = some x → s.toBlock.dispRuns = true → s.toBlock.resetting x.ctx = false →
    s.toBlock.issueHold x ≠ 0 → Goes (exec (.taskIssue ⟨k, false⟩) s) fun t =>
      (t.toBlock.holdOf k).reason = s.toBlock.issueHold x ∧ t.disp.tasks = s.disp.tasks ∧ t.plz = s.plz ∧ t.mem = s.mem ∧ t.dt = s.dt)
  ∧ (∀ (s : State) (k : Nat) (x : Task), (s.toBlock.heldTasks k).head? = some x → s.toBlock.dispRuns = true → s.toBlock.resetting x.ctx = false →
    s.toBlock.issueHold x = 0 → ¬ IssueServed s.toBlock k → Goes (exec (.taskIssue ⟨k, false⟩) s) fun t => t.disp.tasks = s.disp.tasks ∧ t.plz = s.plz ∧ t.mem = s.mem ∧ t.dt = s.dt)
  ∧ ∀ (s : State) (k : Nat) (x : Task), (s.toBlock.heldTasks k).head? = some x → s.toBlock.dispRuns = true → s.toBlock.resetting x.ctx = false →
    Goes (exec (.taskIssue ⟨k, true⟩) s) fun t => (∃ y, t.toBlock.task? x.ticket = some y ∧ y.desc = x.desc ∧ y.phase = .ended sPoisoned (s.toBlock.abortUnit x)) ∧ t.dt = s.dt)

/-- TASK_COMPLETE (R243, R245, R252, R253, R257): the record of the ended task stands at the record address that its ring had when the task was fetched, every other byte is unchanged, the ticket is free, the completion is counted and the SIG token has advanced; where the record's address does not translate, the ring is halted with REASON 7 and the task keeps its ticket. -/
def Obligations.Complete : Prop :=
  (∀ (s : State) (k st u pa : Nat) (x : Task), s.toBlock.task? k = some x → x.phase = .ended st u → s.toBlock.live = true → s.gov.shed = false →
    s.toBlock.resetting x.ctx = false → (x.ring, k) ∉ s.disp.stuck → opcodeOf x.desc ≠ opNormClose →
    s.toBlock.slotAddr (cfgCtx x.cfg) (recordAt x.cfg x.index) true = some pa → pa % 64 = 0 → s.toBlock.lostAt pa = false →
    Goes (exec (.taskComplete k) s) fun t =>
      t.toBlock.task? k = none ∧ t.mem.bytes pa 64 = leBytes 64 (s.toBlock.recordOf x st u)
      ∧ (∀ a, a < pa ∨ pa + 64 ≤ a → t.mem.byte a = s.mem.byte a)
      ∧ t.reg Od.dispTasksCompleted (homeOf x.ring + 1) = wrap (odWidth Od.dispTasksCompleted (homeOf x.ring + 1)) (s.reg Od.dispTasksCompleted (homeOf x.ring + 1) + 1)
      ∧ (x.signalled = false → opcodeOf x.desc ≠ opUpdate → sigOf x.desc ≠ 0 →
          t.toBlock.token (s.toBlock.moduleToken x.ctx (sigOf x.desc)) = wrap 32 (s.toBlock.token (s.toBlock.moduleToken x.ctx (sigOf x.desc)) + 1)))
  ∧ ∀ (s : State) (k st u : Nat) (x : Task), s.toBlock.task? k = some x → x.phase = .ended st u → s.toBlock.live = true → s.gov.shed = false →
    s.toBlock.resetting x.ctx = false → (x.ring, k) ∉ s.disp.stuck →
    s.toBlock.slotAddr (cfgCtx x.cfg) (recordAt x.cfg x.index) true = none → Goes (exec (.taskComplete k) s) fun t =>
      (t.toBlock.ring x.ring).state = .halted ∧ (t.toBlock.ring x.ring).reason = 7 ∧ t.disp.tasks = s.disp.tasks ∧ t.mem = s.mem ∧ (x.ring, k) ∈ t.disp.stuck

/-- FENCE (R123, R125, R265): scope TOKENS ends at once; scope RING ends once no task of its ring stands before it and stays until then; scope CONTEXT ends once no ticket it waits for is held; the first turn fence of a step makes the turn when its count is reached, waits before, and a later one ends with event 0x8322. What the spec does not fix of it is the model's: log entry 8. -/
def Obligations.Fences : Prop :=
  (∀ (s : State) (k : Nat) (x : Task), s.toBlock.starting k opFence = some x → passOf x.desc = passNone → fenceScope x.desc = 0 → s.gov.shed = false →
    Goes (exec (.fenceTokens k) s) fun t => EndedWith t.toBlock k sOK 0 ∧ t.disp.tokens = s.disp.tokens ∧ RegsKept [] s.toBlock t.toBlock)
  ∧ (∀ (s : State) (k : Nat) (x : Task), s.toBlock.starting k opFence = some x → passOf x.desc = passNone → fenceScope x.desc = 1 → s.gov.shed = false →
    s.toBlock.earlierDone x = true → Goes (exec (.fenceRing k) s) fun t => EndedWith t.toBlock k sOK 0 ∧ RegsKept [] s.toBlock t.toBlock)
  ∧ (∀ (s : State) (k : Nat) (x : Task), s.toBlock.starting k opFence = some x → s.toBlock.earlierDone x = false →
    Goes (exec (.fenceRing k) s) fun t => t.toBlock = settle s.toBlock)
  ∧ (∀ (s : State) (k : Nat) (x : Task), s.toBlock.starting k opFence = some x → passOf x.desc = passNone → fenceScope x.desc = 2 → s.gov.shed = false →
    (∀ w ∈ x.waits, s.toBlock.task? w = none) → Goes (exec (.fenceContext k) s) fun t => EndedWith t.toBlock k sOK 0 ∧ RegsKept [] s.toBlock t.toBlock)
  ∧ (∀ (s : State) (k : Nat) (x : Task), s.toBlock.starting k opFence = some x → (∃ w ∈ x.waits, s.toBlock.task? w ≠ none) →
    Goes (exec (.fenceContext k) s) fun t => t.toBlock = settle s.toBlock)
  ∧ (∀ (s : State) (k : Nat) (x : Task), s.toBlock.starting k opFence = some x → passOf x.desc = passBwd → s.gov.shed = false → (∃ y ∈ s.disp.turns, y.2.2 = k) →
    fwdCountOf x.desc ≤ s.reg Od.ctxFwdDone (x.ctx + 1) → Goes (exec (.turnFence k) s) fun t =>
      EndedWith t.toBlock k sOK 0 ∧ t.reg Od.ctxStepPhase (x.ctx + 1) = 1 ∧ RegsKept [odKey Od.ctxStepPhase (x.ctx + 1)] s.toBlock t.toBlock)
  ∧ (∀ (s : State) (k : Nat) (x : Task), s.toBlock.starting k opFence = some x → (∃ y ∈ s.disp.turns, y.2.2 = k) →
    s.reg Od.ctxFwdDone (x.ctx + 1) < fwdCountOf x.desc → Goes (exec (.turnFence k) s) fun t => t.toBlock = settle s.toBlock)
  ∧ ∀ (s : State) (k : Nat) (x : Task), s.toBlock.starting k opFence = some x → passOf x.desc = passBwd → s.gov.shed = false → (∀ y ∈ s.disp.turns, y.2.2 ≠ k) →
    Goes (exec (.turnFence k) s) fun t => EndedWith t.toBlock k sOK 0 ∧ LastEvent t.toBlock 0x8322 x.ctx [] ∧ RegsKept [odKey Od.eventNextSeq 0] s.toBlock t.toBlock

/-- NOTIFY and TOKEN_ADD (R266), TIME_WAIT and its completion (R267), DISP_HOLD_LONG (R264) and STEP_RELEASE, which keeps to the order of the calendar (R433, R434). What the spec does not fix of it is the model's: log entry 9. -/
def Obligations.DispatcherTasks : Prop :=
  (∀ (s : State) (k : Nat) (x : Task), s.toBlock.starting k opEvent = some x → eventKind x.desc = 0 → s.gov.shed = false → Goes (exec (.notify k) s) fun t =>
    EndedWith t.toBlock k sOK 0 ∧ LastEvent t.toBlock (0x0F00 + eventCode x.desc) x.ctx (beBytes 8 (eventArg x.desc)) ∧ t.disp.rings = s.disp.rings
    ∧ t.disp.tokens = s.disp.tokens ∧ t.mem = s.mem ∧ RegsKept [odKey Od.eventNextSeq 0] s.toBlock t.toBlock)
  ∧ (∀ (s : State) (k n : Nat) (x : Task), s.toBlock.starting k opEvent = some x → eventKind x.desc = 2 → s.gov.shed = false → eventToken x.desc ≠ 0 →
    n = s.toBlock.moduleToken x.ctx (eventToken x.desc) → Goes (exec (.tokenAdd k) s) fun t =>
      EndedWith t.toBlock k sOK 0 ∧ t.toBlock.token n = (s.toBlock.token n + eventAdd x.desc) % 2 ^ 32 ∧ (∀ m, m ≠ n → t.toBlock.token m = s.toBlock.token m)
      ∧ t.log = s.log ∧ RegsKept [] s.toBlock t.toBlock)
  ∧ (∀ (s : State) (k : Nat) (x : Task), s.toBlock.starting k opTimeWait = some x → s.gov.shed = false → timeTarget x.desc ≤ s.dt → Goes (exec (.timeWait k) s) fun t =>
    EndedWith t.toBlock k sOK s.dt ∧ t.dt = s.dt)
  ∧ (∀ (s : State) (k : Nat) (x : Task), s.toBlock.starting k opTimeWait = some x → s.gov.shed = false → s.dt < timeTarget x.desc → Goes (exec (.timeWait k) s) fun t =>
    t.toBlock.task? k = some { x with stage := 1 } ∧ t.dt = s.dt)
  ∧ (∀ (s : State) (k : Nat) (x : Task), s.toBlock.task? k = some x → x.phase = .running → x.stage = 1 → opcodeOf x.desc = opTimeWait → s.gov.shed = false →
    Goes (exec (.timeWaitCompletion k) s) fun t => t.dt = max s.dt (timeTarget x.desc) ∧ EndedWith t.toBlock k sOK t.dt ∧ RegsKept [] s.toBlock t.toBlock)
  ∧ (∀ (s : State) (k : Nat), s.toBlock.isHeld k = true → (s.toBlock.holdOf k).alerted = false → s.reg Od.dispHoldAlertMs 0 ≠ 0 →
    (s.toBlock.holdOf k).since + s.reg Od.dispHoldAlertMs 0 * 10 ^ 6 < s.dt → Goes (exec (.dispHoldLong k) s) fun t =>
      t.toBlock.holdOf k = { s.toBlock.holdOf k with alerted := true } ∧ (∀ j, j ≠ k → t.toBlock.holdOf j = s.toBlock.holdOf j) ∧ LastEvent t.toBlock 0x4363 (cfgCtx (s.toBlock.ring k).cfg) []
      ∧ t.disp.tasks = s.disp.tasks ∧ t.disp.rings = s.disp.rings ∧ RegsKept [odKey Od.eventNextSeq 0] s.toBlock t.toBlock)
  ∧ ∀ (s : State) (c r : Nat), sget 0 s.disp.release c = r + 1 → s.toBlock.inOrder r 3 = true → Goes (exec (.stepRelease c) s) fun t =>
    t.dt = max s.dt r ∧ sget 0 t.disp.release c = 0 ∧ (∀ d, d ≠ c → sget 0 t.disp.release d = sget 0 s.disp.release d) ∧ t.disp.tasks = s.disp.tasks
    ∧ RegsKept [] s.toBlock t.toBlock

/-- MATMUL and the five DIST modes (R45, R52, R54, R55, R60): a task whose feeds hold what its tiles want runs to its end, EMPTY_K for K = 0 and OK where it does not drain, and one whose feeds do not, or whose tile has just been sampled, waits; memory and the slow tier stay as they were, but for the capture of a sampled tile. A task that keeps a set of another context ends ADDR_FAULT; one whose feed failed ends with that failure. What the spec does not fix of it is the model's: log entries 15, 44 and 53. -/
def Obligations.PlazaTasks : Prop :=
  ∀ (s : State) (k : Nat) (sel : List Nat) (x : Task) (r : Block × Option Nat),
    ∀ e ∈ [(Instr.matmul k sel, opMatmul, 0), (.distL1 k sel, opDist, 1), (.distL2 k sel, opDist, 2), (.distMaxplus k sel, opDist, 3),
      (.distMinplus k sel, opDist, 4), (.distCmpcnt k sel, opDist, 5)],
    s.toBlock.starting k e.2.1 = some x → (mmOf x.desc).mode = e.2.2 → s.gov.shed = false → (∀ f ∈ s.plz.ports, f.ticket ≠ k) →
      r = s.toBlock.tilesRun x (mmOf x.desc) sel (s.toBlock.tilesLeft x (mmOf x.desc)) →
      (((s.toBlock.intake k).tile ≠ 0 ∨ s.toBlock.keepFault x (mmOf x.desc) = false) → r.2 = none → r.1.tilesLeft x (mmOf x.desc) = [] → r.1.ras.nextSample = s.ras.nextSample →
        (∀ j ∈ s.plz.drains, j.set_.ticket ≠ k) → Goes (exec e.1 s) fun t =>
          ((mmOf x.desc).k = 0 → EndedWith t.toBlock k sEmptyK (plazaUnit x)) ∧ ((mmOf x.desc).k ≠ 0 → (mmOf x.desc).drain = false → EndedWith t.toBlock k sOK (plazaUnit x))
          ∧ t.mem = s.mem ∧ t.slow = s.slow ∧ t.emith = s.emith ∧ t.dt = s.dt
          ∧ IdxKept (Od.plazaFeedStallCycles :: Od.shadowSamples :: Od.shadowSkipped :: Od.terraceWriteBytes :: Od.seBytesDelivered :: Od.mxNanBlockCount :: endIdx) s.toBlock t.toBlock)
      ∧ (((s.toBlock.intake k).tile ≠ 0 ∨ s.toBlock.keepFault x (mmOf x.desc) = false) → r.2 = none → (r.1.tilesLeft x (mmOf x.desc) ≠ [] ∨ r.1.ras.nextSample ≠ s.ras.nextSample) →
        Goes (exec e.1 s) fun t => t.toBlock.task? k = some x ∧ t.slow = s.slow ∧ t.dt = s.dt ∧ (r.1.ras.nextSample = s.ras.nextSample → t.mem = s.mem))
      ∧ ((s.toBlock.intake k).tile = 0 → s.toBlock.keepFault x (mmOf x.desc) = true → Goes (exec e.1 s) fun t => EndedWith t.toBlock k sAddrFault (plazaUnit x) ∧ t.plz = s.plz)
      ∧ ∀ st, ((s.toBlock.intake k).tile ≠ 0 ∨ s.toBlock.keepFault x (mmOf x.desc) = false) → r.2 = some st →
          Goes (exec e.1 s) fun t => EndedWith t.toBlock k st (plazaUnit x) ∧ ∀ j ∈ t.plz.drains, j.set_.ticket ≠ k

/-- The cells of a task of one block-tile that starts from its mode's initial value (R36, R45, R76 to R79): each is the mode's accumulation over the tile's row of the broadcast feed and column of the held feed, and they are what drains. What the spec does not fix of it is the model's: log entry 15. -/
def Obligations.BlockCells : Prop :=
  ∀ (s : State) (k : Nat) (x : Task) (m : MM) (S H : List Elem),
    ∀ e ∈ [(Instr.matmul k [], opMatmul, 0), (.distL1 k [], opDist, 1), (.distL2 k [], opDist, 2), (.distMaxplus k [], opDist, 3),
      (.distMinplus k [], opDist, 4), (.distCmpcnt k [], opDist, 5)],
    s.toBlock.starting k e.2.1 = some x → m = mmOf x.desc → m.mode = e.2.2 → s.gov.shed = false → m.init = 0 → m.h = 1 → m.w = 1 → 0 < m.m → m.m ≤ 32 → 0 < m.n → m.n ≤ 32 →
    0 < m.k → s.toBlock.intake k = Intake.empty k → s.toBlock.setDrains x m 0 = false →
    S = (portElems (s.toBlock.queue ⟨x.unit, kindS, m.sPort⟩)).take (m.m * m.k) → H = (portElems (s.toBlock.queue ⟨x.unit, kindH, m.hPort⟩)).take (m.n * m.k) →
    S.length = m.m * m.k → H.length = m.n * m.k → (∀ v ∈ S ++ H, v.poison = false) → Goes (exec e.1 s) fun t =>
      (∀ i < m.m, ∀ j < m.n, sget 0 (t.toBlock.accSet x.unit (12 * x.rect.1 + x.rect.2.1) m.aset).cells (32 * i + j)
        = cellDot m.mode m.fmtS m.fmtH (modeInit m.mode) (sRow S m.m m.k i) (hCol H m.n m.k j))
      ∧ (m.drain = true → ∃ d ∈ t.plz.drains, d.plaza = x.unit ∧ d.queue = m.outQ ∧ d.set_.ticket = k ∧ d.set_.rows = m.m ∧ d.set_.cols = m.n
        ∧ ∀ i < m.m, ∀ j < m.n, nth 0 d.set_.vals (i * m.n + j) = cellDot m.mode m.fmtS m.fmtH (modeInit m.mode) (sRow S m.m m.k i) (hCol H m.n m.k j))

/-- TILE_DRAIN (R38, R55, R94): a ready set whose queue has room goes into its WVU input queue, and the task that has computed all its tiles and whose last set it was ends OK. PLAZA_FEED_TIMEOUT (R62): a Plaza task that has waited its time for an element of a feed ends TIMEOUT, and its drains are dropped. What the spec does not fix of it is the model's: log entries 15 and 53. -/
def Obligations.DrainAndTimeout : Prop :=
  (∀ (s : State) (p : Nat) (j : DrainJob), s.gov.shed = false → s.plz.drains.find? (fun j => s.toBlock.drainReady p j && s.toBlock.queueRoom p j.queue) = some j →
    Goes (exec (.tileDrain p) s) fun t =>
      t.plz.queues = s.plz.queues ++ [⟨p, j.queue, j.set_⟩] ∧ t.plz.drains.length + 1 = s.plz.drains.length ∧ t.mem = s.mem
      ∧ RegsKept [odKey Od.plazaDrainStallCycles (p + 1)] s.toBlock t.toBlock
      ∧ ((∀ k ∈ s.plz.drains.erase j, k.set_.ticket ≠ j.set_.ticket) →
        ∀ x, s.toBlock.task? j.set_.ticket = some x → x.phase = .running → x.stage ≠ 0 → EndedWith t.toBlock j.set_.ticket sOK (plazaUnit x)))
  ∧ ∀ (s : State) (k : Nat) (x : Task), s.toBlock.task? k = some x → x.phase = .running → x.stage = 0 → (opcodeOf x.desc = opMatmul ∨ opcodeOf x.desc = opDist) →
    s.gov.shed = false → (∀ y ∈ s.ras.tests, y.plaza = x.unit → y.draining = false) → s.toBlock.starved x (mmOf x.desc) = true →
    Goes (exec (.plazaFeedTimeout k) s) fun t =>
      EndedWith t.toBlock k sTimeout (plazaUnit x) ∧ (∀ j ∈ t.plz.drains, j.set_.ticket ≠ k)
      ∧ t.reg Od.plazaTaskAborts (x.unit + 1) = wrap (odWidth Od.plazaTaskAborts (x.unit + 1)) (s.reg Od.plazaTaskAborts (x.unit + 1) + 1)

/-- Every VECTOR operation (R92, R99 to R107, R111, R112, R211, R212): with its inputs there a task offers what the operation computes, in its output format, on its Y port and then waits to be drained; without them it keeps what it has taken and waits; an input that failed ends it with that failure, and XENT with a target beyond its row ends ADDR_FAULT. What the spec does not fix of it is the model's: log entries 12, 15, 53. -/
def Obligations.VectorTasks : Prop :=
  ∀ (s : State) (k : Nat) (x : Task) (v : Vec) (a b : Block),
    ∀ e ∈ [(Instr.axpby k, 0x01), (.mul k, 0x02), (.act k, 0x03), (.actBwd k, 0x04), (.cast k, 0x05), (.softmax k, 0x08), (.softmaxBwd k, 0x09), (.layernorm k, 0x0A),
      (.layernormBwd k, 0x0B), (.rmsnorm k, 0x0C), (.rmsnormBwd k, 0x0D), (.xent k, 0x10), (.sum k, 0x11), (.ortho k, 0x18), (.topk k, 0x1C)],
    s.toBlock.starting k opVector = some x → v = vecOf x.desc → v.op = e.2 → s.gov.shed = false → (∀ f ∈ s.plz.ports, f.ticket ≠ k) →
      a = (if v.srcX = 0 then s.toBlock.gather x v else s.toBlock) → b = (a.vectorWants x v).foldl (fun b u => b.takeStream x v u) a →
      (∀ xs z cs o, a.vectorFault x v = none → (∀ u ∈ b.vectorWants x v, u.2.2 = 0) → b.xValues x v = some xs →
        z = (nth [] (b.intake k).bufs 1).map (streamValue v.fmtZ) → cs = nth [] (b.intake k).bufs 2 →
        o = v.compute (xs.map (·.1)) z (cs.map (streamValue 7)) (cs.map (·.v)) →
        (o.fault = false → Goes (exec e.1 s) fun t =>
          (∃ y, t.toBlock.task? k = some y ∧ y.phase = .running ∧ y.stage = 1)
          ∧ ⟨x.unit, v.yPort, k, (s.toBlock.vectorY x v o).1⟩ ∈ t.plz.outs
          ∧ (v.y2En = true → ⟨x.unit, v.y2Port, k, o.y2.map (fun w => ⟨w.toNat, 127, false⟩)⟩ ∈ t.plz.outs)
          ∧ t.mem = s.mem ∧ t.slow = s.slow ∧ t.dt = s.dt)
        ∧ (o.fault = true → Goes (exec e.1 s) fun t => EndedWith t.toBlock k sAddrFault (vectorUnit x)))
      ∧ (a.vectorFault x v = none → ((∃ u ∈ b.vectorWants x v, u.2.2 ≠ 0) ∨ b.xValues x v = none) → Goes (exec e.1 s) fun t =>
          t.toBlock.task? k = some x ∧ t.toBlock.intake k = b.intake k ∧ t.plz.outs = s.plz.outs ∧ t.mem = s.mem ∧ t.slow = s.slow ∧ t.dt = s.dt)
      ∧ ∀ st, a.vectorFault x v = some st → Goes (exec e.1 s) fun t => EndedWith t.toBlock k st (vectorUnit x)

/-- The elementwise operations on streams with FP32 results, element by element (R98, R99): AXPBY, MUL, ACT, ACT_BWD and CAST. -/
def Obligations.ElementResults : Prop :=
  ∀ (s : State) (k : Nat) (x : Task) (v : Vec) (X Z C : Nat → F32),
    ∀ e ∈ [(Instr.axpby k, 0x01, fun (i : Nat) => ffma v.alpha (X i) (ffma v.beta (if v.zEn then Z i else 0) (if v.cEn then C (i % v.len) else 0))),
      (.mul k, 0x02, fun i => fmul (fmul (X i) (Z i)) v.alpha), (.act k, 0x03, fun i => actFn v.fn (fadd (X i) (if v.cEn then C (i % v.len) else 0))),
      (.actBwd k, 0x04, fun i => fmul (Z i) (actDeriv v.fn (X i))), (.cast k, 0x05, fun i => X i)],
    s.toBlock.starting k opVector = some x → v = vecOf x.desc → badVector x.desc = false → v.op = e.2.1 → s.gov.shed = false → v.srcX = 1 → v.fmtY = 7 →
    s.toBlock.intake k = Intake.empty k → s.toBlock.vectorFault x v = none → (∀ u ∈ v.takes x.unit, u.2.2 ≤ (portElems (s.toBlock.queue u.1)).length) →
    X = (fun i => streamValue v.fmtX (nth ⟨0, 127, false⟩ (portElems (s.toBlock.queue ⟨x.unit, kindSP, v.xPort⟩)) i)) →
    Z = (fun i => streamValue v.fmtZ (nth ⟨0, 127, false⟩ (portElems (s.toBlock.queue ⟨x.unit, kindSP, v.zPort⟩)) i)) →
    C = (fun i => streamValue 7 (nth ⟨0, 127, false⟩ (portElems (s.toBlock.queue ⟨x.unit, kindSP, v.cPort⟩)) i)) →
    Goes (exec e.1 s) fun t => ∃ o ∈ t.plz.outs, o.wvu = x.unit ∧ o.port = v.yPort ∧ o.ticket = k ∧ o.elems.length = v.rows * v.len
      ∧ ∀ i < v.rows * v.len, (nth ⟨0, 127, false⟩ o.elems i).v = (narrow 7 (e.2.2 i)).1

/-- COPY and REARM (R207, R211, R212, R215, R220, R221, R226, R227, R230): a transfer moves as far as it can; one to memory or the slow tier whose elements have all moved ends OK with their count, and one that an access stops ends with the cause's status, or POISONED, and its report; a feed adds what it reads to its ports and stays until its elements are taken; a transfer with a tainted source ends TAINTED. A stream that is not armed ends ADDR_FAULT. RELEASE (R221) frees its stream, and INVAL (R225) every cached translation of its context. What the spec does not fix of it is the model's: log entries 15, 47. -/
def Obligations.Transfers : Prop :=
  (∀ (s : State) (k : Nat) (x : Task) (y : Xfer) (raw : BitVec 512) (ms : List Move) (b : Block) (r : Run), ∀ e ∈ [(Instr.copy k, 0), (.rearm k, 1)],
    s.toBlock.starting k opXfer = some x → (xferOf x.desc).xop = e.2 → s.gov.shed = false → y = x.xfer → x.shape = some (.ok raw) →
    (((xferOf x.desc).persist = true ∨ e.2 = 1) → s.toBlock.streamFree x (xferOf x.desc) = true) →
    (e.2 = 1 → ∃ p, s.toBlock.stream? x.unit (xferOf x.desc).stream = some p ∧ p.ctx = x.ctx ∧ p.desc = x.opts ∧ p.shape = raw) →
    b = s.toBlock.contended (fun b => b.readsShape x) → ms = y.moves (shapeOf raw) →
      (∀ cause origin, b.xferTaint x = some (cause, origin) → Goes (exec e.1 s) fun t =>
        EndedWith t.toBlock k sTainted (reportBits [] cause 0 origin (s.toBlock.delivered x)) ∧ t.mem = s.mem ∧ t.slow = s.slow)
      ∧ (b.xferTaint x = none → b.outTurn x y = false → Goes (exec e.1 s) fun t => (∃ z, t.toBlock.task? k = some z ∧ z.phase = .running ∧ z.flow.pos = x.flow.pos) ∧ t.mem = s.mem)
      ∧ (b.xferTaint x = none → b.outTurn x y = true →
          r = b.walkMoves (b.yieldStaging x) y (shapeOf raw) (if y.src = 1 then b.portOuts (b.drainUnit k) y.port else [])
            (if y.toPorts then fitting y (2 * b.room (b.yieldStaging x)) (ms.drop x.flow.pos) else ms.drop x.flow.pos) →
        (r.stop = none → y.toPorts = false → r.flow.pos = ms.length → Goes (exec e.1 s) fun t => EndedWith t.toBlock k sOK (wrap 48 ms.length))
        ∧ (r.stop = none → (y.toPorts = true ∨ r.flow.pos ≠ ms.length) → Goes (exec e.1 s) fun t =>
          ∃ z, t.toBlock.task? k = some z ∧ z.phase = .running ∧ z.desc = x.desc ∧ z.flow.pos = r.flow.pos)
        ∧ (r.stop = none → y.toPorts = true → Goes (exec e.1 s) fun t => t.mem = s.mem ∧ t.slow = s.slow
          ∧ ∀ f ∈ s.plz.ports, f.ticket = k → f.port.kind ≠ kindOP → f.status = 0 →
            ∃ g ∈ t.plz.ports, g.port = f.port ∧ g.ticket = k ∧ g.taken = f.taken ∧ g.elems = f.elems ++ r.new ∧ g.done = decide (r.flow.pos = ms.length))
        ∧ (∀ cause va i, r.stop = some (.fault cause va, i) → y.toPorts = false → Goes (exec e.1 s) fun t =>
          EndedWith t.toBlock k (causeStatus cause) (reportBits i cause va k r.flow.pos))
        ∧ ∀ va i, r.stop = some (.poison va, i) → y.toPorts = false → Goes (exec e.1 s) fun t => EndedWith t.toBlock k sPoisoned (reportBits i 0 va k r.flow.pos)))
  ∧ (∀ (s : State) (k : Nat) (x : Task), s.toBlock.starting k opXfer = some x → (xferOf x.desc).xop = 1 → s.gov.shed = false →
    s.toBlock.streamFree x (xferOf x.desc) = true → s.toBlock.stream? x.unit (xferOf x.desc).stream = none → Goes (exec (.rearm k) s) fun t =>
      EndedWith t.toBlock k sAddrFault (reportBits [] 0 0 k (s.toBlock.delivered x)) ∧ t.mem = s.mem)
  ∧ (∀ (s : State) (k : Nat) (x : Task), s.toBlock.starting k opXfer = some x → (xferOf x.desc).xop = 2 → s.gov.shed = false →
    s.toBlock.streamFree x (xferOf x.desc) = true → x.flow.pos = 0 → s.toBlock.feeding k = [] → Goes (exec (.release k) s) fun t =>
      EndedWith t.toBlock k sOK 0 ∧ (∀ p ∈ t.se.streams, ¬(p.engine = x.unit ∧ p.num = (xferOf x.desc).stream ∧ p.ctx = x.ctx)) ∧ t.se.tlb = s.se.tlb ∧ t.mem = s.mem)
  ∧ ∀ (s : State) (k : Nat) (x : Task), s.toBlock.starting k opXfer = some x → (xferOf x.desc).xop = 3 → s.gov.shed = false →
    x.flow.pos = 0 → s.toBlock.feeding k = [] → Goes (exec (.inval k) s) fun t =>
      EndedWith t.toBlock k sOK 0 ∧ (∀ p ∈ t.se.tlb, p.ctx ≠ x.ctx) ∧ t.se.streams = s.se.streams ∧ t.mem = s.mem
      ∧ RegsKept [odKey Od.sePrefetchDiscardBytes (x.unit + 1)] s.toBlock t.toBlock

/-- COLLECTIVE tasks of every kind (R279, R286, R288, R292, R293): one that its cohort admits works on its slice, or has ended, and its SEQ and slot are as its descriptor says; where the cohort has more members and every shard holds elements (of a BROADCAST, where another member is the root), it has read its source, queued its first sends and waits for its peers' parcels. One whose slot is disabled or belongs to another context ends ADDR_FAULT with nothing sent; a BARRIER of a cohort of one ends OK at once. RB_TIMEOUT (R298): a task that waits too long ends TIMEOUT, and what it has queued is not sent. What the spec does not fix of it is the model's: log entries 15, 18. -/
def Obligations.Collectives : Prop :=
  (∀ (s : State) (k : Nat) (y : Task) (x : Col) (h : Cohort) (w : Work),
    ∀ e ∈ [(Instr.allReduce k, 0), (.reduceScatter k, 1), (.allGather k, 2), (.broadcast k, 3), (.allToAll k, 4), (.barrier k, 5)],
    s.toBlock.starting k opCollective = some y → x = colOf y.desc → x.kind = e.2 → s.gov.shed = false → h = s.toBlock.cohort x.cohort → w = ⟨startColl y x, x, h⟩ →
      (h.enabled = true → h.ctx = y.ctx → s.toBlock.partialSlots x ≤ s.toBlock.sharedSlots x.slice → w.rangesBad = false →
        (∀ j ∈ s.rb.colls, j.slot ≠ x.cohort) → (∀ j ∈ s.rb.colls, j.ticket ≠ k) →
        (Goes (exec e.1 s) fun t =>
          ((∃ j ∈ t.rb.colls, j.ticket = k ∧ j.slot = x.cohort ∧ j.seq = x.seq ∧ j.slice = x.slice ∧ j.ctx = y.ctx ∧ j.step = y.step) ∨ ∃ st u, EndedWith t.toBlock k st u)
          ∧ t.dt = s.dt ∧ t.emith = s.emith ∧ t.plz = s.plz)
        ∧ (1 < h.n → h.n % h.g = 0 → h.pos < h.n → (x.kind = 5 ∨ 0 < x.len) → (x.kind ≤ 1 → ∀ i < h.n, 0 < w.shardSize i) → (x.kind = 3 → x.root ≠ h.pos) →
          Goes (exec e.1 s) fun t =>
            (∃ j ∈ t.rb.colls, j.ticket = k ∧ j.slot = x.cohort ∧ j.seq = x.seq ∧ j.step = y.step ∧ j.x = (s.toBlock.readSource y x w.srcElems).vals ∧ j.stopped = false)
            ∧ (∃ z, t.toBlock.task? k = some z ∧ z.phase = .running ∧ z.stage = 1) ∧ ∃ l, t.rb.tx = s.rb.tx ++ l))
      ∧ ((h.enabled = false ∨ h.ctx ≠ y.ctx) → (∀ j ∈ s.rb.colls, j.slot ≠ x.cohort) → x.acct = 0 → x.dst = 0 →
        Goes (exec e.1 s) fun t => EndedWith t.toBlock k sAddrFault (s.toBlock.idleUnit x) ∧ t.rb.tx = s.rb.tx ∧ t.mem = s.mem ∧ RegsKept [] s.toBlock t.toBlock))
  ∧ (∀ (s : State) (k : Nat) (y : Task) (x : Col), s.toBlock.starting k opCollective = some y → x = colOf y.desc → x.kind = 5 → s.gov.shed = false → x.acct = 0 → x.dst = 0 →
    (s.toBlock.cohort x.cohort).enabled = true → (s.toBlock.cohort x.cohort).ctx = y.ctx → (s.toBlock.cohort x.cohort).n = 1 → (s.toBlock.cohort x.cohort).g = 1 →
    (s.toBlock.cohort x.cohort).pos = 0 → (∀ j ∈ s.rb.colls, j.slot ≠ x.cohort) → (∀ j ∈ s.rb.colls, j.ctx ≠ y.ctx) → (∀ j ∈ s.rb.colls, j.ticket ≠ k) →
    Goes (exec (.barrier k) s) fun t => (∃ u, EndedWith t.toBlock k sOK u) ∧ (∀ j ∈ t.rb.colls, j.ticket ≠ k) ∧ t.rb.tx = s.rb.tx ∧ t.mem = s.mem)
  ∧ ∀ (s : State) (k : Nat) (w : Work) (y : Task), s.toBlock.work k = some w → s.toBlock.task? k = some y → y.phase = .running → w.k.stopped = false → w.complete = false → s.gov.shed = false →
    w.x.acct = 0 → w.k.since + s.toBlock.shedSince w.k.since + 10 ^ 6 * s.reg Od.rbHopTimeoutMs 0 ≤ s.dt → Goes (exec (.rbTimeout k) s) fun t =>
      (∃ u, EndedWith t.toBlock k sTimeout u) ∧ (∀ j ∈ t.rb.colls, j.ticket ≠ k) ∧ t.rb.tx = (s.toBlock.dropSends w).rb.tx

/-- RB_COHORT_CONFIG (R276, R278): an enable that no case refuses latches the record and keeps the device indices it has read; a refused one changes nothing but the counters of what it has read; a disable of a slot with a task is refused, and else leaves the slot disabled and its parcels discarded. -/
def Obligations.CohortConfig : Prop :=
  (∀ (s : State) (r : BitVec 256) (l : List (Nat × Nat)), Writable s.toBlock → (cohortOf r).enabled = true → s.toBlock.badCohort (cohortOf r) = false →
    s.toBlock.readKept (cohortOf r) = some l → ((cohortOf r).slot * 2 ^ 18 + (cohortOf r).pos, s.reg Od.deviceIndex 0) ∈ l → Goes (exec (.rbCohortConfig r) s) fun t =>
      t.odp.status = stOK ∧ t.toBlock.cohort (cohortOf r).slot = cohortOf r ∧ t.rb.devs = s.rb.devs ++ l ∧ t.mem = s.mem
      ∧ (∀ k, k ≠ (cohortOf r).slot → t.toBlock.cohort k = s.toBlock.cohort k) ∧ IdxKept [Od.hbmReadBytes, Od.terraceReadBytes, Od.terraceBankStallCycles, Od.hbmQueueFullCycles, Od.hbmOndieSeverityCount] s.toBlock t.toBlock)
  ∧ (∀ (s : State) (r : BitVec 256), Writable s.toBlock → (cohortOf r).enabled = true → s.toBlock.badCohort (cohortOf r) = true →
    Goes (exec (.rbCohortConfig r) s) fun t => t.toBlock = settle (s.toBlock.answer stWriteRefused))
  ∧ (∀ (s : State) (r : BitVec 256), Writable s.toBlock → (cohortOf r).enabled = true →
    (∀ l, s.toBlock.readKept (cohortOf r) = some l → ((cohortOf r).slot * 2 ^ 18 + (cohortOf r).pos, s.reg Od.deviceIndex 0) ∉ l) → Goes (exec (.rbCohortConfig r) s) fun t =>
      t.odp.status = stWriteRefused ∧ t.rb = s.rb ∧ t.mem = s.mem
      ∧ IdxKept [Od.hbmReadBytes, Od.terraceReadBytes, Od.terraceBankStallCycles, Od.hbmQueueFullCycles, Od.hbmOndieSeverityCount] s.toBlock t.toBlock)
  ∧ (∀ (s : State) (r : BitVec 256), Writable s.toBlock → (cohortOf r).enabled = false → s.toBlock.cohortBusy (cohortOf r).slot = true →
    Goes (exec (.rbCohortConfig r) s) fun t => t.toBlock = settle (s.toBlock.answer stWriteRefused))
  ∧ ∀ (s : State) (r : BitVec 256), Writable s.toBlock → (cohortOf r).enabled = false → s.toBlock.cohortBusy (cohortOf r).slot = false → Goes (exec (.rbCohortConfig r) s) fun t =>
    t.odp.status = stOK ∧ (t.toBlock.cohort (cohortOf r).slot).enabled = false ∧ t.rb.tx = s.rb.tx
    ∧ ((s.toBlock.cohort (cohortOf r).slot).enabled = true → ∀ p ∈ t.rb.rx, (s.toBlock.cohort (cohortOf r).slot).owns p = false)

/-- Parcels of the collectives (R280, R281, R286, R296): the next one that a slice can consume leaves its queue; where it does not fit its task it is counted and raises 0x4374; where it carries elements as they stand they are kept at their place of the result, and at the last hop of a phase-0 chain the sums become this member's partial. What the spec does not fix of it is the model's: log entry 20. -/
def Obligations.Parcels : Prop :=
  (∀ (s : State) (n : Nat) (p : Parcel) (w : Work), ∀ e ∈ [(Instr.reduceParcel n, pkReduce, Work.reduceFits, Work.reduceReady), (.gatherParcel n, pkGather, Work.gatherFits, always),
      (.allToAllParcel n, pkAll, Work.allFits, always), (.broadcastParcel n, pkBroadcast, Work.broadcastFits, always), (.barrierParcel n, pkBarrier, Work.barrierFits, always)],
    s.gov.shed = false → s.toBlock.nextParcel n e.2.1 e.2.2.2 = some (p, w) → Goes (exec e.1 s) fun t =>
      t.rb.rx = s.rb.rx.erase p ∧ t.dt = s.dt ∧ t.emith = s.emith ∧ t.plz = s.plz
      ∧ (e.2.2.1 w p = false → LastEvent t.toBlock 0x4374 w.k.ctx [] ∧ t.rb.colls = s.rb.colls ∧ t.rb.tx = s.rb.tx ∧ t.mem = s.mem
        ∧ t.reg Od.rbParcelDiscards 0 = wrap (odWidth Od.rbParcelDiscards 0) (s.reg Od.rbParcelDiscards 0 + 1)))
  ∧ (∀ (s : State) (n : Nat) (p : Parcel) (w : Work), ∀ e ∈ [(Instr.gatherParcel n, pkGather, Work.gatherFits w p, if w.x.kind = 0 then p.head.shard * w.S else p.head.shard * w.x.len),
      (.allToAllParcel n, pkAll, Work.allFits w p, p.head.sender * w.x.len), (.broadcastParcel n, pkBroadcast, Work.broadcastFits w p, 0)],
    s.gov.shed = false → s.toBlock.nextParcel n e.2.1 always = some (p, w) → e.2.2.1 = true → Goes (exec e.1 s) fun t =>
      ∀ j ∈ t.rb.colls, j.ticket = w.k.ticket → ∀ i < p.elems.length, sget none j.out (e.2.2.2 + p.head.offset + i) = some (nth 0 p.elems i))
  ∧ ∀ (s : State) (n : Nat) (p : Parcel) (w : Work), s.gov.shed = false → s.toBlock.nextParcel n pkReduce Work.reduceReady = some (p, w) → w.reduceFits p = true →
    p.head.phase = 0 → w.h.g ≤ w.h.hop0 p.head.shard + 1 → Goes (exec (.reduceParcel n) s) fun t =>
      ∀ j ∈ t.rb.colls, j.ticket = w.k.ticket → ∀ i a b, i < p.head.count → (decodeWire p.head.wfmt p.head.count p.body).xs[i]? = some a →
        w.k.x[p.head.shard * w.S + p.head.offset + i]? = some b →
        sget none j.part (p.head.shard * w.S + p.head.offset + i) = some (combine w.x.op a (if w.x.sfmt = 0 then BitVec.ofNat 32 b else widen 0 b)).toNat

/-- NORM_CLOSE (R303), the member's contribution (R304, R406) and RB_CLOSE_STALLED (R308). CLOSE_UP (R305), PACE_UP (R463), CLOSE_DOWN (R307) and PACE_DOWN (R463): a record from a member that sends here is kept with its NORM_CLOSE and leaves the queue; any other is counted and raises 0x4374. A member that has both the result and the pace record ends its task OK with the result as the unit part of the record. What the spec does not fix of it is the model's: log entry 17. -/
def Obligations.NormClose : Prop :=
  ((∀ (s : State) (k : Nat) (y : Task), s.toBlock.starting k opNormClose = some y → s.gov.shed = false →
    ((s.toBlock.cohort (closeCohort y.desc)).enabled = true → (s.toBlock.cohort (closeCohort y.desc)).ctx = y.ctx → Goes (exec (.normClose k) s) fun t =>
      (∃ j ∈ t.rb.closes, j.ticket = k ∧ j.ctx = y.ctx ∧ j.slot = closeCohort y.desc ∧ j.step = y.step ∧ j.since = s.dt ∧ j.sent = false ∧ j.result = none)
      ∧ (∃ z, t.toBlock.task? k = some z ∧ z.phase = .running ∧ z.stage = 1) ∧ t.mem = s.mem ∧ RegsKept [] s.toBlock t.toBlock)
    ∧ (((s.toBlock.cohort (closeCohort y.desc)).enabled = false ∨ (s.toBlock.cohort (closeCohort y.desc)).ctx ≠ y.ctx) → Goes (exec (.normClose k) s) fun t =>
      EndedWith t.toBlock k sAddrFault 0 ∧ t.rb = s.rb))
  ∧ (∀ (s : State) (c : Nat) (k : Close) (y : Task), s.rb.closes.find? (fun k => k.ctx == c && !k.sent) = some k → s.toBlock.close? k.ticket = some k → s.toBlock.task? k.ticket = some y → s.gov.shed = false →
    closeBuckets y.desc ≤ s.reg Od.ctxBucketsAdded (c + 1) → (if k.step % 2 = 0 then (s.toBlock.gate c).open0 else (s.toBlock.gate c).open1) = 0 →
    Goes (exec (.normCloseContribute c) s) fun t =>
      (∀ j ∈ t.rb.closes, j.ticket = k.ticket → j.sent = true) ∧ (t.toBlock.gate c).read = true ∧ t.rb.rx = s.rb.rx ∧ t.mem = s.mem
      ∧ ((s.toBlock.cohort k.slot).isHead = false → (∃ d, s.toBlock.deviceAt (s.toBlock.cohort k.slot) (s.toBlock.cohort k.slot).head = .ok d) →
          t.rb.tx.length = s.rb.tx.length + 2))
  ∧ ∀ (s : State) (n : Nat) (k : Close), s.toBlock.close? n = some k → k.stalled = false → (k.result = none ∨ k.pace = none) →
    k.since + 10 ^ 6 * s.reg Od.rbHopTimeoutMs 0 ≤ s.dt → Goes (exec (.rbCloseStalled n) s) fun t =>
      (∀ j ∈ t.rb.closes, j.ticket = n → j.stalled = true) ∧ LastEvent t.toBlock 0x4373 k.ctx [] ∧ t.disp = s.disp ∧ RegsKept [odKey Od.eventNextSeq 0] s.toBlock t.toBlock)
  ∧ ((∀ (s : State) (n : Nat) (p : Parcel) (k : Close) (h : Cohort), ∀ e ∈ [(Instr.closeUp n, pkUp), (.paceUp n, pkPaceUp)],
    s.gov.shed = false → nextClose s.toBlock n e.2 = some (p, k, h) → Goes (exec e.1 s) fun t => t.rb.rx = s.rb.rx.erase p ∧ t.dt = s.dt
      ∧ (h.keyOf p.head.sender = none → LastEvent t.toBlock 0x4374 k.ctx [] ∧ t.rb.closes = s.rb.closes))
  ∧ (∀ (s : State) (n key : Nat) (p : Parcel) (k : Close) (h : Cohort), s.gov.shed = false → nextClose s.toBlock n pkUp = some (p, k, h) → h.keyOf p.head.sender = some key →
    Goes (exec (.closeUp n) s) fun t => ∀ j ∈ t.rb.closes, j.ticket = k.ticket → (key, closeRecOf p.body) ∈ j.ups)
  ∧ (∀ (s : State) (n key : Nat) (p : Parcel) (k : Close) (h : Cohort), s.gov.shed = false → nextClose s.toBlock n pkPaceUp = some (p, k, h) → h.keyOf p.head.sender = some key →
    Goes (exec (.paceUp n) s) fun t => ∀ j ∈ t.rb.closes, j.ticket = k.ticket → (key, paceOf p.body) ∈ j.paces)
  ∧ (∀ (s : State) (n : Nat) (p : Parcel) (k : Close) (h : Cohort), s.gov.shed = false → nextClose s.toBlock n pkDown = some (p, k, h) → h.fromAbove p.head.sender = true →
    Goes (exec (.closeDown n) s) fun t => t.rb.rx = s.rb.rx.erase p ∧ (∀ j ∈ t.rb.closes, j.ticket = k.ticket → j.result = some p.body)
      ∧ ∀ y c, s.toBlock.task? k.ticket = some y → y.phase = .running → s.toBlock.close? k.ticket = some c → c.pace ≠ none →
          EndedWith t.toBlock k.ticket sOK (ofBE p.body + at' 24 (if c.nf then 8 else 0)))
  ∧ ∀ (s : State) (n : Nat) (p : Parcel) (k : Close) (h : Cohort), s.gov.shed = false → nextClose s.toBlock n pkPaceDown = some (p, k, h) → h.fromAbove p.head.sender = true →
    Goes (exec (.paceDown n) s) fun t => t.rb.rx = s.rb.rx.erase p ∧ (∀ j ∈ t.rb.closes, j.ticket = k.ticket → j.pace = some (paceOf p.body))
      ∧ ∀ y c r, s.toBlock.task? k.ticket = some y → y.phase = .running → s.toBlock.close? k.ticket = some c → c.result = some r →
          EndedWith t.toBlock k.ticket sOK (ofBE r + at' 24 (if c.nf then 8 else 0)))

/-- UPDATE of both kinds (R136, R351, R362, R364, R365, R369): with the decision that it took, a skip ends it with the skip's status (ADDR_FAULT where its stage list leaves the region and so cannot be emptied), its token signalled and the weights untouched; a hold ends it STEP_SKEW without a signal; a block outside the region ends it ADDR_FAULT; one without a decision waits. What the spec does not fix of it is the model's: log entry 22. -/
def Obligations.UpdateDecisions : Prop :=
  (∀ (s : State) (k : Nat) (x : Task) (d : DecisionRec), ∀ e ∈ [(Instr.updateDense k, 0), (.updateRows k, 1)],
    s.toBlock.starting k opUpdate = some x → updKind x.desc = e.2 → s.toBlock.hazelRuns = true → s.gov.shed = false → s.toBlock.firstUpdate x = true →
    decisionOf x.decided = some d →
      (∀ c ∈ [(decNonfinite, sNonfiniteSkip), (decDispute, sShadowDispute), (decDiscard, sStepSkew)], d.code = c.1 → Goes (exec e.1 s) fun t =>
        (∃ u, EndedWith t.toBlock k (if s.toBlock.stageOut x then sAddrFault else c.2) u) ∧ t.mem = s.mem ∧ (e.2 = 0 → t.slow = s.slow)
        ∧ (x.signalled = false → sigOf x.desc ≠ 0 →
            t.toBlock.token (s.toBlock.moduleToken x.ctx (sigOf x.desc)) = wrap 32 (s.toBlock.token (s.toBlock.moduleToken x.ctx (sigOf x.desc)) + 1)))
      ∧ (d.code = decHold → Goes (exec e.1 s) fun t => (∃ u, EndedWith t.toBlock k sStepSkew u) ∧ t.mem = s.mem ∧ t.slow = s.slow ∧ t.disp.tokens = s.disp.tokens)
      ∧ ((d.code = decCommit ∨ d.code = decAdopted) → s.toBlock.header x.ctx (updState x.desc) = none → Goes (exec e.1 s) fun t =>
        (∃ u, EndedWith t.toBlock k sAddrFault u) ∧ t.mem = s.mem ∧ t.slow = s.slow ∧ t.disp.tokens = s.disp.tokens))
  ∧ ∀ (s : State) (k : Nat) (x : Task), ∀ e ∈ [Instr.updateDense k, .updateRows k], s.toBlock.starting k opUpdate = some x → decisionOf x.decided = none →
    Goes (exec e s) fun t => t.toBlock = settle s.toBlock

/-- A committed UPDATE of kind DENSE without a working copy (R364, R366, R369): it writes its header with the committed step and ends, OK unless it met poison; a block that already stands at that step is left as it is. ROOT_COMPUTE (R372) takes the oldest queued computation. What the spec does not fix of it is the model's: log entries 15, 16, 55. -/
def Obligations.UpdateCommits : Prop :=
  (∀ (s : State) (k : Nat) (x : Task) (d : DecisionRec) (h : Header) (rows : List (Nat × List PV)), s.toBlock.starting k opUpdate = some x → updKind x.desc = 0 →
    s.toBlock.hazelRuns = true → s.gov.shed = false → s.toBlock.firstUpdate x = true → decisionOf x.decided = some d →
    d.code = decCommit → s.toBlock.header x.ctx (updState x.desc) = some (h, false) → updWork x.desc = 0 → (ruleOf x.rule).second ≠ 5 → updState x.desc % 16 = 0 →
    h.step ≠ x.counter → h.step + 1 = x.counter → s.toBlock.updateRows x (ruleOf x.rule) h = .ok rows → Goes (exec (.updateDense k) s) fun t =>
      (∃ u, EndedWith t.toBlock k sOK u ∨ EndedWith t.toBlock k sPoisoned u) ∧ t.mem = s.mem
      ∧ ∃ g, t.toBlock.header x.ctx (updState x.desc) = some (g, false) ∧ g.step = wrap 64 x.counter ∧ g.rows = h.rows ∧ g.cols = h.cols)
  ∧ (∀ (s : State) (k : Nat) (x : Task) (d : DecisionRec) (h : Header), s.toBlock.starting k opUpdate = some x → updKind x.desc = 0 →
    s.toBlock.hazelRuns = true → s.gov.shed = false → s.toBlock.firstUpdate x = true → decisionOf x.decided = some d →
    d.code = decCommit → s.toBlock.header x.ctx (updState x.desc) = some (h, false) → updWork x.desc = 0 → h.step = x.counter →
    s.toBlock.inRegion x.ctx (updState x.desc) (blockSize (ruleOf x.rule) h) = true → Goes (exec (.updateDense k) s) fun t =>
      (∃ u, EndedWith t.toBlock k sOK u) ∧ t.slow = s.slow ∧ t.mem = s.mem)
  ∧ ∀ (s : State) (j : RootJob) (rest : List RootJob), s.hazel.roots = j :: rest → s.toBlock.hazelRuns = true → s.gov.shed = false → Goes (exec .rootCompute s) fun t =>
    t.hazel.roots = rest ∧ t.mem = s.mem ∧ t.disp = s.disp
    ∧ ((s.toBlock.slowPeek j.block 64).2 = false → t.reg Od.hazelRootsComputed 0 = wrap (odWidth Od.hazelRootsComputed 0) (s.reg Od.hazelRootsComputed 0 + 1))
    ∧ ((s.toBlock.slowPeek j.block 64).2 = true → LastEvent t.toBlock 0x8396 j.ctx [] ∧ t.slow = s.slow)

/-- GATHER and SCATTER_ADD (R379 to R385): every one that Hazel can run ends; a GATHER of no rows and a SPAN that its region and its pages hold end OK. SPAN copies bytes unchanged in both directions (R380, R381): whole 64-byte blocks within one page and one region, with no poison at their source. What the spec does not fix of it is the model's: log entries 15, 16. -/
def Obligations.EmbeddingTasks : Prop :=
  ((∀ (s : State) (k : Nat) (x : Task), ∀ e ∈ [(Instr.gatherRows k, opGather, 0), (.gatherSpan k, opGather, 1), (.gatherWorking k, opGather, 2), (.scatterAddRows k, opScatter, 0), (.scatterAddSpan k, opScatter, 1)],
    s.toBlock.starting k e.2.1 = some x → gsKind x.desc = e.2.2 → s.toBlock.hazelRuns = true → s.gov.shed = false → (e.2 = (opScatter, 0) → s.toBlock.firstScatter x = true) →
    Goes (exec e.1 s) fun t => (∃ st u, EndedWith t.toBlock k st u) ∧ t.dt = s.dt ∧ t.emith = s.emith ∧ t.plz = s.plz
      ∧ (e.2.1 = opGather → t.slow = s.slow) ∧ (e.2.1 = opScatter → t.mem = s.mem))
  ∧ ∀ (s : State) (k : Nat) (x : Task) (h : Header), s.toBlock.starting k opGather = some x → gsKind x.desc = 0 → s.toBlock.hazelRuns = true → s.gov.shed = false → gsCount x.desc = 0 →
    s.toBlock.tainted x.ctx (idxExtent x.desc) = none → s.toBlock.header x.ctx (gsBlock x.desc) = some (h, false) → Goes (exec (.gatherRows k) s) fun t =>
      EndedWith t.toBlock k sOK (gsUnit 0 0 0 noPos 0) ∧ t.mem = s.mem)
  ∧ ((∀ (s : State) (k pa a : Nat) (x : Task), s.toBlock.starting k opGather = some x → gsKind x.desc = 1 → s.toBlock.hazelRuns = true → s.gov.shed = false →
    gsCount x.desc % 64 = 0 → 0 < gsCount x.desc → gsBlock x.desc + gsCount x.desc ≤ (s.toBlock.region x.ctx).2 → a = (s.toBlock.region x.ctx).1 + gsBlock x.desc →
    s.slow.anyPoison a (gsCount x.desc) = false → gsVa x.desc < 2 ^ 48 → gsVa x.desc % pageSize + gsCount x.desc ≤ pageSize → s.toBlock.walk x.ctx (gsVa x.desc) true false = .ok pa →
    pa % 64 = 0 → (∀ i < gsCount x.desc, s.toBlock.lostAt (pa + i) = false) → Goes (exec (.gatherSpan k) s) fun t =>
      EndedWith t.toBlock k sOK (gsUnit (gsCount x.desc) 0 0 noPos 0) ∧ t.mem.bytes pa (gsCount x.desc) = s.slow.bytes a (gsCount x.desc)
      ∧ ∀ b, b < pa ∨ pa + gsCount x.desc ≤ b → t.mem.byte b = s.mem.byte b)
  ∧ ∀ (s : State) (k pa a : Nat) (x : Task), s.toBlock.starting k opScatter = some x → gsKind x.desc = 1 → s.toBlock.hazelRuns = true → s.gov.shed = false →
    s.toBlock.tainted x.ctx (s.toBlock.scatterSrc x) = none → gsCount x.desc % 64 = 0 → 0 < gsCount x.desc → gsBlock x.desc + gsCount x.desc ≤ (s.toBlock.region x.ctx).2 →
    a = (s.toBlock.region x.ctx).1 + gsBlock x.desc → a % 16 = 0 → gsVa x.desc < 2 ^ 48 → gsVa x.desc % pageSize + gsCount x.desc ≤ pageSize → s.toBlock.walk x.ctx (gsVa x.desc) false false = .ok pa →
    s.mem.anyPoison pa (gsCount x.desc) = false → (∀ i < gsCount x.desc, s.toBlock.lostAt (pa + i) = false) → Goes (exec (.scatterAddSpan k) s) fun t =>
      EndedWith t.toBlock k sOK (gsUnit (gsCount x.desc) 0 0 noPos 0) ∧ t.slow.bytes a (gsCount x.desc) = s.mem.bytes pa (gsCount x.desc)
      ∧ ∀ b, b < a ∨ a + gsCount x.desc ≤ b → t.slow.byte b = s.slow.byte b)

/-- HAZEL_SKEW_RESOLVE (R365, R388): ADOPT turns a held decision into an adopted commit from the token it came with, DISCARD turns it into a skip; without a held decision both are refused. -/
def Obligations.SkewResolve : Prop :=
  (∀ (s : State) (c : Nat) (d : DecisionRec), Writable s.toBlock → s.toBlock.decision c = some d → d.code = decHold → s.toBlock.resetting c = false → Goes (exec (.hazelSkewAdopt c) s) fun t =>
    t.odp.status = stOK ∧ t.toBlock.decision c = some { d with code := decAdopted } ∧ t.reg Od.hazelStep (c + 1) = wrap (odWidth Od.hazelStep (c + 1)) (d.token + 1)
    ∧ t.reg Od.ctxStepsCommitted (c + 1) = wrap (odWidth Od.ctxStepsCommitted (c + 1)) (s.reg Od.ctxStepsCommitted (c + 1) + 1) ∧ t.log = s.log
    ∧ RegsKept [odKey Od.hazelStep (c + 1), odKey Od.ctxResidSel (c + 1), odKey Od.ctxStepsCommitted (c + 1)] s.toBlock t.toBlock)
  ∧ (∀ (s : State) (c : Nat) (d : DecisionRec), Writable s.toBlock → s.toBlock.decision c = some d → d.code = decHold → s.toBlock.resetting c = false → Goes (exec (.hazelSkewDiscard c) s) fun t =>
    t.odp.status = stOK ∧ t.toBlock.decision c = some { d with code := decDiscard } ∧ LastEvent t.toBlock 0x4320 c []
    ∧ t.reg Od.ctxStepsSkipped (c + 1) = wrap (odWidth Od.ctxStepsSkipped (c + 1)) (s.reg Od.ctxStepsSkipped (c + 1) + 1)
    ∧ RegsKept [odKey Od.ctxStepsSkipped (c + 1), odKey Od.eventNextSeq 0] s.toBlock t.toBlock)
  ∧ ∀ (s : State) (c : Nat), Writable s.toBlock → (∀ d, s.toBlock.decision c = some d → d.code ≠ decHold) → ∀ e ∈ [Instr.hazelSkewAdopt c, .hazelSkewDiscard c],
    Goes (exec e s) fun t => t.toBlock = settle (s.toBlock.answer stWriteRefused)

/-- The rows of R360 in their order: a non-finite step is skipped whatever else holds, then a disputed one; a count that differs from the token holds, or adopts where HAZEL_ADOPT is set; else the step commits, and the counter and the residual buffer advance together (R360). The decision record says what was decided, a hold raises 0x8390 with the counter and the token, the UPDATE tasks that wait for the step take the decision with the counter after it (R362) and end with the row's status, and a context reset does not touch the record. -/
def Obligations.DecisionTable : Prop :=
  (∀ dispute count token adopt, decisionCode true dispute count token adopt = decNonfinite)
  ∧ (∀ count token adopt, decisionCode false true count token adopt = decDispute)
  ∧ (∀ count token, count ≠ token → decisionCode false false count token true = decAdopted ∧ decisionCode false false count token false = decHold)
  ∧ (∀ token adopt, decisionCode false false token token adopt = decCommit)
  ∧ (∀ (b : Block) (c s : Nat) (nf dispute : Bool) (token : Nat) (clip : F32), (b.commitDecision c s nf dispute token clip).reg Od.hazelStep (c + 1) ≠ b.reg Od.hazelStep (c + 1) →
    nf = false ∧ dispute = false ∧ (b.reg Od.hazelStep (c + 1) = token ∨ b.reg Od.hazelAdopt (c + 1) = 1))
  ∧ (∀ (b : Block) (c s token : Nat) (clip : F32), (b.reg Od.hazelStep (c + 1) = token ∨ b.reg Od.hazelAdopt (c + 1) = 1) →
    (b.commitDecision c s false false token clip).reg Od.hazelStep (c + 1) = wrap (odWidth Od.hazelStep (c + 1)) (token + 1)
    ∧ (b.commitDecision c s false false token clip).reg Od.ctxResidSel (c + 1) = wrap (odWidth Od.ctxResidSel (c + 1)) (b.reg Od.ctxResidSel (c + 1) ^^^ 1))
  ∧ (∀ (b : Block) (c s token : Nat) (clip : F32), b.reg Od.hazelStep (c + 1) ≠ token → b.reg Od.hazelAdopt (c + 1) ≠ 1 →
    LastEvent (b.commitDecision c s false false token clip) 0x8390 c (beBytes 8 (b.reg Od.hazelStep (c + 1)) ++ beBytes 8 token))
  ∧ (∀ (b : Block) (c s : Nat) (nf dispute : Bool) (token : Nat) (clip : F32), (nf = true ∨ dispute = true) →
    (b.commitDecision c s nf dispute token clip).reg Od.ctxStepsSkipped (c + 1) = wrap (odWidth Od.ctxStepsSkipped (c + 1)) (b.reg Od.ctxStepsSkipped (c + 1) + 1))
  ∧ (∀ (b : Block) (c s : Nat) (nf dispute : Bool) (token : Nat) (clip : F32), (b.commitDecision c s nf dispute token clip).decision c
    = some ⟨s % 2 ^ 64, b.reg Od.ctxRoundSeed (c + 1) % 2 ^ 64, token % 2 ^ 64, clip, decisionCode nf dispute (b.reg Od.hazelStep (c + 1)) token (b.reg Od.hazelAdopt (c + 1) == 1)⟩)
  ∧ (∀ (b : Block) (c s : Nat) (nf dispute : Bool) (token : Nat) (clip : F32), ∀ x ∈ b.disp.tasks, x.ctx = c → x.isRunning = true → opcodeOf x.desc = opUpdate → x.decided = [] → belongsTo x s = true →
    ∃ y ∈ (b.commitDecision c s nf dispute token clip).disp.tasks, y.ticket = x.ticket ∧ y.counter = (b.commitDecision c s nf dispute token clip).reg Od.hazelStep (c + 1)
      ∧ decisionOf y.decided = (b.commitDecision c s nf dispute token clip).decision c)
  ∧ (∀ (s : State) (k : Nat) (x : Task) (d : DecisionRec), ∀ e ∈ [(Instr.updateDense k, 0), (.updateRows k, 1)],
    s.toBlock.starting k opUpdate = some x → updKind x.desc = e.2 → s.toBlock.hazelRuns = true → s.gov.shed = false → s.toBlock.firstUpdate x = true →
    decisionOf x.decided = some d → s.toBlock.stageOut x = false → ∀ r ∈ [(decNonfinite, sNonfiniteSkip), (decDispute, sShadowDispute), (decHold, sStepSkew)], d.code = r.1 →
      Goes (exec e.1 s) fun t => ∃ u, EndedWith t.toBlock k r.2 u)
  ∧ ∀ (s : State) (c v k : Nat), ∀ e ∈ [Instr.ctxReset c v, .ctxResetDone c], Goes (exec e s) fun t => t.oct Od.hazelDecision k = s.oct Od.hazelDecision k

/-- Shadow sampling (R398 to R408): a comparison that agrees settles clean; one that disagrees raises 0x43A3 and waits for the first eligible arbiter; an arbiter that finds the block's value again clears the task, and one that agrees with the shadow block ends the task SHADOW_DISPUTE and disputes its gate; a suspect that repeats its error on the whole capture is retired, another is observed; a unit's observation ends after seven days and 168 passed tests. What the spec does not fix of it is the model's: log entry 44. -/
def Obligations.Shadow : Prop :=
  (∀ (s : State) (id : Nat) (eb es : List (Nat × BitVec 32)) (x : Sample), s.toBlock.sample? id = some x → x.stage = 0 → s.gov.shed = false →
    x.disagreeing (x.run x.narrowCell eb) (x.run x.shadowCell es) = [] → Goes (exec (.shadowCompare id eb es) s) fun t =>
      (∀ y ∈ t.ras.samples, y.id ≠ id) ∧ (x.detached = false → t.toBlock.gate x.ctx = (s.toBlock.gate x.ctx).closed x.bank) ∧ t.disp = s.disp ∧ t.log = s.log ∧ RegsKept [] s.toBlock t.toBlock)
  ∧ (∀ (s : State) (id a : Nat) (eb es : List (Nat × BitVec 32)) (x : Sample) (r : List Nat), s.toBlock.sample? id = some x → (∀ y ∈ s.ras.samples, y.id = id → y = x) → x.stage = 0 → s.gov.shed = false →
    x.disagreeing (x.run x.narrowCell eb) (x.run x.shadowCell es) ≠ [] → s.toBlock.arbiters x.plaza = a :: r → Goes (exec (.shadowCompare id eb es) s) fun t =>
      LastEvent t.toBlock 0x43A3 x.ctx [] ∧ (∃ y ∈ t.ras.samples, y.id = id ∧ y.stage = 1 ∧ y.arbiter = a) ∧ t.disp = s.disp
      ∧ t.reg Od.shadowDisputes (x.plaza + 1) = wrap (odWidth Od.shadowDisputes (x.plaza + 1)) (s.reg Od.shadowDisputes (x.plaza + 1) + 1))
  ∧ (∀ (s : State) (id : Nat) (err : List (Nat × BitVec 32)) (x : Sample), s.toBlock.sample? id = some x → x.stage = 1 → s.gov.shed = false → x.run x.narrowCell err = x.vn →
    Goes (exec (.arbitrationRun id err) s) fun t =>
      t.disp.tasks = s.disp.tasks ∧ t.oct Od.shadowLastDispute 0 = s.toBlock.disputeRecord x 2 (x.disagreeing x.vn x.vs).length x.arbiter 0xFF 0)
  ∧ (∀ (s : State) (id : Nat) (err : List (Nat × BitVec 32)) (x : Sample) (y : Task), s.toBlock.sample? id = some x → x.stage = 1 → s.gov.shed = false → x.run x.narrowCell err ≠ x.vn →
    x.disagreeing (x.run x.narrowCell err) x.vs = [] → s.toBlock.task? x.ticket = some y → y.phase = .running → Goes (exec (.arbitrationRun id err) s) fun t =>
      EndedWith t.toBlock x.ticket sShadowDispute (plazaUnit y) ∧ (x.detached = false → (if x.bank = 0 then (t.toBlock.gate x.ctx).disp0 else (t.toBlock.gate x.ctx).disp1) = true))
  ∧ (∀ (s : State) (id unit : Nat) (err : List (Nat × BitVec 32)) (x : Sample), s.toBlock.sample? id = some x → x.stage = 3 → unit ∈ x.suspects → s.toBlock.blockFree unit = true → s.gov.shed = false →
    Goes (exec (.shadowReplay id unit err) s) fun t =>
      ((∀ c ∈ x.disagreeing x.vn x.vs, nth 0 (x.run (x.named unit).2 err) c = nth 0 (x.named unit).1 c) → unit ∈ t.ras.retired)
      ∧ (unit ∈ t.ras.retired ∨ ∃ o ∈ t.ras.observed, o.unit = unit) ∧ t.disp.tasks = s.disp.tasks)
  ∧ ∀ (s : State) (unit : Nat), Goes (exec (.observationEnd unit) s) fun t =>
    (∀ o ∈ s.ras.observed, o ∈ t.ras.observed ↔ ¬(o.unit = unit ∧ o.since + 7 * 24 * hour ≤ s.dt ∧ 168 ≤ o.passed)) ∧ t.disp = s.disp ∧ RegsKept [] s.toBlock t.toBlock

/-- In-field tests (R410 to R416): a test that falls due is placed, and drains its Plaza at once where that is free; an observation test likewise; at the end of its window a test drains its Plaza with event 0x43A9; a drained Plaza goes where it is leaving for, or is tested; a test that ends is recorded and, where it found nothing, the Plaza serves again. What the spec does not fix of it is the model's: log entries 9, 44. -/
def Obligations.InFieldTests : Prop :=
  (∀ (s : State) (p : Nat), s.toBlock.live = true → s.service = svcFull → s.plaza p ≠ plRetired → (∀ x ∈ s.ras.tests, x.plaza = p → x.observation = true) → Goes (exec (.iftDue p) s) fun t =>
    t.dt = max s.dt (tickAt (s.reg Od.iftNextDue (p + 1))) ∧ (∃ x ∈ t.ras.tests, x.plaza = p ∧ x.observation = false ∧ x.due = s.reg Od.iftNextDue (p + 1))
    ∧ (p < 8 → s.toBlock.testPlace = false → s.power ≠ pwrPark → s.toBlock.plazaHolds p = false → s.plaza p = plInService → t.plaza p = plDraining) ∧ t.disp.tasks = s.disp.tasks)
  ∧ (∀ (s : State) (unit : Nat) (o : Obs), s.ras.observed.find? (fun o => o.unit == unit) = some o → s.toBlock.live = true → s.service = svcFull → s.plaza (unit / 256) ≠ plRetired →
    (∀ x ∈ s.ras.tests, x.plaza ≠ unit / 256) → ¬(o.due ≤ s.reg Od.iftNextDue (unit / 256 + 1) ∧ s.reg Od.iftNextDue (unit / 256 + 1) < o.due + hour) →
    Goes (exec (.observationTestDue unit) s) fun t => t.dt = max s.dt (tickAt o.due) ∧ (∃ x ∈ t.ras.tests, x.plaza = unit / 256 ∧ x.observation = true ∧ x.due = o.due) ∧ t.disp.tasks = s.disp.tasks)
  ∧ (∀ (s : State) (p : Nat) (x : Test), p < 8 → s.ras.tests.find? (fun x => x.plaza == p) = some x → x.draining = false → s.toBlock.testPlace = false → s.plaza p = plInService →
    s.power ≠ pwrPark → s.toBlock.live = true → Goes (exec (.iftGraceExpired p) s) fun t =>
      t.plaza p = plDraining ∧ LastEvent t.toBlock 0x43A9 noCtx [] ∧ t.dt = max s.dt (x.due + s.toBlock.windowOf x) ∧ (∃ y ∈ t.ras.tests, y.plaza = p ∧ y.draining = true) ∧ t.disp.tasks = s.disp.tasks)
  ∧ (∀ (s : State) (p : Nat), p < 8 → s.plaza p = plDraining → s.toBlock.plazaBusy p = false → Goes (exec (.plazaDrained p) s) fun t =>
    (p ∈ s.ras.leaving → s.toBlock.mustRetire p = true → t.plaza p = plRetired)
    ∧ (p ∈ s.ras.leaving → s.toBlock.mustRetire p = false → t.plaza p = plOffline ∧ (s.reg Od.plazaHold (p + 1) = 0 → (p, .hold) ∈ t.sys.checks))
    ∧ (p ∉ s.ras.leaving → (∃ x ∈ s.ras.tests, x.plaza = p ∧ x.draining = true) → s.gov.shed = false → s.toBlock.shedAsked = false → t.plaza p = plTesting))
  ∧ ∀ (s : State) (p : Nat) (r : TestResult) (x : Test), p < 8 → s.plaza p = plTesting → s.ras.tests.find? (fun x => x.plaza == p && x.draining) = some x → Goes (exec (.iftDone p r) s) fun t =>
    (∀ y ∈ t.ras.tests, y.plaza ≠ p) ∧ t.oct Od.iftLast (p + 1) = beBytes 8 s.dt ++ beBytes 1 (resultCode r) ++ beBytes 1 (if x.observation then 1 else 0) ++ beBytes 2 (ofSigned 16 r.tempC) ++ List.replicate 4 0
    ∧ (r.failed = [] → p ∉ s.ras.leaving → s.reg Od.plazaHold (p + 1) = 0 → s.service = svcFull → t.plaza p = plInService)
    ∧ (x.observation = false → t.reg Od.iftNextDue (p + 1) = wrap 64 (s.dt + s.reg Od.iftPeriodH 0 * hour))

/-- Upkeep of HBM (R183, R187 to R197): a retrain window takes the next pseudo-channel, once a window that is open has ended and in the order of the calendar (R433); a lane fault uses the spare of its half, or loses the stack and retires the module; a temperature reading sets the refresh multiplier of its band; the oldest partial line of a pseudo-channel is written when it is old enough. Upkeep of the slow tier (R345, R346, R387). What the spec does not fix of it is the model's: log entries 9, 45. -/
def Obligations.MemoryUpkeep : Prop :=
  ((∀ s : State, s.toBlock.awake = true → s.toBlock.stackState (s.hbm.nextPc / 32) = stInService →
    s.toBlock.inOrder (retrainAt (s.reg Od.hbmRetrainPeriodMs 0) (max s.dt s.hbm.nextAt)) 4 = true → Goes (exec .hbmRetrainWindow s) fun t =>
    t.dt = max s.dt (max (retrainAt (s.reg Od.hbmRetrainPeriodMs 0) (max s.dt s.hbm.nextAt)) s.hbm.openUntil) ∧ t.hbm.nextPc = (s.hbm.nextPc + 1) % 256 ∧ t.mem = s.mem
    ∧ RegsKept [odKey Od.hbmRetrainCount (s.hbm.nextPc / 32 + 1)] s.toBlock t.toBlock)
  ∧ (∀ (s : State) (pc half lane : Nat), pc < 256 → half < 2 → s.toBlock.awake = true → s.toBlock.stackState (pc / 32) = stInService → s.toBlock.spareUsed (2 * pc + half) = false →
    Goes (exec (.hbmLaneFault pc ⟨half, lane⟩ true) s) fun t => (2 * pc + half, lane) ∈ t.hbm.spares ∧ t.reg Od.hbmLanesRepaired (pc / 32 + 1) = wrap (odWidth Od.hbmLanesRepaired (pc / 32 + 1)) (s.reg Od.hbmLanesRepaired (pc / 32 + 1) + 1) ∧ LastEvent t.toBlock 0x4340 noCtx [] ∧ t.mem = s.mem ∧ t.hbm.wcb = s.hbm.wcb
    ∧ RegsKept [odKey Od.hbmRetrainCount (pc / 32 + 1), odKey Od.hbmLanesRepaired (pc / 32 + 1), odKey Od.eventNextSeq 0] s.toBlock t.toBlock)
  ∧ (∀ (s : State) (pc half lane : Nat) (passes : Bool), pc < 256 → s.toBlock.awake = true → s.toBlock.stackState (pc / 32) = stInService → (s.toBlock.spareUsed (2 * pc + half) = true ∨ passes = false) →
    Goes (exec (.hbmLaneFault pc ⟨half, lane⟩ passes) s) fun t => t.toBlock.stackState (pc / 32) = stLost ∧ t.service = svcRetired ∧ t.power = pwrRetired ∧ LastEvent t.toBlock 0xC115 noCtx [])
  ∧ (∀ (s : State) (k : Nat) (c : Int), k < 8 → s.toBlock.live = true → (s.toBlock.stackState k = stInService ∨ s.toBlock.stackState k = stSelfRefresh) → Goes (exec (.hbmTempRead k c) s) fun t =>
    t.reg Od.hbmTempC (k + 1) = ofSigned 32 c ∧ t.reg Od.hbmRefreshMult (k + 1) = bandMult (bandOf (multBand (s.reg Od.hbmRefreshMult (k + 1))) c)
    ∧ (105 ≤ c → LastEvent t.toBlock 0x4341 noCtx []) ∧ t.mem = s.mem ∧ RegsKept [odKey Od.hbmTempC (k + 1), odKey Od.hbmRefreshMult (k + 1), odKey Od.eventNextSeq 0] s.toBlock t.toBlock)
  ∧ ∀ (s : State) (pc : Nat) (l : WcbLine), s.hbm.wcb.find? (fun l => l.pc == pc) = some l → s.toBlock.awake = true → Goes (exec (.wcbAgeExpiry pc) s) fun t =>
    t.dt = max s.dt (l.at_ + s.reg Od.hbmWcbAgeNs 0) ∧ t.hbm.wcb.length + 1 = s.hbm.wcb.length ∧ t.mem = s.mem ∧ RegsKept [odKey Od.hbmWcbRmwCount (pc / 32 + 1)] s.toBlock t.toBlock)
  ∧ ((∀ (s : State) (n rate : Nat) (c : Int), n < 16 → s.toBlock.slowPowered = true → Goes (exec (.slowTempRead n ⟨c, rate⟩) s) fun t =>
    t.reg Od.slowTempC (n + 1) = wrap (odWidth Od.slowTempC (n + 1)) (ofSigned 32 c) ∧ (105 ≤ c → nth false s.gov.slowHot n = false → LastEvent t.toBlock 0x4397 noCtx []) ∧ ((c < 105 ∨ nth false s.gov.slowHot n = true) → t.log = s.log) ∧ sget 0 t.hazel.refresh n = rate ∧ t.slow = s.slow
    ∧ RegsKept [odKey Od.slowTempC (n + 1), odKey Od.eventNextSeq 0] s.toBlock t.toBlock)
  ∧ (∀ (s : State) (c n : Nat), s.toBlock.awake = true → s.toBlock.slowTier = slInService → Goes (exec (.wck2dqOscRead c n) s) fun t =>
    sget 0 t.hazel.osc c = n ∧ (∀ d, d ≠ c → sget 0 t.hazel.osc d = sget 0 s.hazel.osc d) ∧ t.slow = s.slow ∧ RegsKept [] s.toBlock t.toBlock)
  ∧ ∀ (s : State) (c : Nat), s.toBlock.live = true → (s.toBlock.slowTier = slInService ∨ s.toBlock.slowTier = slTraining ∨ s.toBlock.slowTier = slSelfRefresh) → Goes (exec (.slowTierLost c) s) fun t =>
    t.reg Od.slowState 0 = slLost ∧ t.service = svcRetired ∧ t.power = pwrRetired ∧ LastEvent t.toBlock 0xC115 noCtx [] ∧ t.mem = Mem.reset)

/-- Scrubbing (R173, R349, R391 to R393): a scrub of a word without an upset leaves every byte as it was, and every counter but the one of on-die reports, of which the spec fixes no number; whatever it finds, nothing outside its word, or its XTS unit in the slow tier, changes; an uncorrectable word is poisoned and counted, but not one that a link replays within its limit. What the spec does not fix of it is the model's: log entry 10. -/
def Obligations.Scrubs : Prop :=
  (∀ (s : State) (a : Nat), s.toBlock.awake = true →
    (a < hbmSize → s.toBlock.stackState (stackOf a) = stInService → Goes (exec (.hbmScrub a ⟨0, 0, 0, 0⟩) s) fun t => (∀ x, t.mem.byte x = s.mem.byte x) ∧ RegsKept [odKey Od.hbmOndieSeverityCount (stackOf a + 1)] s.toBlock t.toBlock)
    ∧ (∀ k, terraceOf a = some k → s.toBlock.boroughDown k = false → Goes (exec (.terraceScrub a ⟨0, 0, 0, 0⟩) s) fun t => (∀ x, t.mem.byte x = s.mem.byte x) ∧ RegsKept [] s.toBlock t.toBlock)
    ∧ (a < s.toBlock.slowCapacity → s.toBlock.slowTier = slInService → Goes (exec (.slowScrub a ⟨0, 0, 0, 0⟩) s) fun t => (∀ x, t.slow.byte x = s.slow.byte x) ∧ RegsKept [] s.toBlock t.toBlock))
  ∧ (∀ (s : State) (a : Nat) (u : Upset), Goes (exec (.hbmScrub a u) s) fun t => (∀ x, x / 8 ≠ a / 8 → t.mem.byte x = s.mem.byte x) ∧ t.slow = s.slow ∧ t.disp = s.disp ∧ t.dt = s.dt)
  ∧ (∀ (s : State) (a : Nat) (u : Upset), Goes (exec (.terraceScrub a u) s) fun t => (∀ x, x / 8 ≠ a / 8 → t.mem.byte x = s.mem.byte x) ∧ t.slow = s.slow ∧ t.disp = s.disp ∧ t.dt = s.dt)
  ∧ (∀ (s : State) (a : Nat) (u : Upset), Goes (exec (.slowScrub a u) s) fun t => (∀ x, x / 16 ≠ a / 16 → t.slow.byte x = s.slow.byte x) ∧ t.mem = s.mem ∧ t.disp = s.disp ∧ t.dt = s.dt)
  ∧ (∀ (s : State) (a k y : Nat) (u : Upset), s.toBlock.awake = true → terraceOf a = some k → s.toBlock.boroughDown k = false → u.link = 0 →
    decodeWord ((s.mem.stored (a / 8)).1 ^^^ u.dataXor.toNat) ((s.mem.stored (a / 8)).2 ^^^ u.checkXor.toNat) = .bad y → Goes (exec (.terraceScrub a u) s) fun t =>
      t.mem.poisoned (a / 8) = true ∧ t.reg Od.rasUeCount 1 = wrap (odWidth Od.rasUeCount 1) (s.reg Od.rasUeCount 1 + 1))
  ∧ ∀ (s : State) (a k y : Nat) (u : Upset), s.toBlock.awake = true → terraceOf a = some k → s.toBlock.boroughDown k = false → (u.link = 4 ∨ u.link = 5) → u.replays ≤ replayMax →
    decodeWord ((s.mem.stored (a / 8)).1 ^^^ u.dataXor.toNat) ((s.mem.stored (a / 8)).2 ^^^ u.checkXor.toNat) = .bad y → Goes (exec (.terraceScrub a u) s) fun t =>
      t.mem = s.mem ∧ RegsKept [odKey Od.rasLinkReplays 0] s.toBlock t.toBlock
      ∧ t.reg Od.rasLinkReplays 0 = wrap (odWidth Od.rasLinkReplays 0) (s.reg Od.rasLinkReplays 0 + min replayMax (max 1 u.replays))

/-- EMITH_SEND (R296, R318, R322, R331): the connection in turn sends its next parcel as a DATA packet of the next PSN, on the interface that spraying gives it, when pacing lets it and a credit of its flow is there (R296); the packet is kept until it is acknowledged, the parcel leaves the queue and a credit is spent. That the command reaches the moment at which pacing lets it send, and when credits come back, is the model's choice (log entries 20, 48). -/
def Obligations.EmithSend : Prop :=
  ∀ (s : State) (slice i : Nat) (c : TxConn) (p : Parcel) (b : Block), b = (s.toBlock.openNeeded slice).awaitCredits slice → s.toBlock.live = true → slice < 4 → s.toBlock.boroughDown slice = false →
    b.chooseTx slice = some c → b.tx? c.key = some c → b.nextParcelOf slice c.key = some p →
    (b.reach c.freeAt).pickIface c.key c.iface none = some i → CanSend b c.key → Goes (exec (.emithSend slice) s) fun t =>
      t.dt = max s.dt c.freeAt ∧ Sent s.toBlock t.toBlock i c.key etData c.cgen c.next p.payload.length ∧ t.rb.tx = b.rb.tx.erase p ∧ (∀ f, b.flowOf p = some f → sget 0 t.rb.spent f = sget 0 b.rb.spent f + 1)
      ∧ (∃ x, t.toBlock.tx? c.key = some x ∧ x.next = wrap 32 (c.next + 1) ∧ x.unacked = c.unacked ++ [⟨c.next, p.payload, t.dt, 0, i⟩]
        ∧ x.freeAt = max t.dt c.freeAt + paceNs (p.payload.length + 48) c.rate ∧ x.rate = c.rate)
      ∧ t.emith.rx = s.emith.rx ∧ t.rb.rx = s.rb.rx ∧ t.mem = s.mem ∧ t.disp = s.disp
      ∧ RegsKept [odKey Od.emithTableFull 0, odKey Od.rbBytesSent (slice + 1), odKey Od.eventNextSeq 0] s.toBlock t.toBlock

/-- EMITH_DATA (R321, R324, R326): a packet that is not accepted changes no connection and reaches no slice; of an accepted one a PSN below CUM or already marked is a duplicate and reaches no slice, one at CUM + 1,024 or beyond is discarded, both are answered with an ACK at once (R326), and any other is passed to its slice once, is marked, and CUM advances past every contiguous mark. What the spec does not fix of it is the model's: log entry 34. -/
def Obligations.EmithData : Prop :=
  ∀ (s : State) (pkt : Packet) (port : Nat), Goes (exec (.emithData pkt port) s) fun t =>
    ((s.toBlock.accept etData port pkt).1 = none → t.emith.rx = s.emith.rx ∧ t.emith.tx = s.emith.tx ∧ t.emith.wire = s.emith.wire ∧ t.rb = s.rb ∧ t.mem = s.mem
      ∧ RegsKept [odKey Od.emithAuthFails 0, odKey Od.eventNextSeq 0] s.toBlock t.toBlock)
    ∧ ∀ (h : EHead) (text : List Byte) (c : RxConn) (k : ConnKey), (s.toBlock.accept etData port pkt).1 = some (h, text) → isHost port = false → k = rxKey h false →
      s.toBlock.sliceRuns h.dslice = true → s.toBlock.rx? k = some c → c.cgen = h.cgen →
        (((h.psn + 2 ^ 32 - c.cum) % 2 ^ 32 ≥ 2 ^ 31 ∨ c.marks.contains h.psn = true) → t.rb = s.rb ∧ ∃ y, t.toBlock.rx? k = some y ∧ y.cum = c.cum ∧ y.marks = c.marks)
        ∧ (windowMax ≤ (h.psn + 2 ^ 32 - c.cum) % 2 ^ 32 → (h.psn + 2 ^ 32 - c.cum) % 2 ^ 32 < 2 ^ 31 → c.marks.contains h.psn = false →
          t.rb = s.rb ∧ ∃ y, t.toBlock.rx? k = some y ∧ y.cum = c.cum ∧ y.marks = c.marks)
        ∧ (∀ i, ((h.psn + 2 ^ 32 - c.cum) % 2 ^ 32 ≥ windowMax ∨ c.marks.contains h.psn = true) → s.toBlock.pickIface k c.iface none = some i → CanSend s.toBlock k →
          Sent s.toBlock t.toBlock i k etAck c.cgen 0 50)
        ∧ ((h.psn + 2 ^ 32 - c.cum) % 2 ^ 32 < windowMax → c.marks.contains h.psn = false →
          t.rb = (s.toBlock.arrive h.dslice h.src h.wctx text).rb
          ∧ ∃ y, t.toBlock.rx? k = some y ∧ (y.cum, y.marks) = advanceCum (c.marks.length + 1) c.cum (c.marks ++ [h.psn]))

/-- EMITH_ACK and EMITH_PROBE (R325, R327, R330): a packet that is not accepted changes no sending connection; of an accepted one what it shows as received leaves the connection, its PMASK is kept for its sender, and a PROBE leaves the rate as it was. The rate of R330 stays between 1 Gb/s and its maximum. What the spec does not fix of it is the model's: log entry 34. -/
def Obligations.EmithAcks : Prop :=
  (∀ (s : State) (pkt : Packet) (port : Nat), ∀ e ∈ [(Instr.emithAck pkt port, etAck), (.emithProbe pkt port, etProbe)], Goes (exec e.1 s) fun t =>
    ((s.toBlock.accept e.2 port pkt).1 = none → t.emith.tx = s.emith.tx ∧ t.emith.rx = s.emith.rx ∧ t.emith.masks = s.emith.masks ∧ t.rb = s.rb)
    ∧ ∀ (h : EHead) (text : List Byte) (c : TxConn) (k : ConnKey), (s.toBlock.accept e.2 port pkt).1 = some (h, text) → isHost port = false → text.length = 50 → k = txKey h false →
      s.toBlock.tx? k = some c → c.cgen = h.cgen →
        sget 0 t.emith.masks h.src = (ackFields text).2.2.2.2.2 + 1 ∧ t.emith.rx = s.emith.rx ∧ t.rb = s.rb ∧ t.mem = s.mem
        ∧ ∀ y, t.toBlock.tx? k = some y → (∀ u ∈ y.unacked, acked (ackFields text).1 (ackFields text).2.1 u.psn = false) ∧ y.next = c.next ∧ (e.2 = etProbe → y.rate = c.rate))
  ∧ ∀ (c : TxConn) (now dmax ce covered target rmax ai : Nat), 1000 ≤ c.rate → c.rate ≤ rmax → 1000 ≤ (c.adapt now dmax ce covered target rmax ai).rate
    ∧ (c.adapt now dmax ce covered target rmax ai).rate ≤ rmax
    ∧ (0 < ce → 0 < covered → c.srtt ≤ now - c.cutAt → (c.adapt now dmax ce covered target rmax ai).rate = max 1000 (c.rate - c.rate * ce / (2 * covered)))

/-- The timers of Emith: ACK_DELAY_EXPIRY sends an ACK 2 us after the first unacknowledged arrival, PROBE_INTERVAL a PROBE 100 us after the last ACK (R326); RTO_EXPIRY sends the packet again when pacing lets it and doubles the timeout up to 10 ms (R327, R331), and at the limit the connection fails (R328); CONN_IDLE_EXPIRY forgets a connection without a packet for 1,000 ms (R322). What the spec does not fix of it is the model's: log entries 9, 34, 48. -/
def Obligations.EmithTimers : Prop :=
  (∀ (s : State) (k : ConnKey) (c : RxConn) (t0 i : Nat), s.toBlock.rx? k = some c → c.firstAt = some t0 → s.toBlock.live = true →
    (s.toBlock.reach (t0 + 2000)).pickIface k c.iface none = some i → CanSend s.toBlock k → Goes (exec (.ackDelayExpiry k) s) fun t =>
      t.dt = max s.dt (t0 + 2000) ∧ Sent s.toBlock t.toBlock i k etAck c.cgen 0 50 ∧ t.rb = s.rb ∧ t.mem = s.mem
      ∧ ∃ y, t.toBlock.rx? k = some y ∧ y.cum = c.cum ∧ y.marks = c.marks ∧ y.since = 0 ∧ y.firstAt = none ∧ y.covered = 0 ∧ y.sentAt = t.dt)
  ∧ (∀ (s : State) (k : ConnKey) (c : RxConn) (i : Nat), s.toBlock.rx? k = some c → c.since = 0 → s.toBlock.live = true →
    (s.toBlock.reach (c.sentAt + 100000)).pickIface k c.iface none = some i → CanSend s.toBlock k → Goes (exec (.probeInterval k) s) fun t =>
      t.dt = max s.dt (c.sentAt + 100000) ∧ Sent s.toBlock t.toBlock i k etProbe c.cgen 0 50 ∧ t.rb = s.rb ∧ t.mem = s.mem
      ∧ ∃ y, t.toBlock.rx? k = some y ∧ y.cum = c.cum ∧ y.marks = c.marks ∧ y.sentAt = t.dt)
  ∧ (∀ (s : State) (k : ConnKey) (psn i : Nat) (c : TxConn) (u : SentPkt), s.toBlock.tx? k = some c → c.unacked.find? (fun x => x.psn == psn) = some u → s.toBlock.live = true →
    (s.toBlock.reach (max (u.at_ + c.rto) c.freeAt)).pickIface k c.iface (some u.iface) = some i → CanSend s.toBlock k → Goes (exec (.rtoExpiry k psn) s) fun t =>
      t.dt = max s.dt (max (u.at_ + c.rto) c.freeAt) ∧ Sent s.toBlock t.toBlock i k etData c.cgen psn u.payload.length
      ∧ t.reg Od.emithRetransmits 0 = wrap (odWidth Od.emithRetransmits 0) (s.reg Od.emithRetransmits 0 + 1)
      ∧ (s.reg Od.emithRetryLimit 0 ≤ u.tries + 1 → t.toBlock.tx? k = none ∧ LastEvent t.toBlock 0x8383 noCtx (beBytes 4 k.peer)
        ∧ t.reg Od.emithConnFails 0 = wrap (odWidth Od.emithConnFails 0) (s.reg Od.emithConnFails 0 + 1))
      ∧ (u.tries + 1 < s.reg Od.emithRetryLimit 0 → ∃ y, t.toBlock.tx? k = some y ∧ y.rto = min (10 ^ 7) (2 * c.rto)
        ∧ ∃ v, y.unacked.find? (fun x => x.psn == psn) = some v ∧ v.tries = u.tries + 1 ∧ v.payload = u.payload))
  ∧ (∀ (s : State) (k : ConnKey) (c : TxConn), k.sending = true → s.toBlock.tx? k = some c → Goes (exec (.connIdleExpiry k) s) fun t =>
    t.dt = max s.dt (c.usedAt + 10 ^ 9) ∧ t.toBlock.tx? k = none ∧ (∀ j, j ≠ k → t.toBlock.tx? j = s.toBlock.tx? j) ∧ t.emith.rx = s.emith.rx ∧ t.rb = s.rb ∧ RegsKept [] s.toBlock t.toBlock)
  ∧ ∀ (s : State) (k : ConnKey) (c : RxConn), k.sending = false → s.toBlock.rx? k = some c → Goes (exec (.connIdleExpiry k) s) fun t =>
    t.dt = max s.dt (c.usedAt + 10 ^ 9) ∧ t.toBlock.rx? k = none ∧ (∀ j, j ≠ k → t.toBlock.rx? j = s.toBlock.rx? j) ∧ t.emith.tx = s.emith.tx ∧ t.rb = s.rb ∧ RegsKept [] s.toBlock t.toBlock

/-- HS_INIT (R335, R336): at most 100 are accepted per second; an accepted one opens the lowest free session with the contexts it asks for and event 0x0386, or is refused with event 0x4387, and is answered with one HS_REPLY on its port. SESSION_TIMEOUT (R337): the session closes 60 s after its last packet or 24 hours after it opened, with its connections. What the spec does not fix of it is the model's: log entries 9, 37. -/
def Obligations.HostSessions : Prop :=
  (∀ (s : State) (port : Nat) (p : List Byte), s.toBlock.live = true → s.toBlock.walnutBusy = false → isHost port = true → s.toBlock.receives port = true →
    (s.emith.hsSecond = s.dt / 10 ^ 9 → s.emith.hsCount < 100) → Goes (exec (.hsInit port p) s) fun t =>
      t.emith.hsSecond = s.dt / 10 ^ 9 ∧ t.emith.hsCount = (if s.emith.hsSecond = s.dt / 10 ^ 9 then s.emith.hsCount else 0) + 1
      ∧ (s.toBlock.hsRefusal p = 0 → LastEvent t.toBlock 0x0386 noCtx [] ∧ ∃ x, t.emith.sessions = s.emith.sessions ++ [x] ∧ s.toBlock.freeSession = some x.num
        ∧ x.granted = ofBE (slice p 34 8) ∧ x.slot = ofBE (slice p 32 1) ∧ x.opened = s.dt ∧ x.usedAt = s.dt ∧ x.txc = 1 ∧ x.failed = false)
      ∧ (s.toBlock.hsRefusal p ≠ 0 → LastEvent t.toBlock 0x4387 noCtx [] ∧ t.emith.sessions = s.emith.sessions)
      ∧ (∃ f, t.emith.wire = s.emith.wire ++ [f] ∧ f.iface = 96 + port) ∧ t.mem = s.mem ∧ RegsKept [odKey Od.eventNextSeq 0] s.toBlock t.toBlock)
  ∧ (∀ (s : State) (port : Nat) (p : List Byte), s.emith.hsSecond = s.dt / 10 ^ 9 → 100 ≤ s.emith.hsCount → Goes (exec (.hsInit port p) s) fun t => t.toBlock = settle s.toBlock)
  ∧ ∀ (s : State) (n : Nat) (x : Session), s.toBlock.session? n = some x → Goes (exec (.sessionTimeout n) s) fun t =>
    t.dt = max s.dt (min (x.usedAt + 60 * 10 ^ 9) (x.opened + 86400 * 10 ^ 9)) ∧ t.toBlock.session? n = none ∧ (∀ m, m ≠ n → t.toBlock.session? m = s.toBlock.session? m)
    ∧ (∀ c ∈ t.emith.tx, ¬(c.key.slice = hostSlice ∧ c.key.wctx = n)) ∧ (∀ c ∈ t.emith.rx, ¬(c.key.slice = hostSlice ∧ c.key.wctx = n))
    ∧ (∀ p ∈ t.emith.hostTx, p.wctx ≠ n) ∧ (∀ c ∈ t.emith.hostRx, c.session ≠ n) ∧ t.mem = s.mem ∧ RegsKept [] s.toBlock t.toBlock

/-- The commands of a host session (R338, R339), each once its PSN's turn has come: a WRITE stores its data where its address translates to and nothing else; a READ answers READ_DATA with the bytes; a DOORBELL delivers its word, unless an earlier command has failed (cause 11) or the ring is another context's (cause 10); a malformed command (cause 12) and one on a context not granted (cause 9) are answered with ERROR and change neither memory nor rings; a command whose turn has not come waits. What the spec does not fix of it is the model's: log entry 38. -/
def Obligations.HostCommands : Prop :=
  (∀ (s : State) (n psn pa : Nat) (x : Session) (c : HostCmd), HostTaken s.toBlock n psn x c → c.head.hop = 1 →
    hostMalformed c.head c.text = false → bit x.granted c.head.ctx = true → s.power ≠ pwrPark → s.toBlock.hostRange c.head.ctx c.head.va c.head.len true = .ok [(pa, c.head.len)] →
    s.mem.anyPoison pa c.head.len = false → (∀ i < c.head.len, s.toBlock.lostAt (pa + i) = false) → Goes (exec (.hostWrite n psn) s) fun t =>
      t.mem.bytes pa c.head.len = c.text.drop 16 ∧ (∀ a, a < pa ∨ pa + c.head.len ≤ a → s.mem.poisoned (a / 8) = false → t.mem.byte a = s.mem.byte a)
      ∧ t.slow = s.slow ∧ t.disp = s.disp ∧ t.emith.hostTx = s.emith.hostTx ∧ t.emith.hostRx = s.emith.hostRx.erase c ∧ t.dt = s.dt
      ∧ IdxKept [Od.hbmReadBytes, Od.terraceReadBytes, Od.terraceRemoteBytes, Od.hbmWriteBytes, Od.hbmWcbRmwCount, Od.terraceWriteBytes, Od.terraceBankStallCycles,
          Od.hbmQueueFullCycles, Od.hbmOndieSeverityCount] s.toBlock t.toBlock)
  ∧ (∀ (s : State) (n psn : Nat) (x : Session) (c : HostCmd) (l : List (Nat × Nat)), HostTaken s.toBlock n psn x c → c.head.hop = 2 →
    hostMalformed c.head c.text = false → bit x.granted c.head.ctx = true → s.power ≠ pwrPark → s.toBlock.hostRange c.head.ctx c.head.va c.head.len false = .ok l → Goes (exec (.hostRead n psn) s) fun t =>
      t.emith.hostTx = s.emith.hostTx ++ [⟨hostSlice, 0, n, BitVec.ofNat 128 { c.head with hop := 3 }.num, l.flatMap (fun e => (s.toBlock.readPhys e.1 e.2).1), 0⟩]
      ∧ t.emith.hostRx = s.emith.hostRx.erase c ∧ t.mem = s.mem ∧ t.slow = s.slow ∧ t.disp = s.disp
      ∧ IdxKept [Od.hbmReadBytes, Od.terraceReadBytes, Od.terraceRemoteBytes, Od.terraceBankStallCycles, Od.hbmQueueFullCycles, Od.hbmOndieSeverityCount, Od.rasPoisonConsumed,
          Od.eventNextSeq] s.toBlock t.toBlock)
  ∧ (∀ (s : State) (n psn w : Nat) (x : Session) (c : HostCmd) (r : Ring), HostTaken s.toBlock n psn x c → c.head.hop = 4 →
    hostMalformed c.head c.text = false → bit x.granted c.head.ctx = true → w = ofBE (slice c.text 16 8) → r = s.toBlock.ring (bits w 63 50) →
    (x.failed = false → cfgCtx r.cfg = c.head.ctx → bits w 49 16 = 0 → r.state = .active → s.toBlock.resetting c.head.ctx = false → (bits w 15 0 + 2 ^ 16 - r.fetch) % 2 ^ 16 ≤ 2 ^ cfgLog r.cfg →
      Goes (exec (.hostDoorbell n psn) s) fun t =>
        t.toBlock.ring (bits w 63 50) = { r with producer := bits w 15 0, workAt := (t.toBlock.ring (bits w 63 50)).workAt } ∧ (∀ k, k ≠ bits w 63 50 → t.toBlock.ring k = s.toBlock.ring k)
        ∧ t.emith.hostTx = s.emith.hostTx ∧ t.mem = s.mem ∧ RegsKept [] s.toBlock t.toBlock)
    ∧ ((x.failed = true ∨ cfgCtx r.cfg ≠ c.head.ctx) → Goes (exec (.hostDoorbell n psn) s) fun t => t.disp = s.disp ∧ t.mem = s.mem
        ∧ t.emith.hostTx = s.emith.hostTx ++ [⟨hostSlice, 0, n, BitVec.ofNat 128 (HHead.num ⟨5, c.head.ctx, 0, if x.failed then 11 else 10, c.head.va, c.head.tag, 0⟩), [], 0⟩]))
  ∧ (∀ (s : State) (n psn : Nat) (x : Session) (c : HostCmd), ∀ e ∈ [(Instr.hostWrite n psn, c.head.hop ≠ 2 ∧ c.head.hop ≠ 4), (.hostRead n psn, c.head.hop = 2), (.hostDoorbell n psn, c.head.hop = 4)],
    HostTaken s.toBlock n psn x c → e.2 → (hostMalformed c.head c.text = true ∨ bit x.granted c.head.ctx = false) → Goes (exec e.1 s) fun t =>
      t.emith.hostTx = s.emith.hostTx ++ [⟨hostSlice, 0, n, BitVec.ofNat 128 (HHead.num ⟨5, c.head.ctx, 0, if hostMalformed c.head c.text then 12 else 9, c.head.va, c.head.tag, 0⟩), [], 0⟩]
      ∧ t.mem = s.mem ∧ t.disp = s.disp ∧ (∃ y, t.toBlock.session? n = some y ∧ y.failed = true) ∧ RegsKept [] s.toBlock t.toBlock)
  ∧ ∀ (s : State) (n psn : Nat) (c : HostCmd), s.toBlock.heldCmd n psn = some c → s.toBlock.mayTake c = false → ∀ e ∈ [Instr.hostWrite n psn, .hostRead n psn, .hostDoorbell n psn],
    Goes (exec e s) fun t => t.toBlock = settle s.toBlock

/-- Ports come up, are repaired and go OFF (R311, R312, R332, R333, R334): training, in halves on a backplane only, the two triggers of a repair, at most four repairs at a time, the ends of the drain, of Retrain and of Verify, degradation where it may run, and a write of FAB_PORT_MODE. What the spec does not fix of it is the model's: log entries 9, 35. -/
def Obligations.PortRepair : Prop :=
  ∀ (s : State) (p : Nat), (isFabric p = true ∨ isHost p = true) → s.toBlock.live = true → (∀ r ∈ s.emith.repairs, isFabric r.port = true ∨ isHost r.port = true) →
    ((s.toBlock.portState p = ptDown ∨ s.toBlock.portState p = ptTraining) →
      (Goes (exec (.linkTrained p true) s) fun t => t.toBlock.portState p = ptUp ∧ (isFabric p = true → t.toBlock.portModeNow p = (if s.reg Od.fabPortMode (p + 1) = 0 ∨ Config.backplane p = true then s.reg Od.fabPortMode (p + 1) else 0)) ∧ t.emith.tx = s.emith.tx
        ∧ (s.reg Od.timeSource 0 ≠ 1 ∨ s.toBlock.portUp s.cal.ptpAt = true → t.log = s.log ∧ t.cal = s.cal))
      ∧ (Goes (exec (.linkTrained p false) s) fun t => t.toBlock.portState p = ptDown ∧ (s.service ≠ svcFull → LastEvent t.toBlock 0x4114 noCtx []) ∧ (s.service = svcFull → t.log = s.log)))
    ∧ (∀ lane, s.toBlock.portState p = ptUp → s.toBlock.repair? p = none → (isFabric p = true → s.reg Od.fabLaneFailTicks 0 ≤ sget 0 s.emith.laneTicks (4 * p + lane)) →
      s.toBlock.laneAgain p lane = false → (∀ r ∈ s.emith.repairs, r.phase ≠ 0) → Goes (exec (.laneSerLimit p lane) s) fun t =>
        (s.emith.repairs.length < repairMax → t.toBlock.portState p = ptDraining ∧ t.toBlock.inPhase p 1 = some ⟨p, some lane, 1, s.dt⟩)
        ∧ (repairMax ≤ s.emith.repairs.length → t.toBlock.portState p = ptUp ∧ t.toBlock.inPhase p 0 = some ⟨p, some lane, 0, s.dt⟩)
        ∧ t.emith.tx = s.emith.tx ∧ t.emith.rx = s.emith.rx ∧ t.mem = s.mem)
    ∧ (∀ lane, s.toBlock.portState p = ptUp → s.toBlock.repair? p = none → (isFabric p = true → s.reg Od.fabLaneFailTicks 0 ≤ sget 0 s.emith.laneTicks (4 * p + lane)) →
      s.toBlock.laneAgain p lane = true → Goes (exec (.laneSerLimit p lane) s) fun t =>
        (s.toBlock.canDegrade p = false → t.toBlock.portState p = ptOff ∧ LastEvent t.toBlock 0x8385 noCtx [])
        ∧ (s.toBlock.canDegrade p = true → t.reg Od.fabPortMode (p + 1) = if lane < 2 then 3 else 2))
    ∧ (s.toBlock.portState p = ptUp → s.toBlock.repair? p = none → (∀ r ∈ s.emith.repairs, r.phase ≠ 0) → Goes (exec (.pcsAlignmentLoss p) s) fun t =>
      t.toBlock.portState p = if s.emith.repairs.length < repairMax then ptDraining else ptRepairing)
    ∧ (∀ r, s.toBlock.inPhase p 1 = some r → Goes (exec (.portDrainEnd p) s) fun t =>
      t.dt = max s.dt (r.at_ + 20000) ∧ t.toBlock.portState p = ptRepairing ∧ (∃ y, t.toBlock.inPhase p 2 = some y ∧ y.at_ = t.dt) ∧ t.emith.tx = s.emith.tx ∧ t.emith.rx = s.emith.rx)
    ∧ (∀ r, s.toBlock.inPhase p 2 = some r → Goes (exec (.portRetrainDone p) s) fun t =>
      (∃ y, t.toBlock.inPhase p 3 = some y ∧ y.at_ = s.dt) ∧ (isFabric p = true → t.toBlock.portModeNow p = (if s.reg Od.fabPortMode (p + 1) = 0 ∨ Config.backplane p = true then s.reg Od.fabPortMode (p + 1) else 0)) ∧ RegsKept [] s.toBlock t.toBlock)
    ∧ (∀ r, s.toBlock.inPhase p 3 = some r →
      (Goes (exec (.portVerifyEnd p true) s) fun t => t.dt = max s.dt (r.at_ + 10 ^ 7) ∧ t.toBlock.portState p = ptUp ∧ t.toBlock.repair? p = none ∧ LastEvent t.toBlock 0x0380 noCtx [])
      ∧ Goes (exec (.portVerifyEnd p false) s) fun t =>
        (s.toBlock.canDegrade p = false → t.toBlock.portState p = ptOff ∧ t.toBlock.repair? p = none ∧ LastEvent t.toBlock 0x8385 noCtx [])
        ∧ (s.toBlock.canDegrade p = true → (∃ y, t.toBlock.inPhase p 2 = some y) ∧ LastEvent t.toBlock 0x4382 noCtx []
          ∧ t.reg Od.fabPortMode (p + 1) = if r.lane.getD 3 < 2 then 3 else 2))
    ∧ (∀ v, p < 16 → Writable s.toBlock → v ≤ 3 → Goes (exec (.fabPortMode p v) s) fun t =>
      t.odp.status = stOK ∧ t.reg Od.fabPortMode (p + 1) = v ∧ t.toBlock.portState p = (if s.toBlock.portState p = ptOff then ptTraining else s.toBlock.portState p)
      ∧ t.emith = s.emith ∧ RegsKept [odKey Od.fabPortMode (p + 1), odKey Od.fabPortState (p + 1)] s.toBlock t.toBlock)
    ∧ ∀ v, Writable s.toBlock → 3 < v → Goes (exec (.fabPortMode p v) s) fun t => t.toBlock = settle (s.toBlock.answer stRange)

/-- Frames at a port: a pause of the PCP of FAB_VLAN holds an interface for its quanta, and what waits there leaves as much later (R314), with the time stamp of the DT at which it does (R318, R428); a frame that is not accepted on a fabric port is counted in FAB_RX_DISCARDS (R315); a refresh asks for FAB_GATEWAY, whose reply resolves the link partner MAC, and solicitations and echo requests of an interface's own address are answered, in frames that carry the tag of the interface (R313, R317). The answers are the model's reading of Neighbor Discovery and of ICMPv6 echo. What the spec does not fix of it is the model's: log entries 34, 36. -/
def Obligations.PortFrames : Prop :=
  (∀ (s : State) (i q : Nat) (quanta : List Nat), s.reg Od.fabPfcEnable 0 = 1 → s.toBlock.receives (portOf i) = true → (isHost (portOf i) = true ∨ i ∈ s.toBlock.ifacesOf (portOf i)) →
    q = nth 0 quanta (pcpOf (s.reg Od.fabVlan 0)) → Goes (exec (.pfcPauseFrame i quanta) s) fun t =>
      sget 0 t.emith.paused i = (if q = 0 then 0 else s.dt + ceilDiv (512 * q) (ifaceGbps i)) ∧ (∀ k, k ≠ i → sget 0 t.emith.paused k = sget 0 s.emith.paused k)
      ∧ t.emith.wire = s.emith.wire.map (fun f => if f.iface = i then f.leaveAt (shifted s.dt (s.toBlock.pauseEnd i) (t.toBlock.pauseEnd i) f.leaves) else f)
      ∧ t.emith.tx = s.emith.tx ∧ t.dt = s.dt ∧ RegsKept [] s.toBlock t.toBlock)
  ∧ (∀ (f : WireFrame) (d : Nat), f.leaves ≠ d → (f.leaveAt d).leaves = d ∧ bits (f.leaveAt d).pkt.header.toNat 111 64 = d % 2 ^ 48
    ∧ bits (f.leaveAt d).pkt.header.toNat 255 112 = bits f.pkt.header.toNat 255 112 ∧ bits (f.leaveAt d).pkt.header.toNat 63 0 = bits f.pkt.header.toNat 63 0)
  ∧ (∀ (s : State) (i : Nat) (quanta : List Nat), (s.reg Od.fabPfcEnable 0 ≠ 1 ∨ s.toBlock.receives (portOf i) = false ∨ (isHost (portOf i) = false ∧ i ∉ s.toBlock.ifacesOf (portOf i))) →
    Goes (exec (.pfcPauseFrame i quanta) s) fun t => t.toBlock = settle s.toBlock)
  ∧ (∀ (s : State) (p : Nat) (f : EthFrame), isFabric p = true → s.toBlock.receives p = true → s.toBlock.accepts p f = false → Goes (exec (.rxDiscard p f) s) fun t =>
    t.reg Od.fabRxDiscards (p + 1) = wrap (odWidth Od.fabRxDiscards (p + 1)) (s.reg Od.fabRxDiscards (p + 1) + 1) ∧ t.emith = s.emith ∧ t.rb = s.rb
    ∧ RegsKept [odKey Od.fabRxDiscards (p + 1)] s.toBlock t.toBlock)
  ∧ (∀ (s : State) (p : Nat) (f : EthFrame), isFabric p = false ∨ s.toBlock.receives p = false ∨ s.toBlock.accepts p f = true → Goes (exec (.rxDiscard p f) s) fun t => t.toBlock = settle s.toBlock)
  ∧ (∀ (s : State) (p : Nat) (f : EthFrame), f.length > 9216 → s.toBlock.accepts p f = false)
  ∧ (∀ (s : State) (i : Nat), s.toBlock.live = true → s.toBlock.ifaceUp i = true → Goes (exec (.neighborRefresh i) s) fun t =>
    t.emith.ndTx = s.emith.ndTx ++ [⟨i, s.toBlock.tagOf i, s.toBlock.departs i, ⟨0, s.toBlock.gatewayIp, s.toBlock.ifaceMac i⟩⟩] ∧ t.emith.macs = s.emith.macs ∧ RegsKept [] s.toBlock t.toBlock)
  ∧ ∀ (s : State) (i : Nat) (f : NdFrame), s.toBlock.hearsNd i = true →
    (f.kind = 1 → i < 130 → f.ip = s.toBlock.gatewayIp → Goes (exec (.neighborDiscovery i f) s) fun t => sget 0 t.emith.macs i = f.mac + 1 ∧ (∀ k, k ≠ i → sget 0 t.emith.macs k = sget 0 s.emith.macs k)
      ∧ t.emith.ndTx = s.emith.ndTx ∧ RegsKept [] s.toBlock t.toBlock)
    ∧ ((f.kind = 0 ∨ f.kind = 2) → s.toBlock.ownsIp i f.ip = true → Goes (exec (.neighborDiscovery i f) s) fun t =>
      t.emith.ndTx = s.emith.ndTx ++ [⟨i, s.toBlock.tagOf i, s.toBlock.departs i, ⟨if f.kind = 0 then 1 else 3, f.ip, s.toBlock.ifaceMac i⟩⟩] ∧ t.emith.macs = s.emith.macs ∧ RegsKept [] s.toBlock t.toBlock)

/-- A measured offset of the time source, by the answer to this device's Delay_Req that completes an exchange with the chosen master on the port that PTP runs on, or by an edge of PPS_IN (R420, R421, R422, R423, R426): beyond PTP_STEP_THRESHOLD_NS the state is ACQUIRING and DT is stepped by it, with event 0x4402; within it LOCKED stays, HOLDOVER becomes LOCKED without a step, FREERUN becomes ACQUIRING, and the sixteenth measurement in turn within 1 us locks. An Announce keeps its master, and the best of them gives PTP_GM_IDENTITY and UTC_OFFSET; a Sync of the chosen master begins an exchange, and a Delay_Req leaves once the departure of the Sync is known; a message that PTP does not hear advances DT alone. An edge far from a whole second while LOCKED is only counted, and one after a write to TIME_SET sets DT and is a measurement like any other. What the spec does not fix of it is the model's: log entries 31, 61. -/
def Obligations.TimeMeasurements : Prop :=
  (∀ (s : State) (o t1 t4 : Int) (m : PtpMessage) (el seq t2 t3 : Nat), ∀ e ∈ [(Instr.ptpMessage m, srcPtp, s.dt + m.elapsedNs), (.ppsInEdge el, srcPps, s.dt + el)],
    s.sys.phase = .up → s.reg Od.timeSource 0 = e.2.1 →
    (e.2.1 = srcPtp → s.toBlock.ptpHears m = true ∧ ({ s.toBlock with dt := e.2.2 } : Block).bestMaster.map (·.source) = some m.source
      ∧ m.body = .delayResp seq true t4 ∧ s.cal.exch = some ⟨seq, some t1, t2, some (seq, t3)⟩ ∧ o = offsetOf t1 t2 t3 t4) →
    (e.2.1 = srcPps → s.cal.timeSet = none ∧ o = ppsOffset e.2.2 ∧ ¬(s.reg Od.timeState 0 = tsLocked ∧ 10 ^ 8 < o.natAbs)) → Goes (exec e.1 s) fun t =>
      t.reg Od.dtOffsetNs 0 = wrap 64 (ofSigned 64 o) ∧ t.cal.lastMeas = t.dt
      ∧ (s.reg Od.ptpStepThresholdNs 0 < o.natAbs → t.dt = ((e.2.2 : Int) - o).toNat ∧ t.reg Od.timeState 0 = tsAcquiring
        ∧ LastEvent t.toBlock 0x4402 noCtx (beBytes 8 (ofSigned 64 ((t.dt : Int) - e.2.2))) ∧ t.reg Od.dtSteps 0 = wrap 32 (s.reg Od.dtSteps 0 + 1))
      ∧ (o.natAbs ≤ s.reg Od.ptpStepThresholdNs 0 → t.dt = e.2.2 ∧ t.reg Od.dtSteps 0 = s.reg Od.dtSteps 0
        ∧ (s.reg Od.timeState 0 = tsLocked → t.reg Od.timeState 0 = tsLocked ∧ t.log = s.log)
        ∧ (s.reg Od.timeState 0 = tsHoldover → t.reg Od.timeState 0 = tsLocked ∧ LastEvent t.toBlock 0x0400 noCtx [])
        ∧ (s.reg Od.timeState 0 = tsFreerun → t.reg Od.timeState 0 = tsAcquiring ∧ t.log = s.log ∧ t.cal.good = if o.natAbs ≤ 1000 then 1 else 0)
        ∧ (s.reg Od.timeState 0 = tsAcquiring → o.natAbs ≤ 1000 → 15 ≤ s.cal.good → t.reg Od.timeState 0 = tsLocked ∧ LastEvent t.toBlock 0x0400 noCtx [])
        ∧ (s.reg Od.timeState 0 = tsAcquiring → (1000 < o.natAbs ∨ s.cal.good < 15) → t.reg Od.timeState 0 = tsAcquiring ∧ t.cal.good = if o.natAbs ≤ 1000 then s.cal.good + 1 else 0)))
  ∧ (∀ (s : State) (m : PtpMessage) (a : PtpAnnounce), m.body = .announce a → s.toBlock.ptpHears m = true → Goes (exec (.ptpMessage m) s) fun t =>
    t.dt = s.dt + m.elapsedNs ∧ t.log = s.log ∧ (∃ x ∈ t.cal.masters, x.source = m.source ∧ x.ann = a ∧ x.at_ = t.dt)
    ∧ (∀ x, t.toBlock.bestMaster = some x → t.oct Od.ptpGmIdentity 0 = beBytes 8 x.ann.grandmaster ∧ t.reg Od.utcOffset 0 = wrap 32 (ofSigned 32 x.ann.utcOffset))
    ∧ RegsKept [odKey Od.utcOffset 0] s.toBlock t.toBlock)
  ∧ (∀ (s : State) (m : PtpMessage), s.toBlock.ptpHears m = true → ({ s.toBlock with dt := s.dt + m.elapsedNs } : Block).bestMaster.map (·.source) = some m.source →
    (∀ seq t1, m.body = .sync seq true t1 → Goes (exec (.ptpMessage m) s) fun t => t.dt = s.dt + m.elapsedNs ∧ t.cal.exch = some ⟨seq, none, t.dt, none⟩ ∧ RegsKept [] s.toBlock t.toBlock)
    ∧ (∀ seq t1, m.body = .sync seq false t1 → Goes (exec (.ptpMessage m) s) fun t => t.dt = s.dt + m.elapsedNs
      ∧ (∃ t3, t.dt ≤ t3 ∧ t.cal.exch = some ⟨seq, some t1, t.dt, some (s.cal.reqSeq, t3)⟩) ∧ t.cal.reqSeq = (s.cal.reqSeq + 1) % 2 ^ 16 ∧ RegsKept [] s.toBlock t.toBlock)
    ∧ ∀ seq t1 t2 r, m.body = .followUp seq t1 → s.cal.exch = some ⟨seq, none, t2, r⟩ → Goes (exec (.ptpMessage m) s) fun t => t.dt = s.dt + m.elapsedNs
      ∧ (∃ t3, t.dt ≤ t3 ∧ t.cal.exch = some ⟨seq, some t1, t2, some (s.cal.reqSeq, t3)⟩) ∧ t.cal.reqSeq = (s.cal.reqSeq + 1) % 2 ^ 16 ∧ RegsKept [] s.toBlock t.toBlock)
  ∧ (∀ (s : State) (m : PtpMessage), s.toBlock.serving = true → s.toBlock.ptpHears m = false → Goes (exec (.ptpMessage m) s) fun t => t.dt = s.dt + m.elapsedNs ∧ t.cal = s.cal ∧ RegsKept [] s.toBlock t.toBlock)
  ∧ (∀ (s : State) (el : Nat), s.sys.phase = .up → s.reg Od.timeSource 0 = srcPps → s.cal.timeSet = none → s.reg Od.timeState 0 = tsLocked → 10 ^ 8 < (ppsOffset (s.dt + el)).natAbs →
    Goes (exec (.ppsInEdge el) s) fun t => t.dt = s.dt + el ∧ t.reg Od.timeState 0 = tsLocked ∧ t.reg Od.ppsRejects 0 = wrap 32 (s.reg Od.ppsRejects 0 + 1) ∧ RegsKept [odKey Od.ppsRejects 0] s.toBlock t.toBlock)
  ∧ (∀ (s : State) (el v : Nat), s.sys.phase = .up → s.reg Od.timeSource 0 = srcPps → s.cal.timeSet = some v → Goes (exec (.ppsInEdge el) s) fun t =>
    t.dt = v / 10 ^ 9 * 10 ^ 9 ∧ t.cal.timeSet = none ∧ t.cal.lastMeas = t.dt ∧ t.reg Od.dtSteps 0 = wrap 32 (s.reg Od.dtSteps 0 + 1)
    ∧ ((s.reg Od.timeState 0 = tsFreerun ∨ s.reg Od.timeState 0 = tsLocked) → LastEvent t.toBlock 0x4402 noCtx (beBytes 8 (ofSigned 64 ((t.dt : Int) - (s.dt + el : Nat)))))
    ∧ (s.reg Od.timeState 0 = tsFreerun → t.reg Od.timeState 0 = tsAcquiring)
    ∧ (s.reg Od.timeState 0 = tsHoldover → t.reg Od.timeState 0 = tsLocked ∧ LastEvent t.toBlock 0x0400 noCtx []))
  ∧ ∀ (s : State) (el : Nat), s.toBlock.serving = true → (s.reg Od.timeSource 0 ≠ srcPps ∨ s.sys.phase ≠ .up) → Goes (exec (.ppsInEdge el) s) fun t => t.dt = s.dt + el ∧ RegsKept [] s.toBlock t.toBlock ∧ t.cal = s.cal

/-- Device time otherwise (R420, R421, R422, R425, R427): a write of TIME_SET, 3 s of silence, the end of holdover, the return to PTP_PORT, PPS_OUT, and the loss of the management port's link. What the spec does not fix of it is the model's: log entries 9, 31. -/
def Obligations.DeviceTime : Prop :=
  (∀ (s : State) (v : Nat), Writable s.toBlock →
    (s.reg Od.timeSource 0 = srcPtp → Goes (exec (.timeSet v) s) fun t => t.toBlock = settle (s.toBlock.answer stWriteRefused))
    ∧ (s.reg Od.timeSource 0 = srcFree → Goes (exec (.timeSet v) s) fun t => t.odp.status = stOK ∧ t.dt = v ∧ t.reg Od.dtSteps 0 = wrap 32 (s.reg Od.dtSteps 0 + 1)
        ∧ LastEvent t.toBlock 0x4402 noCtx (beBytes 8 (ofSigned 64 ((v : Int) - s.dt))))
    ∧ (s.reg Od.timeSource 0 = srcPps → Goes (exec (.timeSet v) s) fun t => t.odp.status = stOK ∧ t.dt = s.dt ∧ t.cal.timeSet = some v ∧ RegsKept [] s.toBlock t.toBlock))
  ∧ (∀ s : State, s.toBlock.serving = true → s.reg Od.timeState 0 = tsLocked → s.reg Od.timeSource 0 ≠ srcFree → Goes (exec .sourceSilence s) fun t =>
    t.reg Od.timeState 0 = tsHoldover ∧ t.dt = max s.dt (s.cal.lastMeas + 3 * 10 ^ 9) ∧ LastEvent t.toBlock 0x4401 noCtx [] ∧ RegsKept [odKey Od.timeState 0, odKey Od.eventNextSeq 0] s.toBlock t.toBlock)
  ∧ (∀ s : State, s.toBlock.serving = true → s.reg Od.timeState 0 = tsHoldover → Goes (exec .holdoverLimit s) fun t =>
    t.reg Od.timeState 0 = tsFreerun ∧ t.dt = max s.dt (s.cal.lastMeas + s.reg Od.holdoverLimitS 0 * 10 ^ 9) ∧ LastEvent t.toBlock 0x4403 noCtx []
    ∧ RegsKept [odKey Od.timeState 0, odKey Od.eventNextSeq 0] s.toBlock t.toBlock)
  ∧ (∀ s : State, s.toBlock.serving = true → s.reg Od.timeSource 0 = srcPtp → s.cal.ptpAt ≠ s.reg Od.ptpPort 0 → s.toBlock.portUp (s.reg Od.ptpPort 0) = true → Goes (exec .ptpPortReturn s) fun t =>
    t.cal = { s.cal with ptpAt := s.reg Od.ptpPort 0, masters := [], exch := none } ∧ t.dt = s.dt ∧ t.log = s.log ∧ RegsKept [] s.toBlock t.toBlock)
  ∧ (∀ s : State, s.toBlock.serving = true → s.toBlock.ppsAllowed = true → s.pins.enabled = true → Goes (exec .ppsOutPulse s) fun t =>
    t.pins.ppsOut = true ∧ t.dt % 10 ^ 9 = 0 ∧ s.dt ≤ t.dt ∧ t.dt < s.dt + 10 ^ 9 ∧ RegsKept [] s.toBlock t.toBlock)
  ∧ (∀ s : State, s.toBlock.ppsAllowed = false → Goes (exec .ppsOutPulse s) fun t => t.pins.ppsOut = false)
  ∧ (∀ (s : State) (ok : Bool), s.toBlock.serving = true → Goes (exec (.linkTrained 34 ok) s) fun t =>
    t.cal.mpUp = ok ∧ t.dt = s.dt ∧ t.emith = s.emith ∧ t.mem = s.mem ∧ ((s.reg Od.timeSource 0 ≠ srcPtp ∨ (s.cal.ptpAt = 34 ∧ ok = true)) → t.log = s.log ∧ t.cal = { s.cal with mpUp := ok } ∧ RegsKept [] s.toBlock t.toBlock))
  ∧ ∀ s : State, s.toBlock.serving = true → Goes (exec .mpLinkDown s) fun t =>
    t.cal.mpUp = false ∧ t.dt = s.dt
    ∧ (s.reg Od.timeSource 0 = srcPtp → s.cal.ptpAt = 34 → s.reg Od.ptpPortAlt 0 ≠ 34 → s.toBlock.portUp (s.reg Od.ptpPortAlt 0) = true →
      t.cal.ptpAt = s.reg Od.ptpPortAlt 0 ∧ LastEvent t.toBlock 0x0405 noCtx [] ∧ RegsKept [odKey Od.eventNextSeq 0] s.toBlock t.toBlock)
    ∧ (s.reg Od.timeSource 0 = srcPtp → s.cal.ptpAt = 34 → (s.reg Od.ptpPortAlt 0 = 34 ∨ s.toBlock.portUp (s.reg Od.ptpPortAlt 0) = false) → s.reg Od.timeState 0 = tsLocked →
      t.reg Od.timeState 0 = tsHoldover ∧ LastEvent t.toBlock 0x4401 noCtx [])
    ∧ (s.cal.ptpAt ≠ 34 → s.toBlock.portUp s.cal.ptpAt = true → RegsKept [] s.toBlock t.toBlock ∧ t.cal = { s.cal with mpUp := false })

/-- What happens at the Governor's instants (R429, R433, R439, R445, R447, R448, R456, R459, R469): a tick is the next whole millisecond, moves c toward C by at most the slope, takes the due immediate setpoints in the order of their receipt, asserts THERM_N at 105 C, and lets idle blocks run the fill pattern, never beyond the average less the slope (R451, log entry 57); a scheduled setpoint and a frequency epoch take effect; a sample publishes one record, each in the order of the calendar; a hop moves one grid step, with the rail setting of its clock. A clock that was not planned ahead is a free frequency of the grid (log entry 1), and the DT of each instant is log entry 9. -/
def Obligations.GovernorInstants : Prop :=
  (∀ (s : State) (i : TickInputs), s.toBlock.serving = true → s.toBlock.walnutBusy = false → Goes (exec (.managementTick i) s) fun t =>
    t.dt = (s.dt / 10 ^ 6 + 1) * 10 ^ 6 ∧ t.mem = s.mem ∧ t.disp = s.disp ∧ t.gov.droopTick = List.replicate 13 0
    ∧ t.gov.capAt = t.dt
    ∧ t.gov.cap = (if s.gov.cap ≤ s.toBlock.targetCap * 10 ^ 6 then min (s.toBlock.targetCap * 10 ^ 6) (s.gov.cap + s.reg Od.pwrSlopeWPerMs 0 * (t.dt - s.gov.capAt))
        else max (s.toBlock.targetCap * 10 ^ 6) (s.gov.cap - s.reg Od.pwrSlopeWPerMs 0 * (t.dt - s.gov.capAt)))
    ∧ t.gov.now = s.gov.now.filter (fun x => decide (t.dt < x.2 + 10 ^ 6))
    ∧ (∀ x, (s.gov.now.filter (fun y => decide (y.2 + 10 ^ 6 ≤ t.dt))).getLast? = some x → t.reg Od.pwrSetpointInForce 0 = wrap 16 x.1)
    ∧ (∀ p < 8, ∀ x, i.tj[p]? = some x → 105 ≤ x → x < 2 ^ 15 → s.pins.enabled = true → t.pins.therm = true)
    ∧ t.gov.fillW ≤ i.p1msW - s.reg Od.pwrSlopeWPerMs 0
    ∧ (t.gov.fillW = 0 ∨ (t.gov.fill = s.toBlock.idleBlocks ∧ s.reg Od.pgovFill 0 = 1 ∧ s.power = pwrRun ∧ s.gov.shed = false))
    ∧ ((s.reg Od.pgovFill 0 ≠ 1 ∨ s.power ≠ pwrRun ∨ s.gov.shed = true) → t.gov.fill = []))
  ∧ (∀ (s : State) (e : CalEvent), s.toBlock.firstEvent 1 = some e → s.toBlock.serving = true → s.toBlock.inOrder (tickAt e.at_) 1 = true → Goes (exec .powerSetpoint s) fun t =>
    t.dt = max s.dt (tickAt e.at_) ∧ t.reg Od.pwrSetpointInForce 0 = wrap 16 e.watts ∧ t.cal.events = s.cal.events.erase e
    ∧ t.gov = { s.gov with cap := (s.toBlock.reach (tickAt e.at_)).capNow, capAt := t.dt, capArea := t.gov.capArea } ∧ RegsKept [odKey Od.pwrSetpointInForce 0] s.toBlock t.toBlock)
  ∧ (∀ (s : State) (e : CalEvent), s.toBlock.firstEvent 2 = some e → s.toBlock.serving = true → s.toBlock.inOrder e.at_ 2 = true → s.gov.ceils.length = 8 → s.gov.target.length = 8 → Goes (exec .frequencyEpoch s) fun t =>
    t.dt = max s.dt e.at_ ∧ t.cal.events = s.cal.events.erase e ∧ t.gov.clock = s.gov.clock
    ∧ ∀ p < 8, (∀ f, e.clock = some f → (t.toBlock.ceil p).cap = f) ∧ (s.power = pwrRun → s.toBlock.live = true → s.gov.shed = false →
        t.toBlock.targetOf p = if s.toBlock.drooping p then s.toBlock.targetOf p else t.toBlock.wanted p))
  ∧ (∀ (s : State) (m : PowerSample), s.sys.phase = .up → s.toBlock.inOrder (tickAt (max s.dt (s.gov.sampled + 1))) 5 = true → Goes (exec (.telemetrySample m) s) fun t =>
    t.dt = tickAt (max s.dt (s.gov.sampled + 1)) ∧ t.gov.sampled = t.dt ∧ t.gov.seq = (s.gov.seq + 1) % 2 ^ 16 ∧ t.gov.gap = false ∧ t.gov.droopSeen = false
    ∧ t.gov.power = (s.toBlock.reach t.dt).powerRecord m ∧ t.gov.power.length = 64 ∧ t.gov.power.take 8 = beBytes 8 t.dt
    ∧ (s.toBlock.live = true → t.gov.rail = (s.toBlock.reach t.dt).railRecord m ∧ t.gov.rail.length = 120) ∧ t.reg Od.energyInMj 0 = wrap 64 m.energyMj
    ∧ t.mem = s.mem ∧ t.disp = s.disp ∧ RegsKept [odKey Od.energyInMj 0] s.toBlock t.toBlock)
  ∧ ∀ (s : State) (p f g : Nat), f = s.toBlock.clockOf p → g = s.toBlock.targetOf p → f ≠ g → p < s.gov.clock.length → p < s.gov.target.length → s.power = pwrRun → s.toBlock.live = true → s.gov.shed = false →
    Goes (exec (.hopStep p) s) fun t =>
      t.toBlock.clockOf p = (if f < g then min g (f + 25) else max g (f - 25)) ∧ (∀ q, q ≠ p → t.toBlock.clockOf q = s.toBlock.clockOf q)
      ∧ (p < s.gov.volts.length → nth 0 t.gov.volts p = s.toBlock.railFor p (t.toBlock.clockOf p)) ∧ t.gov.target = s.gov.target ∧ t.dt = s.dt ∧ RegsKept [] s.toBlock t.toBlock

/-- Droop, current and heat (R455, R458, R459, R559): a detection makes the domain's droop event active and is counted, its end ends it, and the input stretches every Plaza; a hop under way in the domain completes its step and stops (R456); overcurrent lowers every current ceiling four grid steps, and clocks and hops follow at once; the trip leaves the module in Standby without power, with THERM_N asserted. What the spec does not fix of it is the model's: log entry 32. -/
def Obligations.GovernorHardware : Prop :=
  (∀ (s : State) (d : Nat), d < 12 → s.toBlock.awake = true → s.gov.droop.length = 13 → nth false s.gov.droop d = false → (∀ p < 8, s.plaza p ≠ plTesting) → s.gov.target.length = 8 → Goes (exec (.droopDetect d) s) fun t =>
    nth false t.gov.droop d = true ∧ (∀ k, k ≠ d → nth false t.gov.droop k = nth false s.gov.droop k) ∧ t.gov.droopSeen = true ∧ t.gov.clock = s.gov.clock
    ∧ (∀ p < 8, t.toBlock.targetOf p = if p = d then hopNext (s.toBlock.clockOf p) (s.toBlock.targetOf p) else s.toBlock.targetOf p)
    ∧ t.reg Od.droopEvents (d + 1) = wrap 64 (s.reg Od.droopEvents (d + 1) + 1) ∧ t.disp = s.disp ∧ t.mem = s.mem ∧ RegsKept [odKey Od.droopEvents (d + 1)] s.toBlock t.toBlock)
  ∧ (∀ (s : State) (d : Nat), d < s.gov.droop.length → Goes (exec (.droopEnd d) s) fun t =>
    nth false t.gov.droop d = false ∧ (∀ k, k ≠ d → nth false t.gov.droop k = nth false s.gov.droop k) ∧ t.gov.clock = s.gov.clock ∧ t.disp = s.disp ∧ RegsKept [] s.toBlock t.toBlock)
  ∧ (∀ s : State, s.toBlock.awake = true → s.gov.droop.length = 13 → nth false s.gov.droop 12 = false → (∀ p < 8, s.plaza p ≠ plTesting) → Goes (exec .inputLowStretch s) fun t =>
    (∀ p < 8, t.toBlock.drooping p = true) ∧ t.reg Od.droopEvents 13 = wrap 64 (s.reg Od.droopEvents 13 + 1) ∧ t.gov.clock = s.gov.clock ∧ t.disp = s.disp ∧ RegsKept [odKey Od.droopEvents 13] s.toBlock t.toBlock)
  ∧ (∀ s : State, Goes (exec .inputLowStretchEnd s) fun t => (∀ p < 8, t.toBlock.drooping p = nth false s.gov.droop p) ∧ t.gov.clock = s.gov.clock ∧ t.disp = s.disp ∧ RegsKept [] s.toBlock t.toBlock)
  ∧ (∀ s : State, s.toBlock.awake = true → s.gov.ceils.length = 8 → s.gov.clock.length = 8 → s.gov.target.length = 8 → Goes (exec .overcurrent s) fun t =>
    (∀ p < 8, (t.toBlock.ceil p).current = max 500 (toGrid (min (s.toBlock.ceil p).current (s.toBlock.fmaxOf p)) - 100)
      ∧ t.toBlock.clockOf p = min (t.toBlock.wanted p) (s.toBlock.clockOf p) ∧ t.toBlock.targetOf p = min (t.toBlock.wanted p) (s.toBlock.targetOf p))
    ∧ (s.gov.currentEvt ≠ s.dt / 10 ^ 9 + 1 → LastEvent t.toBlock 0x4424 noCtx []) ∧ t.disp = s.disp ∧ t.mem = s.mem ∧ RegsKept [odKey Od.eventNextSeq 0] s.toBlock t.toBlock)
  ∧ ∀ (s : State) (p : Nat), s.toBlock.live = true → s.plaza p ≠ plRetired → Goes (exec (.thermalTrip p) s) fun t =>
    t.power = pwrStandby ∧ t.service = svcManagement ∧ t.sys.tripped = true ∧ t.pins.therm = s.pins.enabled ∧ t.mem = Mem.reset ∧ t.slow = Mem.reset ∧ t.disp = Disp.reset
    ∧ t.emith.tx = [] ∧ t.emith.sessions = [] ∧ t.dt = s.dt ∧ ∃ r, t.fatal.getLast? = some r ∧ r.code = 0xC42C

/-- Shedding and setpoints (R432, R447, R448, R460, R461, R557): SHED_ASSERT, SHED_RELEASE and PWR_SHED_CMD complete in every state, the last where it can be written. While SHED_N or PWR_SHED_CMD asks for it in Run the module is shed, with every task in its place; else it is not, and the end of shedding leaves c at 450 W with every Plaza at a start clock; where nothing changes, no effect remains but the pin or the entry. Each PWR_SETPOINT_NOW waits for its tick; a scheduled setpoint is placed with its epoch, takes effect at once where its instant has passed, and is refused on a full calendar or more than 24 h ahead; a cancellation removes what stands from an instant on. What the spec does not fix of it is the model's: log entries 8, 33, 62. -/
def Obligations.PowerCommands : Prop :=
  (∀ s : State, ∀ e ∈ shedCommands s.toBlock, e.2.2.2 →
    ((e.2.1 = true ∨ e.2.2.1 = 1) → s.toBlock.live = true → s.power = pwrRun →
      (s.gov.shed = true → Goes (exec e.1 s) fun t =>
        t.pins.shed = e.2.1 ∧ t.reg Od.pwrShedCmd 0 = e.2.2.1 ∧ t.gov = s.gov ∧ t.log = s.log ∧ t.disp = s.disp ∧ RegsKept [odKey Od.pwrShedCmd 0] s.toBlock t.toBlock)
      ∧ (s.gov.shed = false → (∀ p < 8, s.plaza p ≠ plTesting) → Goes (exec e.1 s) fun t => t.pins.shed = e.2.1 ∧ t.reg Od.pwrShedCmd 0 = e.2.2.1 ∧ ShedBegun s.toBlock t.toBlock)
      ∧ (s.gov.shed = false → Goes (exec e.1 s) fun t => t.pins.shed = e.2.1 ∧ t.reg Od.pwrShedCmd 0 = e.2.2.1 ∧ t.gov.shed = true ∧ t.gov.shedAt = s.dt))
    ∧ (((e.2.1 = false ∧ e.2.2.1 ≠ 1) ∨ s.toBlock.live = false ∨ s.power ≠ pwrRun) →
      (s.gov.shed = false → Goes (exec e.1 s) fun t =>
        t.pins.shed = e.2.1 ∧ t.reg Od.pwrShedCmd 0 = e.2.2.1 ∧ t.gov = s.gov ∧ t.log = s.log ∧ t.disp = s.disp ∧ RegsKept [odKey Od.pwrShedCmd 0] s.toBlock t.toBlock)
      ∧ (s.gov.shed = true → (∀ x ∈ s.ras.tests, x.draining = true ∨ s.dt < x.due) → s.gov.ceils.length = 8 → s.gov.clock.length = 8 → s.gov.target.length = 8 → Goes (exec e.1 s) fun t =>
        t.pins.shed = e.2.1 ∧ t.reg Od.pwrShedCmd 0 = e.2.2.1 ∧ ShedEnded s.toBlock t.toBlock)
      ∧ (s.gov.shed = true → e.2.1 = false → e.2.2.1 ≠ 1 → Goes (exec e.1 s) fun t =>
        t.pins.shed = false ∧ t.reg Od.pwrShedCmd 0 = e.2.2.1 ∧ t.gov.shed = false ∧ t.gov.sheds = s.gov.sheds ++ [(s.gov.shedAt, s.dt)] ∧ t.gov.cap = 450 * 10 ^ 6)))
  ∧ (∀ (s : State) (v : Nat), Writable s.toBlock → (1 < v → Goes (exec (.pwrShedCmd v) s) fun t => t.toBlock = settle (s.toBlock.answer stRange))
    ∧ ((v = 0 ∨ (900 ≤ v ∧ v ≤ 2600)) → Goes (exec (.pwrSetpointNow v) s) fun t => t.odp.status = stOK ∧ t.gov = { s.gov with now := s.gov.now ++ [(v, s.dt)] } ∧ RegsKept [] s.toBlock t.toBlock)
    ∧ (¬(v = 0 ∨ (900 ≤ v ∧ v ≤ 2600)) → Goes (exec (.pwrSetpointNow v) s) fun t => t.toBlock = settle (s.toBlock.answer stRange))
    ∧ Goes (exec (.pwrSchedCancel v) s) fun t => t.odp.status = stOK ∧ (∀ e, e ∈ t.cal.events ↔ e ∈ s.cal.events ∧ e.at_ < v) ∧ t.gov = s.gov ∧ RegsKept [] s.toBlock t.toBlock)
  ∧ ∀ (s : State) (r : BitVec 128) (at_ w : Nat), Writable s.toBlock → at_ = bits r.toNat 127 64 → w = bits r.toNat 63 48 →
    (okWatts w = false → Goes (exec (.pwrSetpointSched r) s) fun t => t.toBlock = settle (s.toBlock.answer stRange))
    ∧ (okWatts w = true → s.dt + 24 * hour < at_ → Goes (exec (.pwrSetpointSched r) s) fun t => t.toBlock = settle (s.toBlock.answer stWriteRefused))
    ∧ (okWatts w = true → at_ ≤ s.dt + 24 * hour → 1022 < s.cal.events.length → Goes (exec (.pwrSetpointSched r) s) fun t =>
      t.odp.status = stWriteRefused ∧ t.cal = s.cal ∧ t.gov = s.gov ∧ LastEvent t.toBlock 0x4404 noCtx [] ∧ RegsKept [odKey Od.eventNextSeq 0] s.toBlock t.toBlock)
    ∧ (okWatts w = true → at_ < s.dt → s.cal.events.length ≤ 1022 → Goes (exec (.pwrSetpointSched r) s) fun t =>
      t.odp.status = stOK ∧ t.reg Od.pwrSetpointInForce 0 = w ∧ t.cal = s.cal ∧ t.gov.cap = s.toBlock.capNow ∧ t.reg Od.calLate 0 = wrap 64 (s.reg Od.calLate 0 + 2))
    ∧ (okWatts w = true → s.dt + 2 * 10 ^ 6 ≤ at_ → at_ ≤ s.dt + 24 * hour → s.cal.events.length ≤ 1022 → Goes (exec (.pwrSetpointSched r) s) fun t =>
      t.odp.status = stOK ∧ t.cal.events = s.cal.events ++ [⟨at_, 1, w, none, s.cal.placed⟩, ⟨at_, 2, w, none, s.cal.placed + 1⟩] ∧ t.gov = s.gov ∧ RegsKept [] s.toBlock t.toBlock)
    ∧ (okWatts w = true → s.dt ≤ at_ → at_ < s.dt + 2 * 10 ^ 6 → s.cal.events.length ≤ 1022 → Goes (exec (.pwrSetpointSched r) s) fun t =>
      t.odp.status = stOK ∧ t.cal.events.length = s.cal.events.length + 2 ∧ ∃ e ∈ t.cal.events, e.at_ = at_ ∧ e.rank = 2 ∧ e.clock ≠ none)

/-- Attestation (R481 to R485): evidence carries the nonce at the next index and takes one token; at the end of the reservation a new end 16 further on is held by the index records before the evidence leaves; an empty bucket and an exhausted index refuse; a token comes every 10 s up to 64; the next bottom tree is built once leaf 16,384 is used. What the spec does not fix of it is the model's: log entries 9, 40. -/
def Obligations.Attestation : Prop :=
  (∀ (s : State) (n q : Nat) (nonce : List Byte), Writable s.toBlock → nonce.length = 32 → s.wal.attExhausted = false → s.reg Od.attTokens 0 ≠ 0 → q = s.reg Od.attIndex 0 → s.wal.records.length = 8 → 2 ≤ s.wal.usable →
    Goes (exec (.attRequest n nonce) s) fun t =>
      t.reg Od.attTokens 0 = wrap (odWidth Od.attTokens 0) (s.reg Od.attTokens 0 - 1) ∧ t.dt = s.dt ∧ t.mem = s.mem
      ∧ (t.odp.status = stOK → t.oct Od.attEvidence n = s.toBlock.evidence nonce q ∧ t.reg Od.attIndex 0 = wrap (odWidth Od.attIndex 0) (q + 1))
      ∧ (t.odp.status ≠ stOK → t.odp.status = stWriteRefused ∧ t.wal.usable < 2 ∧ t.oct Od.attEvidence n = s.oct Od.attEvidence n ∧ t.reg Od.attIndex 0 = q)
      ∧ (q ≠ s.wal.endOfIndex → t.odp.status = stOK ∧ t.wal.records = s.wal.records)
      ∧ (q = s.wal.endOfIndex → t.odp.status = stOK → t.wal.endOfIndex = q + 16))
  ∧ (∀ (s : State) (n st : Nat) (nonce : List Byte), Writable s.toBlock →
    (if nonce.length ≠ 32 then st = stLength else if s.wal.attExhausted then st = stWriteRefused else s.reg Od.attTokens 0 = 0 ∧ st = stLimit) →
    Goes (exec (.attRequest n nonce) s) fun t => t.toBlock = settle (s.toBlock.answer st))
  ∧ (∀ s : State, s.sys.phase = .up → Goes (exec .attTokenRefill s) fun t =>
    t.dt = max s.dt (s.wal.refillAt + 10 ^ 10) ∧ t.reg Od.attTokens 0 = wrap (odWidth Od.attTokens 0) (min 64 (s.reg Od.attTokens 0 + 1)) ∧ t.wal = { s.wal with refillAt := s.wal.refillAt + 10 ^ 10 }
    ∧ RegsKept [odKey Od.attTokens 0] s.toBlock t.toBlock)
  ∧ ∀ (s : State) (q : Nat), s.sys.phase = .up → q = s.reg Od.attIndex 0 → Goes (exec .bottomTreeBuild s) fun t =>
    t.wal = (if 16384 < q % 2 ^ 15 ∧ s.wal.tree = q / 2 ^ 15 ∧ s.wal.tree < 1023 then { s.wal with tree := s.wal.tree + 1 } else s.wal) ∧ t.dt = s.dt ∧ RegsKept [] s.toBlock t.toBlock

/-- The owner and the traffic keys (R488, R489, R490, R492, R500), and RAS_UNRETIRE (R409): an enrolment comes from the management port only, a protected operation is applied only where its signature verifies, and OWNER_SEQ is written first; any other changes nothing but its counter, its event and its answer. What the spec does not fix of it is the model's: log entry 40. -/
def Obligations.ProtectedWrites : Prop :=
  (∀ (s : State) (r key sig : List Byte) (seq : Nat) (mp : Bool), Writable s.toBlock → enrolFields r = some (key, seq, sig) → Goes (exec (.ownerEnrol r mp) s) fun t =>
    (mp = false → t.odp.status = stWriteRefused ∧ OctsKept [] s.toBlock t.toBlock ∧ RegsKept [odKey Od.protWriteRefused 0, odKey Od.eventNextSeq 0] s.toBlock t.toBlock)
    ∧ (mp = true →
      (sigVerifies (if (s.oct Od.ownerKey 0).isEmpty then key else s.oct Od.ownerKey 0) (ownerMessage (s.oct Od.deviceId 0) Od.ownerEnrol 0 seq key 1) sig = true → s.reg Od.ownerSeq 0 < seq →
        t.odp.status = stOK ∧ t.oct Od.ownerKey 0 = key ∧ t.reg Od.ownerSeq 0 = wrap (odWidth Od.ownerSeq 0) seq ∧ LastEvent t.toBlock 0x0721 noCtx [])
      ∧ ((sigVerifies (if (s.oct Od.ownerKey 0).isEmpty then key else s.oct Od.ownerKey 0) (ownerMessage (s.oct Od.deviceId 0) Od.ownerEnrol 0 seq key 1) sig = false ∨ seq ≤ s.reg Od.ownerSeq 0) →
        t.odp.status = stSigInvalid ∧ OctsKept [] s.toBlock t.toBlock ∧ RegsKept [odKey Od.protWriteRefused 0, odKey Od.eventNextSeq 0] s.toBlock t.toBlock)))
  ∧ (∀ (s : State) (w : PWrite), Writable s.toBlock → w.value = [1] → Goes (exec (.ownerRelease w) s) fun t =>
    (s.toBlock.signed Od.ownerRelease 0 2 w = true → t.odp.status = stOK ∧ t.reg Od.ownerSeq 0 = wrap (odWidth Od.ownerSeq 0) w.seq ∧ t.oct Od.ownerKey 0 = [] ∧ (∀ k < 8, t.oct Od.hostKey (k + 1) = [])
      ∧ (∀ k, t.toBlock.trafficKey k = []) ∧ t.emith.sessions = [] ∧ t.ras.retired = s.ras.retired ∧ t.reg Od.attIndex 0 = s.reg Od.attIndex 0 ∧ t.reg Od.fwKeyFloor 0 = s.reg Od.fwKeyFloor 0
      ∧ (∀ i k e, i < 65536 → odFind i k = some e → e.acc = .rwp → t.reg i k = odDefault i k ∧ t.oct i k = octDefault i k) ∧ t.mem = s.mem)
    ∧ (s.toBlock.signed Od.ownerRelease 0 2 w = false → t.odp.status = stSigInvalid ∧ OctsKept [] s.toBlock t.toBlock ∧ t.emith = s.emith ∧ t.wal.keys = s.wal.keys
      ∧ RegsKept [odKey Od.protWriteRefused 0, odKey Od.eventNextSeq 0] s.toBlock t.toBlock))
  ∧ (∀ (s : State) (k : Nat) (w : PWrite) (kek : List Byte), Writable s.toBlock → k < 4 →
    kek = Config.hkdf (kemDecaps s.wal.seed (w.value.take 1568)) (s.oct Od.deviceId 0) (kekLabel ++ beBytes 1 k) 32 → Goes (exec (.emithKeyInstall (k + 1) w) s) fun t =>
      (∀ j, j ≠ k → t.toBlock.trafficKey j = s.toBlock.trafficKey j) ∧ t.emith.tx = s.emith.tx ∧ t.mem = s.mem
      ∧ (s.toBlock.signed Od.emithKey (k + 1) 0 w = false → t.odp.status = stSigInvalid ∧ t.wal.keys = s.wal.keys)
      ∧ (s.toBlock.signed Od.emithKey (k + 1) 0 w = true → t.reg Od.ownerSeq 0 = wrap (odWidth Od.ownerSeq 0) w.seq
        ∧ (w.value = [] → s.reg Od.emithTxKeySlot 0 = k → t.odp.status = stWriteRefused ∧ t.wal.keys = s.wal.keys)
        ∧ (w.value = [] → s.reg Od.emithTxKeySlot 0 ≠ k → t.odp.status = stOK ∧ t.toBlock.trafficKey k = [])
        ∧ (w.value.length = 1608 → Config.keyUnwrap kek (w.value.drop 1568) = none → t.odp.status = stWriteRefused ∧ t.wal.keys = s.wal.keys)
        ∧ (∀ key, w.value.length = 1608 → Config.keyUnwrap kek (w.value.drop 1568) = some key → t.odp.status = stOK ∧ t.toBlock.trafficKey k = key ∧ (key ≠ [] → (t.toBlock.txcOf k).next = 0))))
  ∧ ∀ (s : State) (w : PWrite) (u : Nat), s.sys.phase = .up → s.toBlock.walnutBusy = false → u < 2 ^ 16 → w.value = beBytes 2 u → w.seq < 2 ^ 64 → u ∈ s.ras.retired →
    s.ras.observed.length < 32 → Goes (exec (.rasUnretire w) s) fun t =>
      (s.toBlock.signed Od.rasUnretire 0 0 w = true → t.odp.status = stOK ∧ t.reg Od.ownerSeq 0 = w.seq ∧ t.ras.retired = s.ras.retired.erase u
        ∧ t.ras.observed = s.ras.observed ++ [⟨u, 1, 0, s.dt, s.dt + hour⟩])
      ∧ (s.toBlock.signed Od.rasUnretire 0 0 w = false → t.odp.status = stSigInvalid ∧ t.ras = s.ras ∧ t.mem = s.mem
        ∧ RegsKept [odKey Od.protWriteRefused 0, odKey Od.eventNextSeq 0] s.toBlock t.toBlock)

/-- Firmware images (R494 to R497): staging writes the inactive slot, and is refused on trial; an activation is pending only where its slot passes; a switch starts when it may, on trial, and never to a slot that does not pass (R2, R478), and a CONFIG image waits for a boot (R547); a confirmation ends the trial and raises the floors; the interruption ends with event 0x0700, or with a start that fails, of which the third reverts to the other slot. What the spec does not fix of it is the model's: log entries 8, 9, 39, 53, 56. -/
def Obligations.Firmware : Prop :=
  (∀ (s : State) (r v : List Byte) (k off z : Nat), Writable s.toBlock → k = ofBE (r.take 1) → off = ofBE (slice r 4 4) → v = r.drop 8 → 8 ≤ r.length → v.length ≤ 1024 → 1 ≤ k → k ≤ 4 →
    off + v.length ≤ 2048 + bodyMax → z = 1 - (s.toBlock.kind k).active →
    ((s.toBlock.kind k).trial = false → Goes (exec (.fwStage r) s) fun t => t.odp.status = stOK ∧ t.wal.kinds = s.wal.kinds ∧ (off = 0 → t.toBlock.image k z = v)
      ∧ (0 < off → off ≤ (s.toBlock.image k z).length → t.toBlock.image k z = (s.toBlock.image k z).take off ++ v ++ (s.toBlock.image k z).drop (off + v.length))
      ∧ (∀ j y, 2 * j + y ≠ 2 * k + z → t.toBlock.image j y = s.toBlock.image j y) ∧ RegsKept [] s.toBlock t.toBlock)
    ∧ ((s.toBlock.kind k).trial = true → Goes (exec (.fwStage r) s) fun t => t.toBlock = settle (s.toBlock.answer stWriteRefused)))
  ∧ (∀ (s : State) (w : PWrite) (v k z : Nat), ∀ e ∈ [(Instr.fwActivate w, false), (.fwRevert w, true)], s.sys.phase = .up → s.toBlock.walnutBusy = false → w.value = [BitVec.ofNat 8 v] → v < 256 → bit v 7 = e.2 →
    k = bits v 2 0 → 1 ≤ k → k ≤ 4 → z = (if (s.toBlock.kind k).trial = true ∧ e.2 = false then (s.toBlock.kind k).active else 1 - (s.toBlock.kind k).active) → s.wal.kinds.length = 4 → Goes (exec e.1 s) fun t =>
      (s.toBlock.signed Od.fwActivate 0 0 w = true → s.toBlock.passes k z = true →
        t.odp.status = stOK ∧ t.toBlock.kind k = { s.toBlock.kind k with pending := some z } ∧ t.log = s.log)
      ∧ (s.toBlock.signed Od.fwActivate 0 0 w = true → s.toBlock.passes k z = false →
        t.odp.status = stWriteRefused ∧ t.wal.kinds = s.wal.kinds ∧ LastEvent t.toBlock 0x4702 noCtx [])
      ∧ (s.toBlock.signed Od.fwActivate 0 0 w = false → t.odp.status = stSigInvalid ∧ t.wal.kinds = s.wal.kinds) ∧ t.wal.flash = s.wal.flash ∧ t.mem = s.mem ∧ t.disp = s.disp)
  ∧ (∀ (s : State) (k z : Nat), s.sys.phase = .up → (s.toBlock.kind k).pending = some z → 1 ≤ k → k ≤ 4 → s.wal.kinds.length = 4 →
    (s.toBlock.mayActivate k = true → Goes (exec (.fwSwitch k) s) fun t =>
      (s.toBlock.passes k z = true → t.toBlock.kind k = s.toBlock.runSlot k z { s.toBlock.kind k with active := z, trial := true, pending := none, switching := true, since := s.dt, fails := 0 } ∧ t.emith.tx = s.emith.tx ∧ t.emith.sessions = s.emith.sessions)
      ∧ (s.toBlock.passes k z = false → t.toBlock.kind k = { s.toBlock.kind k with pending := none } ∧ LastEvent t.toBlock 0x4702 noCtx [])
      ∧ (∀ j, 1 ≤ j → j ≠ k → t.toBlock.kind j = s.toBlock.kind j) ∧ t.mem = s.mem ∧ t.slow = s.slow ∧ t.disp = s.disp ∧ t.dt = s.dt ∧ RegsKept [odKey Od.eventNextSeq 0] s.toBlock t.toBlock)
    ∧ (s.toBlock.mayActivate k = false → Goes (exec (.fwSwitch k) s) fun t => t.toBlock = settle s.toBlock)
    ∧ (k = kConfig → s.toBlock.mayActivate k = false))
  ∧ (∀ (s : State) (w : PWrite) (k : Nat), s.sys.phase = .up → s.toBlock.walnutBusy = false → 1 ≤ k → k ≤ 4 → w.value = [BitVec.ofNat 8 k] → (s.toBlock.kind k).trial = true → s.wal.kinds.length = 4 → Goes (exec (.fwConfirm w) s) fun t =>
    (s.toBlock.signed Od.fwConfirm 0 0 w = true → t.odp.status = stOK ∧ t.toBlock.kind k = { s.toBlock.kind k with trial := false, fails := 0 } ∧ LastEvent t.toBlock 0x0704 noCtx []
      ∧ t.reg Od.fwSvnFloor k = wrap (odWidth Od.fwSvnFloor k) (max (s.reg Od.fwSvnFloor k) (imgSvn (s.toBlock.image k (s.toBlock.kind k).active)))
      ∧ t.reg Od.fwKeyFloor 0 = wrap (odWidth Od.fwKeyFloor 0) (max (s.reg Od.fwKeyFloor 0) (imgKey (s.toBlock.image k (s.toBlock.kind k).active))))
    ∧ (s.toBlock.signed Od.fwConfirm 0 0 w = false → t.odp.status = stSigInvalid ∧ t.wal.kinds = s.wal.kinds ∧ RegsKept [odKey Od.protWriteRefused 0, odKey Od.eventNextSeq 0] s.toBlock t.toBlock))
  ∧ ∀ (s : State) (k : Nat), s.sys.phase = .up → (s.toBlock.kind k).switching = true → k - 1 < s.wal.kinds.length →
    (Goes (exec (.fwActivated ⟨k, true⟩) s) fun t =>
      t.dt = max s.dt ((s.toBlock.kind k).since + switchNs k) ∧ t.toBlock.kind k = { s.toBlock.kind k with switching := false, fails := 0 } ∧ LastEvent t.toBlock 0x0700 noCtx []
      ∧ (k = kWalnut → t.odp.held = []) ∧ t.mem = s.mem ∧ t.disp = s.disp ∧ RegsKept [odKey Od.eventNextSeq 0] s.toBlock t.toBlock)
    ∧ Goes (exec (.fwActivated ⟨k, false⟩) s) fun t =>
      t.dt = max s.dt ((s.toBlock.kind k).since + if k = kWalnut then 10 ^ 9 else switchNs k) ∧ t.mem = s.mem ∧ t.disp = s.disp ∧ RegsKept [odKey Od.eventNextSeq 0] s.toBlock t.toBlock
      ∧ ((s.toBlock.kind k).fails < 2 → t.toBlock.kind k = { s.toBlock.kind k with fails := (s.toBlock.kind k).fails + 1, since := t.dt } ∧ t.log = s.log)
      ∧ (2 ≤ (s.toBlock.kind k).fails → (t.toBlock.kind k).active = 1 - (s.toBlock.kind k).active ∧ (t.toBlock.kind k).running = 1 - (s.toBlock.kind k).active ∧ (t.toBlock.kind k).trial = false
        ∧ (t.toBlock.kind k).switching = false ∧ LastEvent t.toBlock 0x4701 noCtx [])

/-- Requests (R500, R503 to R514): one whose REQ_ID is kept is answered by the kept response and not executed again; one that is too short, filtered out or beyond the rate is dropped and counted, and one of another version dropped, though each shows that its client still sends (R520); a READ returns the value of its entry; a WRITE of an entry that does no more than hold its value stores it, and is refused with its status where the entry is RO, protected, or does not take the value; a PWRITE stores the value of a protected entry where its signature verifies. What the spec does not fix of it is the model's: log entry 41. -/
def Obligations.Requests : Prop :=
  (∀ (s : State) (c : Client) (f r : Frame), ∀ e ∈ requests c f, Reached s.toBlock c → s.toBlock.filterPasses c.addr = true → f.short = false →
    (frameHead f).len ≤ f.data.length → (frameHead f).ver = 1 → s.toBlock.overRate = false → (frameHead f).request = e.2 → s.toBlock.kept c (frameHead f).reqId = some r → Goes (exec e.1 s) fun t =>
      t.odp.tx = s.odp.tx ++ [s.toBlock.sent c r] ∧ t.mem = s.mem ∧ t.disp = s.disp ∧ t.log = s.log ∧ t.wal = s.wal ∧ t.cal = s.cal ∧ t.gov = s.gov ∧ t.dt = s.dt ∧ RegsKept [] s.toBlock t.toBlock ∧ OctsKept [] s.toBlock t.toBlock)
  ∧ (∀ (s : State) (c : Client) (f : Frame), ∀ e ∈ requests c f, Reached s.toBlock c → (f.short = true ∨ (frameHead f).request = e.2) →
    ((s.toBlock.filterPasses c.addr = false ∨ f.short = true ∨ f.data.length < (frameHead f).len ∨ ((frameHead f).ver = 1 ∧ s.toBlock.overRate = true)) →
      Goes (exec e.1 s) fun t => t.toBlock = settle (s.toBlock.heard c).dropDatagram)
    ∧ (s.toBlock.filterPasses c.addr = true → f.short = false → (frameHead f).len ≤ f.data.length → (frameHead f).ver ≠ 1 → Goes (exec e.1 s) fun t => t.toBlock = settle (s.toBlock.heard c)))
  ∧ (∀ (s : State) (c : Client) (f : Frame) (x : OdEntry) (v : List Byte), Requested s.toBlock c f 1 → s.toBlock.items (frameHead f) = some [((frameHead f).sub, .entry x)] → x.acc ≠ .wo →
    (frameHead f).idx ≠ Od.eventLog → (frameHead f).offset = 0 → v = (s.toBlock.countRequest.touch c).odValue c x (frameHead f).sub → v.length ≤ dataMax → Goes (exec (.odpRead c f) s) fun t =>
      Responded s.toBlock t.toBlock c f stOK true v ∧ t.mem = s.mem ∧ t.disp = s.disp ∧ t.log = s.log ∧ RegsKept [] s.toBlock t.toBlock ∧ OctsKept [] s.toBlock t.toBlock)
  ∧ (∀ (s : State) (c : Client) (f : Frame), Requested s.toBlock c f 1 → s.toBlock.items (frameHead f) = none → Goes (exec (.odpRead c f) s) fun t =>
    Responded s.toBlock t.toBlock c f stNoEntry true [] ∧ RegsKept [] s.toBlock t.toBlock ∧ OctsKept [] s.toBlock t.toBlock)
  ∧ (∀ (s : State) (c : Client) (f : Frame) (h : OHead) (x : OdEntry) (v : List Byte) (st : Nat), h = frameHead f → v = f.data.take h.len → Requested s.toBlock c f 2 → s.sys.phase = .up →
    odItem h.idx h.sub = some (.entry x) → h.count = 1 →
    (if x.acc = .ro ∨ x.per = .factory then st = stWriteRefused else if x.acc = .rwp then st = stSigRequired else if fitsLength x v = false then st = stLength else fitsRange x v = false ∧ st = stRange) →
    Goes (exec (.odpWrite c f) s) fun t => Responded s.toBlock t.toBlock c f st true [] ∧ t.mem = s.mem ∧ t.disp = s.disp ∧ t.log = s.log ∧ RegsKept [] s.toBlock t.toBlock ∧ OctsKept [] s.toBlock t.toBlock)
  ∧ (∀ (s : State) (c : Client) (f : Frame) (h : OHead) (x : OdEntry) (v : List Byte), h = frameHead f → v = f.data.take h.len → Requested s.toBlock c f 2 → s.sys.phase = .up → s.service ≠ svcRetired →
    odItem h.idx h.sub = some (.entry x) → x.idx = h.idx → h.count = 1 → ¬(x.acc = .ro ∨ x.per = .factory) → x.acc ≠ .rwp → fitsLength x v = true → fitsRange x v = true → h.idx ∉ activeEntries →
    s.toBlock.ownRefusal h.idx h.sub v = stOK → Goes (exec (.odpWrite c f) s) fun t =>
      Responded s.toBlock t.toBlock c f stOK true [] ∧ (x.ty.width ≠ 0 → t.reg h.idx h.sub = wrap (odWidth h.idx h.sub) (ofBE v)) ∧ (x.ty.width = 0 → t.oct h.idx h.sub = v)
      ∧ t.mem = s.mem ∧ t.disp = s.disp ∧ t.log = s.log ∧ RegsKept [odKey h.idx h.sub] s.toBlock t.toBlock ∧ OctsKept [odKey h.idx h.sub] s.toBlock t.toBlock)
  ∧ ∀ (s : State) (c : Client) (f : Frame) (h : OHead) (x : OdEntry) (w : PWrite), h = frameHead f → pwriteOf (f.data.take h.len) = some w → Requested s.toBlock c f 3 → s.sys.phase = .up → s.service ≠ svcRetired →
    odItem h.idx h.sub = some (.entry x) → x.idx = h.idx → h.count = 1 → x.acc = .rwp → h.idx ∉ [Od.fwActivate, Od.fwConfirm, Od.ownerRelease, Od.emithKey, Od.rasUnretire] → h.idx ∉ activeEntries →
    fitsLength x w.value = true → fitsRange x w.value = true → s.toBlock.ownRefusal h.idx h.sub w.value = stOK → Goes (exec (.pwrite c f) s) fun t =>
      (s.toBlock.signed h.idx h.sub 0 w = true → Responded s.toBlock t.toBlock c f stOK true [] ∧ (x.ty.width ≠ 0 → t.reg h.idx h.sub = wrap (odWidth h.idx h.sub) (ofBE w.value))
        ∧ (x.ty.width = 0 → t.oct h.idx h.sub = w.value) ∧ (h.idx ≠ Od.ownerSeq → t.reg Od.ownerSeq 0 = wrap (odWidth Od.ownerSeq 0) w.seq)
        ∧ RegsKept [odKey h.idx h.sub, odKey Od.ownerSeq 0] s.toBlock t.toBlock ∧ OctsKept [odKey h.idx h.sub] s.toBlock t.toBlock)
      ∧ (s.toBlock.signed h.idx h.sub 0 w = false → Responded s.toBlock t.toBlock c f stSigInvalid true [] ∧ RegsKept [odKey Od.protWriteRefused 0, odKey Od.eventNextSeq 0] s.toBlock t.toBlock
        ∧ OctsKept [] s.toBlock t.toBlock) ∧ t.mem = s.mem ∧ t.disp = s.disp

/-- Subscriptions (R514, R519 to R523) and the expiries of R511, R514 and R520: opening and closing, what an EVENT frame carries, what an acknowledgement moves, sending again from the cursor, the frame and the event of an overrun, and the ends. What the spec does not fix of it is the model's: log entries 9, 43. -/
def Obligations.Subscriptions : Prop :=
  (∀ (s : State) (c : Client) (f : Frame) (x : OdpClient) (v : List Byte), v = f.data.take (frameHead f).len → Requested s.toBlock c f 4 → s.sys.phase = .up → s.toBlock.client? c = some x → v.length = 8 →
    (ofBE (v.take 1) ≠ 0 → x.events = none → (s.odp.clients.filter (fun x => x.events.isSome)).length < subMax → Goes (exec (.subscribeEvents c f) s) fun t =>
      Responded s.toBlock t.toBlock c f stOK true [] ∧ ∃ y, t.toBlock.client? c = some y ∧ y.streams = x.streams
        ∧ y.events = some ⟨ofBE (v.take 1), ofBE (v.drop 4), ofBE (v.drop 4), ofBE (v.drop 4), 0, false, s.dt⟩)
    ∧ (ofBE (v.take 1) ≠ 0 → x.events = none → subMax ≤ (s.odp.clients.filter (fun x => x.events.isSome)).length → Goes (exec (.subscribeEvents c f) s) fun t =>
      Responded s.toBlock t.toBlock c f stLimit true [] ∧ ∃ y, t.toBlock.client? c = some y ∧ y.events = none)
    ∧ (ofBE (v.take 1) = 0 → Goes (exec (.subscribeEvents c f) s) fun t => Responded s.toBlock t.toBlock c f stOK true [] ∧ ∃ y, t.toBlock.client? c = some y ∧ y.events = none))
  ∧ (∀ (s : State) (c : Client) (f : Frame) (x : OdpClient) (v : List Byte), v = f.data.take (frameHead f).len → Requested s.toBlock c f 5 → s.sys.phase = .up → isStream (frameHead f).idx = true →
    s.toBlock.client? c = some x → v.length = 4 →
    (1 ≤ ofBE (v.take 2) → ofBE (v.take 2) ≤ 1000 → 1 ≤ ofBE (slice v 2 1) → ofBE (slice v 2 1) ≤ 32 → (∀ y ∈ x.streams, y.idx ≠ (frameHead f).idx) → (s.odp.clients.flatMap (·.streams)).length < subMax →
      Goes (exec (.subscribeStream c f) s) fun t => Responded s.toBlock t.toBlock c f stOK true [] ∧ ∃ y, t.toBlock.client? c = some y ∧ y.events = x.events
        ∧ y.streams = x.streams ++ [⟨(frameHead f).idx, ofBE (v.take 2), ofBE (slice v 2 1), 0, 0, []⟩])
    ∧ (ofBE (v.take 2) = 0 → Goes (exec (.subscribeStream c f) s) fun t => Responded s.toBlock t.toBlock c f stOK true []
      ∧ ∃ y, t.toBlock.client? c = some y ∧ ∀ z ∈ y.streams, z.idx ≠ (frameHead f).idx)
    ∧ (ofBE (v.take 2) ≠ 0 → (1000 < ofBE (v.take 2) ∨ ofBE (slice v 2 1) = 0 ∨ 32 < ofBE (slice v 2 1)) → Goes (exec (.subscribeStream c f) s) fun t =>
      Responded s.toBlock t.toBlock c f stRange true [] ∧ ∃ y, t.toBlock.client? c = some y ∧ y.streams = x.streams))
  ∧ (∀ (s : State) (c : Client) (x : OdpClient) (e : EventSub), s.toBlock.pushes = true → s.toBlock.client? c = some x → x.events = some e →
    (e.mustReport s.toBlock.oldestSeq = false → (dueEvents s.toBlock e).1 ≠ 0 → Goes (exec (.eventSend c) s) fun t =>
      t.odp.tx = s.odp.tx ++ [s.toBlock.sent c (eventFrame s.toBlock e)] ∧ t.log = s.log ∧ RegsKept [] s.toBlock t.toBlock
      ∧ ∃ y z, t.toBlock.client? c = some y ∧ y.events = some z ∧ z.cursor = e.cursor ∧ z.sent = seqAdd e.sent (dueEvents s.toBlock e).1 ∧ z.mask = e.mask)
    ∧ (e.mustReport s.toBlock.oldestSeq = false → (dueEvents s.toBlock e).1 = 0 → Goes (exec (.eventSend c) s) fun t => t.toBlock = settle s.toBlock)
    ∧ (e.mustReport s.toBlock.oldestSeq = true → e.newLoss s.toBlock.oldestSeq = true → Goes (exec (.eventSend c) s) fun t =>
      LastEvent t.toBlock 0x4760 noCtx [] ∧ t.odp.tx = s.odp.tx ++ [s.toBlock.sent c (pushFrame oEvent stLimit e.frames Od.eventLog e.cursor s.dt (beBytes 4 t.toBlock.oldestSeq))]
      ∧ ∃ y z, t.toBlock.client? c = some y ∧ y.events = some z ∧ z.sent = t.toBlock.oldestSeq ∧ z.overrun = true)
    ∧ (e.sent ≠ e.cursor → { e with sent := e.cursor }.mustReport s.toBlock.oldestSeq = false → (dueEvents s.toBlock { e with sent := e.cursor }).1 ≠ 0 → Goes (exec (.eventRetry c) s) fun t =>
      t.dt = max s.dt (e.moved + s.reg Od.odpEvtRetryMs 0 * 10 ^ 6)
      ∧ t.odp.tx = s.odp.tx ++ [s.toBlock.sent c (eventFrame (s.toBlock.reach t.dt) { e with sent := e.cursor })] ∧ t.log = s.log ∧ RegsKept [] s.toBlock t.toBlock))
  ∧ (∀ (s : State) (c : Client) (f : Frame) (x : OdpClient) (e : EventSub) (n : Nat), Requested s.toBlock c f 6 → n = ofBE (f.data.take (frameHead f).len) → (f.data.take (frameHead f).len).length = 4 →
    s.toBlock.client? c = some x → x.events = some e → Goes (exec (.eventAck c f) s) fun t =>
      Responded s.toBlock t.toBlock c f stOK true [] ∧ t.log = s.log ∧ RegsKept [] s.toBlock t.toBlock
      ∧ ∃ y z, t.toBlock.client? c = some y ∧ y.events = some z ∧ z.sent = e.sent
        ∧ (1 ≤ seqSub n e.cursor → seqSub n e.cursor ≤ seqSub e.sent e.cursor → z.cursor = n ∧ z.moved = s.dt)
        ∧ ((seqSub n e.cursor = 0 ∨ seqSub e.sent e.cursor < seqSub n e.cursor) → z = e))
  ∧ (∀ (s : State) (c : Client) (x : OdpClient), s.toBlock.serving = true → s.toBlock.walnutBusy = false → s.toBlock.client? c = some x → (x.events ≠ none ∨ x.streams ≠ []) → Goes (exec (.odpSubExpired c) s) fun t =>
    t.dt = max s.dt (x.last + s.reg Od.odpSubTimeoutS 0 * 10 ^ 9) ∧ LastEvent t.toBlock 0x0761 noCtx (beBytes 2 x.id.port) ∧ (∃ y, t.toBlock.client? c = some y ∧ y.events = none ∧ y.streams = [])
    ∧ RegsKept [odKey Od.eventNextSeq 0] s.toBlock t.toBlock)
  ∧ ∀ (s : State) (c : Client) (x : OdpClient), s.toBlock.serving = true → s.toBlock.client? c = some x →
    (∀ z, x.snap = some z → Goes (exec (.odpSnapshotExpiry c) s) fun t => t.dt = max s.dt (z.2.2.2 + keepNs) ∧ (∃ y, t.toBlock.client? c = some y ∧ y.snap = none ∧ y.events = x.events ∧ y.replies = x.replies)
      ∧ RegsKept [] s.toBlock t.toBlock)
    ∧ ∀ id z, x.replies.find? (fun r => r.1 == id) = some z → Goes (exec (.odpReplyCacheExpiry c id) s) fun t => t.dt = max s.dt (z.2.1 + keepNs)
      ∧ (∃ y, t.toBlock.client? c = some y ∧ (∀ r ∈ y.replies, r.1 ≠ id) ∧ y.events = x.events ∧ y.snap = x.snap) ∧ RegsKept [] s.toBlock t.toBlock

/-- In Retired every write is refused but for RAS_UNRETIRE, FW_STAGE, FW_ACTIVATE, FW_CONFIRM, ALERT_ACK and the entries of the management port (R538): each command that is such a write changes nothing but its answer. What the spec does not fix of it is the model's: log entry 6. -/
def Obligations.RetiredRefuses : Prop :=
  ∀ (s : State) (boot : BootInputs) (k v : Nat) (r : BitVec 256) (p : BitVec 128) (c : Client) (l : List Byte) (mp : Bool) (w : PWrite), s.sys.phase = .up → s.toBlock.walnutBusy = false → s.service = svcRetired →
    ∀ e ∈ [Instr.deviceReset v boot, .boroughReset v, .plazaReset v, .ctxReset k v, .runRequest boot, .parkRequest, .standbyRequest, .plazaHold k v, .iftRequest v, .dispRingConfig r, .dispRingResume v,
      .dispTokenValue c v, .rbCohortConfig r, .hazelSkewAdopt k, .hazelSkewDiscard k, .fabPortMode k v, .timeSet v, .pwrShedCmd v, .pwrSetpointNow v, .pwrSetpointSched p, .pwrSchedCancel v, .attRequest v l,
      .ownerEnrol l mp, .ownerRelease w, .emithKeyInstall v w], Goes (exec e s) fun t => t.toBlock = settle (s.toBlock.answer stWriteRefused)
end

