-- ==== Sys2Proof/Laws/Sparse.lean ====
section
/-! SUPPORT. Sparse data: reading after setting, and the canonical form. -/

namespace Sys2Proof.Machine

theorem sget_sput {α : Type} (d : α) (l : List (Nat × α)) (n m : Nat) (x : α) :
    sget d (sput l n x) m = if m = n then x else sget d l m := by
  induction l with
  | nil => simp [sput, sget]
  | cons e r ih =>
    obtain ⟨k, v⟩ := e
    by_cases h1 : n < k
    · simp [sput, h1, sget]
    · by_cases h2 : n = k
      · subst h2; simp only [sput, Nat.lt_irrefl, if_false, if_true, sget]; split <;> rfl
      · simp only [sput, h1, h2, if_false, sget, ih]
        by_cases h3 : m = k
        · have : m ≠ n := by omega
          simp [h3, Ne.symm h2]
        · simp [h3]

theorem sget_filter_ne {α : Type} (d : α) (l : List (Nat × α)) (n m : Nat) :
    sget d (l.filter (fun e => decide (e.1 ≠ n))) m = if m = n then d else sget d l m := by
  induction l with
  | nil => simp [sget]
  | cons e r ih =>
    obtain ⟨k, v⟩ := e
    by_cases h : k = n
    · subst h
      rw [List.filter_cons_of_neg (by simp), ih]
      by_cases h3 : m = k <;> simp [h3, sget]
    · rw [List.filter_cons_of_pos (by simpa using h)]
      simp only [sget, ih]
      by_cases h3 : m = k
      · simp [h3, h]
      · simp [h3]

/-- What a key reads as after one key has been set, whatever the list. -/
theorem sget_sset {α : Type} [DecidableEq α] (d : α) (l : List (Nat × α)) (n m : Nat) (x : α) :
    sget d (sset d l n x) m = if m = n then x else sget d l m := by
  unfold sset
  split
  · rename_i h; rw [sget_filter_ne, h]
  · rw [sget_sput]

theorem sget_sset_self {α : Type} [DecidableEq α] (d : α) (l : List (Nat × α)) (n : Nat) (x : α) :
    sget d (sset d l n x) n = x := by rw [sget_sset, if_pos rfl]

theorem sget_sset_ne {α : Type} [DecidableEq α] (d d' : α) (l : List (Nat × α)) {n m : Nat} (x : α) (h : m ≠ n) :
    sget d (sset d' l n x) m = sget d l m := by
  unfold sset
  split
  · rw [sget_filter_ne, if_neg h]
  · rw [sget_sput, if_neg h]

/-- What a key reads as after the keys that do not satisfy `keep` have been dropped. -/
theorem sget_filter_key {α : Type} (d : α) (l : List (Nat × α)) (keep : Nat → Bool) (n : Nat) :
    sget d (l.filter (fun e => keep e.1)) n = if keep n then sget d l n else d := by
  induction l with
  | nil => simp [sget]
  | cons e r ih =>
    obtain ⟨k, v⟩ := e
    by_cases h : keep k = true
    · rw [List.filter_cons_of_pos (by simpa using h)]
      simp only [sget, ih]
      by_cases e : n = k
      · subst e; simp [h]
      · simp [e]
    · rw [List.filter_cons_of_neg (by simpa using h), ih]
      by_cases e : n = k
      · subst e; simp [h]
      · simp [sget, e]

/-! ### The canonical form -/

theorem swf_cons {α : Type} [DecidableEq α] (d : Nat → α) (k : Nat) (v : α) (r : List (Nat × α)) :
    swf d ((k, v) :: r) = true ↔ v ≠ d k ∧ (∀ e ∈ r, k < e.1) ∧ swf d r = true := by
  induction r generalizing k v with
  | nil => simp [swf]
  | cons e r ih =>
    obtain ⟨k', v'⟩ := e
    constructor
    · intro h
      simp only [swf, Bool.and_eq_true, bne_iff_ne, ne_eq, decide_eq_true_eq] at h
      refine ⟨h.1.1, ?_, h.2⟩
      intro e he
      rcases List.mem_cons.mp he with rfl | he
      · exact h.1.2
      · exact Nat.lt_trans h.1.2 (((ih k' v').mp h.2).2.1 e he)
    · rintro ⟨h1, h2, h3⟩
      simp only [swf, Bool.and_eq_true, bne_iff_ne, ne_eq, decide_eq_true_eq]
      exact ⟨⟨h1, h2 (k', v') (List.mem_cons_self ..)⟩, h3⟩

theorem mem_sput {α : Type} (l : List (Nat × α)) (n : Nat) (x : α) (e : Nat × α) (h : e ∈ sput l n x) :
    e = (n, x) ∨ e ∈ l := by
  induction l with
  | nil => simpa [sput] using h
  | cons a r ih =>
    obtain ⟨k, v⟩ := a
    simp only [sput] at h
    split at h
    · exact List.mem_cons.mp h
    · split at h
      · rcases List.mem_cons.mp h with h | h
        · exact .inl h
        · exact .inr (List.mem_cons_of_mem _ h)
      · rcases List.mem_cons.mp h with h | h
        · exact .inr (h ▸ List.mem_cons_self ..)
        · exact (ih h).imp_right (List.mem_cons_of_mem _)

theorem swf_filter {α : Type} [DecidableEq α] (d : Nat → α) (l : List (Nat × α)) (p : Nat × α → Bool) (h : swf d l = true) :
    swf d (l.filter p) = true := by
  induction l with
  | nil => exact h
  | cons a r ih =>
    obtain ⟨k, v⟩ := a
    obtain ⟨h1, h2, h3⟩ := (swf_cons d k v r).mp h
    by_cases hp : p (k, v)
    · rw [List.filter_cons_of_pos hp, swf_cons]
      exact ⟨h1, fun e he => h2 e (List.mem_filter.mp he).1, ih h3⟩
    · rw [List.filter_cons_of_neg hp]; exact ih h3

theorem swf_sput {α : Type} [DecidableEq α] (d : Nat → α) (l : List (Nat × α)) (n : Nat) (x : α) (hx : x ≠ d n)
    (h : swf d l = true) : swf d (sput l n x) = true := by
  induction l with
  | nil => simp [sput, swf, hx]
  | cons a r ih =>
    obtain ⟨k, v⟩ := a
    obtain ⟨h1, h2, h3⟩ := (swf_cons d k v r).mp h
    simp only [sput]
    split
    · rename_i hk
      rw [swf_cons]
      exact ⟨hx, fun e he => (List.mem_cons.mp he).elim (fun q => q ▸ hk) (fun q => Nat.lt_trans hk (h2 e q)), h⟩
    · split
      · rename_i hk; subst hk; rw [swf_cons]; exact ⟨hx, h2, h3⟩
      · rename_i hk hk'
        rw [swf_cons]
        refine ⟨h1, fun e he => ?_, ih h3⟩
        rcases mem_sput r n x e he with q | q
        · subst q; simp only; omega
        · exact h2 e q

/-- Setting a key keeps the canonical form. -/
theorem swf_sset {α : Type} [DecidableEq α] (d : Nat → α) (l : List (Nat × α)) (n : Nat) (x : α) (h : swf d l = true) :
    swf d (sset (d n) l n x) = true := by
  unfold sset
  split
  · exact swf_filter d l _ h
  · rename_i hx; exact swf_sput d l n x hx h

end Sys2Proof.Machine
end

