-- ==== Sys2Proof/Laws/State.lean ====
section
/-! SUPPORT. What each update of the block leaves: one lemma for each field. -/

namespace Sys2Proof.Machine

@[simp] theorem State.run_pending (s : State) (f : Block → Block) : (s.run f).pending = s.pending := rfl
@[simp] theorem State.run_toBlock (s : State) (f : Block → Block) : (s.run f).toBlock = settle (f s.toBlock) := rfl

/-! ### setReg -/

@[simp] theorem Block.setReg_dt (b : Block) (i k v : Nat) : (b.setReg i k v).dt = b.dt := rfl
@[simp] theorem Block.setReg_odb (b : Block) (i k v : Nat) : (b.setReg i k v).odb = b.odb := rfl
@[simp] theorem Block.setReg_pins (b : Block) (i k v : Nat) : (b.setReg i k v).pins = b.pins := rfl
@[simp] theorem Block.setReg_sys (b : Block) (i k v : Nat) : (b.setReg i k v).sys = b.sys := rfl
@[simp] theorem Block.setReg_log (b : Block) (i k v : Nat) : (b.setReg i k v).log = b.log := rfl
@[simp] theorem Block.setReg_fatal (b : Block) (i k v : Nat) : (b.setReg i k v).fatal = b.fatal := rfl
@[simp] theorem Block.setReg_odp (b : Block) (i k v : Nat) : (b.setReg i k v).odp = b.odp := rfl
@[simp] theorem Block.setReg_cal (b : Block) (i k v : Nat) : (b.setReg i k v).cal = b.cal := rfl
@[simp] theorem Block.setReg_gov (b : Block) (i k v : Nat) : (b.setReg i k v).gov = b.gov := rfl
@[simp] theorem Block.setReg_disp (b : Block) (i k v : Nat) : (b.setReg i k v).disp = b.disp := rfl
@[simp] theorem Block.setReg_plz (b : Block) (i k v : Nat) : (b.setReg i k v).plz = b.plz := rfl
@[simp] theorem Block.setReg_se (b : Block) (i k v : Nat) : (b.setReg i k v).se = b.se := rfl
@[simp] theorem Block.setReg_mem (b : Block) (i k v : Nat) : (b.setReg i k v).mem = b.mem := rfl
@[simp] theorem Block.setReg_slow (b : Block) (i k v : Nat) : (b.setReg i k v).slow = b.slow := rfl
@[simp] theorem Block.setReg_hbm (b : Block) (i k v : Nat) : (b.setReg i k v).hbm = b.hbm := rfl
@[simp] theorem Block.setReg_ras (b : Block) (i k v : Nat) : (b.setReg i k v).ras = b.ras := rfl
@[simp] theorem Block.setReg_rb (b : Block) (i k v : Nat) : (b.setReg i k v).rb = b.rb := rfl
@[simp] theorem Block.setReg_emith (b : Block) (i k v : Nat) : (b.setReg i k v).emith = b.emith := rfl
@[simp] theorem Block.setReg_hazel (b : Block) (i k v : Nat) : (b.setReg i k v).hazel = b.hazel := rfl
@[simp] theorem Block.setReg_wal (b : Block) (i k v : Nat) : (b.setReg i k v).wal = b.wal := rfl
@[simp] theorem Block.setReg_freeCount (b : Block) (i k v : Nat) : (b.setReg i k v).freeCount = b.freeCount := rfl

/-! ### setOct -/

@[simp] theorem Block.setOct_dt (b : Block) (i k : Nat) (v : List Byte) : (b.setOct i k v).dt = b.dt := rfl
@[simp] theorem Block.setOct_od (b : Block) (i k : Nat) (v : List Byte) : (b.setOct i k v).od = b.od := rfl
@[simp] theorem Block.setOct_pins (b : Block) (i k : Nat) (v : List Byte) : (b.setOct i k v).pins = b.pins := rfl
@[simp] theorem Block.setOct_sys (b : Block) (i k : Nat) (v : List Byte) : (b.setOct i k v).sys = b.sys := rfl
@[simp] theorem Block.setOct_log (b : Block) (i k : Nat) (v : List Byte) : (b.setOct i k v).log = b.log := rfl
@[simp] theorem Block.setOct_fatal (b : Block) (i k : Nat) (v : List Byte) : (b.setOct i k v).fatal = b.fatal := rfl
@[simp] theorem Block.setOct_odp (b : Block) (i k : Nat) (v : List Byte) : (b.setOct i k v).odp = b.odp := rfl
@[simp] theorem Block.setOct_cal (b : Block) (i k : Nat) (v : List Byte) : (b.setOct i k v).cal = b.cal := rfl
@[simp] theorem Block.setOct_gov (b : Block) (i k : Nat) (v : List Byte) : (b.setOct i k v).gov = b.gov := rfl
@[simp] theorem Block.setOct_disp (b : Block) (i k : Nat) (v : List Byte) : (b.setOct i k v).disp = b.disp := rfl
@[simp] theorem Block.setOct_plz (b : Block) (i k : Nat) (v : List Byte) : (b.setOct i k v).plz = b.plz := rfl
@[simp] theorem Block.setOct_se (b : Block) (i k : Nat) (v : List Byte) : (b.setOct i k v).se = b.se := rfl
@[simp] theorem Block.setOct_mem (b : Block) (i k : Nat) (v : List Byte) : (b.setOct i k v).mem = b.mem := rfl
@[simp] theorem Block.setOct_slow (b : Block) (i k : Nat) (v : List Byte) : (b.setOct i k v).slow = b.slow := rfl
@[simp] theorem Block.setOct_hbm (b : Block) (i k : Nat) (v : List Byte) : (b.setOct i k v).hbm = b.hbm := rfl
@[simp] theorem Block.setOct_ras (b : Block) (i k : Nat) (v : List Byte) : (b.setOct i k v).ras = b.ras := rfl
@[simp] theorem Block.setOct_rb (b : Block) (i k : Nat) (v : List Byte) : (b.setOct i k v).rb = b.rb := rfl
@[simp] theorem Block.setOct_emith (b : Block) (i k : Nat) (v : List Byte) : (b.setOct i k v).emith = b.emith := rfl
@[simp] theorem Block.setOct_hazel (b : Block) (i k : Nat) (v : List Byte) : (b.setOct i k v).hazel = b.hazel := rfl
@[simp] theorem Block.setOct_wal (b : Block) (i k : Nat) (v : List Byte) : (b.setOct i k v).wal = b.wal := rfl
@[simp] theorem Block.setOct_freeCount (b : Block) (i k : Nat) (v : List Byte) : (b.setOct i k v).freeCount = b.freeCount := rfl

/-! ### answer -/

@[simp] theorem Block.answer_dt (b : Block) (st : Nat) : (b.answer st).dt = b.dt := rfl
@[simp] theorem Block.answer_od (b : Block) (st : Nat) : (b.answer st).od = b.od := rfl
@[simp] theorem Block.answer_odb (b : Block) (st : Nat) : (b.answer st).odb = b.odb := rfl
@[simp] theorem Block.answer_pins (b : Block) (st : Nat) : (b.answer st).pins = b.pins := rfl
@[simp] theorem Block.answer_sys (b : Block) (st : Nat) : (b.answer st).sys = b.sys := rfl
@[simp] theorem Block.answer_log (b : Block) (st : Nat) : (b.answer st).log = b.log := rfl
@[simp] theorem Block.answer_fatal (b : Block) (st : Nat) : (b.answer st).fatal = b.fatal := rfl
@[simp] theorem Block.answer_cal (b : Block) (st : Nat) : (b.answer st).cal = b.cal := rfl
@[simp] theorem Block.answer_gov (b : Block) (st : Nat) : (b.answer st).gov = b.gov := rfl
@[simp] theorem Block.answer_disp (b : Block) (st : Nat) : (b.answer st).disp = b.disp := rfl
@[simp] theorem Block.answer_plz (b : Block) (st : Nat) : (b.answer st).plz = b.plz := rfl
@[simp] theorem Block.answer_se (b : Block) (st : Nat) : (b.answer st).se = b.se := rfl
@[simp] theorem Block.answer_mem (b : Block) (st : Nat) : (b.answer st).mem = b.mem := rfl
@[simp] theorem Block.answer_slow (b : Block) (st : Nat) : (b.answer st).slow = b.slow := rfl
@[simp] theorem Block.answer_hbm (b : Block) (st : Nat) : (b.answer st).hbm = b.hbm := rfl
@[simp] theorem Block.answer_ras (b : Block) (st : Nat) : (b.answer st).ras = b.ras := rfl
@[simp] theorem Block.answer_rb (b : Block) (st : Nat) : (b.answer st).rb = b.rb := rfl
@[simp] theorem Block.answer_emith (b : Block) (st : Nat) : (b.answer st).emith = b.emith := rfl
@[simp] theorem Block.answer_hazel (b : Block) (st : Nat) : (b.answer st).hazel = b.hazel := rfl
@[simp] theorem Block.answer_wal (b : Block) (st : Nat) : (b.answer st).wal = b.wal := rfl
@[simp] theorem Block.answer_freeCount (b : Block) (st : Nat) : (b.answer st).freeCount = b.freeCount := rfl

/-! ### raise -/

@[simp] theorem Block.raise_dt (b : Block) (code ctx : Nat) (arg : List Byte) : (b.raise code ctx arg).dt = b.dt := by unfold Block.raise; rfl
@[simp] theorem Block.raise_odb (b : Block) (code ctx : Nat) (arg : List Byte) : (b.raise code ctx arg).odb = b.odb := by unfold Block.raise; rfl
@[simp] theorem Block.raise_pins (b : Block) (code ctx : Nat) (arg : List Byte) : (b.raise code ctx arg).pins = b.pins := by unfold Block.raise; rfl
@[simp] theorem Block.raise_sys (b : Block) (code ctx : Nat) (arg : List Byte) : (b.raise code ctx arg).sys = b.sys := by unfold Block.raise; rfl
@[simp] theorem Block.raise_odp (b : Block) (code ctx : Nat) (arg : List Byte) : (b.raise code ctx arg).odp = b.odp := by unfold Block.raise; rfl
@[simp] theorem Block.raise_cal (b : Block) (code ctx : Nat) (arg : List Byte) : (b.raise code ctx arg).cal = b.cal := by unfold Block.raise; rfl
@[simp] theorem Block.raise_gov (b : Block) (code ctx : Nat) (arg : List Byte) : (b.raise code ctx arg).gov = b.gov := by unfold Block.raise; rfl
@[simp] theorem Block.raise_disp (b : Block) (code ctx : Nat) (arg : List Byte) : (b.raise code ctx arg).disp = b.disp := by unfold Block.raise; rfl
@[simp] theorem Block.raise_plz (b : Block) (code ctx : Nat) (arg : List Byte) : (b.raise code ctx arg).plz = b.plz := by unfold Block.raise; rfl
@[simp] theorem Block.raise_se (b : Block) (code ctx : Nat) (arg : List Byte) : (b.raise code ctx arg).se = b.se := by unfold Block.raise; rfl
@[simp] theorem Block.raise_mem (b : Block) (code ctx : Nat) (arg : List Byte) : (b.raise code ctx arg).mem = b.mem := by unfold Block.raise; rfl
@[simp] theorem Block.raise_slow (b : Block) (code ctx : Nat) (arg : List Byte) : (b.raise code ctx arg).slow = b.slow := by unfold Block.raise; rfl
@[simp] theorem Block.raise_hbm (b : Block) (code ctx : Nat) (arg : List Byte) : (b.raise code ctx arg).hbm = b.hbm := by unfold Block.raise; rfl
@[simp] theorem Block.raise_ras (b : Block) (code ctx : Nat) (arg : List Byte) : (b.raise code ctx arg).ras = b.ras := by unfold Block.raise; rfl
@[simp] theorem Block.raise_rb (b : Block) (code ctx : Nat) (arg : List Byte) : (b.raise code ctx arg).rb = b.rb := by unfold Block.raise; rfl
@[simp] theorem Block.raise_emith (b : Block) (code ctx : Nat) (arg : List Byte) : (b.raise code ctx arg).emith = b.emith := by unfold Block.raise; rfl
@[simp] theorem Block.raise_hazel (b : Block) (code ctx : Nat) (arg : List Byte) : (b.raise code ctx arg).hazel = b.hazel := by unfold Block.raise; rfl
@[simp] theorem Block.raise_wal (b : Block) (code ctx : Nat) (arg : List Byte) : (b.raise code ctx arg).wal = b.wal := by unfold Block.raise; rfl
@[simp] theorem Block.raise_freeCount (b : Block) (code ctx : Nat) (arg : List Byte) : (b.raise code ctx arg).freeCount = b.freeCount := by unfold Block.raise; rfl

/-! ### draw_snd -/

@[simp] theorem Block.draw_snd_dt (b : Block) : (b.draw.2).dt = b.dt := rfl
@[simp] theorem Block.draw_snd_od (b : Block) : (b.draw.2).od = b.od := rfl
@[simp] theorem Block.draw_snd_odb (b : Block) : (b.draw.2).odb = b.odb := rfl
@[simp] theorem Block.draw_snd_pins (b : Block) : (b.draw.2).pins = b.pins := rfl
@[simp] theorem Block.draw_snd_sys (b : Block) : (b.draw.2).sys = b.sys := rfl
@[simp] theorem Block.draw_snd_log (b : Block) : (b.draw.2).log = b.log := rfl
@[simp] theorem Block.draw_snd_fatal (b : Block) : (b.draw.2).fatal = b.fatal := rfl
@[simp] theorem Block.draw_snd_odp (b : Block) : (b.draw.2).odp = b.odp := rfl
@[simp] theorem Block.draw_snd_cal (b : Block) : (b.draw.2).cal = b.cal := rfl
@[simp] theorem Block.draw_snd_gov (b : Block) : (b.draw.2).gov = b.gov := rfl
@[simp] theorem Block.draw_snd_disp (b : Block) : (b.draw.2).disp = b.disp := rfl
@[simp] theorem Block.draw_snd_plz (b : Block) : (b.draw.2).plz = b.plz := rfl
@[simp] theorem Block.draw_snd_se (b : Block) : (b.draw.2).se = b.se := rfl
@[simp] theorem Block.draw_snd_mem (b : Block) : (b.draw.2).mem = b.mem := rfl
@[simp] theorem Block.draw_snd_slow (b : Block) : (b.draw.2).slow = b.slow := rfl
@[simp] theorem Block.draw_snd_hbm (b : Block) : (b.draw.2).hbm = b.hbm := rfl
@[simp] theorem Block.draw_snd_ras (b : Block) : (b.draw.2).ras = b.ras := rfl
@[simp] theorem Block.draw_snd_rb (b : Block) : (b.draw.2).rb = b.rb := rfl
@[simp] theorem Block.draw_snd_emith (b : Block) : (b.draw.2).emith = b.emith := rfl
@[simp] theorem Block.draw_snd_hazel (b : Block) : (b.draw.2).hazel = b.hazel := rfl
@[simp] theorem Block.draw_snd_wal (b : Block) : (b.draw.2).wal = b.wal := rfl

/-! ### reach -/

@[simp] theorem Block.reach_od (b : Block) (t : Nat) : (b.reach t).od = b.od := rfl
@[simp] theorem Block.reach_odb (b : Block) (t : Nat) : (b.reach t).odb = b.odb := rfl
@[simp] theorem Block.reach_pins (b : Block) (t : Nat) : (b.reach t).pins = b.pins := rfl
@[simp] theorem Block.reach_sys (b : Block) (t : Nat) : (b.reach t).sys = b.sys := rfl
@[simp] theorem Block.reach_log (b : Block) (t : Nat) : (b.reach t).log = b.log := rfl
@[simp] theorem Block.reach_fatal (b : Block) (t : Nat) : (b.reach t).fatal = b.fatal := rfl
@[simp] theorem Block.reach_odp (b : Block) (t : Nat) : (b.reach t).odp = b.odp := rfl
@[simp] theorem Block.reach_cal (b : Block) (t : Nat) : (b.reach t).cal = b.cal := rfl
@[simp] theorem Block.reach_gov (b : Block) (t : Nat) : (b.reach t).gov = b.gov := rfl
@[simp] theorem Block.reach_disp (b : Block) (t : Nat) : (b.reach t).disp = b.disp := rfl
@[simp] theorem Block.reach_plz (b : Block) (t : Nat) : (b.reach t).plz = b.plz := rfl
@[simp] theorem Block.reach_se (b : Block) (t : Nat) : (b.reach t).se = b.se := rfl
@[simp] theorem Block.reach_mem (b : Block) (t : Nat) : (b.reach t).mem = b.mem := rfl
@[simp] theorem Block.reach_slow (b : Block) (t : Nat) : (b.reach t).slow = b.slow := rfl
@[simp] theorem Block.reach_hbm (b : Block) (t : Nat) : (b.reach t).hbm = b.hbm := rfl
@[simp] theorem Block.reach_ras (b : Block) (t : Nat) : (b.reach t).ras = b.ras := rfl
@[simp] theorem Block.reach_rb (b : Block) (t : Nat) : (b.reach t).rb = b.rb := rfl
@[simp] theorem Block.reach_emith (b : Block) (t : Nat) : (b.reach t).emith = b.emith := rfl
@[simp] theorem Block.reach_hazel (b : Block) (t : Nat) : (b.reach t).hazel = b.hazel := rfl
@[simp] theorem Block.reach_wal (b : Block) (t : Nat) : (b.reach t).wal = b.wal := rfl
@[simp] theorem Block.reach_freeCount (b : Block) (t : Nat) : (b.reach t).freeCount = b.freeCount := rfl

/-! ### setTask -/

@[simp] theorem Block.setTask_dt (b : Block) (t : Nat) (f : Task → Task) : (b.setTask t f).dt = b.dt := rfl
@[simp] theorem Block.setTask_od (b : Block) (t : Nat) (f : Task → Task) : (b.setTask t f).od = b.od := rfl
@[simp] theorem Block.setTask_odb (b : Block) (t : Nat) (f : Task → Task) : (b.setTask t f).odb = b.odb := rfl
@[simp] theorem Block.setTask_pins (b : Block) (t : Nat) (f : Task → Task) : (b.setTask t f).pins = b.pins := rfl
@[simp] theorem Block.setTask_sys (b : Block) (t : Nat) (f : Task → Task) : (b.setTask t f).sys = b.sys := rfl
@[simp] theorem Block.setTask_log (b : Block) (t : Nat) (f : Task → Task) : (b.setTask t f).log = b.log := rfl
@[simp] theorem Block.setTask_fatal (b : Block) (t : Nat) (f : Task → Task) : (b.setTask t f).fatal = b.fatal := rfl
@[simp] theorem Block.setTask_odp (b : Block) (t : Nat) (f : Task → Task) : (b.setTask t f).odp = b.odp := rfl
@[simp] theorem Block.setTask_cal (b : Block) (t : Nat) (f : Task → Task) : (b.setTask t f).cal = b.cal := rfl
@[simp] theorem Block.setTask_gov (b : Block) (t : Nat) (f : Task → Task) : (b.setTask t f).gov = b.gov := rfl
@[simp] theorem Block.setTask_plz (b : Block) (t : Nat) (f : Task → Task) : (b.setTask t f).plz = b.plz := rfl
@[simp] theorem Block.setTask_se (b : Block) (t : Nat) (f : Task → Task) : (b.setTask t f).se = b.se := rfl
@[simp] theorem Block.setTask_mem (b : Block) (t : Nat) (f : Task → Task) : (b.setTask t f).mem = b.mem := rfl
@[simp] theorem Block.setTask_slow (b : Block) (t : Nat) (f : Task → Task) : (b.setTask t f).slow = b.slow := rfl
@[simp] theorem Block.setTask_hbm (b : Block) (t : Nat) (f : Task → Task) : (b.setTask t f).hbm = b.hbm := rfl
@[simp] theorem Block.setTask_ras (b : Block) (t : Nat) (f : Task → Task) : (b.setTask t f).ras = b.ras := rfl
@[simp] theorem Block.setTask_rb (b : Block) (t : Nat) (f : Task → Task) : (b.setTask t f).rb = b.rb := rfl
@[simp] theorem Block.setTask_emith (b : Block) (t : Nat) (f : Task → Task) : (b.setTask t f).emith = b.emith := rfl
@[simp] theorem Block.setTask_hazel (b : Block) (t : Nat) (f : Task → Task) : (b.setTask t f).hazel = b.hazel := rfl
@[simp] theorem Block.setTask_wal (b : Block) (t : Nat) (f : Task → Task) : (b.setTask t f).wal = b.wal := rfl
@[simp] theorem Block.setTask_freeCount (b : Block) (t : Nat) (f : Task → Task) : (b.setTask t f).freeCount = b.freeCount := rfl

/-! ### endTask -/

@[simp] theorem Block.endTask_dt (b : Block) (t st u : Nat) : (b.endTask t st u).dt = b.dt := rfl
@[simp] theorem Block.endTask_od (b : Block) (t st u : Nat) : (b.endTask t st u).od = b.od := rfl
@[simp] theorem Block.endTask_odb (b : Block) (t st u : Nat) : (b.endTask t st u).odb = b.odb := rfl
@[simp] theorem Block.endTask_pins (b : Block) (t st u : Nat) : (b.endTask t st u).pins = b.pins := rfl
@[simp] theorem Block.endTask_sys (b : Block) (t st u : Nat) : (b.endTask t st u).sys = b.sys := rfl
@[simp] theorem Block.endTask_log (b : Block) (t st u : Nat) : (b.endTask t st u).log = b.log := rfl
@[simp] theorem Block.endTask_fatal (b : Block) (t st u : Nat) : (b.endTask t st u).fatal = b.fatal := rfl
@[simp] theorem Block.endTask_odp (b : Block) (t st u : Nat) : (b.endTask t st u).odp = b.odp := rfl
@[simp] theorem Block.endTask_cal (b : Block) (t st u : Nat) : (b.endTask t st u).cal = b.cal := rfl
@[simp] theorem Block.endTask_gov (b : Block) (t st u : Nat) : (b.endTask t st u).gov = b.gov := rfl
@[simp] theorem Block.endTask_plz (b : Block) (t st u : Nat) : (b.endTask t st u).plz = b.plz := rfl
@[simp] theorem Block.endTask_se (b : Block) (t st u : Nat) : (b.endTask t st u).se = b.se := rfl
@[simp] theorem Block.endTask_mem (b : Block) (t st u : Nat) : (b.endTask t st u).mem = b.mem := rfl
@[simp] theorem Block.endTask_slow (b : Block) (t st u : Nat) : (b.endTask t st u).slow = b.slow := rfl
@[simp] theorem Block.endTask_hbm (b : Block) (t st u : Nat) : (b.endTask t st u).hbm = b.hbm := rfl
@[simp] theorem Block.endTask_ras (b : Block) (t st u : Nat) : (b.endTask t st u).ras = b.ras := rfl
@[simp] theorem Block.endTask_rb (b : Block) (t st u : Nat) : (b.endTask t st u).rb = b.rb := rfl
@[simp] theorem Block.endTask_emith (b : Block) (t st u : Nat) : (b.endTask t st u).emith = b.emith := rfl
@[simp] theorem Block.endTask_hazel (b : Block) (t st u : Nat) : (b.endTask t st u).hazel = b.hazel := rfl
@[simp] theorem Block.endTask_wal (b : Block) (t st u : Nat) : (b.endTask t st u).wal = b.wal := rfl
@[simp] theorem Block.endTask_freeCount (b : Block) (t st u : Nat) : (b.endTask t st u).freeCount = b.freeCount := rfl

/-! ### setRing -/

@[simp] theorem Block.setRing_dt (b : Block) (r : Nat) (v : Ring) : (b.setRing r v).dt = b.dt := rfl
@[simp] theorem Block.setRing_od (b : Block) (r : Nat) (v : Ring) : (b.setRing r v).od = b.od := rfl
@[simp] theorem Block.setRing_odb (b : Block) (r : Nat) (v : Ring) : (b.setRing r v).odb = b.odb := rfl
@[simp] theorem Block.setRing_pins (b : Block) (r : Nat) (v : Ring) : (b.setRing r v).pins = b.pins := rfl
@[simp] theorem Block.setRing_sys (b : Block) (r : Nat) (v : Ring) : (b.setRing r v).sys = b.sys := rfl
@[simp] theorem Block.setRing_log (b : Block) (r : Nat) (v : Ring) : (b.setRing r v).log = b.log := rfl
@[simp] theorem Block.setRing_fatal (b : Block) (r : Nat) (v : Ring) : (b.setRing r v).fatal = b.fatal := rfl
@[simp] theorem Block.setRing_odp (b : Block) (r : Nat) (v : Ring) : (b.setRing r v).odp = b.odp := rfl
@[simp] theorem Block.setRing_cal (b : Block) (r : Nat) (v : Ring) : (b.setRing r v).cal = b.cal := rfl
@[simp] theorem Block.setRing_gov (b : Block) (r : Nat) (v : Ring) : (b.setRing r v).gov = b.gov := rfl
@[simp] theorem Block.setRing_plz (b : Block) (r : Nat) (v : Ring) : (b.setRing r v).plz = b.plz := rfl
@[simp] theorem Block.setRing_se (b : Block) (r : Nat) (v : Ring) : (b.setRing r v).se = b.se := rfl
@[simp] theorem Block.setRing_mem (b : Block) (r : Nat) (v : Ring) : (b.setRing r v).mem = b.mem := rfl
@[simp] theorem Block.setRing_slow (b : Block) (r : Nat) (v : Ring) : (b.setRing r v).slow = b.slow := rfl
@[simp] theorem Block.setRing_hbm (b : Block) (r : Nat) (v : Ring) : (b.setRing r v).hbm = b.hbm := rfl
@[simp] theorem Block.setRing_ras (b : Block) (r : Nat) (v : Ring) : (b.setRing r v).ras = b.ras := rfl
@[simp] theorem Block.setRing_rb (b : Block) (r : Nat) (v : Ring) : (b.setRing r v).rb = b.rb := rfl
@[simp] theorem Block.setRing_emith (b : Block) (r : Nat) (v : Ring) : (b.setRing r v).emith = b.emith := rfl
@[simp] theorem Block.setRing_hazel (b : Block) (r : Nat) (v : Ring) : (b.setRing r v).hazel = b.hazel := rfl
@[simp] theorem Block.setRing_wal (b : Block) (r : Nat) (v : Ring) : (b.setRing r v).wal = b.wal := rfl
@[simp] theorem Block.setRing_freeCount (b : Block) (r : Nat) (v : Ring) : (b.setRing r v).freeCount = b.freeCount := rfl

/-! ### setToken -/

@[simp] theorem Block.setToken_dt (b : Block) (n v : Nat) : (b.setToken n v).dt = b.dt := rfl
@[simp] theorem Block.setToken_od (b : Block) (n v : Nat) : (b.setToken n v).od = b.od := rfl
@[simp] theorem Block.setToken_odb (b : Block) (n v : Nat) : (b.setToken n v).odb = b.odb := rfl
@[simp] theorem Block.setToken_pins (b : Block) (n v : Nat) : (b.setToken n v).pins = b.pins := rfl
@[simp] theorem Block.setToken_sys (b : Block) (n v : Nat) : (b.setToken n v).sys = b.sys := rfl
@[simp] theorem Block.setToken_log (b : Block) (n v : Nat) : (b.setToken n v).log = b.log := rfl
@[simp] theorem Block.setToken_fatal (b : Block) (n v : Nat) : (b.setToken n v).fatal = b.fatal := rfl
@[simp] theorem Block.setToken_odp (b : Block) (n v : Nat) : (b.setToken n v).odp = b.odp := rfl
@[simp] theorem Block.setToken_cal (b : Block) (n v : Nat) : (b.setToken n v).cal = b.cal := rfl
@[simp] theorem Block.setToken_gov (b : Block) (n v : Nat) : (b.setToken n v).gov = b.gov := rfl
@[simp] theorem Block.setToken_plz (b : Block) (n v : Nat) : (b.setToken n v).plz = b.plz := rfl
@[simp] theorem Block.setToken_se (b : Block) (n v : Nat) : (b.setToken n v).se = b.se := rfl
@[simp] theorem Block.setToken_mem (b : Block) (n v : Nat) : (b.setToken n v).mem = b.mem := rfl
@[simp] theorem Block.setToken_slow (b : Block) (n v : Nat) : (b.setToken n v).slow = b.slow := rfl
@[simp] theorem Block.setToken_hbm (b : Block) (n v : Nat) : (b.setToken n v).hbm = b.hbm := rfl
@[simp] theorem Block.setToken_ras (b : Block) (n v : Nat) : (b.setToken n v).ras = b.ras := rfl
@[simp] theorem Block.setToken_rb (b : Block) (n v : Nat) : (b.setToken n v).rb = b.rb := rfl
@[simp] theorem Block.setToken_emith (b : Block) (n v : Nat) : (b.setToken n v).emith = b.emith := rfl
@[simp] theorem Block.setToken_hazel (b : Block) (n v : Nat) : (b.setToken n v).hazel = b.hazel := rfl
@[simp] theorem Block.setToken_wal (b : Block) (n v : Nat) : (b.setToken n v).wal = b.wal := rfl
@[simp] theorem Block.setToken_freeCount (b : Block) (n v : Nat) : (b.setToken n v).freeCount = b.freeCount := rfl

/-! ### setClock -/

@[simp] theorem Block.setClock_dt (b : Block) (p f : Nat) : (b.setClock p f).dt = b.dt := rfl
@[simp] theorem Block.setClock_od (b : Block) (p f : Nat) : (b.setClock p f).od = b.od := rfl
@[simp] theorem Block.setClock_odb (b : Block) (p f : Nat) : (b.setClock p f).odb = b.odb := rfl
@[simp] theorem Block.setClock_pins (b : Block) (p f : Nat) : (b.setClock p f).pins = b.pins := rfl
@[simp] theorem Block.setClock_sys (b : Block) (p f : Nat) : (b.setClock p f).sys = b.sys := rfl
@[simp] theorem Block.setClock_log (b : Block) (p f : Nat) : (b.setClock p f).log = b.log := rfl
@[simp] theorem Block.setClock_fatal (b : Block) (p f : Nat) : (b.setClock p f).fatal = b.fatal := rfl
@[simp] theorem Block.setClock_odp (b : Block) (p f : Nat) : (b.setClock p f).odp = b.odp := rfl
@[simp] theorem Block.setClock_cal (b : Block) (p f : Nat) : (b.setClock p f).cal = b.cal := rfl
@[simp] theorem Block.setClock_disp (b : Block) (p f : Nat) : (b.setClock p f).disp = b.disp := rfl
@[simp] theorem Block.setClock_plz (b : Block) (p f : Nat) : (b.setClock p f).plz = b.plz := rfl
@[simp] theorem Block.setClock_se (b : Block) (p f : Nat) : (b.setClock p f).se = b.se := rfl
@[simp] theorem Block.setClock_mem (b : Block) (p f : Nat) : (b.setClock p f).mem = b.mem := rfl
@[simp] theorem Block.setClock_slow (b : Block) (p f : Nat) : (b.setClock p f).slow = b.slow := rfl
@[simp] theorem Block.setClock_hbm (b : Block) (p f : Nat) : (b.setClock p f).hbm = b.hbm := rfl
@[simp] theorem Block.setClock_ras (b : Block) (p f : Nat) : (b.setClock p f).ras = b.ras := rfl
@[simp] theorem Block.setClock_rb (b : Block) (p f : Nat) : (b.setClock p f).rb = b.rb := rfl
@[simp] theorem Block.setClock_emith (b : Block) (p f : Nat) : (b.setClock p f).emith = b.emith := rfl
@[simp] theorem Block.setClock_hazel (b : Block) (p f : Nat) : (b.setClock p f).hazel = b.hazel := rfl
@[simp] theorem Block.setClock_wal (b : Block) (p f : Nat) : (b.setClock p f).wal = b.wal := rfl
@[simp] theorem Block.setClock_freeCount (b : Block) (p f : Nat) : (b.setClock p f).freeCount = b.freeCount := rfl

/-! ### setTarget -/

@[simp] theorem Block.setTarget_dt (b : Block) (p f : Nat) : (b.setTarget p f).dt = b.dt := rfl
@[simp] theorem Block.setTarget_od (b : Block) (p f : Nat) : (b.setTarget p f).od = b.od := rfl
@[simp] theorem Block.setTarget_odb (b : Block) (p f : Nat) : (b.setTarget p f).odb = b.odb := rfl
@[simp] theorem Block.setTarget_pins (b : Block) (p f : Nat) : (b.setTarget p f).pins = b.pins := rfl
@[simp] theorem Block.setTarget_sys (b : Block) (p f : Nat) : (b.setTarget p f).sys = b.sys := rfl
@[simp] theorem Block.setTarget_log (b : Block) (p f : Nat) : (b.setTarget p f).log = b.log := rfl
@[simp] theorem Block.setTarget_fatal (b : Block) (p f : Nat) : (b.setTarget p f).fatal = b.fatal := rfl
@[simp] theorem Block.setTarget_odp (b : Block) (p f : Nat) : (b.setTarget p f).odp = b.odp := rfl
@[simp] theorem Block.setTarget_cal (b : Block) (p f : Nat) : (b.setTarget p f).cal = b.cal := rfl
@[simp] theorem Block.setTarget_disp (b : Block) (p f : Nat) : (b.setTarget p f).disp = b.disp := rfl
@[simp] theorem Block.setTarget_plz (b : Block) (p f : Nat) : (b.setTarget p f).plz = b.plz := rfl
@[simp] theorem Block.setTarget_se (b : Block) (p f : Nat) : (b.setTarget p f).se = b.se := rfl
@[simp] theorem Block.setTarget_mem (b : Block) (p f : Nat) : (b.setTarget p f).mem = b.mem := rfl
@[simp] theorem Block.setTarget_slow (b : Block) (p f : Nat) : (b.setTarget p f).slow = b.slow := rfl
@[simp] theorem Block.setTarget_hbm (b : Block) (p f : Nat) : (b.setTarget p f).hbm = b.hbm := rfl
@[simp] theorem Block.setTarget_ras (b : Block) (p f : Nat) : (b.setTarget p f).ras = b.ras := rfl
@[simp] theorem Block.setTarget_rb (b : Block) (p f : Nat) : (b.setTarget p f).rb = b.rb := rfl
@[simp] theorem Block.setTarget_emith (b : Block) (p f : Nat) : (b.setTarget p f).emith = b.emith := rfl
@[simp] theorem Block.setTarget_hazel (b : Block) (p f : Nat) : (b.setTarget p f).hazel = b.hazel := rfl
@[simp] theorem Block.setTarget_wal (b : Block) (p f : Nat) : (b.setTarget p f).wal = b.wal := rfl
@[simp] theorem Block.setTarget_freeCount (b : Block) (p f : Nat) : (b.setTarget p f).freeCount = b.freeCount := rfl

/-! ### setCeil -/

@[simp] theorem Block.setCeil_dt (b : Block) (p : Nat) (f : Ceil → Ceil) : (b.setCeil p f).dt = b.dt := rfl
@[simp] theorem Block.setCeil_od (b : Block) (p : Nat) (f : Ceil → Ceil) : (b.setCeil p f).od = b.od := rfl
@[simp] theorem Block.setCeil_odb (b : Block) (p : Nat) (f : Ceil → Ceil) : (b.setCeil p f).odb = b.odb := rfl
@[simp] theorem Block.setCeil_pins (b : Block) (p : Nat) (f : Ceil → Ceil) : (b.setCeil p f).pins = b.pins := rfl
@[simp] theorem Block.setCeil_sys (b : Block) (p : Nat) (f : Ceil → Ceil) : (b.setCeil p f).sys = b.sys := rfl
@[simp] theorem Block.setCeil_log (b : Block) (p : Nat) (f : Ceil → Ceil) : (b.setCeil p f).log = b.log := rfl
@[simp] theorem Block.setCeil_fatal (b : Block) (p : Nat) (f : Ceil → Ceil) : (b.setCeil p f).fatal = b.fatal := rfl
@[simp] theorem Block.setCeil_odp (b : Block) (p : Nat) (f : Ceil → Ceil) : (b.setCeil p f).odp = b.odp := rfl
@[simp] theorem Block.setCeil_cal (b : Block) (p : Nat) (f : Ceil → Ceil) : (b.setCeil p f).cal = b.cal := rfl
@[simp] theorem Block.setCeil_disp (b : Block) (p : Nat) (f : Ceil → Ceil) : (b.setCeil p f).disp = b.disp := rfl
@[simp] theorem Block.setCeil_plz (b : Block) (p : Nat) (f : Ceil → Ceil) : (b.setCeil p f).plz = b.plz := rfl
@[simp] theorem Block.setCeil_se (b : Block) (p : Nat) (f : Ceil → Ceil) : (b.setCeil p f).se = b.se := rfl
@[simp] theorem Block.setCeil_mem (b : Block) (p : Nat) (f : Ceil → Ceil) : (b.setCeil p f).mem = b.mem := rfl
@[simp] theorem Block.setCeil_slow (b : Block) (p : Nat) (f : Ceil → Ceil) : (b.setCeil p f).slow = b.slow := rfl
@[simp] theorem Block.setCeil_hbm (b : Block) (p : Nat) (f : Ceil → Ceil) : (b.setCeil p f).hbm = b.hbm := rfl
@[simp] theorem Block.setCeil_ras (b : Block) (p : Nat) (f : Ceil → Ceil) : (b.setCeil p f).ras = b.ras := rfl
@[simp] theorem Block.setCeil_rb (b : Block) (p : Nat) (f : Ceil → Ceil) : (b.setCeil p f).rb = b.rb := rfl
@[simp] theorem Block.setCeil_emith (b : Block) (p : Nat) (f : Ceil → Ceil) : (b.setCeil p f).emith = b.emith := rfl
@[simp] theorem Block.setCeil_hazel (b : Block) (p : Nat) (f : Ceil → Ceil) : (b.setCeil p f).hazel = b.hazel := rfl
@[simp] theorem Block.setCeil_wal (b : Block) (p : Nat) (f : Ceil → Ceil) : (b.setCeil p f).wal = b.wal := rfl
@[simp] theorem Block.setCeil_freeCount (b : Block) (p : Nat) (f : Ceil → Ceil) : (b.setCeil p f).freeCount = b.freeCount := rfl

/-! ### checkAll -/

@[simp] theorem Block.checkAll_dt (b : Block) : (b.checkAll).dt = b.dt := rfl
@[simp] theorem Block.checkAll_od (b : Block) : (b.checkAll).od = b.od := rfl
@[simp] theorem Block.checkAll_odb (b : Block) : (b.checkAll).odb = b.odb := rfl
@[simp] theorem Block.checkAll_pins (b : Block) : (b.checkAll).pins = b.pins := rfl
@[simp] theorem Block.checkAll_log (b : Block) : (b.checkAll).log = b.log := rfl
@[simp] theorem Block.checkAll_fatal (b : Block) : (b.checkAll).fatal = b.fatal := rfl
@[simp] theorem Block.checkAll_odp (b : Block) : (b.checkAll).odp = b.odp := rfl
@[simp] theorem Block.checkAll_cal (b : Block) : (b.checkAll).cal = b.cal := rfl
@[simp] theorem Block.checkAll_gov (b : Block) : (b.checkAll).gov = b.gov := rfl
@[simp] theorem Block.checkAll_disp (b : Block) : (b.checkAll).disp = b.disp := rfl
@[simp] theorem Block.checkAll_plz (b : Block) : (b.checkAll).plz = b.plz := rfl
@[simp] theorem Block.checkAll_se (b : Block) : (b.checkAll).se = b.se := rfl
@[simp] theorem Block.checkAll_mem (b : Block) : (b.checkAll).mem = b.mem := rfl
@[simp] theorem Block.checkAll_slow (b : Block) : (b.checkAll).slow = b.slow := rfl
@[simp] theorem Block.checkAll_hbm (b : Block) : (b.checkAll).hbm = b.hbm := rfl
@[simp] theorem Block.checkAll_ras (b : Block) : (b.checkAll).ras = b.ras := rfl
@[simp] theorem Block.checkAll_rb (b : Block) : (b.checkAll).rb = b.rb := rfl
@[simp] theorem Block.checkAll_emith (b : Block) : (b.checkAll).emith = b.emith := rfl
@[simp] theorem Block.checkAll_hazel (b : Block) : (b.checkAll).hazel = b.hazel := rfl
@[simp] theorem Block.checkAll_wal (b : Block) : (b.checkAll).wal = b.wal := rfl
@[simp] theorem Block.checkAll_freeCount (b : Block) : (b.checkAll).freeCount = b.freeCount := rfl

/-! ### bringupSys -/

@[simp] theorem Block.bringupSys_dt (b : Block) (boot : BootInputs) (kind cause : Nat) : (b.bringupSys boot kind cause).dt = b.dt := rfl
@[simp] theorem Block.bringupSys_od (b : Block) (boot : BootInputs) (kind cause : Nat) : (b.bringupSys boot kind cause).od = b.od := rfl
@[simp] theorem Block.bringupSys_odb (b : Block) (boot : BootInputs) (kind cause : Nat) : (b.bringupSys boot kind cause).odb = b.odb := rfl
@[simp] theorem Block.bringupSys_log (b : Block) (boot : BootInputs) (kind cause : Nat) : (b.bringupSys boot kind cause).log = b.log := rfl
@[simp] theorem Block.bringupSys_fatal (b : Block) (boot : BootInputs) (kind cause : Nat) : (b.bringupSys boot kind cause).fatal = b.fatal := rfl
@[simp] theorem Block.bringupSys_odp (b : Block) (boot : BootInputs) (kind cause : Nat) : (b.bringupSys boot kind cause).odp = b.odp := rfl
@[simp] theorem Block.bringupSys_cal (b : Block) (boot : BootInputs) (kind cause : Nat) : (b.bringupSys boot kind cause).cal = b.cal := rfl
@[simp] theorem Block.bringupSys_gov (b : Block) (boot : BootInputs) (kind cause : Nat) : (b.bringupSys boot kind cause).gov = b.gov := rfl
@[simp] theorem Block.bringupSys_disp (b : Block) (boot : BootInputs) (kind cause : Nat) : (b.bringupSys boot kind cause).disp = b.disp := rfl
@[simp] theorem Block.bringupSys_plz (b : Block) (boot : BootInputs) (kind cause : Nat) : (b.bringupSys boot kind cause).plz = b.plz := rfl
@[simp] theorem Block.bringupSys_se (b : Block) (boot : BootInputs) (kind cause : Nat) : (b.bringupSys boot kind cause).se = b.se := rfl
@[simp] theorem Block.bringupSys_mem (b : Block) (boot : BootInputs) (kind cause : Nat) : (b.bringupSys boot kind cause).mem = b.mem := rfl
@[simp] theorem Block.bringupSys_slow (b : Block) (boot : BootInputs) (kind cause : Nat) : (b.bringupSys boot kind cause).slow = b.slow := rfl
@[simp] theorem Block.bringupSys_hbm (b : Block) (boot : BootInputs) (kind cause : Nat) : (b.bringupSys boot kind cause).hbm = b.hbm := rfl
@[simp] theorem Block.bringupSys_ras (b : Block) (boot : BootInputs) (kind cause : Nat) : (b.bringupSys boot kind cause).ras = b.ras := rfl
@[simp] theorem Block.bringupSys_rb (b : Block) (boot : BootInputs) (kind cause : Nat) : (b.bringupSys boot kind cause).rb = b.rb := rfl
@[simp] theorem Block.bringupSys_emith (b : Block) (boot : BootInputs) (kind cause : Nat) : (b.bringupSys boot kind cause).emith = b.emith := rfl
@[simp] theorem Block.bringupSys_hazel (b : Block) (boot : BootInputs) (kind cause : Nat) : (b.bringupSys boot kind cause).hazel = b.hazel := rfl
@[simp] theorem Block.bringupSys_wal (b : Block) (boot : BootInputs) (kind cause : Nat) : (b.bringupSys boot kind cause).wal = b.wal := rfl
@[simp] theorem Block.bringupSys_freeCount (b : Block) (boot : BootInputs) (kind cause : Nat) : (b.bringupSys boot kind cause).freeCount = b.freeCount := rfl

/-! ### dropUnits -/

@[simp] theorem Block.dropUnits_dt (b : Block) : (b.dropUnits).dt = b.dt := rfl
@[simp] theorem Block.dropUnits_od (b : Block) : (b.dropUnits).od = b.od := rfl
@[simp] theorem Block.dropUnits_odb (b : Block) : (b.dropUnits).odb = b.odb := rfl
@[simp] theorem Block.dropUnits_pins (b : Block) : (b.dropUnits).pins = b.pins := rfl
@[simp] theorem Block.dropUnits_log (b : Block) : (b.dropUnits).log = b.log := rfl
@[simp] theorem Block.dropUnits_fatal (b : Block) : (b.dropUnits).fatal = b.fatal := rfl
@[simp] theorem Block.dropUnits_odp (b : Block) : (b.dropUnits).odp = b.odp := rfl
@[simp] theorem Block.dropUnits_cal (b : Block) : (b.dropUnits).cal = b.cal := rfl
@[simp] theorem Block.dropUnits_mem (b : Block) : (b.dropUnits).mem = b.mem := rfl
@[simp] theorem Block.dropUnits_slow (b : Block) : (b.dropUnits).slow = b.slow := rfl
@[simp] theorem Block.dropUnits_emith (b : Block) : (b.dropUnits).emith = b.emith := rfl
@[simp] theorem Block.dropUnits_hazel (b : Block) : (b.dropUnits).hazel = b.hazel := rfl
@[simp] theorem Block.dropUnits_wal (b : Block) : (b.dropUnits).wal = b.wal := rfl
@[simp] theorem Block.dropUnits_freeCount (b : Block) : (b.dropUnits).freeCount = b.freeCount := rfl

/-! ### settle -/

@[simp] theorem settle_dt (b : Block) : (settle b).dt = b.dt := rfl
@[simp] theorem settle_od (b : Block) : (settle b).od = b.od := rfl
@[simp] theorem settle_odb (b : Block) : (settle b).odb = b.odb := rfl
@[simp] theorem settle_log (b : Block) : (settle b).log = b.log := rfl
@[simp] theorem settle_fatal (b : Block) : (settle b).fatal = b.fatal := rfl
@[simp] theorem settle_odp (b : Block) : (settle b).odp = b.odp := rfl
@[simp] theorem settle_cal (b : Block) : (settle b).cal = b.cal := rfl
@[simp] theorem settle_gov (b : Block) : (settle b).gov = b.gov := rfl
@[simp] theorem settle_disp (b : Block) : (settle b).disp = b.disp := rfl
@[simp] theorem settle_plz (b : Block) : (settle b).plz = b.plz := rfl
@[simp] theorem settle_se (b : Block) : (settle b).se = b.se := rfl
@[simp] theorem settle_mem (b : Block) : (settle b).mem = b.mem := rfl
@[simp] theorem settle_slow (b : Block) : (settle b).slow = b.slow := rfl
@[simp] theorem settle_hbm (b : Block) : (settle b).hbm = b.hbm := rfl
@[simp] theorem settle_ras (b : Block) : (settle b).ras = b.ras := rfl
@[simp] theorem settle_rb (b : Block) : (settle b).rb = b.rb := rfl
@[simp] theorem settle_emith (b : Block) : (settle b).emith = b.emith := rfl
@[simp] theorem settle_hazel (b : Block) : (settle b).hazel = b.hazel := rfl
@[simp] theorem settle_wal (b : Block) : (settle b).wal = b.wal := rfl
@[simp] theorem settle_freeCount (b : Block) : (settle b).freeCount = b.freeCount := rfl

/-! ### noteReasons -/

@[simp] theorem Block.noteReasons_dt (b : Block) : (b.noteReasons).dt = b.dt := rfl
@[simp] theorem Block.noteReasons_od (b : Block) : (b.noteReasons).od = b.od := rfl
@[simp] theorem Block.noteReasons_odb (b : Block) : (b.noteReasons).odb = b.odb := rfl
@[simp] theorem Block.noteReasons_pins (b : Block) : (b.noteReasons).pins = b.pins := rfl
@[simp] theorem Block.noteReasons_sys (b : Block) : (b.noteReasons).sys = b.sys := rfl
@[simp] theorem Block.noteReasons_log (b : Block) : (b.noteReasons).log = b.log := rfl
@[simp] theorem Block.noteReasons_fatal (b : Block) : (b.noteReasons).fatal = b.fatal := rfl
@[simp] theorem Block.noteReasons_odp (b : Block) : (b.noteReasons).odp = b.odp := rfl
@[simp] theorem Block.noteReasons_cal (b : Block) : (b.noteReasons).cal = b.cal := rfl
@[simp] theorem Block.noteReasons_disp (b : Block) : (b.noteReasons).disp = b.disp := rfl
@[simp] theorem Block.noteReasons_plz (b : Block) : (b.noteReasons).plz = b.plz := rfl
@[simp] theorem Block.noteReasons_se (b : Block) : (b.noteReasons).se = b.se := rfl
@[simp] theorem Block.noteReasons_mem (b : Block) : (b.noteReasons).mem = b.mem := rfl
@[simp] theorem Block.noteReasons_slow (b : Block) : (b.noteReasons).slow = b.slow := rfl
@[simp] theorem Block.noteReasons_hbm (b : Block) : (b.noteReasons).hbm = b.hbm := rfl
@[simp] theorem Block.noteReasons_ras (b : Block) : (b.noteReasons).ras = b.ras := rfl
@[simp] theorem Block.noteReasons_rb (b : Block) : (b.noteReasons).rb = b.rb := rfl
@[simp] theorem Block.noteReasons_emith (b : Block) : (b.noteReasons).emith = b.emith := rfl
@[simp] theorem Block.noteReasons_hazel (b : Block) : (b.noteReasons).hazel = b.hazel := rfl
@[simp] theorem Block.noteReasons_wal (b : Block) : (b.noteReasons).wal = b.wal := rfl
@[simp] theorem Block.noteReasons_freeCount (b : Block) : (b.noteReasons).freeCount = b.freeCount := rfl

/-! ### moveCap -/

@[simp] theorem Block.moveCap_dt (b : Block) : (b.moveCap).dt = b.dt := rfl
@[simp] theorem Block.moveCap_od (b : Block) : (b.moveCap).od = b.od := rfl
@[simp] theorem Block.moveCap_odb (b : Block) : (b.moveCap).odb = b.odb := rfl
@[simp] theorem Block.moveCap_pins (b : Block) : (b.moveCap).pins = b.pins := rfl
@[simp] theorem Block.moveCap_sys (b : Block) : (b.moveCap).sys = b.sys := rfl
@[simp] theorem Block.moveCap_log (b : Block) : (b.moveCap).log = b.log := rfl
@[simp] theorem Block.moveCap_fatal (b : Block) : (b.moveCap).fatal = b.fatal := rfl
@[simp] theorem Block.moveCap_odp (b : Block) : (b.moveCap).odp = b.odp := rfl
@[simp] theorem Block.moveCap_cal (b : Block) : (b.moveCap).cal = b.cal := rfl
@[simp] theorem Block.moveCap_disp (b : Block) : (b.moveCap).disp = b.disp := rfl
@[simp] theorem Block.moveCap_plz (b : Block) : (b.moveCap).plz = b.plz := rfl
@[simp] theorem Block.moveCap_se (b : Block) : (b.moveCap).se = b.se := rfl
@[simp] theorem Block.moveCap_mem (b : Block) : (b.moveCap).mem = b.mem := rfl
@[simp] theorem Block.moveCap_slow (b : Block) : (b.moveCap).slow = b.slow := rfl
@[simp] theorem Block.moveCap_hbm (b : Block) : (b.moveCap).hbm = b.hbm := rfl
@[simp] theorem Block.moveCap_ras (b : Block) : (b.moveCap).ras = b.ras := rfl
@[simp] theorem Block.moveCap_rb (b : Block) : (b.moveCap).rb = b.rb := rfl
@[simp] theorem Block.moveCap_emith (b : Block) : (b.moveCap).emith = b.emith := rfl
@[simp] theorem Block.moveCap_hazel (b : Block) : (b.moveCap).hazel = b.hazel := rfl
@[simp] theorem Block.moveCap_wal (b : Block) : (b.moveCap).wal = b.wal := rfl
@[simp] theorem Block.moveCap_freeCount (b : Block) : (b.moveCap).freeCount = b.freeCount := rfl

/-! ### setHold -/

@[simp] theorem Block.setHold_dt (b : Block) (k : Nat) (h : Hold) : (b.setHold k h).dt = b.dt := rfl
@[simp] theorem Block.setHold_od (b : Block) (k : Nat) (h : Hold) : (b.setHold k h).od = b.od := rfl
@[simp] theorem Block.setHold_odb (b : Block) (k : Nat) (h : Hold) : (b.setHold k h).odb = b.odb := rfl
@[simp] theorem Block.setHold_pins (b : Block) (k : Nat) (h : Hold) : (b.setHold k h).pins = b.pins := rfl
@[simp] theorem Block.setHold_sys (b : Block) (k : Nat) (h : Hold) : (b.setHold k h).sys = b.sys := rfl
@[simp] theorem Block.setHold_log (b : Block) (k : Nat) (h : Hold) : (b.setHold k h).log = b.log := rfl
@[simp] theorem Block.setHold_fatal (b : Block) (k : Nat) (h : Hold) : (b.setHold k h).fatal = b.fatal := rfl
@[simp] theorem Block.setHold_odp (b : Block) (k : Nat) (h : Hold) : (b.setHold k h).odp = b.odp := rfl
@[simp] theorem Block.setHold_cal (b : Block) (k : Nat) (h : Hold) : (b.setHold k h).cal = b.cal := rfl
@[simp] theorem Block.setHold_gov (b : Block) (k : Nat) (h : Hold) : (b.setHold k h).gov = b.gov := rfl
@[simp] theorem Block.setHold_plz (b : Block) (k : Nat) (h : Hold) : (b.setHold k h).plz = b.plz := rfl
@[simp] theorem Block.setHold_se (b : Block) (k : Nat) (h : Hold) : (b.setHold k h).se = b.se := rfl
@[simp] theorem Block.setHold_mem (b : Block) (k : Nat) (h : Hold) : (b.setHold k h).mem = b.mem := rfl
@[simp] theorem Block.setHold_slow (b : Block) (k : Nat) (h : Hold) : (b.setHold k h).slow = b.slow := rfl
@[simp] theorem Block.setHold_hbm (b : Block) (k : Nat) (h : Hold) : (b.setHold k h).hbm = b.hbm := rfl
@[simp] theorem Block.setHold_ras (b : Block) (k : Nat) (h : Hold) : (b.setHold k h).ras = b.ras := rfl
@[simp] theorem Block.setHold_rb (b : Block) (k : Nat) (h : Hold) : (b.setHold k h).rb = b.rb := rfl
@[simp] theorem Block.setHold_emith (b : Block) (k : Nat) (h : Hold) : (b.setHold k h).emith = b.emith := rfl
@[simp] theorem Block.setHold_hazel (b : Block) (k : Nat) (h : Hold) : (b.setHold k h).hazel = b.hazel := rfl
@[simp] theorem Block.setHold_wal (b : Block) (k : Nat) (h : Hold) : (b.setHold k h).wal = b.wal := rfl
@[simp] theorem Block.setHold_freeCount (b : Block) (k : Nat) (h : Hold) : (b.setHold k h).freeCount = b.freeCount := rfl

/-! ### clearHold -/

@[simp] theorem Block.clearHold_dt (b : Block) (k : Nat) : (b.clearHold k).dt = b.dt := rfl
@[simp] theorem Block.clearHold_od (b : Block) (k : Nat) : (b.clearHold k).od = b.od := rfl
@[simp] theorem Block.clearHold_odb (b : Block) (k : Nat) : (b.clearHold k).odb = b.odb := rfl
@[simp] theorem Block.clearHold_pins (b : Block) (k : Nat) : (b.clearHold k).pins = b.pins := rfl
@[simp] theorem Block.clearHold_sys (b : Block) (k : Nat) : (b.clearHold k).sys = b.sys := rfl
@[simp] theorem Block.clearHold_log (b : Block) (k : Nat) : (b.clearHold k).log = b.log := rfl
@[simp] theorem Block.clearHold_fatal (b : Block) (k : Nat) : (b.clearHold k).fatal = b.fatal := rfl
@[simp] theorem Block.clearHold_odp (b : Block) (k : Nat) : (b.clearHold k).odp = b.odp := rfl
@[simp] theorem Block.clearHold_cal (b : Block) (k : Nat) : (b.clearHold k).cal = b.cal := rfl
@[simp] theorem Block.clearHold_gov (b : Block) (k : Nat) : (b.clearHold k).gov = b.gov := rfl
@[simp] theorem Block.clearHold_plz (b : Block) (k : Nat) : (b.clearHold k).plz = b.plz := rfl
@[simp] theorem Block.clearHold_se (b : Block) (k : Nat) : (b.clearHold k).se = b.se := rfl
@[simp] theorem Block.clearHold_mem (b : Block) (k : Nat) : (b.clearHold k).mem = b.mem := rfl
@[simp] theorem Block.clearHold_slow (b : Block) (k : Nat) : (b.clearHold k).slow = b.slow := rfl
@[simp] theorem Block.clearHold_hbm (b : Block) (k : Nat) : (b.clearHold k).hbm = b.hbm := rfl
@[simp] theorem Block.clearHold_ras (b : Block) (k : Nat) : (b.clearHold k).ras = b.ras := rfl
@[simp] theorem Block.clearHold_rb (b : Block) (k : Nat) : (b.clearHold k).rb = b.rb := rfl
@[simp] theorem Block.clearHold_emith (b : Block) (k : Nat) : (b.clearHold k).emith = b.emith := rfl
@[simp] theorem Block.clearHold_hazel (b : Block) (k : Nat) : (b.clearHold k).hazel = b.hazel := rfl
@[simp] theorem Block.clearHold_wal (b : Block) (k : Nat) : (b.clearHold k).wal = b.wal := rfl
@[simp] theorem Block.clearHold_freeCount (b : Block) (k : Nat) : (b.clearHold k).freeCount = b.freeCount := rfl

/-! ### ptpTo -/

@[simp] theorem Block.ptpTo_dt (b : Block) (p : Nat) : (b.ptpTo p).dt = b.dt := rfl
@[simp] theorem Block.ptpTo_od (b : Block) (p : Nat) : (b.ptpTo p).od = b.od := rfl
@[simp] theorem Block.ptpTo_odb (b : Block) (p : Nat) : (b.ptpTo p).odb = b.odb := rfl
@[simp] theorem Block.ptpTo_pins (b : Block) (p : Nat) : (b.ptpTo p).pins = b.pins := rfl
@[simp] theorem Block.ptpTo_sys (b : Block) (p : Nat) : (b.ptpTo p).sys = b.sys := rfl
@[simp] theorem Block.ptpTo_log (b : Block) (p : Nat) : (b.ptpTo p).log = b.log := rfl
@[simp] theorem Block.ptpTo_fatal (b : Block) (p : Nat) : (b.ptpTo p).fatal = b.fatal := rfl
@[simp] theorem Block.ptpTo_odp (b : Block) (p : Nat) : (b.ptpTo p).odp = b.odp := rfl
@[simp] theorem Block.ptpTo_gov (b : Block) (p : Nat) : (b.ptpTo p).gov = b.gov := rfl
@[simp] theorem Block.ptpTo_disp (b : Block) (p : Nat) : (b.ptpTo p).disp = b.disp := rfl
@[simp] theorem Block.ptpTo_plz (b : Block) (p : Nat) : (b.ptpTo p).plz = b.plz := rfl
@[simp] theorem Block.ptpTo_se (b : Block) (p : Nat) : (b.ptpTo p).se = b.se := rfl
@[simp] theorem Block.ptpTo_mem (b : Block) (p : Nat) : (b.ptpTo p).mem = b.mem := rfl
@[simp] theorem Block.ptpTo_slow (b : Block) (p : Nat) : (b.ptpTo p).slow = b.slow := rfl
@[simp] theorem Block.ptpTo_hbm (b : Block) (p : Nat) : (b.ptpTo p).hbm = b.hbm := rfl
@[simp] theorem Block.ptpTo_ras (b : Block) (p : Nat) : (b.ptpTo p).ras = b.ras := rfl
@[simp] theorem Block.ptpTo_rb (b : Block) (p : Nat) : (b.ptpTo p).rb = b.rb := rfl
@[simp] theorem Block.ptpTo_emith (b : Block) (p : Nat) : (b.ptpTo p).emith = b.emith := rfl
@[simp] theorem Block.ptpTo_hazel (b : Block) (p : Nat) : (b.ptpTo p).hazel = b.hazel := rfl
@[simp] theorem Block.ptpTo_wal (b : Block) (p : Nat) : (b.ptpTo p).wal = b.wal := rfl
@[simp] theorem Block.ptpTo_freeCount (b : Block) (p : Nat) : (b.ptpTo p).freeCount = b.freeCount := rfl

/-! ### setExch -/

@[simp] theorem Block.setExch_dt (b : Block) (e : Option PtpExchange) : (b.setExch e).dt = b.dt := rfl
@[simp] theorem Block.setExch_od (b : Block) (e : Option PtpExchange) : (b.setExch e).od = b.od := rfl
@[simp] theorem Block.setExch_odb (b : Block) (e : Option PtpExchange) : (b.setExch e).odb = b.odb := rfl
@[simp] theorem Block.setExch_pins (b : Block) (e : Option PtpExchange) : (b.setExch e).pins = b.pins := rfl
@[simp] theorem Block.setExch_sys (b : Block) (e : Option PtpExchange) : (b.setExch e).sys = b.sys := rfl
@[simp] theorem Block.setExch_log (b : Block) (e : Option PtpExchange) : (b.setExch e).log = b.log := rfl
@[simp] theorem Block.setExch_fatal (b : Block) (e : Option PtpExchange) : (b.setExch e).fatal = b.fatal := rfl
@[simp] theorem Block.setExch_odp (b : Block) (e : Option PtpExchange) : (b.setExch e).odp = b.odp := rfl
@[simp] theorem Block.setExch_gov (b : Block) (e : Option PtpExchange) : (b.setExch e).gov = b.gov := rfl
@[simp] theorem Block.setExch_disp (b : Block) (e : Option PtpExchange) : (b.setExch e).disp = b.disp := rfl
@[simp] theorem Block.setExch_plz (b : Block) (e : Option PtpExchange) : (b.setExch e).plz = b.plz := rfl
@[simp] theorem Block.setExch_se (b : Block) (e : Option PtpExchange) : (b.setExch e).se = b.se := rfl
@[simp] theorem Block.setExch_mem (b : Block) (e : Option PtpExchange) : (b.setExch e).mem = b.mem := rfl
@[simp] theorem Block.setExch_slow (b : Block) (e : Option PtpExchange) : (b.setExch e).slow = b.slow := rfl
@[simp] theorem Block.setExch_hbm (b : Block) (e : Option PtpExchange) : (b.setExch e).hbm = b.hbm := rfl
@[simp] theorem Block.setExch_ras (b : Block) (e : Option PtpExchange) : (b.setExch e).ras = b.ras := rfl
@[simp] theorem Block.setExch_rb (b : Block) (e : Option PtpExchange) : (b.setExch e).rb = b.rb := rfl
@[simp] theorem Block.setExch_emith (b : Block) (e : Option PtpExchange) : (b.setExch e).emith = b.emith := rfl
@[simp] theorem Block.setExch_hazel (b : Block) (e : Option PtpExchange) : (b.setExch e).hazel = b.hazel := rfl
@[simp] theorem Block.setExch_wal (b : Block) (e : Option PtpExchange) : (b.setExch e).wal = b.wal := rfl
@[simp] theorem Block.setExch_freeCount (b : Block) (e : Option PtpExchange) : (b.setExch e).freeCount = b.freeCount := rfl

end Sys2Proof.Machine
end

