-- ==== Sys2Proof/Laws/Registers.lean ====
section
/-! SUPPORT. The register file: what an entry reads as after each operation over it. -/

namespace Sys2Proof.Machine

theorem odKey_inj {i j m n : Nat} (hi : i < 65536) (hj : j < 65536) (h : odKey i m = odKey j n) : i = j ∧ m = n := by
  unfold odKey at h; omega

theorem odKey_ne {i j : Nat} (h : i ≠ j) (hi : i < 65536) (hj : j < 65536) (m n : Nat) : odKey i m ≠ odKey j n :=
  fun e => h (odKey_inj hi hj e).1

theorem odKey_mem_subKeys {i j n lo hi : Nat} (h : odKey i n ∈ subKeys j lo hi) (h1 : i < 65536) (h2 : j < 65536) : i = j := by
  obtain ⟨m, _, e⟩ := List.mem_map.mp h
  exact (odKey_inj h2 h1 e).1.symm

theorem Block.reg_eq_of_od {b c : Block} (h : c.od = b.od) (i k : Nat) : c.reg i k = b.reg i k := by
  unfold Block.reg; rw [h]

theorem Block.oct_eq_of_odb {b c : Block} (h : c.odb = b.odb) (i k : Nat) : c.oct i k = b.oct i k := by
  unfold Block.oct; rw [h]

theorem Block.reg_setReg_self (b : Block) (i k v : Nat) : (b.setReg i k v).reg i k = wrap (odWidth i k) v :=
  sget_sset_self ..

theorem Block.reg_setReg_ne (b : Block) {i k i' k' : Nat} (v : Nat) (h : odKey i' k' ≠ odKey i k) :
    (b.setReg i k v).reg i' k' = b.reg i' k' := sget_sset_ne _ _ _ _ h

theorem Block.oct_setOct_self (b : Block) (i k : Nat) (v : List Byte) : (b.setOct i k v).oct i k = v := sget_sset_self ..

theorem Block.oct_setOct_ne (b : Block) {i k i' k' : Nat} (v : List Byte) (h : odKey i' k' ≠ odKey i k) :
    (b.setOct i k v).oct i' k' = b.oct i' k' := sget_sset_ne _ _ _ _ h

theorem Block.reg_bump_self (b : Block) (i k n : Nat) : (b.bump i k n).reg i k = wrap (odWidth i k) (b.reg i k + n) :=
  b.reg_setReg_self ..

theorem Block.reg_bump_ne (b : Block) {i k i' k' : Nat} (n : Nat) (h : odKey i' k' ≠ odKey i k) :
    (b.bump i k n).reg i' k' = b.reg i' k' := b.reg_setReg_ne _ h

@[simp] theorem Block.oct_setReg (b : Block) (i k v i' k' : Nat) : (b.setReg i k v).oct i' k' = b.oct i' k' := rfl
@[simp] theorem Block.oct_bump (b : Block) (i k v i' k' : Nat) : (b.bump i k v).oct i' k' = b.oct i' k' := rfl
@[simp] theorem Block.oct_raise (b : Block) (c x : Nat) (a : List Byte) (i k : Nat) : (b.raise c x a).oct i k = b.oct i k := by
  unfold Block.raise; rfl
@[simp] theorem Block.reg_setOct (b : Block) (i k : Nat) (v : List Byte) (i' k' : Nat) :
    (b.setOct i k v).reg i' k' = b.reg i' k' := rfl
@[simp] theorem Block.reg_answer (b : Block) (st i k : Nat) : (b.answer st).reg i k = b.reg i k := rfl
@[simp] theorem Block.oct_answer (b : Block) (st i k : Nat) : (b.answer st).oct i k = b.oct i k := rfl
@[simp] theorem Block.reg_draw (b : Block) (i k : Nat) : b.draw.2.reg i k = b.reg i k := rfl
@[simp] theorem reg_settle (b : Block) (i k : Nat) : (settle b).reg i k = b.reg i k := rfl
@[simp] theorem oct_settle (b : Block) (i k : Nat) : (settle b).oct i k = b.oct i k := rfl

theorem Block.raise_od (b : Block) (c x : Nat) (a : List Byte) :
    (b.raise c x a).od = (b.bump Od.eventNextSeq 0 1).od := by
  unfold Block.raise Block.bump; rfl

theorem Block.reg_keepRegs (b : Block) (keep : Nat → Bool) (i k : Nat) :
    (b.keepRegs keep).reg i k = if keep (odKey i k) then b.reg i k else odDefault i k := sget_filter_key ..

theorem Block.oct_keepRegs (b : Block) (keep : Nat → Bool) (i k : Nat) :
    (b.keepRegs keep).oct i k = if keep (odKey i k) then b.oct i k else octDefault i k := sget_filter_key ..

theorem Block.reg_raise_ne (b : Block) (c x : Nat) (a : List Byte) {i k : Nat} (h : odKey i k ≠ odKey Od.eventNextSeq 0) :
    (b.raise c x a).reg i k = b.reg i k := by
  rw [Block.reg_eq_of_od (b.raise_od c x a), Block.reg_bump_ne _ _ h]

/-- An event advances EVENT_NEXT_SEQ (R516). -/
theorem Block.reg_raise_seq (b : Block) (c x : Nat) (a : List Byte) :
    (b.raise c x a).reg Od.eventNextSeq 0 = wrap (odWidth Od.eventNextSeq 0) (b.reg Od.eventNextSeq 0 + 1) := by
  rw [Block.reg_eq_of_od (b.raise_od c x a), Block.reg_bump_self]

theorem Block.raise_log (b : Block) (c x : Nat) (a : List Byte) :
    (b.raise c x a).log = lastN logDepth (b.log ++ [⟨b.reg Od.eventNextSeq 0, c, x, b.dt, a⟩]) := by
  simp only [Block.raise, Block.setReg_log, Block.setReg_dt]

/-- The record that an event writes is the newest of the log. -/
theorem Block.raise_last (b : Block) (c x : Nat) (a : List Byte) :
    (b.raise c x a).log.getLast? = some ⟨b.reg Od.eventNextSeq 0, c, x, b.dt, a⟩ := by
  rw [Block.raise_log, lastN, List.getLast?_drop]
  have : ¬ (b.log ++ [(⟨b.reg Od.eventNextSeq 0, c, x, b.dt, a⟩ : EventRec)]).length
      ≤ (b.log ++ [(⟨b.reg Od.eventNextSeq 0, c, x, b.dt, a⟩ : EventRec)]).length - logDepth := by
    simp [logDepth]
  rw [if_neg this]; simp

theorem goes_run {s : State} {f : Block → Block} {P : State → Prop} (h : P (s.run f)) : Goes (.next (s.run f)) P := ⟨_, rfl, h⟩

end Sys2Proof.Machine
end

