-- ==== Sys2Proof/Laws/Ops.lean ====
section
/-! SUPPORT. Operations that touch the register file and the logs only, and folds of them. -/

namespace Sys2Proof.Machine

/-! ### Folds -/

/-- What every round of a fold keeps, the fold keeps. -/
theorem foldl_keep {α β : Type} {f : Block → α → Block} (g : Block → β) (h : ∀ b x, g (f b x) = g b) (l : List α) (b : Block) :
    g (l.foldl f b) = g b := by
  induction l generalizing b with
  | nil => rfl
  | cons x r ih => rw [List.foldl_cons, ih, h]

/-- What every round of a fold has, the fold has. -/
theorem foldl_has {α : Type} {f : Block → α → Block} (p : Block → Prop) (h : ∀ b x, p b → p (f b x)) (l : List α) {b : Block} (hb : p b) :
    p (l.foldl f b) := by
  induction l generalizing b with
  | nil => exact hb
  | cons x r ih => exact ih (h b x hb)

/-! ### Blocks that differ in the register file and the logs only -/

/-- `c` differs from `b` in entries and logs only. -/
def RegLog (b c : Block) : Prop := c = { b with od := c.od, odb := c.odb, log := c.log, fatal := c.fatal }

theorem RegLog.refl (b : Block) : RegLog b b := rfl
theorem RegLog.trans {a b c : Block} (h : RegLog a b) (k : RegLog b c) : RegLog a c := by
  unfold RegLog at *; rw [k, h]
theorem RegLog.setReg (b : Block) (i k v : Nat) : RegLog b (b.setReg i k v) := rfl
theorem RegLog.setOct (b : Block) (i k : Nat) (v : List Byte) : RegLog b (b.setOct i k v) := rfl
theorem RegLog.raise (b : Block) (c x : Nat) (a : List Byte) : RegLog b (b.raise c x a) := by
  unfold RegLog; simp only [Block.raise]; rfl
/-- What an event changes: the register file and the logs. -/
theorem Block.raise_eq (b : Block) (c x : Nat) (a : List Byte) :
    b.raise c x a = { b with od := (b.raise c x a).od, log := (b.raise c x a).log, fatal := (b.raise c x a).fatal } := by
  have h := RegLog.raise b c x a
  unfold RegLog at h
  rw [Block.raise_odb] at h
  exact h
theorem RegLog.foldl {α : Type} {f : Block → α → Block} (h : ∀ b x, RegLog b (f b x)) (l : List α) (b : Block) : RegLog b (l.foldl f b) :=
  foldl_has (RegLog b) (fun _ x k => k.trans (h _ x)) l (RegLog.refl b)

theorem RegLog.dt {b c : Block} (h : RegLog b c) : c.dt = b.dt := by rw [h]
theorem RegLog.pins {b c : Block} (h : RegLog b c) : c.pins = b.pins := by rw [h]
theorem RegLog.sys {b c : Block} (h : RegLog b c) : c.sys = b.sys := by rw [h]
theorem RegLog.odp {b c : Block} (h : RegLog b c) : c.odp = b.odp := by rw [h]
theorem RegLog.cal {b c : Block} (h : RegLog b c) : c.cal = b.cal := by rw [h]
theorem RegLog.gov {b c : Block} (h : RegLog b c) : c.gov = b.gov := by rw [h]
theorem RegLog.disp {b c : Block} (h : RegLog b c) : c.disp = b.disp := by rw [h]
theorem RegLog.plz {b c : Block} (h : RegLog b c) : c.plz = b.plz := by rw [h]
theorem RegLog.se {b c : Block} (h : RegLog b c) : c.se = b.se := by rw [h]
theorem RegLog.mem {b c : Block} (h : RegLog b c) : c.mem = b.mem := by rw [h]
theorem RegLog.slow {b c : Block} (h : RegLog b c) : c.slow = b.slow := by rw [h]
theorem RegLog.hbm {b c : Block} (h : RegLog b c) : c.hbm = b.hbm := by rw [h]
theorem RegLog.ras {b c : Block} (h : RegLog b c) : c.ras = b.ras := by rw [h]
theorem RegLog.rb {b c : Block} (h : RegLog b c) : c.rb = b.rb := by rw [h]
theorem RegLog.emith {b c : Block} (h : RegLog b c) : c.emith = b.emith := by rw [h]
theorem RegLog.hazel {b c : Block} (h : RegLog b c) : c.hazel = b.hazel := by rw [h]
theorem RegLog.wal {b c : Block} (h : RegLog b c) : c.wal = b.wal := by rw [h]
theorem RegLog.freeCount {b c : Block} (h : RegLog b c) : c.freeCount = b.freeCount := by rw [h]

/-- `c` differs from `b` in number entries only. -/
def RegOnly (b c : Block) : Prop := c = { b with od := c.od }

theorem RegOnly.refl (b : Block) : RegOnly b b := rfl
theorem RegOnly.trans {a b c : Block} (h : RegOnly a b) (k : RegOnly b c) : RegOnly a c := by unfold RegOnly at *; rw [k, h]
theorem RegOnly.setReg (b : Block) (i k v : Nat) : RegOnly b (b.setReg i k v) := rfl
theorem RegOnly.foldl {α : Type} {f : Block → α → Block} (h : ∀ b x, RegOnly b (f b x)) (l : List α) (b : Block) : RegOnly b (l.foldl f b) :=
  foldl_has (RegOnly b) (fun _ x k => k.trans (h _ x)) l (RegOnly.refl b)
theorem RegOnly.regLog {b c : Block} (h : RegOnly b c) : RegLog b c := by unfold RegLog; unfold RegOnly at h; rw [h]
theorem RegOnly.odb {b c : Block} (h : RegOnly b c) : c.odb = b.odb := by unfold RegOnly at h; rw [h]
theorem RegOnly.log {b c : Block} (h : RegOnly b c) : c.log = b.log := by unfold RegOnly at h; rw [h]
theorem RegOnly.fatal {b c : Block} (h : RegOnly b c) : c.fatal = b.fatal := by unfold RegOnly at h; rw [h]

/-! ### Folds of register writes -/

/-- A fold that writes one value at several subindices. -/
theorem Block.reg_foldl_setReg (l : List Nat) (b : Block) (i v m : Nat) (g : Nat → Nat) (hg : ∀ n ∈ l, odKey i m = odKey i (g n) → m = g n) :
    (l.foldl (fun b n => b.setReg i (g n) v) b).reg i m = if ∃ n ∈ l, m = g n then wrap (odWidth i m) v else b.reg i m := by
  induction l generalizing b with
  | nil => simp
  | cons n r ih =>
    rw [List.foldl_cons, ih _ (fun x hx => hg x (List.mem_cons_of_mem _ hx))]
    by_cases h : ∃ x ∈ r, m = g x
    · rw [if_pos h, if_pos]; obtain ⟨x, hx, e⟩ := h; exact ⟨x, List.mem_cons_of_mem _ hx, e⟩
    · rw [if_neg h]
      by_cases e : m = g n
      · subst e; rw [if_pos ⟨n, List.mem_cons_self .., rfl⟩, Block.reg_setReg_self]
      · rw [if_neg, Block.reg_setReg_ne]
        · exact fun q => e (hg n (List.mem_cons_self ..) q)
        · rintro ⟨x, hx, q⟩
          rcases List.mem_cons.mp hx with rfl | hx
          · exact e q
          · exact h ⟨x, hx, q⟩

theorem Block.reg_foldl_keep {α : Type} {f : Block → α → Block} {i k : Nat} (h : ∀ b x, (f b x).reg i k = b.reg i k) (l : List α) (b : Block) :
    (l.foldl f b).reg i k = b.reg i k := foldl_keep (fun b => b.reg i k) h l b

theorem Block.onWrite_open {b : Block} (h : Writable b) (idx : Nat) (r : Bool) (f : Block → Block) : b.onWrite idx r f = f b := by
  obtain ⟨h1, h2, h3⟩ := h
  unfold Block.onWrite Block.serving
  rw [h1, h2]
  have h3 : (b.service == svcRetired) = false := by simpa using h3
  rw [h3]; rfl

/-- A write that the module refuses in Retired records WRITE_REFUSED and nothing else (R538). -/
theorem Block.onWrite_retired {b : Block} (h1 : b.sys.phase = .up) (h2 : b.walnutBusy = false) (h3 : b.service = svcRetired) {idx : Nat}
    (h4 : retiredWritable idx = false) (r : Bool) (f : Block → Block) : b.onWrite idx r f = b.answer stWriteRefused := by
  unfold Block.onWrite Block.serving
  rw [h1, h2, h3, h4]; rfl

end Sys2Proof.Machine
end

