-- ==== Sys2Proof/Laws/Frames.lean ====
section
/-! SUPPORT. Operations that differ from the block they take in entries and logs only, and what follows for each part of the block. -/

namespace Sys2Proof.Machine

theorem RegOnly.bump (b : Block) (i k n : Nat) : RegOnly b (b.bump i k n) := RegOnly.setReg b _ _ _
@[simp] theorem Block.bump_dt (b : Block) (i k n : Nat) : (b.bump i k n).dt = b.dt := (RegOnly.bump b i k n).regLog.dt
@[simp] theorem Block.bump_pins (b : Block) (i k n : Nat) : (b.bump i k n).pins = b.pins := (RegOnly.bump b i k n).regLog.pins
@[simp] theorem Block.bump_sys (b : Block) (i k n : Nat) : (b.bump i k n).sys = b.sys := (RegOnly.bump b i k n).regLog.sys
@[simp] theorem Block.bump_odp (b : Block) (i k n : Nat) : (b.bump i k n).odp = b.odp := (RegOnly.bump b i k n).regLog.odp
@[simp] theorem Block.bump_cal (b : Block) (i k n : Nat) : (b.bump i k n).cal = b.cal := (RegOnly.bump b i k n).regLog.cal
@[simp] theorem Block.bump_gov (b : Block) (i k n : Nat) : (b.bump i k n).gov = b.gov := (RegOnly.bump b i k n).regLog.gov
@[simp] theorem Block.bump_disp (b : Block) (i k n : Nat) : (b.bump i k n).disp = b.disp := (RegOnly.bump b i k n).regLog.disp
@[simp] theorem Block.bump_plz (b : Block) (i k n : Nat) : (b.bump i k n).plz = b.plz := (RegOnly.bump b i k n).regLog.plz
@[simp] theorem Block.bump_se (b : Block) (i k n : Nat) : (b.bump i k n).se = b.se := (RegOnly.bump b i k n).regLog.se
@[simp] theorem Block.bump_mem (b : Block) (i k n : Nat) : (b.bump i k n).mem = b.mem := (RegOnly.bump b i k n).regLog.mem
@[simp] theorem Block.bump_slow (b : Block) (i k n : Nat) : (b.bump i k n).slow = b.slow := (RegOnly.bump b i k n).regLog.slow
@[simp] theorem Block.bump_hbm (b : Block) (i k n : Nat) : (b.bump i k n).hbm = b.hbm := (RegOnly.bump b i k n).regLog.hbm
@[simp] theorem Block.bump_ras (b : Block) (i k n : Nat) : (b.bump i k n).ras = b.ras := (RegOnly.bump b i k n).regLog.ras
@[simp] theorem Block.bump_rb (b : Block) (i k n : Nat) : (b.bump i k n).rb = b.rb := (RegOnly.bump b i k n).regLog.rb
@[simp] theorem Block.bump_emith (b : Block) (i k n : Nat) : (b.bump i k n).emith = b.emith := (RegOnly.bump b i k n).regLog.emith
@[simp] theorem Block.bump_hazel (b : Block) (i k n : Nat) : (b.bump i k n).hazel = b.hazel := (RegOnly.bump b i k n).regLog.hazel
@[simp] theorem Block.bump_wal (b : Block) (i k n : Nat) : (b.bump i k n).wal = b.wal := (RegOnly.bump b i k n).regLog.wal
@[simp] theorem Block.bump_freeCount (b : Block) (i k n : Nat) : (b.bump i k n).freeCount = b.freeCount := (RegOnly.bump b i k n).regLog.freeCount
@[simp] theorem Block.bump_odb (b : Block) (i k n : Nat) : (b.bump i k n).odb = b.odb := (RegOnly.bump b i k n).odb
@[simp] theorem Block.bump_log (b : Block) (i k n : Nat) : (b.bump i k n).log = b.log := (RegOnly.bump b i k n).log
@[simp] theorem Block.bump_fatal (b : Block) (i k n : Nat) : (b.bump i k n).fatal = b.fatal := (RegOnly.bump b i k n).fatal

theorem RegOnly.setPlaza (b : Block) (p v : Nat) : RegOnly b (b.setPlaza p v) := RegOnly.setReg b _ _ _
@[simp] theorem Block.setPlaza_dt (b : Block) (p v : Nat) : (b.setPlaza p v).dt = b.dt := (RegOnly.setPlaza b p v).regLog.dt
@[simp] theorem Block.setPlaza_pins (b : Block) (p v : Nat) : (b.setPlaza p v).pins = b.pins := (RegOnly.setPlaza b p v).regLog.pins
@[simp] theorem Block.setPlaza_sys (b : Block) (p v : Nat) : (b.setPlaza p v).sys = b.sys := (RegOnly.setPlaza b p v).regLog.sys
@[simp] theorem Block.setPlaza_odp (b : Block) (p v : Nat) : (b.setPlaza p v).odp = b.odp := (RegOnly.setPlaza b p v).regLog.odp
@[simp] theorem Block.setPlaza_cal (b : Block) (p v : Nat) : (b.setPlaza p v).cal = b.cal := (RegOnly.setPlaza b p v).regLog.cal
@[simp] theorem Block.setPlaza_gov (b : Block) (p v : Nat) : (b.setPlaza p v).gov = b.gov := (RegOnly.setPlaza b p v).regLog.gov
@[simp] theorem Block.setPlaza_disp (b : Block) (p v : Nat) : (b.setPlaza p v).disp = b.disp := (RegOnly.setPlaza b p v).regLog.disp
@[simp] theorem Block.setPlaza_plz (b : Block) (p v : Nat) : (b.setPlaza p v).plz = b.plz := (RegOnly.setPlaza b p v).regLog.plz
@[simp] theorem Block.setPlaza_se (b : Block) (p v : Nat) : (b.setPlaza p v).se = b.se := (RegOnly.setPlaza b p v).regLog.se
@[simp] theorem Block.setPlaza_mem (b : Block) (p v : Nat) : (b.setPlaza p v).mem = b.mem := (RegOnly.setPlaza b p v).regLog.mem
@[simp] theorem Block.setPlaza_slow (b : Block) (p v : Nat) : (b.setPlaza p v).slow = b.slow := (RegOnly.setPlaza b p v).regLog.slow
@[simp] theorem Block.setPlaza_hbm (b : Block) (p v : Nat) : (b.setPlaza p v).hbm = b.hbm := (RegOnly.setPlaza b p v).regLog.hbm
@[simp] theorem Block.setPlaza_ras (b : Block) (p v : Nat) : (b.setPlaza p v).ras = b.ras := (RegOnly.setPlaza b p v).regLog.ras
@[simp] theorem Block.setPlaza_rb (b : Block) (p v : Nat) : (b.setPlaza p v).rb = b.rb := (RegOnly.setPlaza b p v).regLog.rb
@[simp] theorem Block.setPlaza_emith (b : Block) (p v : Nat) : (b.setPlaza p v).emith = b.emith := (RegOnly.setPlaza b p v).regLog.emith
@[simp] theorem Block.setPlaza_hazel (b : Block) (p v : Nat) : (b.setPlaza p v).hazel = b.hazel := (RegOnly.setPlaza b p v).regLog.hazel
@[simp] theorem Block.setPlaza_wal (b : Block) (p v : Nat) : (b.setPlaza p v).wal = b.wal := (RegOnly.setPlaza b p v).regLog.wal
@[simp] theorem Block.setPlaza_freeCount (b : Block) (p v : Nat) : (b.setPlaza p v).freeCount = b.freeCount := (RegOnly.setPlaza b p v).regLog.freeCount
@[simp] theorem Block.setPlaza_odb (b : Block) (p v : Nat) : (b.setPlaza p v).odb = b.odb := (RegOnly.setPlaza b p v).odb
@[simp] theorem Block.setPlaza_log (b : Block) (p v : Nat) : (b.setPlaza p v).log = b.log := (RegOnly.setPlaza b p v).log
@[simp] theorem Block.setPlaza_fatal (b : Block) (p v : Nat) : (b.setPlaza p v).fatal = b.fatal := (RegOnly.setPlaza b p v).fatal

theorem RegLog.milestone (b : Block) (i t : Nat) : RegLog b (b.milestone i t) := RegLog.setOct b _ _ _
@[simp] theorem Block.milestone_dt (b : Block) (i t : Nat) : (b.milestone i t).dt = b.dt := (RegLog.milestone b i t).dt
@[simp] theorem Block.milestone_pins (b : Block) (i t : Nat) : (b.milestone i t).pins = b.pins := (RegLog.milestone b i t).pins
@[simp] theorem Block.milestone_sys (b : Block) (i t : Nat) : (b.milestone i t).sys = b.sys := (RegLog.milestone b i t).sys
@[simp] theorem Block.milestone_odp (b : Block) (i t : Nat) : (b.milestone i t).odp = b.odp := (RegLog.milestone b i t).odp
@[simp] theorem Block.milestone_cal (b : Block) (i t : Nat) : (b.milestone i t).cal = b.cal := (RegLog.milestone b i t).cal
@[simp] theorem Block.milestone_gov (b : Block) (i t : Nat) : (b.milestone i t).gov = b.gov := (RegLog.milestone b i t).gov
@[simp] theorem Block.milestone_disp (b : Block) (i t : Nat) : (b.milestone i t).disp = b.disp := (RegLog.milestone b i t).disp
@[simp] theorem Block.milestone_plz (b : Block) (i t : Nat) : (b.milestone i t).plz = b.plz := (RegLog.milestone b i t).plz
@[simp] theorem Block.milestone_se (b : Block) (i t : Nat) : (b.milestone i t).se = b.se := (RegLog.milestone b i t).se
@[simp] theorem Block.milestone_mem (b : Block) (i t : Nat) : (b.milestone i t).mem = b.mem := (RegLog.milestone b i t).mem
@[simp] theorem Block.milestone_slow (b : Block) (i t : Nat) : (b.milestone i t).slow = b.slow := (RegLog.milestone b i t).slow
@[simp] theorem Block.milestone_hbm (b : Block) (i t : Nat) : (b.milestone i t).hbm = b.hbm := (RegLog.milestone b i t).hbm
@[simp] theorem Block.milestone_ras (b : Block) (i t : Nat) : (b.milestone i t).ras = b.ras := (RegLog.milestone b i t).ras
@[simp] theorem Block.milestone_rb (b : Block) (i t : Nat) : (b.milestone i t).rb = b.rb := (RegLog.milestone b i t).rb
@[simp] theorem Block.milestone_emith (b : Block) (i t : Nat) : (b.milestone i t).emith = b.emith := (RegLog.milestone b i t).emith
@[simp] theorem Block.milestone_hazel (b : Block) (i t : Nat) : (b.milestone i t).hazel = b.hazel := (RegLog.milestone b i t).hazel
@[simp] theorem Block.milestone_wal (b : Block) (i t : Nat) : (b.milestone i t).wal = b.wal := (RegLog.milestone b i t).wal
@[simp] theorem Block.milestone_freeCount (b : Block) (i t : Nat) : (b.milestone i t).freeCount = b.freeCount := (RegLog.milestone b i t).freeCount

theorem RegLog.enterPower (b : Block) (st : Nat) : RegLog b (b.enterPower st) := (RegLog.setReg b _ _ _).trans (RegLog.raise _ _ _ _)
@[simp] theorem Block.enterPower_dt (b : Block) (st : Nat) : (b.enterPower st).dt = b.dt := (RegLog.enterPower b st).dt
@[simp] theorem Block.enterPower_pins (b : Block) (st : Nat) : (b.enterPower st).pins = b.pins := (RegLog.enterPower b st).pins
@[simp] theorem Block.enterPower_sys (b : Block) (st : Nat) : (b.enterPower st).sys = b.sys := (RegLog.enterPower b st).sys
@[simp] theorem Block.enterPower_odp (b : Block) (st : Nat) : (b.enterPower st).odp = b.odp := (RegLog.enterPower b st).odp
@[simp] theorem Block.enterPower_cal (b : Block) (st : Nat) : (b.enterPower st).cal = b.cal := (RegLog.enterPower b st).cal
@[simp] theorem Block.enterPower_gov (b : Block) (st : Nat) : (b.enterPower st).gov = b.gov := (RegLog.enterPower b st).gov
@[simp] theorem Block.enterPower_disp (b : Block) (st : Nat) : (b.enterPower st).disp = b.disp := (RegLog.enterPower b st).disp
@[simp] theorem Block.enterPower_plz (b : Block) (st : Nat) : (b.enterPower st).plz = b.plz := (RegLog.enterPower b st).plz
@[simp] theorem Block.enterPower_se (b : Block) (st : Nat) : (b.enterPower st).se = b.se := (RegLog.enterPower b st).se
@[simp] theorem Block.enterPower_mem (b : Block) (st : Nat) : (b.enterPower st).mem = b.mem := (RegLog.enterPower b st).mem
@[simp] theorem Block.enterPower_slow (b : Block) (st : Nat) : (b.enterPower st).slow = b.slow := (RegLog.enterPower b st).slow
@[simp] theorem Block.enterPower_hbm (b : Block) (st : Nat) : (b.enterPower st).hbm = b.hbm := (RegLog.enterPower b st).hbm
@[simp] theorem Block.enterPower_ras (b : Block) (st : Nat) : (b.enterPower st).ras = b.ras := (RegLog.enterPower b st).ras
@[simp] theorem Block.enterPower_rb (b : Block) (st : Nat) : (b.enterPower st).rb = b.rb := (RegLog.enterPower b st).rb
@[simp] theorem Block.enterPower_emith (b : Block) (st : Nat) : (b.enterPower st).emith = b.emith := (RegLog.enterPower b st).emith
@[simp] theorem Block.enterPower_hazel (b : Block) (st : Nat) : (b.enterPower st).hazel = b.hazel := (RegLog.enterPower b st).hazel
@[simp] theorem Block.enterPower_wal (b : Block) (st : Nat) : (b.enterPower st).wal = b.wal := (RegLog.enterPower b st).wal
@[simp] theorem Block.enterPower_freeCount (b : Block) (st : Nat) : (b.enterPower st).freeCount = b.freeCount := (RegLog.enterPower b st).freeCount

theorem RegLog.lastReset (b : Block) (x y z : Nat) : RegLog b (b.lastReset x y z) := RegLog.setOct b _ _ _
@[simp] theorem Block.lastReset_dt (b : Block) (x y z : Nat) : (b.lastReset x y z).dt = b.dt := (RegLog.lastReset b x y z).dt
@[simp] theorem Block.lastReset_pins (b : Block) (x y z : Nat) : (b.lastReset x y z).pins = b.pins := (RegLog.lastReset b x y z).pins
@[simp] theorem Block.lastReset_sys (b : Block) (x y z : Nat) : (b.lastReset x y z).sys = b.sys := (RegLog.lastReset b x y z).sys
@[simp] theorem Block.lastReset_odp (b : Block) (x y z : Nat) : (b.lastReset x y z).odp = b.odp := (RegLog.lastReset b x y z).odp
@[simp] theorem Block.lastReset_cal (b : Block) (x y z : Nat) : (b.lastReset x y z).cal = b.cal := (RegLog.lastReset b x y z).cal
@[simp] theorem Block.lastReset_gov (b : Block) (x y z : Nat) : (b.lastReset x y z).gov = b.gov := (RegLog.lastReset b x y z).gov
@[simp] theorem Block.lastReset_disp (b : Block) (x y z : Nat) : (b.lastReset x y z).disp = b.disp := (RegLog.lastReset b x y z).disp
@[simp] theorem Block.lastReset_plz (b : Block) (x y z : Nat) : (b.lastReset x y z).plz = b.plz := (RegLog.lastReset b x y z).plz
@[simp] theorem Block.lastReset_se (b : Block) (x y z : Nat) : (b.lastReset x y z).se = b.se := (RegLog.lastReset b x y z).se
@[simp] theorem Block.lastReset_mem (b : Block) (x y z : Nat) : (b.lastReset x y z).mem = b.mem := (RegLog.lastReset b x y z).mem
@[simp] theorem Block.lastReset_slow (b : Block) (x y z : Nat) : (b.lastReset x y z).slow = b.slow := (RegLog.lastReset b x y z).slow
@[simp] theorem Block.lastReset_hbm (b : Block) (x y z : Nat) : (b.lastReset x y z).hbm = b.hbm := (RegLog.lastReset b x y z).hbm
@[simp] theorem Block.lastReset_ras (b : Block) (x y z : Nat) : (b.lastReset x y z).ras = b.ras := (RegLog.lastReset b x y z).ras
@[simp] theorem Block.lastReset_rb (b : Block) (x y z : Nat) : (b.lastReset x y z).rb = b.rb := (RegLog.lastReset b x y z).rb
@[simp] theorem Block.lastReset_emith (b : Block) (x y z : Nat) : (b.lastReset x y z).emith = b.emith := (RegLog.lastReset b x y z).emith
@[simp] theorem Block.lastReset_hazel (b : Block) (x y z : Nat) : (b.lastReset x y z).hazel = b.hazel := (RegLog.lastReset b x y z).hazel
@[simp] theorem Block.lastReset_wal (b : Block) (x y z : Nat) : (b.lastReset x y z).wal = b.wal := (RegLog.lastReset b x y z).wal
@[simp] theorem Block.lastReset_freeCount (b : Block) (x y z : Nat) : (b.lastReset x y z).freeCount = b.freeCount := (RegLog.lastReset b x y z).freeCount

theorem RegLog.resetDone (b : Block) (x y z : Nat) : RegLog b (b.resetDone x y z) := (RegLog.setOct b _ _ _).trans (RegLog.raise _ _ _ _)
@[simp] theorem Block.resetDone_dt (b : Block) (x y z : Nat) : (b.resetDone x y z).dt = b.dt := (RegLog.resetDone b x y z).dt
@[simp] theorem Block.resetDone_pins (b : Block) (x y z : Nat) : (b.resetDone x y z).pins = b.pins := (RegLog.resetDone b x y z).pins
@[simp] theorem Block.resetDone_sys (b : Block) (x y z : Nat) : (b.resetDone x y z).sys = b.sys := (RegLog.resetDone b x y z).sys
@[simp] theorem Block.resetDone_odp (b : Block) (x y z : Nat) : (b.resetDone x y z).odp = b.odp := (RegLog.resetDone b x y z).odp
@[simp] theorem Block.resetDone_cal (b : Block) (x y z : Nat) : (b.resetDone x y z).cal = b.cal := (RegLog.resetDone b x y z).cal
@[simp] theorem Block.resetDone_gov (b : Block) (x y z : Nat) : (b.resetDone x y z).gov = b.gov := (RegLog.resetDone b x y z).gov
@[simp] theorem Block.resetDone_disp (b : Block) (x y z : Nat) : (b.resetDone x y z).disp = b.disp := (RegLog.resetDone b x y z).disp
@[simp] theorem Block.resetDone_plz (b : Block) (x y z : Nat) : (b.resetDone x y z).plz = b.plz := (RegLog.resetDone b x y z).plz
@[simp] theorem Block.resetDone_se (b : Block) (x y z : Nat) : (b.resetDone x y z).se = b.se := (RegLog.resetDone b x y z).se
@[simp] theorem Block.resetDone_mem (b : Block) (x y z : Nat) : (b.resetDone x y z).mem = b.mem := (RegLog.resetDone b x y z).mem
@[simp] theorem Block.resetDone_slow (b : Block) (x y z : Nat) : (b.resetDone x y z).slow = b.slow := (RegLog.resetDone b x y z).slow
@[simp] theorem Block.resetDone_hbm (b : Block) (x y z : Nat) : (b.resetDone x y z).hbm = b.hbm := (RegLog.resetDone b x y z).hbm
@[simp] theorem Block.resetDone_ras (b : Block) (x y z : Nat) : (b.resetDone x y z).ras = b.ras := (RegLog.resetDone b x y z).ras
@[simp] theorem Block.resetDone_rb (b : Block) (x y z : Nat) : (b.resetDone x y z).rb = b.rb := (RegLog.resetDone b x y z).rb
@[simp] theorem Block.resetDone_emith (b : Block) (x y z : Nat) : (b.resetDone x y z).emith = b.emith := (RegLog.resetDone b x y z).emith
@[simp] theorem Block.resetDone_hazel (b : Block) (x y z : Nat) : (b.resetDone x y z).hazel = b.hazel := (RegLog.resetDone b x y z).hazel
@[simp] theorem Block.resetDone_wal (b : Block) (x y z : Nat) : (b.resetDone x y z).wal = b.wal := (RegLog.resetDone b x y z).wal
@[simp] theorem Block.resetDone_freeCount (b : Block) (x y z : Nat) : (b.resetDone x y z).freeCount = b.freeCount := (RegLog.resetDone b x y z).freeCount

theorem RegOnly.memoryState (b : Block) (x y : Nat) : RegOnly b (b.memoryState x y) := by
  have h := RegOnly.foldl (f := fun (b : Block) k => if b.stackState k = stLost then b else b.setReg Od.hbmStackState (k + 1) x)
    (fun b k => by split; exacts [RegOnly.refl b, RegOnly.setReg b _ _ _]) (List.range 8) b
  unfold Block.memoryState
  dsimp only
  split
  · exact h
  · exact h.trans (RegOnly.setReg _ _ _ _)
@[simp] theorem Block.memoryState_dt (b : Block) (x y : Nat) : (b.memoryState x y).dt = b.dt := (RegOnly.memoryState b x y).regLog.dt
@[simp] theorem Block.memoryState_pins (b : Block) (x y : Nat) : (b.memoryState x y).pins = b.pins := (RegOnly.memoryState b x y).regLog.pins
@[simp] theorem Block.memoryState_sys (b : Block) (x y : Nat) : (b.memoryState x y).sys = b.sys := (RegOnly.memoryState b x y).regLog.sys
@[simp] theorem Block.memoryState_odp (b : Block) (x y : Nat) : (b.memoryState x y).odp = b.odp := (RegOnly.memoryState b x y).regLog.odp
@[simp] theorem Block.memoryState_cal (b : Block) (x y : Nat) : (b.memoryState x y).cal = b.cal := (RegOnly.memoryState b x y).regLog.cal
@[simp] theorem Block.memoryState_gov (b : Block) (x y : Nat) : (b.memoryState x y).gov = b.gov := (RegOnly.memoryState b x y).regLog.gov
@[simp] theorem Block.memoryState_disp (b : Block) (x y : Nat) : (b.memoryState x y).disp = b.disp := (RegOnly.memoryState b x y).regLog.disp
@[simp] theorem Block.memoryState_plz (b : Block) (x y : Nat) : (b.memoryState x y).plz = b.plz := (RegOnly.memoryState b x y).regLog.plz
@[simp] theorem Block.memoryState_se (b : Block) (x y : Nat) : (b.memoryState x y).se = b.se := (RegOnly.memoryState b x y).regLog.se
@[simp] theorem Block.memoryState_mem (b : Block) (x y : Nat) : (b.memoryState x y).mem = b.mem := (RegOnly.memoryState b x y).regLog.mem
@[simp] theorem Block.memoryState_slow (b : Block) (x y : Nat) : (b.memoryState x y).slow = b.slow := (RegOnly.memoryState b x y).regLog.slow
@[simp] theorem Block.memoryState_hbm (b : Block) (x y : Nat) : (b.memoryState x y).hbm = b.hbm := (RegOnly.memoryState b x y).regLog.hbm
@[simp] theorem Block.memoryState_ras (b : Block) (x y : Nat) : (b.memoryState x y).ras = b.ras := (RegOnly.memoryState b x y).regLog.ras
@[simp] theorem Block.memoryState_rb (b : Block) (x y : Nat) : (b.memoryState x y).rb = b.rb := (RegOnly.memoryState b x y).regLog.rb
@[simp] theorem Block.memoryState_emith (b : Block) (x y : Nat) : (b.memoryState x y).emith = b.emith := (RegOnly.memoryState b x y).regLog.emith
@[simp] theorem Block.memoryState_hazel (b : Block) (x y : Nat) : (b.memoryState x y).hazel = b.hazel := (RegOnly.memoryState b x y).regLog.hazel
@[simp] theorem Block.memoryState_wal (b : Block) (x y : Nat) : (b.memoryState x y).wal = b.wal := (RegOnly.memoryState b x y).regLog.wal
@[simp] theorem Block.memoryState_freeCount (b : Block) (x y : Nat) : (b.memoryState x y).freeCount = b.freeCount := (RegOnly.memoryState b x y).regLog.freeCount
@[simp] theorem Block.memoryState_odb (b : Block) (x y : Nat) : (b.memoryState x y).odb = b.odb := (RegOnly.memoryState b x y).odb
@[simp] theorem Block.memoryState_log (b : Block) (x y : Nat) : (b.memoryState x y).log = b.log := (RegOnly.memoryState b x y).log
@[simp] theorem Block.memoryState_fatal (b : Block) (x y : Nat) : (b.memoryState x y).fatal = b.fatal := (RegOnly.memoryState b x y).fatal

theorem RegOnly.portRegs (b : Block) : RegOnly b (b.portRegs) := (RegOnly.foldl (fun b _ => RegOnly.setReg b _ _ _) _ b).trans (RegOnly.foldl (fun b _ => RegOnly.setReg b _ _ _) _ _)
@[simp] theorem Block.portRegs_dt (b : Block) : (b.portRegs).dt = b.dt := (RegOnly.portRegs b).regLog.dt
@[simp] theorem Block.portRegs_pins (b : Block) : (b.portRegs).pins = b.pins := (RegOnly.portRegs b).regLog.pins
@[simp] theorem Block.portRegs_sys (b : Block) : (b.portRegs).sys = b.sys := (RegOnly.portRegs b).regLog.sys
@[simp] theorem Block.portRegs_odp (b : Block) : (b.portRegs).odp = b.odp := (RegOnly.portRegs b).regLog.odp
@[simp] theorem Block.portRegs_cal (b : Block) : (b.portRegs).cal = b.cal := (RegOnly.portRegs b).regLog.cal
@[simp] theorem Block.portRegs_gov (b : Block) : (b.portRegs).gov = b.gov := (RegOnly.portRegs b).regLog.gov
@[simp] theorem Block.portRegs_disp (b : Block) : (b.portRegs).disp = b.disp := (RegOnly.portRegs b).regLog.disp
@[simp] theorem Block.portRegs_plz (b : Block) : (b.portRegs).plz = b.plz := (RegOnly.portRegs b).regLog.plz
@[simp] theorem Block.portRegs_se (b : Block) : (b.portRegs).se = b.se := (RegOnly.portRegs b).regLog.se
@[simp] theorem Block.portRegs_mem (b : Block) : (b.portRegs).mem = b.mem := (RegOnly.portRegs b).regLog.mem
@[simp] theorem Block.portRegs_slow (b : Block) : (b.portRegs).slow = b.slow := (RegOnly.portRegs b).regLog.slow
@[simp] theorem Block.portRegs_hbm (b : Block) : (b.portRegs).hbm = b.hbm := (RegOnly.portRegs b).regLog.hbm
@[simp] theorem Block.portRegs_ras (b : Block) : (b.portRegs).ras = b.ras := (RegOnly.portRegs b).regLog.ras
@[simp] theorem Block.portRegs_rb (b : Block) : (b.portRegs).rb = b.rb := (RegOnly.portRegs b).regLog.rb
@[simp] theorem Block.portRegs_emith (b : Block) : (b.portRegs).emith = b.emith := (RegOnly.portRegs b).regLog.emith
@[simp] theorem Block.portRegs_hazel (b : Block) : (b.portRegs).hazel = b.hazel := (RegOnly.portRegs b).regLog.hazel
@[simp] theorem Block.portRegs_wal (b : Block) : (b.portRegs).wal = b.wal := (RegOnly.portRegs b).regLog.wal
@[simp] theorem Block.portRegs_freeCount (b : Block) : (b.portRegs).freeCount = b.freeCount := (RegOnly.portRegs b).regLog.freeCount
@[simp] theorem Block.portRegs_odb (b : Block) : (b.portRegs).odb = b.odb := (RegOnly.portRegs b).odb
@[simp] theorem Block.portRegs_log (b : Block) : (b.portRegs).log = b.log := (RegOnly.portRegs b).log
@[simp] theorem Block.portRegs_fatal (b : Block) : (b.portRegs).fatal = b.fatal := (RegOnly.portRegs b).fatal

theorem RegOnly.plazasOff (b : Block) : RegOnly b (b.plazasOff) := RegOnly.foldl (fun b p => by split; exacts [RegOnly.refl b, RegOnly.setReg b _ _ _]) _ b
@[simp] theorem Block.plazasOff_dt (b : Block) : (b.plazasOff).dt = b.dt := (RegOnly.plazasOff b).regLog.dt
@[simp] theorem Block.plazasOff_pins (b : Block) : (b.plazasOff).pins = b.pins := (RegOnly.plazasOff b).regLog.pins
@[simp] theorem Block.plazasOff_sys (b : Block) : (b.plazasOff).sys = b.sys := (RegOnly.plazasOff b).regLog.sys
@[simp] theorem Block.plazasOff_odp (b : Block) : (b.plazasOff).odp = b.odp := (RegOnly.plazasOff b).regLog.odp
@[simp] theorem Block.plazasOff_cal (b : Block) : (b.plazasOff).cal = b.cal := (RegOnly.plazasOff b).regLog.cal
@[simp] theorem Block.plazasOff_gov (b : Block) : (b.plazasOff).gov = b.gov := (RegOnly.plazasOff b).regLog.gov
@[simp] theorem Block.plazasOff_disp (b : Block) : (b.plazasOff).disp = b.disp := (RegOnly.plazasOff b).regLog.disp
@[simp] theorem Block.plazasOff_plz (b : Block) : (b.plazasOff).plz = b.plz := (RegOnly.plazasOff b).regLog.plz
@[simp] theorem Block.plazasOff_se (b : Block) : (b.plazasOff).se = b.se := (RegOnly.plazasOff b).regLog.se
@[simp] theorem Block.plazasOff_mem (b : Block) : (b.plazasOff).mem = b.mem := (RegOnly.plazasOff b).regLog.mem
@[simp] theorem Block.plazasOff_slow (b : Block) : (b.plazasOff).slow = b.slow := (RegOnly.plazasOff b).regLog.slow
@[simp] theorem Block.plazasOff_hbm (b : Block) : (b.plazasOff).hbm = b.hbm := (RegOnly.plazasOff b).regLog.hbm
@[simp] theorem Block.plazasOff_ras (b : Block) : (b.plazasOff).ras = b.ras := (RegOnly.plazasOff b).regLog.ras
@[simp] theorem Block.plazasOff_rb (b : Block) : (b.plazasOff).rb = b.rb := (RegOnly.plazasOff b).regLog.rb
@[simp] theorem Block.plazasOff_emith (b : Block) : (b.plazasOff).emith = b.emith := (RegOnly.plazasOff b).regLog.emith
@[simp] theorem Block.plazasOff_hazel (b : Block) : (b.plazasOff).hazel = b.hazel := (RegOnly.plazasOff b).regLog.hazel
@[simp] theorem Block.plazasOff_wal (b : Block) : (b.plazasOff).wal = b.wal := (RegOnly.plazasOff b).regLog.wal
@[simp] theorem Block.plazasOff_freeCount (b : Block) : (b.plazasOff).freeCount = b.freeCount := (RegOnly.plazasOff b).regLog.freeCount
@[simp] theorem Block.plazasOff_odb (b : Block) : (b.plazasOff).odb = b.odb := (RegOnly.plazasOff b).odb
@[simp] theorem Block.plazasOff_log (b : Block) : (b.plazasOff).log = b.log := (RegOnly.plazasOff b).log
@[simp] theorem Block.plazasOff_fatal (b : Block) : (b.plazasOff).fatal = b.fatal := (RegOnly.plazasOff b).fatal

theorem RegOnly.markRetired (b : Block) : RegOnly b (b.markRetired) := RegOnly.foldl (fun b p => by split; exacts [RegOnly.setReg b _ _ _, RegOnly.refl b]) _ b
@[simp] theorem Block.markRetired_dt (b : Block) : (b.markRetired).dt = b.dt := (RegOnly.markRetired b).regLog.dt
@[simp] theorem Block.markRetired_pins (b : Block) : (b.markRetired).pins = b.pins := (RegOnly.markRetired b).regLog.pins
@[simp] theorem Block.markRetired_sys (b : Block) : (b.markRetired).sys = b.sys := (RegOnly.markRetired b).regLog.sys
@[simp] theorem Block.markRetired_odp (b : Block) : (b.markRetired).odp = b.odp := (RegOnly.markRetired b).regLog.odp
@[simp] theorem Block.markRetired_cal (b : Block) : (b.markRetired).cal = b.cal := (RegOnly.markRetired b).regLog.cal
@[simp] theorem Block.markRetired_gov (b : Block) : (b.markRetired).gov = b.gov := (RegOnly.markRetired b).regLog.gov
@[simp] theorem Block.markRetired_disp (b : Block) : (b.markRetired).disp = b.disp := (RegOnly.markRetired b).regLog.disp
@[simp] theorem Block.markRetired_plz (b : Block) : (b.markRetired).plz = b.plz := (RegOnly.markRetired b).regLog.plz
@[simp] theorem Block.markRetired_se (b : Block) : (b.markRetired).se = b.se := (RegOnly.markRetired b).regLog.se
@[simp] theorem Block.markRetired_mem (b : Block) : (b.markRetired).mem = b.mem := (RegOnly.markRetired b).regLog.mem
@[simp] theorem Block.markRetired_slow (b : Block) : (b.markRetired).slow = b.slow := (RegOnly.markRetired b).regLog.slow
@[simp] theorem Block.markRetired_hbm (b : Block) : (b.markRetired).hbm = b.hbm := (RegOnly.markRetired b).regLog.hbm
@[simp] theorem Block.markRetired_ras (b : Block) : (b.markRetired).ras = b.ras := (RegOnly.markRetired b).regLog.ras
@[simp] theorem Block.markRetired_rb (b : Block) : (b.markRetired).rb = b.rb := (RegOnly.markRetired b).regLog.rb
@[simp] theorem Block.markRetired_emith (b : Block) : (b.markRetired).emith = b.emith := (RegOnly.markRetired b).regLog.emith
@[simp] theorem Block.markRetired_hazel (b : Block) : (b.markRetired).hazel = b.hazel := (RegOnly.markRetired b).regLog.hazel
@[simp] theorem Block.markRetired_wal (b : Block) : (b.markRetired).wal = b.wal := (RegOnly.markRetired b).regLog.wal
@[simp] theorem Block.markRetired_freeCount (b : Block) : (b.markRetired).freeCount = b.freeCount := (RegOnly.markRetired b).regLog.freeCount
@[simp] theorem Block.markRetired_odb (b : Block) : (b.markRetired).odb = b.odb := (RegOnly.markRetired b).odb
@[simp] theorem Block.markRetired_log (b : Block) : (b.markRetired).log = b.log := (RegOnly.markRetired b).log
@[simp] theorem Block.markRetired_fatal (b : Block) : (b.markRetired).fatal = b.fatal := (RegOnly.markRetired b).fatal

theorem RegOnly.defaultSubs (b : Block) (xs ys : List Nat) : RegOnly b (b.defaultSubs xs ys) := RegOnly.foldl (fun b _ => RegOnly.foldl (fun b _ => RegOnly.setReg b _ _ _) _ b) _ b
@[simp] theorem Block.defaultSubs_dt (b : Block) (xs ys : List Nat) : (b.defaultSubs xs ys).dt = b.dt := (RegOnly.defaultSubs b xs ys).regLog.dt
@[simp] theorem Block.defaultSubs_pins (b : Block) (xs ys : List Nat) : (b.defaultSubs xs ys).pins = b.pins := (RegOnly.defaultSubs b xs ys).regLog.pins
@[simp] theorem Block.defaultSubs_sys (b : Block) (xs ys : List Nat) : (b.defaultSubs xs ys).sys = b.sys := (RegOnly.defaultSubs b xs ys).regLog.sys
@[simp] theorem Block.defaultSubs_odp (b : Block) (xs ys : List Nat) : (b.defaultSubs xs ys).odp = b.odp := (RegOnly.defaultSubs b xs ys).regLog.odp
@[simp] theorem Block.defaultSubs_cal (b : Block) (xs ys : List Nat) : (b.defaultSubs xs ys).cal = b.cal := (RegOnly.defaultSubs b xs ys).regLog.cal
@[simp] theorem Block.defaultSubs_gov (b : Block) (xs ys : List Nat) : (b.defaultSubs xs ys).gov = b.gov := (RegOnly.defaultSubs b xs ys).regLog.gov
@[simp] theorem Block.defaultSubs_disp (b : Block) (xs ys : List Nat) : (b.defaultSubs xs ys).disp = b.disp := (RegOnly.defaultSubs b xs ys).regLog.disp
@[simp] theorem Block.defaultSubs_plz (b : Block) (xs ys : List Nat) : (b.defaultSubs xs ys).plz = b.plz := (RegOnly.defaultSubs b xs ys).regLog.plz
@[simp] theorem Block.defaultSubs_se (b : Block) (xs ys : List Nat) : (b.defaultSubs xs ys).se = b.se := (RegOnly.defaultSubs b xs ys).regLog.se
@[simp] theorem Block.defaultSubs_mem (b : Block) (xs ys : List Nat) : (b.defaultSubs xs ys).mem = b.mem := (RegOnly.defaultSubs b xs ys).regLog.mem
@[simp] theorem Block.defaultSubs_slow (b : Block) (xs ys : List Nat) : (b.defaultSubs xs ys).slow = b.slow := (RegOnly.defaultSubs b xs ys).regLog.slow
@[simp] theorem Block.defaultSubs_hbm (b : Block) (xs ys : List Nat) : (b.defaultSubs xs ys).hbm = b.hbm := (RegOnly.defaultSubs b xs ys).regLog.hbm
@[simp] theorem Block.defaultSubs_ras (b : Block) (xs ys : List Nat) : (b.defaultSubs xs ys).ras = b.ras := (RegOnly.defaultSubs b xs ys).regLog.ras
@[simp] theorem Block.defaultSubs_rb (b : Block) (xs ys : List Nat) : (b.defaultSubs xs ys).rb = b.rb := (RegOnly.defaultSubs b xs ys).regLog.rb
@[simp] theorem Block.defaultSubs_emith (b : Block) (xs ys : List Nat) : (b.defaultSubs xs ys).emith = b.emith := (RegOnly.defaultSubs b xs ys).regLog.emith
@[simp] theorem Block.defaultSubs_hazel (b : Block) (xs ys : List Nat) : (b.defaultSubs xs ys).hazel = b.hazel := (RegOnly.defaultSubs b xs ys).regLog.hazel
@[simp] theorem Block.defaultSubs_wal (b : Block) (xs ys : List Nat) : (b.defaultSubs xs ys).wal = b.wal := (RegOnly.defaultSubs b xs ys).regLog.wal
@[simp] theorem Block.defaultSubs_freeCount (b : Block) (xs ys : List Nat) : (b.defaultSubs xs ys).freeCount = b.freeCount := (RegOnly.defaultSubs b xs ys).regLog.freeCount
@[simp] theorem Block.defaultSubs_odb (b : Block) (xs ys : List Nat) : (b.defaultSubs xs ys).odb = b.odb := (RegOnly.defaultSubs b xs ys).odb
@[simp] theorem Block.defaultSubs_log (b : Block) (xs ys : List Nat) : (b.defaultSubs xs ys).log = b.log := (RegOnly.defaultSubs b xs ys).log
@[simp] theorem Block.defaultSubs_fatal (b : Block) (xs ys : List Nat) : (b.defaultSubs xs ys).fatal = b.fatal := (RegOnly.defaultSubs b xs ys).fatal

theorem RegOnly.loadStraps (b : Block) (i : BootInputs) : RegOnly b (b.loadStraps i) := RegOnly.refl _
@[simp] theorem Block.loadStraps_dt (b : Block) (i : BootInputs) : (b.loadStraps i).dt = b.dt := (RegOnly.loadStraps b i).regLog.dt
@[simp] theorem Block.loadStraps_pins (b : Block) (i : BootInputs) : (b.loadStraps i).pins = b.pins := (RegOnly.loadStraps b i).regLog.pins
@[simp] theorem Block.loadStraps_sys (b : Block) (i : BootInputs) : (b.loadStraps i).sys = b.sys := (RegOnly.loadStraps b i).regLog.sys
@[simp] theorem Block.loadStraps_odp (b : Block) (i : BootInputs) : (b.loadStraps i).odp = b.odp := (RegOnly.loadStraps b i).regLog.odp
@[simp] theorem Block.loadStraps_cal (b : Block) (i : BootInputs) : (b.loadStraps i).cal = b.cal := (RegOnly.loadStraps b i).regLog.cal
@[simp] theorem Block.loadStraps_gov (b : Block) (i : BootInputs) : (b.loadStraps i).gov = b.gov := (RegOnly.loadStraps b i).regLog.gov
@[simp] theorem Block.loadStraps_disp (b : Block) (i : BootInputs) : (b.loadStraps i).disp = b.disp := (RegOnly.loadStraps b i).regLog.disp
@[simp] theorem Block.loadStraps_plz (b : Block) (i : BootInputs) : (b.loadStraps i).plz = b.plz := (RegOnly.loadStraps b i).regLog.plz
@[simp] theorem Block.loadStraps_se (b : Block) (i : BootInputs) : (b.loadStraps i).se = b.se := (RegOnly.loadStraps b i).regLog.se
@[simp] theorem Block.loadStraps_mem (b : Block) (i : BootInputs) : (b.loadStraps i).mem = b.mem := (RegOnly.loadStraps b i).regLog.mem
@[simp] theorem Block.loadStraps_slow (b : Block) (i : BootInputs) : (b.loadStraps i).slow = b.slow := (RegOnly.loadStraps b i).regLog.slow
@[simp] theorem Block.loadStraps_hbm (b : Block) (i : BootInputs) : (b.loadStraps i).hbm = b.hbm := (RegOnly.loadStraps b i).regLog.hbm
@[simp] theorem Block.loadStraps_ras (b : Block) (i : BootInputs) : (b.loadStraps i).ras = b.ras := (RegOnly.loadStraps b i).regLog.ras
@[simp] theorem Block.loadStraps_rb (b : Block) (i : BootInputs) : (b.loadStraps i).rb = b.rb := (RegOnly.loadStraps b i).regLog.rb
@[simp] theorem Block.loadStraps_emith (b : Block) (i : BootInputs) : (b.loadStraps i).emith = b.emith := (RegOnly.loadStraps b i).regLog.emith
@[simp] theorem Block.loadStraps_hazel (b : Block) (i : BootInputs) : (b.loadStraps i).hazel = b.hazel := (RegOnly.loadStraps b i).regLog.hazel
@[simp] theorem Block.loadStraps_wal (b : Block) (i : BootInputs) : (b.loadStraps i).wal = b.wal := (RegOnly.loadStraps b i).regLog.wal
@[simp] theorem Block.loadStraps_freeCount (b : Block) (i : BootInputs) : (b.loadStraps i).freeCount = b.freeCount := (RegOnly.loadStraps b i).regLog.freeCount
@[simp] theorem Block.loadStraps_odb (b : Block) (i : BootInputs) : (b.loadStraps i).odb = b.odb := (RegOnly.loadStraps b i).odb
@[simp] theorem Block.loadStraps_log (b : Block) (i : BootInputs) : (b.loadStraps i).log = b.log := (RegOnly.loadStraps b i).log
@[simp] theorem Block.loadStraps_fatal (b : Block) (i : BootInputs) : (b.loadStraps i).fatal = b.fatal := (RegOnly.loadStraps b i).fatal

@[simp] theorem Block.portsDown_dt (b : Block) : b.portsDown.dt = b.dt := by unfold Block.portsDown; dsimp only; exact (RegOnly.portRegs b).regLog.dt
@[simp] theorem Block.portsDown_pins (b : Block) : b.portsDown.pins = b.pins := by unfold Block.portsDown; dsimp only; exact (RegOnly.portRegs b).regLog.pins
@[simp] theorem Block.portsDown_sys (b : Block) : b.portsDown.sys = b.sys := by unfold Block.portsDown; dsimp only; exact (RegOnly.portRegs b).regLog.sys
@[simp] theorem Block.portsDown_odp (b : Block) : b.portsDown.odp = b.odp := by unfold Block.portsDown; dsimp only; exact (RegOnly.portRegs b).regLog.odp
@[simp] theorem Block.portsDown_cal (b : Block) : b.portsDown.cal = b.cal := by unfold Block.portsDown; dsimp only; exact (RegOnly.portRegs b).regLog.cal
@[simp] theorem Block.portsDown_gov (b : Block) : b.portsDown.gov = b.gov := by unfold Block.portsDown; dsimp only; exact (RegOnly.portRegs b).regLog.gov
@[simp] theorem Block.portsDown_disp (b : Block) : b.portsDown.disp = b.disp := by unfold Block.portsDown; dsimp only; exact (RegOnly.portRegs b).regLog.disp
@[simp] theorem Block.portsDown_plz (b : Block) : b.portsDown.plz = b.plz := by unfold Block.portsDown; dsimp only; exact (RegOnly.portRegs b).regLog.plz
@[simp] theorem Block.portsDown_se (b : Block) : b.portsDown.se = b.se := by unfold Block.portsDown; dsimp only; exact (RegOnly.portRegs b).regLog.se
@[simp] theorem Block.portsDown_mem (b : Block) : b.portsDown.mem = b.mem := by unfold Block.portsDown; dsimp only; exact (RegOnly.portRegs b).regLog.mem
@[simp] theorem Block.portsDown_slow (b : Block) : b.portsDown.slow = b.slow := by unfold Block.portsDown; dsimp only; exact (RegOnly.portRegs b).regLog.slow
@[simp] theorem Block.portsDown_hbm (b : Block) : b.portsDown.hbm = b.hbm := by unfold Block.portsDown; dsimp only; exact (RegOnly.portRegs b).regLog.hbm
@[simp] theorem Block.portsDown_ras (b : Block) : b.portsDown.ras = b.ras := by unfold Block.portsDown; dsimp only; exact (RegOnly.portRegs b).regLog.ras
@[simp] theorem Block.portsDown_rb (b : Block) : b.portsDown.rb = b.rb := by unfold Block.portsDown; dsimp only; exact (RegOnly.portRegs b).regLog.rb
@[simp] theorem Block.portsDown_hazel (b : Block) : b.portsDown.hazel = b.hazel := by unfold Block.portsDown; dsimp only; exact (RegOnly.portRegs b).regLog.hazel
@[simp] theorem Block.portsDown_wal (b : Block) : b.portsDown.wal = b.wal := by unfold Block.portsDown; dsimp only; exact (RegOnly.portRegs b).regLog.wal
@[simp] theorem Block.portsDown_freeCount (b : Block) : b.portsDown.freeCount = b.freeCount := by unfold Block.portsDown; dsimp only; exact (RegOnly.portRegs b).regLog.freeCount
@[simp] theorem Block.portsDown_odb (b : Block) : b.portsDown.odb = b.odb := by unfold Block.portsDown; dsimp only; exact (RegOnly.portRegs b).odb
@[simp] theorem Block.portsDown_log (b : Block) : b.portsDown.log = b.log := by unfold Block.portsDown; dsimp only; exact (RegOnly.portRegs b).log
@[simp] theorem Block.portsDown_fatal (b : Block) : b.portsDown.fatal = b.fatal := by unfold Block.portsDown; dsimp only; exact (RegOnly.portRegs b).fatal

end Sys2Proof.Machine
end

