-- ==== Sys2Proof/Laws/Counters.lean ====
section
/-! SUPPORT. Counting bytes changes entries only: the byte counters of R168 and R200, and SE_TLB_MISSES (R225). -/

namespace Sys2Proof.Machine

theorem RegOnly.countRead (b : Block) (a n : Nat) : RegOnly b (b.countRead a n) := by
  unfold Block.countRead
  split
  · exact RegOnly.bump ..
  · exact RegOnly.foldl (fun _ _ => RegOnly.bump ..) _ _

theorem RegOnly.countRemote (b : Block) (k a n : Nat) : RegOnly b (b.countRemote k a n) := by
  unfold Block.countRemote
  split
  · split
    · exact RegOnly.refl b
    · exact RegOnly.bump ..
  · exact RegOnly.refl b

theorem RegOnly.countReadFrom (b : Block) (k a n : Nat) : RegOnly b (b.countReadFrom k a n) :=
  (RegOnly.countRead ..).trans (RegOnly.countRemote ..)

theorem RegOnly.countMiss (b : Block) (engine c va : Nat) : RegOnly b (b.countMiss engine c va) :=
  (RegOnly.foldl (fun _ _ => RegOnly.countReadFrom ..) _ _).trans (RegOnly.bump ..)

theorem RegOnly.countAcross (b : Block) (k : Option Nat) (a n : Nat) : RegOnly b (b.countAcross k a n) := by
  unfold Block.countAcross
  split
  · exact RegOnly.countRemote ..
  · exact RegOnly.refl b

theorem RegOnly.countWalk (b : Block) (k : Option Nat) (c va : Nat) : RegOnly b (b.countWalk k c va) :=
  RegOnly.foldl (fun _ _ => (RegOnly.countRead ..).trans (RegOnly.countAcross ..)) _ _

theorem RegOnly.countEntry (b : Block) (k : Option Nat) (h : Cohort) (pos : Nat) : RegOnly b (b.countEntry k h pos) := by
  unfold Block.countEntry
  dsimp only
  split
  · exact RegOnly.refl b
  · split
    · exact ((RegOnly.countWalk ..).trans (RegOnly.countRead ..)).trans (RegOnly.countAcross ..)
    · exact RegOnly.countWalk ..

theorem RegOnly.countMember (b : Block) (h : Cohort) (slice pos : Nat) : RegOnly b (b.countMember h slice pos) := by
  unfold Block.countMember
  split
  · exact RegOnly.refl b
  · exact RegOnly.countEntry ..

theorem RegOnly.countVirt (c : Nat) (from_ : Option Nat) (k : Nat) :
    ∀ (b : Block) (va n : Nat), RegOnly b (b.countVirt from_ c k va n) := by
  induction k with
  | zero => intro b va n; exact RegOnly.refl b
  | succ k ih =>
    intro b va n
    unfold Block.countVirt
    split
    · exact RegOnly.refl b
    · split
      · exact (((RegOnly.countWalk ..).trans (RegOnly.countRead ..)).trans (RegOnly.countAcross ..)).trans (ih ..)
      · exact RegOnly.countWalk ..

/-- Two blocks that differ in entries and in what the Stream Engines hold only. -/
def EngineOnly (b c : Block) : Prop := c = { b with od := c.od, se := c.se }

theorem EngineOnly.trans {a b c : Block} (h : EngineOnly a b) (k : EngineOnly b c) : EngineOnly a c := by
  unfold EngineOnly at *; rw [k, h]

theorem RegOnly.engineOnly {b c : Block} (h : RegOnly b c) : EngineOnly b c := by
  unfold EngineOnly; unfold RegOnly at h; rw [h]

theorem EngineOnly.keepPage (b : Block) (engine c va : Nat) : EngineOnly b (b.keepPage engine c va) := by
  unfold Block.keepPage; split <;> rfl

/-- What a translation counts and caches changes nothing else. -/
theorem EngineOnly.translate (b : Block) (engine c va : Nat) (write adding : Bool) : EngineOnly b (b.translate engine c va write adding).1 := by
  unfold Block.translate
  split
  · rfl
  · exact (RegOnly.countMiss ..).engineOnly.trans (EngineOnly.keepPage ..)

/-- Reading a shape record changes entries and the translation caches only. -/
theorem EngineOnly.countShape (b : Block) (engine c va : Nat) : EngineOnly b (b.countShape engine c va) := by
  unfold Block.countShape
  dsimp only
  split
  · exact (EngineOnly.translate ..).trans (RegOnly.countReadFrom ..).engineOnly
  · exact EngineOnly.translate ..

/-- A COPY's read of its record leaves the block with other entries, caches and tasks, and all else as it was. -/
theorem Block.readsShape_eq (b : Block) (t : Task) :
    b.readsShape t = { b with od := (b.readsShape t).od, se := (b.readsShape t).se, disp := (b.readsShape t).disp } := by
  unfold Block.readsShape
  split
  · have h := EngineOnly.countShape b t.unit t.ctx (xferOf t.desc).shape
    unfold EngineOnly at h
    generalize b.countShape t.unit t.ctx (xferOf t.desc).shape = c at *
    rw [h]; rfl
  · rfl

end Sys2Proof.Machine
end

