-- ==== Sys2Proof/Laws/Power.lean ====
section
/-! SUPPORT. What folds over subindices and the operations of the power states leave. -/

namespace Sys2Proof

open Machine

theorem RegsKept.refl (l : List Nat) (b : Block) : RegsKept l b b := fun _ _ _ => rfl
theorem RegsKept.trans {l : List Nat} {a b c : Block} (h : RegsKept l a b) (k : RegsKept l b c) : RegsKept l a c :=
  fun i n m => (k i n m).trans (h i n m)
theorem RegsKept.mono {l m : List Nat} {a b : Block} (h : RegsKept l a b) (k : ∀ x ∈ l, x ∈ m) : RegsKept m a b :=
  fun i n q => h i n (fun e => q (k _ e))
theorem RegsKept.setReg (b : Block) (i k v : Nat) {l : List Nat} (h : odKey i k ∈ l) : RegsKept l b (b.setReg i k v) :=
  fun _ _ q => b.reg_setReg_ne v (fun e => q (by rw [e]; exact h))
theorem RegsKept.raise (b : Block) (c x : Nat) (a : List Byte) {l : List Nat} (h : odKey Od.eventNextSeq 0 ∈ l) : RegsKept l b (b.raise c x a) :=
  fun _ _ q => b.reg_raise_ne c x a (fun e => q (by rw [e]; exact h))
theorem RegsKept.of_od {l : List Nat} {a b : Block} (h : b.od = a.od) : RegsKept l a b := fun i k _ => Block.reg_eq_of_od h i k

end Sys2Proof

namespace Sys2Proof.Machine

theorem not_mem_subKeys {i lo hi x n : Nat} (h : x ∉ subKeys i lo hi) (h1 : lo ≤ n) (h2 : n ≤ hi) : x ≠ odKey i n := by
  intro e; apply h
  unfold subKeys
  exact List.mem_map.mpr ⟨n - lo, List.mem_range.mpr (by omega), by rw [e]; congr 1; omega⟩

theorem odKey_sub_ne {i m n : Nat} (h : m ≠ n) : odKey i m ≠ odKey i n := by unfold odKey; omega

/-- A fold in which each round changes its own place only. -/
theorem foldl_each {β : Type} {f : Block → Nat → Block} {g : Block → Nat → β} {v : Nat → β → β} (l : List Nat)
    (h1 : ∀ b, ∀ n ∈ l, g (f b n) n = v n (g b n)) (h2 : ∀ b m n, n ≠ m → g (f b m) n = g b n) (hl : l.Nodup) (b : Block) (n : Nat) :
    g (l.foldl f b) n = if n ∈ l then v n (g b n) else g b n := by
  induction l generalizing b with
  | nil => simp
  | cons m r ih =>
    obtain ⟨hm, hr⟩ := List.nodup_cons.mp hl
    rw [List.foldl_cons, ih (fun b n hn => h1 b n (List.mem_cons_of_mem _ hn)) hr]
    by_cases e : n = m
    · subst e; rw [if_neg hm, if_pos (List.mem_cons_self ..), h1 b n (List.mem_cons_self ..)]
    · rw [h2 b m n e]
      simp [e]

/-- A fold whose rounds write subindices of one entry keeps every other entry. -/
theorem reg_foldl_others {f : Block → Nat → Block} {ks : List Nat} (l : List Nat)
    (h : ∀ b m x y, m ∈ l → odKey x y ∉ ks → (f b m).reg x y = b.reg x y) (b : Block) : RegsKept ks b (l.foldl f b) := by
  induction l generalizing b with
  | nil => exact fun _ _ _ => rfl
  | cons m r ih =>
    intro x y k
    rw [List.foldl_cons, ih (fun b n x y hn => h b n x y (List.mem_cons_of_mem _ hn)) _ x y k]
    exact h b m x y (List.mem_cons_self ..) k

/-! ### The folds of unpower -/

theorem width_plazaState : ∀ n < 8, odWidth Od.plazaState (n + 1) = 8 := by decide +kernel
theorem width_hbmStackState : ∀ n < 8, odWidth Od.hbmStackState (n + 1) = 8 := by decide +kernel

/-- A Plaza's state after it is set. -/
theorem Block.plaza_setPlaza (b : Block) (p q v : Nat) (hp : p < 8) (hv : v < 256) :
    (b.setPlaza p v).plaza q = if q = p then v else b.plaza q := by
  by_cases h : q = p
  · subst h; rw [if_pos rfl]; unfold Block.setPlaza Block.plaza
    rw [Block.reg_setReg_self, width_plazaState q hp]; exact Nat.mod_eq_of_lt hv
  · rw [if_neg h]; exact Block.reg_setReg_ne _ _ (odKey_sub_ne (by omega))

theorem plaza_plazasOff (b : Block) (p : Nat) (hp : p < 8) : b.plazasOff.plaza p = if b.plaza p = plRetired then plRetired else plOffline := by
  have := foldl_each (f := fun (b : Block) p => if b.plaza p = plRetired then b else b.setPlaza p plOffline) (g := Block.plaza)
    (v := fun _ x => if x = plRetired then plRetired else plOffline) (List.range 8)
    (by
      intro b n hn
      by_cases h : b.plaza n = plRetired
      · simp only [h, if_true]
      · simp only [h, if_false]
        rw [Block.plaza_setPlaza _ _ _ _ (List.mem_range.mp hn) (by decide), if_pos rfl])
    (by
      intro b m n h
      split
      · rfl
      · exact Block.reg_setReg_ne _ _ (odKey_sub_ne (by omega)))
    (by decide) b p
  rw [if_pos (List.mem_range.mpr hp)] at this
  unfold Block.plazasOff
  exact this

/-- A stack that is not TRAINING reads as stored. -/
theorem stackState_of_reg {b : Block} {k : Nat} (h : b.reg Od.hbmStackState (k + 1) ≠ stTraining) : b.stackState k = b.reg Od.hbmStackState (k + 1) := by
  simp [Block.stackState, h]

theorem stackState_lost (b : Block) (k : Nat) : b.stackState k = stLost ↔ b.reg Od.hbmStackState (k + 1) = stLost := by
  by_cases h : b.reg Od.hbmStackState (k + 1) = stTraining
  · simp only [Block.stackState, h]
    split_ifs <;> simp_all [stLost, stInService, stTraining, stOff]
  · rw [stackState_of_reg h]

theorem reg_memoryState (b : Block) (x y k : Nat) (hk : k < 8) (hx : x < 256) :
    (b.memoryState x y).reg Od.hbmStackState (k + 1) = if b.stackState k = stLost then stLost else x := by
  have := foldl_each (f := fun (b : Block) k => if b.stackState k = stLost then b else b.setReg Od.hbmStackState (k + 1) x)
    (g := fun b k => b.reg Od.hbmStackState (k + 1)) (v := fun _ z => if z = stLost then stLost else x) (List.range 8)
    (by
      intro b n hn
      by_cases h : b.stackState n = stLost
      · simp only [h, (stackState_lost b n).mp h, if_true]
      · simp only [h, mt (stackState_lost b n).mpr h, if_false]
        rw [Block.reg_setReg_self, width_hbmStackState n (List.mem_range.mp hn)]; exact Nat.mod_eq_of_lt hx)
    (by
      intro b m n h
      split
      · rfl
      · exact Block.reg_setReg_ne _ _ (odKey_sub_ne (by omega)))
    (by decide) b k
  rw [if_pos (List.mem_range.mpr hk)] at this
  simp only [stackState_lost]
  unfold Block.memoryState
  dsimp only
  split
  · exact this
  · rw [← this]; exact Block.reg_setReg_ne _ _ (by unfold odKey Od.hbmStackState Od.slowState; omega)

theorem stackState_memoryState (b : Block) (x y k : Nat) (hk : k < 8) (hx : x < 256) (h : x ≠ stTraining) :
    (b.memoryState x y).stackState k = if b.stackState k = stLost then stLost else x := by
  have := reg_memoryState b x y k hk hx
  rw [← this]
  exact stackState_of_reg (by rw [this]; split <;> [decide; exact h])

theorem regsKept_plazasOff (b : Block) : RegsKept (subKeys Od.plazaState 1 8) b b.plazasOff :=
  reg_foldl_others _ (fun b m x y hm k => by
    split
    · rfl
    · exact Block.reg_setReg_ne _ _ (not_mem_subKeys k (by omega) (by have := List.mem_range.mp hm; omega))) b

theorem regsKept_memoryState (b : Block) (v w : Nat) : RegsKept (subKeys Od.hbmStackState 1 8 ++ [odKey Od.slowState 0]) b (b.memoryState v w) := by
  have h : RegsKept (subKeys Od.hbmStackState 1 8 ++ [odKey Od.slowState 0]) b
      ((List.range 8).foldl (fun b k => if b.stackState k = stLost then b else b.setReg Od.hbmStackState (k + 1) v) b) :=
    reg_foldl_others _ (fun b m x y hm k => by
      split
      · rfl
      · exact Block.reg_setReg_ne _ _ (not_mem_subKeys (fun e => k (List.mem_append_left _ e)) (by omega) (by have := List.mem_range.mp hm; omega))) b
  unfold Block.memoryState
  dsimp only
  split
  · exact h
  · exact h.trans (RegsKept.setReg _ _ _ _ (by simp))

theorem portRegs_reg (b : Block) : (∀ n < 16, b.portRegs.reg Od.fabPortState (n + 1) = 0) ∧ (∀ n < 2, b.portRegs.reg Od.hostPortState (n + 1) = 0)
    ∧ RegsKept (subKeys Od.fabPortState 1 16 ++ subKeys Od.hostPortState 1 2) b b.portRegs := by
  unfold Block.portRegs
  generalize h1 : (List.range 16).foldl (fun b n => b.setReg Od.fabPortState (n + 1) 0) b = b1
  have k1 : RegsKept (subKeys Od.fabPortState 1 16) b b1 := h1 ▸
    reg_foldl_others _ (fun b m x y hm k => Block.reg_setReg_ne _ _ (not_mem_subKeys k (by omega) (by have := List.mem_range.mp hm; omega))) b
  have k2 := reg_foldl_others (f := fun b h => b.setReg Od.hostPortState (h + 1) 0) (ks := subKeys Od.hostPortState 1 2) (List.range 2)
    (fun b m x y hm k => Block.reg_setReg_ne _ _ (not_mem_subKeys k (by omega) (by have := List.mem_range.mp hm; omega))) b1
  refine ⟨fun n hn => ?_, fun n hn => ?_, (k1.mono (fun x h => List.mem_append_left _ h)).trans (k2.mono (fun x h => List.mem_append_right _ h))⟩
  · rw [k2 _ _ (by
      intro q
      obtain ⟨m, _, hm⟩ := List.mem_map.mp q
      simp only [odKey, Od.fabPortState, Od.hostPortState] at hm; omega), ← h1]
    have := Block.reg_foldl_setReg (List.range 16) b Od.fabPortState 0 (n + 1) (· + 1) (fun n _ h => by unfold odKey at h; omega)
    rw [if_pos ⟨n, List.mem_range.mpr hn, rfl⟩] at this
    rw [this]; simp [wrap]
  · have := Block.reg_foldl_setReg (List.range 2) b1 Od.hostPortState 0 (n + 1) (· + 1) (fun n _ h => by unfold odKey at h; omega)
    rw [if_pos ⟨n, List.mem_range.mpr hn, rfl⟩] at this
    rw [this]; simp [wrap]

/-- What loss of power leaves. -/
theorem unpower_unpowered (b : Block) : Unpowered b b.unpower := by
  have hd : ∀ i k, b.dropUnits.reg i k = b.reg i k := fun _ _ => rfl
  have hp : ∀ i k, b.dropUnits.portsDown.reg i k = b.dropUnits.portRegs.reg i k :=
    Block.reg_eq_of_od (by simp only [Block.portsDown])
  obtain ⟨p1, p2, p3⟩ := portRegs_reg b.dropUnits
  have q3 := regsKept_plazasOff b.dropUnits.portsDown
  have m3 := regsKept_memoryState (b.dropUnits.portsDown).plazasOff stOff slOff
  have hr : ∀ i k, b.unpower.reg i k = ((b.dropUnits.portsDown).plazasOff.memoryState stOff slOff).reg i k :=
    Block.reg_eq_of_od (by simp only [Block.unpower])
  have key : ∀ {j i n : Nat} {hi : Nat}, odKey i (n + 1) ∈ subKeys j 1 hi → i < 65536 → j < 65536 → i = j := odKey_mem_subKeys
  refine ⟨rfl, rfl, ?_, ?_, ?_, ?_, ?_, ?_, ?_, ?_, ?_, ?_, ?_, ?_, ?_, ?_, ?_, ?_, ?_, ?_, ?_⟩
  iterate 7 (unfold Block.unpower; simp only [Block.memoryState_emith, Block.plazasOff_emith, Block.portsDown]; try simp [Block.dropUnits])
  · intro n hn
    rw [hr, m3 _ _ (by
      intro q
      rcases List.mem_append.mp q with q | q
      · exact absurd (key q (by decide) (by decide)) (by decide)
      · simp only [List.mem_singleton, odKey, Od.fabPortState, Od.slowState] at q; omega), q3 _ _ (fun q => absurd (key q (by decide) (by decide)) (by decide)), hp, p1 n hn]
  · intro n hn
    rw [hr, m3 _ _ (by
      intro q
      rcases List.mem_append.mp q with q | q
      · exact absurd (key q (by decide) (by decide)) (by decide)
      · simp only [List.mem_singleton, odKey, Od.hostPortState, Od.slowState] at q; omega), q3 _ _ (fun q => absurd (key q (by decide) (by decide)) (by decide)), hp, p2 n hn]
  · intro p hp'
    have e : b.unpower.plaza p = (b.dropUnits.portsDown).plazasOff.plaza p := by
      unfold Block.plaza
      rw [hr, m3 _ _ (by
        intro q
        rcases List.mem_append.mp q with q | q
        · exact absurd (key q (by decide) (by decide)) (by decide)
        · simp only [List.mem_singleton, odKey, Od.plazaState, Od.slowState] at q; omega)]
    have e2 : b.dropUnits.portsDown.plaza p = b.plaza p := by
      unfold Block.plaza
      rw [hp, p3 _ _ (by
        intro q
        rcases List.mem_append.mp q with q | q
        · exact absurd (key q (by decide) (by decide)) (by decide)
        · exact absurd (key q (by decide) (by decide)) (by decide)), hd]
    rw [e, plaza_plazasOff _ _ hp', e2]
  · intro k hk
    have e : ((b.dropUnits.portsDown).plazasOff.stackState k = stLost) = (b.stackState k = stLost) := by
      simp only [stackState_lost]
      rw [q3 _ _ (fun q => absurd (key q (by decide) (by decide)) (by decide)), hp, p3 _ _ (by
        intro q
        rcases List.mem_append.mp q with q | q
        · exact absurd (key q (by decide) (by decide)) (by decide)
        · exact absurd (key q (by decide) (by decide)) (by decide)), hd]
    have e3 := (hr Od.hbmStackState (k + 1)).trans (reg_memoryState _ stOff slOff k hk (by decide))
    rw [stackState_of_reg (by rw [e3]; split <;> decide), e3]
    simp only [e]
  · intro i k h
    simp only [List.mem_append, not_or] at h
    rw [hr, m3 _ _ (by simp only [List.mem_append, not_or]; exact ⟨h.1.2, h.2⟩), q3 _ _ h.1.1.2,
      hp, p3 _ _ (by simp only [List.mem_append, not_or]; exact ⟨h.1.1.1.1, h.1.1.1.2⟩), hd]
  iterate 7 (unfold Block.unpower; simp only [Block.portsDown]; try simp [Block.dropUnits])

@[simp] theorem Block.unpower_pins (b : Block) : b.unpower.pins = b.pins := by unfold Block.unpower; simp
@[simp] theorem Block.hold_pins (b : Block) (ph : Phase) (k : Nat) :
    (b.hold ph k).pins = { b.pins with enabled := false, alert := false, therm := false, ppsOut := false } := by
  unfold Block.hold; simp only [Block.unpower_pins]
theorem Block.hold_phase (b : Block) (ph : Phase) (k : Nat) : (b.hold ph k).sys.phase = ph ∧ (b.hold ph k).sys.kind = k := by
  unfold Block.hold; exact ⟨rfl, rfl⟩

/-- What settling does to the pins. -/
theorem settle_pins (b : Block) : (settle b).pins = { b.pins with
    alert := b.pins.enabled && b.alertDue,
    ppsOut := b.pins.ppsOut && b.pins.enabled && b.ppsAllowed && decide (b.dt % 10 ^ 9 < 10 ^ 8),
    therm := b.pins.therm && b.pins.enabled } := by unfold settle; simp only

theorem settle_sys (b : Block) : (settle b).sys = { b.sys with busyAt := if b.busy then b.dt else b.sys.busyAt } := by
  unfold settle; simp only

end Sys2Proof.Machine
end

