-- ==== Sys2Proof/Laws/Entries.lean ====
section
/-! SUPPORT. Which entries each shared operation writes, by index. -/

namespace Sys2Proof

open Machine

theorem IdxKept.refl (l : List Nat) (b : Block) : IdxKept l b b := fun _ _ _ _ => rfl
theorem IdxKept.trans {l : List Nat} {a b c : Block} (h : IdxKept l a b) (k : IdxKept l b c) : IdxKept l a c :=
  fun i n x y => (k i n x y).trans (h i n x y)
theorem IdxKept.mono {l m : List Nat} {a b : Block} (h : IdxKept l a b) (k : ∀ x ∈ l, x ∈ m) : IdxKept m a b :=
  fun i n x y => h i n x (fun e => y (k _ e))
theorem IdxKept.of_od {l : List Nat} {b c : Block} (h : c.od = b.od) : IdxKept l b c := fun i k _ _ => Block.reg_eq_of_od h i k
theorem IdxKept.setReg {l : List Nat} (b : Block) (i k v : Nat) (hi : i ∈ l) (h : i < 65536) : IdxKept l b (b.setReg i k v) :=
  fun _ _ x y => Block.reg_setReg_ne _ _ (odKey_ne (fun e => y (by rw [e]; exact hi)) x h _ _)
theorem IdxKept.bump {l : List Nat} (b : Block) (i k n : Nat) (hi : i ∈ l) (h : i < 65536) : IdxKept l b (b.bump i k n) :=
  IdxKept.setReg b i k _ hi h
theorem IdxKept.raise {l : List Nat} (b : Block) (c x : Nat) (a : List Byte) (hi : Od.eventNextSeq ∈ l) : IdxKept l b (b.raise c x a) :=
  fun _ _ x y => Block.reg_raise_ne _ _ _ _ (odKey_ne (fun e => y (by rw [e]; exact hi)) x (by decide) _ _)
theorem IdxKept.foldl {l : List Nat} {α : Type} {f : Block → α → Block} (h : ∀ b x, IdxKept l b (f b x)) (m : List α) (b : Block) :
    IdxKept l b (m.foldl f b) := foldl_has (IdxKept l b) (fun _ x k => k.trans (h _ x)) m (IdxKept.refl _ b)
theorem IdxKept.ite {l : List Nat} {b c d : Block} {p : Prop} [Decidable p] (h1 : IdxKept l b c) (h2 : IdxKept l b d) :
    IdxKept l b (if p then c else d) := by split; exacts [h1, h2]

/-! ### Tasks and transfers -/

theorem IdxKept.endTask (l : List Nat) (b : Block) (t s u : Nat) : IdxKept l b (b.endTask t s u) := IdxKept.of_od rfl

theorem IdxKept.taint1 (b : Block) (c o : Nat) (r : Nat × Nat) : IdxKept endIdx b (b.taint1 c o r) := by
  unfold Block.taint1
  split
  · exact IdxKept.refl _ _
  · dsimp only
    split
    · exact IdxKept.of_od rfl
    · split
      · exact (IdxKept.setReg _ _ _ _ (by decide) (by decide)).trans (IdxKept.raise _ _ _ _ (by decide))
      · exact IdxKept.of_od rfl

theorem IdxKept.addTaint (b : Block) (c o : Nat) (e : List (Nat × Nat)) : IdxKept endIdx b (b.addTaint c o e) :=
  IdxKept.foldl (fun b r => IdxKept.taint1 b c o r) _ _

theorem IdxKept.nonfinite (b : Block) (c n : Nat) : IdxKept endIdx b (b.nonfinite c n).2 := by
  unfold Block.nonfinite Block.setNonfinite
  dsimp only
  split
  · exact (IdxKept.setReg _ _ _ _ (by decide) (by decide)).trans (IdxKept.raise _ _ _ _ (by decide))
  · split
    · refine IdxKept.trans ?_ (IdxKept.raise _ _ _ _ (by decide))
      exact (IdxKept.setReg _ _ _ _ (by decide) (by decide)).trans (IdxKept.setReg _ _ _ _ (by decide) (by decide))
    · exact IdxKept.setReg _ _ _ _ (by decide) (by decide)

theorem IdxKept.stageFault (b : Block) (c n : Nat) : IdxKept endIdx b (b.stageFault c n) := by
  unfold Block.stageFault
  dsimp only
  refine IdxKept.trans ?_ (IdxKept.raise _ _ _ _ (by decide))
  exact (IdxKept.nonfinite b c n).trans (IdxKept.bump _ _ _ _ (by decide) (by decide))

theorem IdxKept.xferMark (b : Block) (x : Task) (s o : Nat) : IdxKept endIdx b (b.xferMark x s o) := by
  unfold Block.xferMark
  split
  · exact IdxKept.ite (IdxKept.of_od rfl) (IdxKept.refl _ _)
  · exact IdxKept.ite ((IdxKept.addTaint _ _ _ _).trans (IdxKept.stageFault _ _ _)) (IdxKept.addTaint _ _ _ _)

theorem arm_od (b : Block) (t : Task) (s : Nat) : (b.arm t s).od = b.od := by
  unfold Block.arm
  dsimp only
  split
  · split <;> rfl
  · rfl

theorem IdxKept.endXfer (b : Block) (t s : Nat) (cs : List Nat) (k v o : Nat) : IdxKept endIdx b (b.endXfer t s cs k v o) := by
  unfold Block.endXfer
  split
  · exact IdxKept.refl _ _
  · split
    · exact IdxKept.refl _ _
    · dsimp only
      refine IdxKept.trans ?_ (IdxKept.xferMark _ _ _ _)
      exact (IdxKept.bump _ _ _ _ (by decide) (by decide)).trans (IdxKept.of_od (arm_od ..))

theorem IdxKept.feedDone (b : Block) (x : Task) : IdxKept endIdx b (b.feedDone x) := by
  unfold Block.feedDone
  split
  · exact IdxKept.refl _ _
  · split <;> exact IdxKept.endXfer _ _ _ _ _ _ _

theorem IdxKept.dropDest (b : Block) (c : Nat) (e : PortEntry) : IdxKept endIdx b (b.dropDest c e) := by
  unfold Block.dropDest
  dsimp only
  split
  · exact IdxKept.refl _ _
  · split
    · exact IdxKept.endXfer _ _ _ _ _ _ _
    · refine IdxKept.trans ?_ (IdxKept.feedDone _ _)
      refine IdxKept.trans ?_ (IdxKept.raise _ _ _ _ (by decide))
      refine IdxKept.trans ?_ (IdxKept.bump _ _ _ _ (by decide) (by decide))
      exact IdxKept.of_od rfl

theorem IdxKept.dropPort (b : Block) (c : Nat) (p : PortId) (n : Nat) : IdxKept endIdx b (b.dropPort c p n) :=
  (IdxKept.foldl (fun b e => IdxKept.dropDest b c e) _ _).trans (IdxKept.of_od rfl)

theorem settleEnded_od (b : Block) (t : Nat) : (b.settleEnded t).od = b.od := by
  unfold Block.settleEnded
  dsimp only
  refine foldl_keep (·.od) (fun b x => ?_) _ _
  unfold Block.releaseSample
  split <;> rfl

theorem IdxKept.abortPlaza (b : Block) (t : Task) (s : Nat) : IdxKept endIdx b (b.abortPlaza t s) := by
  unfold Block.abortPlaza
  dsimp only
  refine IdxKept.trans ?_ (IdxKept.foldl (fun b (p : PortId × Nat) => IdxKept.dropPort b _ p.1 p.2) _ _)
  exact IdxKept.of_od (settleEnded_od _ _)

theorem IdxKept.failVector (b : Block) (t : Task) (s : Nat) : IdxKept endIdx b (b.failVector t s) := by
  unfold Block.failVector
  dsimp only
  refine IdxKept.trans ?_ (IdxKept.foldl (fun b (p : PortId × Nat) => IdxKept.dropPort b _ p.1 p.2) _ _)
  refine IdxKept.trans ?_ (IdxKept.foldl (fun b e => IdxKept.endXfer b _ _ _ _ _ _) _ _)
  exact IdxKept.of_od rfl

theorem IdxKept.abortXfer (b : Block) (t : Task) : IdxKept endIdx b (b.abortXfer t) := IdxKept.endXfer _ _ _ _ _ _ _

theorem IdxKept.abortOn (b : Block) (p : Nat) : IdxKept endIdx b (b.abortOn p) :=
  IdxKept.foldl (fun b t => IdxKept.ite (IdxKept.failVector b t _) (IdxKept.abortPlaza b t _)) _ _

/-! ### The Plaza map -/

theorem IdxKept.setMap (b : Block) (m : List Nat) : IdxKept [Od.dispPlazaMap] b (b.setMap m) := by
  unfold Block.setMap
  split
  · exact IdxKept.refl _ _
  · dsimp only
    refine IdxKept.trans (b := { b with disp := { b.disp with maps := b.disp.maps ++ ((List.range 64).filter (fun c => !b.disp.maps.any (fun e => e.1 == c))).map (fun c => (c, b.mapList)) } }) (IdxKept.of_od rfl) ?_
    exact IdxKept.foldl (fun b v => IdxKept.setReg _ _ _ _ (by decide) (by decide)) _ _

theorem IdxKept.remapAway (b : Block) (q : Nat) : IdxKept [Od.dispPlazaMap] b (b.remapAway q) := by
  unfold Block.remapAway
  split
  · exact IdxKept.refl _ _
  · exact IdxKept.setMap _ _

theorem IdxKept.remapBack (b : Block) (q : Nat) : IdxKept [Od.dispPlazaMap] b (b.remapBack q) := IdxKept.setMap _ _

theorem IdxKept.defaultSubs {l : List Nat} (b : Block) (xs ys : List Nat) (h : ∀ x ∈ xs, x ∈ l ∧ x < 65536) : IdxKept l b (b.defaultSubs xs ys) := by
  unfold Block.defaultSubs
  induction xs generalizing b with
  | nil => exact IdxKept.refl _ _
  | cons x r ih =>
    rw [List.foldl_cons]
    refine IdxKept.trans ?_ (ih _ (fun y hy => h y (List.mem_cons_of_mem _ hy)))
    exact IdxKept.foldl (fun b k => IdxKept.setReg _ _ _ _ (h x (List.mem_cons_self ..)).1 (h x (List.mem_cons_self ..)).2) _ _

end Sys2Proof
end

