-- ==== Sys2Proof/Laws/Memory.lean ====
section
/-! SUPPORT. Memories: every operation keeps the canonical form; what a byte reads as after a write. -/

namespace Sys2Proof.Machine

theorem Mem.wf_iff (m : Mem) : m.wf = true ↔ swf (fun _ => 0#8) m.data = true ∧ swf (fun _ => false) m.poison = true := by
  simp [Mem.wf]

theorem Mem.wf_reset : Mem.reset.wf = true := by decide

theorem Mem.wf_setByte {m : Mem} (h : m.wf = true) (a : Nat) (v : Byte) : (m.setByte a v).wf = true := by
  rw [Mem.wf_iff] at *
  exact ⟨swf_sset (fun _ => 0#8) _ _ _ h.1, h.2⟩

theorem Mem.wf_setPoison {m : Mem} (h : m.wf = true) (w : Nat) (p : Bool) : (m.setPoison w p).wf = true := by
  rw [Mem.wf_iff] at *
  exact ⟨h.1, swf_sset (fun _ => false) _ _ _ h.2⟩

/-- A fold of operations that keep the form keeps it. -/
theorem Mem.wf_foldl {α : Type} (f : Mem → α → Mem) (hf : ∀ m x, m.wf = true → (f m x).wf = true) (l : List α) {m : Mem}
    (h : m.wf = true) : (l.foldl f m).wf = true := by
  induction l generalizing m with
  | nil => exact h
  | cons x r ih => exact ih (hf m x h)

theorem Mem.wf_poisonAt {m : Mem} (h : m.wf = true) (w : Nat) : (m.poisonAt w).wf = true :=
  Mem.wf_foldl _ (fun _ _ h => Mem.wf_setByte h _ _) _ (Mem.wf_setPoison h _ _)

theorem Mem.wf_clearFull {m : Mem} (h : m.wf = true) (u a n : Nat) : (m.clearFull u a n).wf = true := by
  refine Mem.wf_foldl _ (fun m w h => ?_) _ h
  dsimp only
  split
  · exact Mem.wf_setPoison h _ _
  · exact h

theorem Mem.wf_putBytes {m : Mem} (h : m.wf = true) (a : Nat) (v : List Byte) : (m.putBytes a v).wf = true := by
  induction v generalizing m a with
  | nil => exact h
  | cons x r ih =>
    rw [Mem.putBytes]
    refine ih ?_ _
    split
    · exact h
    · exact Mem.wf_setByte h _ _

theorem Mem.wf_putRaw {m : Mem} (h : m.wf = true) (a : Nat) (v : List Byte) : (m.putRaw a v).wf = true := by
  induction v generalizing m a with
  | nil => exact h
  | cons x r ih => exact ih (Mem.wf_setByte h _ _) _

theorem Mem.wf_write {m : Mem} (h : m.wf = true) (u a : Nat) (v : List Byte) : (m.write u a v).wf = true :=
  Mem.wf_putBytes (Mem.wf_clearFull h _ _ _) _ _

theorem Mem.wf_clear {m : Mem} (h : m.wf = true) (lo hi : Nat) : (m.clear lo hi).wf = true := by
  rw [Mem.wf_iff] at *
  exact ⟨swf_filter _ _ _ h.1, swf_filter _ _ _ h.2⟩

theorem wf_scrubWord {m : Mem} (h : m.wf = true) (w : Nat) (u : Upset) (n : Nat) : (scrubWord m w u n).1.wf = true := by
  unfold scrubWord
  dsimp only
  split
  · exact Mem.wf_foldl _ (fun _ _ h => Mem.wf_poisonAt h _) _ h
  · dsimp only; split
    · exact h
    · exact Mem.wf_write h _ _ _
  · dsimp only; split
    · exact h
    · exact Mem.wf_write h _ _ _
  · dsimp only; split
    · exact h
    · exact Mem.wf_write h _ _ _
  · exact Mem.wf_poisonAt h _

theorem Block.wf_enterLine {b : Block} (h : b.mem.wf = true) (a n : Nat) : (b.enterLine a n).mem.wf = true := by
  have fold : ∀ (l : List Nat) (m : Mem), m.wf = true → (l.foldl (fun x w => x.setPoison w false) m).wf = true :=
    fun l m h => Mem.wf_foldl _ (fun _ _ h => Mem.wf_setPoison h _ _) l h
  unfold Block.enterLine
  dsimp only
  split
  · exact fold _ _ h
  · refine fold _ _ ?_
    split
    · unfold Block.evictOldest; split <;> exact h
    · exact h

theorem Block.wf_writeHbm {b : Block} (h : b.mem.wf = true) (a : Nat) (v : List Byte) (k : Nat) :
    (b.writeHbm a v k).mem.wf = true := by
  induction k generalizing b a v with
  | zero => exact h
  | succ k ih =>
    rw [Block.writeHbm]
    split
    · exact h
    · refine ih ?_ _ _
      show (if b.lostAt a = true then b else _).mem.wf = true
      split
      · exact h
      · exact Block.wf_enterLine (Mem.wf_putRaw h _ _) _ _

/-- Counting a write leaves the memory. -/
theorem Block.countWrite_mem (b : Block) (a n : Nat) : (b.countWrite a n).mem = b.mem := by
  have fold : ∀ (l : List (Nat × Nat)) (b : Block), (l.foldl (fun b q => b.bump Od.hbmWriteBytes (stackOf q.1 + 1) q.2) b).mem = b.mem := by
    intro l
    induction l with
    | nil => exact fun _ => rfl
    | cons q l ih => exact fun b => (ih _).trans rfl
  unfold Block.countWrite
  split
  · rfl
  · exact fold _ b

/-- A write at a physical address keeps the canonical form of the memory. -/
theorem Block.wf_writePhys {b : Block} (h : b.mem.wf = true) (a : Nat) (v : List Byte) : (b.writePhys a v).mem.wf = true := by
  unfold Block.writePhys Block.storePhys
  have h := (Block.countWrite_mem b a v.length).symm ▸ h
  split
  · exact Mem.wf_write h _ _ _
  · exact Block.wf_writeHbm h _ _ _

/-! ### Reading after writing -/

theorem Mem.poisoned_setByte (m : Mem) (a : Nat) (v : Byte) (w : Nat) : (m.setByte a v).poisoned w = m.poisoned w := rfl

theorem Mem.byte_setByte (m : Mem) (a : Nat) (v : Byte) (x : Nat) :
    (m.setByte a v).byte x = if m.poisoned (x / 8) = false ∧ x = a then v else m.byte x := by
  unfold Mem.byte
  rw [Mem.poisoned_setByte]
  by_cases h : m.poisoned (x / 8) = true
  · simp [h]
  · simp only [Bool.not_eq_true] at h
    simp only [h, Bool.false_eq_true, if_false, true_and]
    exact sget_sset ..

theorem Mem.poisoned_setPoison (m : Mem) (w : Nat) (p : Bool) (x : Nat) :
    (m.setPoison w p).poisoned x = if x = w then p else m.poisoned x := sget_sset ..

theorem Mem.byte_setPoison_ne (m : Mem) (w : Nat) (p : Bool) {x : Nat} (h : x / 8 ≠ w) : (m.setPoison w p).byte x = m.byte x := by
  unfold Mem.byte
  rw [Mem.poisoned_setPoison, if_neg h]
  rfl

theorem Mem.byte_putBytes_before (m : Mem) (a : Nat) (v : List Byte) {x : Nat} (h : x < a) : (m.putBytes a v).byte x = m.byte x := by
  induction v generalizing m a with
  | nil => rfl
  | cons y r ih =>
    rw [Mem.putBytes, ih _ _ (by omega)]
    split
    · rfl
    · rw [Mem.byte_setByte, if_neg (by omega)]

theorem Mem.byte_putBytes_after (m : Mem) (a : Nat) (v : List Byte) {x : Nat} (h : a + v.length ≤ x) :
    (m.putBytes a v).byte x = m.byte x := by
  induction v generalizing m a with
  | nil => rfl
  | cons y r ih =>
    simp only [List.length_cons] at h
    rw [Mem.putBytes, ih _ _ (by omega)]
    split
    · rfl
    · rw [Mem.byte_setByte, if_neg (by omega)]

theorem Mem.poisoned_putBytes (m : Mem) (a : Nat) (v : List Byte) (w : Nat) : (m.putBytes a v).poisoned w = m.poisoned w := by
  induction v generalizing m a with
  | nil => rfl
  | cons y r ih =>
    rw [Mem.putBytes, ih]
    split <;> rfl

/-- A byte written where no poison stands reads back. -/
theorem Mem.byte_putBytes_in (m : Mem) (a : Nat) (v : List Byte) {i : Nat} (hi : i < v.length)
    (hp : m.poisoned ((a + i) / 8) = false) : (m.putBytes a v).byte (a + i) = v[i] := by
  induction v generalizing m a i with
  | nil => simp at hi
  | cons y r ih =>
    rw [Mem.putBytes]
    cases i with
    | zero =>
      rw [Mem.byte_putBytes_before _ _ _ (by omega)]
      simp only [Nat.add_zero] at hp
      simp [hp, Mem.byte_setByte]
    | succ i =>
      simp only [List.length_cons, Nat.add_lt_add_iff_right] at hi
      have e : a + (i + 1) = a + 1 + i := by omega
      rw [e] at hp ⊢
      rw [ih _ _ hi]
      · rfl
      · split
        · exact hp
        · exact hp

theorem Mem.clearFull_data (m : Mem) (u a n : Nat) : (m.clearFull u a n).data = m.data := by
  unfold Mem.clearFull
  generalize wordsOf a n = l
  induction l generalizing m with
  | nil => rfl
  | cons x r ih =>
    rw [List.foldl_cons, ih]
    dsimp only
    split <;> rfl

/-- A write leaves a byte outside its range as it was, if it clears the poison of no word that holds the byte (R163). -/
theorem Mem.byte_write_outside (m : Mem) (a : Nat) (v : List Byte) {x : Nat} (h : x < a ∨ a + v.length ≤ x) :
    (m.write 8 a v).byte x = m.byte x := by
  have key : ∀ (l : List Nat) (m : Mem), (l.foldl (fun m w =>
      let lo := 8 * w / 8 * 8
      if a ≤ lo ∧ lo + 8 ≤ a + v.length then m.setPoison w false else m) m).byte x = m.byte x := by
    intro l
    induction l with
    | nil => intro m; rfl
    | cons w r ih =>
      intro m
      rw [List.foldl_cons, ih]
      dsimp only
      split
      · exact Mem.byte_setPoison_ne _ _ _ (by omega)
      · rfl
  unfold Mem.write
  rcases h with h | h
  · rw [Mem.byte_putBytes_before _ _ _ h]; exact key _ _
  · rw [Mem.byte_putBytes_after _ _ _ h]; exact key _ _

end Sys2Proof.Machine
end

