-- ==== Sys2Proof/WellFormed.lean ====
section
/-! DEFINITION. Which commands are well formed: every operand within the range that its name has in the spec. -/

namespace Sys2Proof

def okTicket (t : Nat) : Bool := decide (t < 2 ^ 32)
def okCtx (c : Nat) : Bool := decide (c < 64)
def okPlaza (p : Nat) : Bool := decide (p < 8)
def okRing (r : Nat) : Bool := decide (r < 2 ^ 14)
def okSlice (b : Nat) : Bool := decide (b < 4)
def okBorough (b : Nat) : Bool := decide (b < 4)
def okStack (k : Nat) : Bool := decide (k < 8)
/-- A pseudo-channel (R169). -/
def okChannel (pc : Nat) : Bool := decide (pc < 256)
def okHalf (h : Nat) : Bool := decide (h < 2)
def okPackage (n : Nat) : Bool := decide (n < 16)
def okSlowChannel (c : Nat) : Bool := decide (c < 64)
def okSession (s : Nat) : Bool := decide (1 ≤ s ∧ s ≤ 16)
def okKeySlot (s : Nat) : Bool := decide (1 ≤ s ∧ s ≤ 4)
def okBuffer (n : Nat) : Bool := decide (1 ≤ n ∧ n ≤ 4)
/-- A droop domain (R455): Plazas 0 to 7, Boroughs 8 to 11. -/
def okDomain (d : Nat) : Bool := decide (d < 12)
def okLane (l : Nat) : Bool := decide (l < 4)
/-- A port, by its code in PTP_PORT (R436): F0 to F15, HP0 and HP1 as 32 and 33, MP as 34. -/
def okPort (p : Nat) : Bool := decide (p < 16) || decide (32 ≤ p ∧ p ≤ 34)
def okFabric (p : Nat) : Bool := decide (p < 16)
def okRepairPort (p : Nat) : Bool := decide (p < 16) || p == 32 || p == 33
/-- An interface code 4n + m (R316). -/
def okIface (i : Nat) : Bool := decide (i < 64) && i % 4 != 3
/-- The codes of HP0, HP1 and MP, which have no interface code of R316 (log entry 4). -/
def okEndIface (i : Nat) : Bool := decide (128 ≤ i ∧ i ≤ 130)
def okHostIface (i : Nat) : Bool := i == 128 || i == 129
/-- An image kind (R477). -/
def okKind (k : Nat) : Bool := decide (1 ≤ k ∧ k ≤ 4)
/-- A unit code of R409: a block 0 to 143 or the shadow block 144 of a Plaza. -/
def okUnit (u : Nat) : Bool := decide (u / 256 < 8) && decide (u % 256 ≤ 144)
def okBoot (b : BootInputs) : Bool := decide (b.strapBoot < 4) && b.hbmTrained.length == 8 && b.edgesTrained.length == 4 && b.laneFaults.all (fun f => decide (f.1 < 512))
def okTick (i : TickInputs) : Bool := i.tj.length == 8 && i.laneSer.length == 64
/-- A payload has at most 4,096 bytes (R318). -/
def okPacket (p : Packet) : Bool := decide (p.payload.length ≤ 4096) && p.tag.length == 16
/-- A slice, or the host-port gateway as 4 (log entry 4). -/
def okEnd (b : Nat) : Bool := decide (b < 5)
def okConn (k : ConnKey) : Bool := okEnd k.slice && okSlice k.peerSlice && decide (k.peer < 2 ^ 18) && decide (k.wctx < 2 ^ 16)
def okFrame (f : Frame) : Bool := decide (f.data.length < 2 ^ 16)
def okBytes (l : List Byte) : Bool := decide (l.length < 2 ^ 16)
def okNonce (l : List Byte) : Bool := decide (l.length < 2 ^ 16)
def okQuanta (l : List Nat) : Bool := l.length == 8 && l.all (fun q => decide (q < 2 ^ 16))
def okWrite (w : PWrite) : Bool := decide (w.seq < 2 ^ 64)
/-- A word that arrived came over a carrier of classes 4 to 6 (R392). -/
def okUpset (u : Upset) : Bool := u.link == 0 || (decide (4 ≤ u.link) && decide (u.link ≤ 6))

/-- A word address is a multiple of 8. -/
def okWord (a : Nat) : Bool := a % 8 == 0
def okValue (n v : Nat) : Bool := decide (v < 2 ^ n)

/-- A command whose every operand lies in its range. -/
def Instr.wf : Instr → Bool
  | .powerOn boot => okBoot boot
  | .lossOfInput => true
  | .rstNAssert => true
  | .rstNRelease boot => okBoot boot
  | .deviceReset value boot => okValue 8 value && okBoot boot
  | .boroughReset value => okValue 8 value
  | .boroughSilence borough => okBorough borough
  | .plazaReset value => okValue 8 value
  | .ctxReset ctx value => okCtx ctx && okValue 8 value
  | .ctxResetDone ctx => okCtx ctx
  | .startCheckDone plaza _ => okPlaza plaza
  | .serviceLimited => true
  | .serviceFull => true
  | .runRequest boot => okBoot boot
  | .parkRequest => true
  | .standbyRequest => true
  | .idleEntry => true
  | .plazaHold plaza value => okPlaza plaza && okValue 8 value
  | .iftRequest value => okValue 8 value
  | .rasUnretire w => okWrite w
  | .dispRingConfig _ => true
  | .dispRingResume value => okValue 16 value
  | .dispTokenValue _ value => okValue 32 value
  | .doorbell _ => true
  | .descriptorFetch ring => okRing ring
  | .taskIssue h => okRing h.ring
  | .taskComplete ticket => okTicket ticket
  | .dispHoldLong ring => okRing ring
  | .fenceTokens ticket => okTicket ticket
  | .fenceRing ticket => okTicket ticket
  | .fenceContext ticket => okTicket ticket
  | .turnFence ticket => okTicket ticket
  | .notify ticket => okTicket ticket
  | .eventDoorbell ticket => okTicket ticket
  | .tokenAdd ticket => okTicket ticket
  | .timeWait ticket => okTicket ticket
  | .timeWaitCompletion ticket => okTicket ticket
  | .matmul ticket _ => okTicket ticket
  | .distL1 ticket _ => okTicket ticket
  | .distL2 ticket _ => okTicket ticket
  | .distMaxplus ticket _ => okTicket ticket
  | .distMinplus ticket _ => okTicket ticket
  | .distCmpcnt ticket _ => okTicket ticket
  | .tileDrain plaza => okPlaza plaza
  | .plazaFeedTimeout ticket => okTicket ticket
  | .axpby ticket => okTicket ticket
  | .mul ticket => okTicket ticket
  | .act ticket => okTicket ticket
  | .actBwd ticket => okTicket ticket
  | .cast ticket => okTicket ticket
  | .softmax ticket => okTicket ticket
  | .softmaxBwd ticket => okTicket ticket
  | .layernorm ticket => okTicket ticket
  | .layernormBwd ticket => okTicket ticket
  | .rmsnorm ticket => okTicket ticket
  | .rmsnormBwd ticket => okTicket ticket
  | .xent ticket => okTicket ticket
  | .sum ticket => okTicket ticket
  | .ortho ticket => okTicket ticket
  | .topk ticket => okTicket ticket
  | .copy ticket => okTicket ticket
  | .rearm ticket => okTicket ticket
  | .release ticket => okTicket ticket
  | .inval ticket => okTicket ticket
  | .allReduce ticket => okTicket ticket
  | .reduceScatter ticket => okTicket ticket
  | .allGather ticket => okTicket ticket
  | .broadcast ticket => okTicket ticket
  | .allToAll ticket => okTicket ticket
  | .barrier ticket => okTicket ticket
  | .normClose ticket => okTicket ticket
  | .normCloseContribute ctx => okCtx ctx
  | .rbCohortConfig _ => true
  | .reduceParcel slice => okSlice slice
  | .gatherParcel slice => okSlice slice
  | .allToAllParcel slice => okSlice slice
  | .broadcastParcel slice => okSlice slice
  | .barrierParcel slice => okSlice slice
  | .closeUp slice => okSlice slice
  | .closeDown slice => okSlice slice
  | .paceUp slice => okSlice slice
  | .paceDown slice => okSlice slice
  | .rbTimeout ticket => okTicket ticket
  | .rbCloseStalled ticket => okTicket ticket
  | .updateDense ticket => okTicket ticket
  | .updateRows ticket => okTicket ticket
  | .rootCompute => true
  | .gatherRows ticket => okTicket ticket
  | .gatherSpan ticket => okTicket ticket
  | .gatherWorking ticket => okTicket ticket
  | .scatterAddRows ticket => okTicket ticket
  | .scatterAddSpan ticket => okTicket ticket
  | .hazelSkewAdopt ctx => okCtx ctx
  | .hazelSkewDiscard ctx => okCtx ctx
  | .shadowCompare _ _ _ => true
  | .arbitrationRun _ _ => true
  | .shadowReplay _ unit _ => okUnit unit
  | .observationEnd unit => okUnit unit
  | .iftDue plaza => okPlaza plaza
  | .observationTestDue unit => okUnit unit
  | .iftGraceExpired plaza => okPlaza plaza
  | .plazaDrained plaza => okPlaza plaza
  | .iftDone plaza _ => okPlaza plaza
  | .hbmRetrainWindow => true
  | .hbmLaneFault pc lane _ => okChannel pc && okHalf lane.half
  | .hbmTempRead stack _ => okStack stack
  | .wcbAgeExpiry pc => okChannel pc
  | .hbmScrub addr u => okWord addr && okUpset u
  | .terraceScrub addr u => okWord addr && okUpset u
  | .slowScrub addr u => okWord addr && okUpset u
  | .slowTempRead package _ => okPackage package
  | .wck2dqOscRead channel _ => okSlowChannel channel
  | .slowTierLost channel => okSlowChannel channel
  | .emithSend slice => okEnd slice
  | .emithData pkt port => okPacket pkt && okPort port
  | .emithAck pkt port => okPacket pkt && okPort port
  | .emithProbe pkt port => okPacket pkt && okPort port
  | .ackDelayExpiry conn => okConn conn
  | .probeInterval conn => okConn conn
  | .rtoExpiry conn psn => okConn conn && okTicket psn
  | .connIdleExpiry conn => okConn conn
  | .hsInit port payload => okPort port && okBytes payload
  | .sessionTimeout session => okSession session
  | .hostWrite session psn => okSession session && okTicket psn
  | .hostRead session psn => okSession session && okTicket psn
  | .hostDoorbell session psn => okSession session && okTicket psn
  | .neighborRefresh iface => okIface iface || okHostIface iface
  | .linkTrained port _ => okPort port
  | .laneSerLimit port lane => okRepairPort port && okLane lane
  | .pcsAlignmentLoss port => okPort port
  | .portDrainEnd port => okPort port
  | .portRetrainDone port => okPort port
  | .portVerifyEnd port _ => okPort port
  | .fabPortMode port value => okFabric port && okValue 8 value
  | .ptpMessage _ => true
  | .ppsInEdge _ => true
  | .timeSet value => okValue 64 value
  | .sourceSilence => true
  | .holdoverLimit => true
  | .ptpPortReturn => true
  | .ppsOutPulse => true
  | .managementTick inp => okTick inp
  | .powerSetpoint => true
  | .frequencyEpoch => true
  | .stepRelease ctx => okCtx ctx
  | .telemetrySample _ => true
  | .hopStep plaza => okPlaza plaza
  | .droopDetect domain => okDomain domain
  | .droopEnd domain => okDomain domain
  | .inputLowStretch => true
  | .overcurrent => true
  | .thermalTrip plaza => okPlaza plaza
  | .shedAssert => true
  | .shedRelease => true
  | .pwrShedCmd value => okValue 8 value
  | .pwrSetpointNow value => okValue 16 value
  | .pwrSetpointSched _ => true
  | .pwrSchedCancel value => okValue 64 value
  | .attRequest n nonce => okBuffer n && okNonce nonce
  | .attTokenRefill => true
  | .bottomTreeBuild => true
  | .ownerEnrol record _ => okBytes record
  | .ownerRelease w => okWrite w
  | .emithKeyInstall sub w => okKeySlot sub && okWrite w
  | .fwStage record => okBytes record
  | .fwActivate w => okWrite w
  | .fwRevert w => okWrite w
  | .fwSwitch kind => okKind kind
  | .fwConfirm w => okWrite w
  | .odpRead _ frame => okFrame frame
  | .odpWrite _ frame => okFrame frame
  | .pwrite _ frame => okFrame frame
  | .subscribeEvents _ frame => okFrame frame
  | .subscribeStream _ frame => okFrame frame
  | .eventSend _ => true
  | .eventAck _ frame => okFrame frame
  | .eventRetry _ => true
  | .odpSubExpired _ => true
  | .odpSnapshotExpiry _ => true
  | .odpReplyCacheExpiry _ _ => true
  | .alertAck value => okValue 32 value
  | .inputLowStretchEnd => true
  | .mpLinkDown => true
  | .undervoltageLockout _ => true
  | .pfcPauseFrame iface quanta => (okIface iface || okHostIface iface) && okQuanta quanta
  | .rxDiscard port _ => okPort port
  | .neighborDiscovery iface _ => okIface iface || okEndIface iface
  | .fwActivated f => okKind f.kind

end Sys2Proof
end

