-- ==== Sys2Proof/Tests/Slice0.lean ====
section
/-! SUPPORT. Small tests: ill-formed commands, what single commands do on small states, and for every statement with hypotheses a state and operands that meet them. -/

namespace Sys2Proof

set_option Elab.async false

open Machine

/-! ### Well-formed commands -/

def wfBoot : BootInputs := ⟨0, 0, false, [], List.replicate 8 true, true, List.replicate 4 true, [], []⟩
def wfConn : ConnKey := ⟨true, 3, 2 ^ 18 - 1, 3, 2 ^ 16 - 1⟩
def wfPacket : Packet := ⟨0, [], List.replicate 16 0, false⟩

/-- Every operand at the end of its range. -/
theorem test_wellformed : ([.powerOn wfBoot, .ctxReset 63 255, .boroughSilence 3, .plazaHold 7 255, .descriptorFetch 16383, .taskComplete (2 ^ 32 - 1), .reduceParcel 3,
    .hbmLaneFault 255 ⟨1, 31⟩ true, .hbmTempRead 7 0, .slowTempRead 15 ⟨0, 7⟩, .wck2dqOscRead 63 0, .emithSend 4, .ackDelayExpiry wfConn, .sessionTimeout 16, .hostWrite 16 (2 ^ 32 - 1), .neighborRefresh 62, .neighborDiscovery 130 ⟨0, 0, 0⟩,
    .linkTrained 34 true, .laneSerLimit 33 3, .fabPortMode 15 3, .droopDetect 11, .shadowReplay 0 (7 * 256 + 144) [], .fwSwitch 4, .emithData wfPacket 0, .hbmScrub 8 ⟨1, 0, 6, 8⟩, .taskIssue ⟨2 ^ 14 - 1, true⟩, .fwActivated ⟨4, false⟩, .runRequest { wfBoot with laneFaults := [(511, 31)] }] : List Instr).all Instr.wf = true := by
  decide

/-- One ill-formed command for each check. -/
theorem test_illformed : ([.powerOn { wfBoot with strapBoot := 4 }, .powerOn { wfBoot with hbmTrained := [] }, .rstNRelease { wfBoot with edgesTrained := [] }, .runRequest { wfBoot with laneFaults := [(512, 0)] }, .ctxReset 64 0, .ctxReset 0 256, .boroughSilence 4, .plazaHold 8 0,
    .descriptorFetch 16384, .dispRingResume 65536, .dispTokenValue ⟨0, 0, 34, 0, 0, none⟩ (2 ^ 32), .taskComplete (2 ^ 32), .reduceParcel 4, .hbmLaneFault 256 ⟨0, 0⟩ true, .hbmLaneFault 0 ⟨2, 0⟩ true,
    .hbmTempRead 8 0, .slowTempRead 16 ⟨0, 0⟩, .wck2dqOscRead 64 0, .hbmScrub 4 ⟨0, 0, 0, 0⟩, .terraceScrub 8 ⟨1, 0, 3, 0⟩, .slowScrub 8 ⟨1, 0, 7, 0⟩, .taskIssue ⟨2 ^ 14, false⟩, .fwActivated ⟨5, true⟩, .emithSend 5, .ackDelayExpiry { wfConn with slice := 5 }, .ackDelayExpiry { wfConn with peerSlice := 4 },
    .ackDelayExpiry { wfConn with peer := 2 ^ 18 }, .ackDelayExpiry { wfConn with wctx := 2 ^ 16 }, .sessionTimeout 0, .sessionTimeout 17, .hostWrite 17 0, .hostRead 1 (2 ^ 32), .hostDoorbell 0 0, .neighborDiscovery 131 ⟨0, 0, 0⟩, .neighborRefresh 63, .neighborRefresh 64,
    .linkTrained 16 true, .linkTrained 35 true, .laneSerLimit 34 0, .laneSerLimit 0 4, .fabPortMode 16 0, .managementTick ⟨0, 0, 0, [], []⟩, .droopDetect 12, .shadowReplay 0 (8 * 256) [],
    .shadowReplay 0 145 [], .fwSwitch 0, .fwSwitch 5, .emithKeyInstall 0 ⟨0, [], []⟩, .emithKeyInstall 5 ⟨0, [], []⟩, .attRequest 0 [], .attRequest 5 [], .rasUnretire ⟨2 ^ 64, [], []⟩,
    .pwrSetpointNow 65536, .timeSet (2 ^ 64), .pfcPauseFrame 0 [], .pfcPauseFrame 3 (List.replicate 8 0), .emithData ⟨0, [], [], false⟩ 0] : List Instr).all (fun i => !i.wf) = true := by
  decide

/-! ### Small states -/


namespace Fix

/-- A block with some number entries set. -/
def regs (l : List (Nat × Nat × Nat)) (s : State) : State := { s with toBlock := l.foldl (fun b e => b.setReg e.1 e.2.1 e.2.2) s.toBlock }
/-- A block with some octet-string entries set. -/
def octs (l : List (Nat × Nat × List Byte)) (s : State) : State := { s with toBlock := l.foldl (fun b e => b.setOct e.1 e.2.1 e.2.2) s.toBlock }
/-- Walnut serves; the module stands in MANAGEMENT. -/
def up : State := { State.reset with sys := { Sys.reset with phase := .up, start := 5 }, pins := ⟨true, false, false, false, false, false, true, true⟩, dt := 10 ^ 9 + 7 }
/-- The module runs in FULL: Plazas, stacks, slow tier and port FP0 serve. -/
def full : State :=
  octs [(Od.mgmtIp, 0, beBytes 16 77)] (regs ([(Od.moduleService, 0, 2), (Od.slowState, 0, 0), (Od.fabPortState, 1, 2)] ++ (List.range 8).flatMap (fun k => [(Od.plazaState, k + 1, 0), (Od.hbmStackState, k + 1, 0)])) up)
def boot : BootInputs := ⟨0, 0, false, [], List.replicate 8 true, true, List.replicate 4 true, [], []⟩
/-- A descriptor of fields `(lowest bit, value)`. -/
def dsc (l : List (Nat × Nat)) : Desc := BitVec.ofNat 512 ((l.map (fun e => e.2 <<< e.1)).sum)
def rec256 (l : List (Nat × Nat)) : BitVec 256 := BitVec.ofNat 256 ((l.map (fun e => e.2 <<< e.1)).sum)
/-- The latched record of ring 3: context 1, 16 slots, enabled, slots at 0x1000 and records at 0x2000. -/
def cfg3 : BitVec 256 := rec256 [(242, 3), (234, 1), (227, 4), (226, 1), (144, 0x1000), (80, 0x2000)]
/-- Ticket 7, of ring 3 and context 1, runs a task of an opcode. -/
def tk (op : Nat) (l : List (Nat × Nat)) : Task :=
  { ticket := 7, desc := dsc ((124, op) :: l), ring := 3, ctx := 1, index := 0, phase := .running, issued := 0, step := 0, unit := 0, rect := (0, 0, 1, 1),
    signalled := false, waits := [], stage := 0, sel := 0, rule := 0, decided := [], counter := 1, order := 7, opts := dsc ((124, op) :: l), shape := none,
    flow := Flow.empty, cfg := cfg3 }
def tasks (l : List Task) (s : State) : State := { s with disp := { s.disp with tasks := l } }
/-- Context 1 sees the first 2 MiB of its addresses at the physical addresses from 2 MiB on. -/
def paged (s : State) : State :=
  regs [(Od.ctxTtRoot, 2, 0x10000)] { s with mem := { s.mem with data := [(0x10000, 1), (0x10002, 2), (0x20000, 3), (0x20002, 0x20)] } }
def ring3 : Ring := { Ring.empty with cfg := cfg3, state := .active }
def ring (r : Ring) (s : State) : State := { s with disp := { s.disp with rings := [(3, r)] } }
/-- Memory cells listed after those there are. -/
def cells (l : List Host.Cell) (s : State) : State := { s with mem := { s.mem with data := s.mem.data ++ l } }
/-- Ring 3 serves context 1 in FULL, and its producer stands at `n`. -/
def served (n : Nat) : State := ring { ring3 with producer := n } (paged full)
def held (op : Nat) (l : List (Nat × Nat)) : Task := { tk op l with phase := .held }
def one (t : Task) : State := tasks [t] (served 1)
/-- A finished transfer queued on a port. -/
def feed (kind n : Nat) (l : List Nat) : PortEntry := ⟨⟨0, kind, n⟩, 99, 1, l.map (fun v => ⟨v, 127, false⟩), true, 0, 0, 0, 0⟩
def ports (l : List PortEntry) (s : State) : State := { s with plz := { s.plz with ports := l } }
/-- A Plaza task of one block: two rows, one column, two reduction elements in BF16. -/
def mm (op mode : Nat) (l : List (Nat × Nat)) : Task := tk op ([(508, mode), (428, 2), (408, 1), (384, 2)] ++ l)
def mms (op mode : Nat) (l : List (Nat × Nat)) : State :=
  ports [feed kindS 0 [0x3F80, 0x4000, 0x4040, 0xBF80], feed kindH 0 [0x4000, 0x3F80]] (one (mm op mode l))
/-- A VECTOR task in FP32 on streams: one row of `n` elements, Z and C read, ALPHA 1. -/
def vt (op n : Nat) (l : List (Nat × Nat)) : Task :=
  tk opVector ([(506, op), (498, 7), (494, 7), (490, 7), (485, 1), (480, 1), (477, 1), (476, 1), (473, 2), (432, n), (408, 1), (400, if 24 ≤ op then 1 else 0), (368, 0x3F800000)] ++ l)
def vs (op n : Nat) (l : List (Nat × Nat)) : State :=
  ports [feed kindSP 0 [0x3F800000, 0x40000000], feed kindSP 1 [0x40400000, 0xBF800000], feed kindSP 2 [1, 0x3F800000, 0x40000000, 0]] (one (vt op n l))
/-- The values X that such a task takes. -/
def vxs (op n : Nat) (l : List (Nat × Nat)) : List (BitVec 32 × Bool) :=
  let x := vt op n l
  let b := (vs op n l).toBlock
  (((b.vectorWants x (vecOf x.desc)).foldl (fun b u => b.takeInto 7 u) b).xValues x (vecOf x.desc)).getD []
/-- A shape record of two elements. -/
def shape : BitVec 512 := BitVec.ofNat 512 (2 + 2 ^ 24 + 2 ^ 48 + 2 ^ 72 + 2 ^ 96)
/-- A COPY in BF16 from 0x4000 to 0x5000 with the shape record at 0x3000. -/
def copy (l : List (Nat × Nat)) : Task := { tk opXfer ([(400, 0x4000), (304, 0x3000)] ++ l) with shape := some (.ok shape) }
/-- A REARM of stream 5 to 0x4000 and `d`, which `l` armed. -/
def rearm (d : Nat) (l : List (Nat × Nat)) : Task :=
  { tk opXfer [(509, 1), (463, 5), (400, 0x4000), (352, d)] with opts := (copy l).desc, shape := some (.ok shape) }
def tainted (s : State) : State := { s with se := { s.se with taints := [⟨1, 0x4000, 0x4001, 9⟩] } }
def poisoned (s : State) : State := { s with mem := { s.mem with poison := [(0x4000, true)] } }
/-- The task after it has read its shape record. -/
def begun (t : Task) : Task := { t with flow := { t.flow with begun := true } }
def copies (t : Task) (l : List (Nat × Nat)) : State :=
  cells [(0x203000, 2), (0x203003, 1), (0x203006, 1), (0x203009, 1), (0x20300C, 1), (0x204001, 0x40)]
    { one t with se := { (one t).se with streams := [⟨0, 5, 1, (copy l).desc, shape⟩] } }
/-- Cohort slot 2 of context 1: WCTX 9, COHORT_ID 5, one member; `l` adds to its record. -/
def coh (l : List (Nat × Nat)) : BitVec 256 := rec256 ([(248, 2), (242, 1), (241, 1), (224, 5), (112, 0x6000), (96, 9)] ++ l)
def cohort (l : List (Nat × Nat)) (s : State) : State := { s with rb := { s.rb with cfgs := [(2, coh l)], devs := [(2 ^ 19, 0), (2 ^ 19 + 1, 1)] } }
/-- The cohort with two members in one group, this device at position 0 or 1. -/
def two : List (Nat × Nat) := [(206, 1), (170, 1)]
def twoB : List (Nat × Nat) := [(206, 1), (170, 1), (188, 1)]
/-- A COLLECTIVE of two BF16 elements in cohort slot 2. -/
def col (kind : Nat) (l : List (Nat × Nat)) : Task := tk opCollective ([(508, kind), (503, 1), (502, 1), (488, 2), (414, 2), (352, 0x4000), (304, 0x5000)] ++ l)
def coll (kind : Nat) (l : List (Nat × Nat)) : Coll := { startColl (col kind l) (colOf (col kind l).desc) with x := [0x3F80, 0x4000] }
def cwork (kind : Nat) (l : List (Nat × Nat)) (c : List (Nat × Nat)) : Work := ⟨coll kind l, colOf (col kind l).desc, cohortOf (coh c)⟩
/-- A parcel at slice 0 from device 1. -/
def parcel (kind shard count sender : Nat) (phase : Nat) (body : List Byte) : Parcel :=
  ⟨0, 1, 9, BitVec.ofNat 128 (PHead.num ⟨kind, 0, 0, false, 5, 0, phase, shard, 0, count, sender⟩), body, 0⟩
/-- A collective under way, and a parcel that has come. -/
def colls (kind : Nat) (l : List (Nat × Nat)) (p : List Parcel) : State :=
  let s := cohort two (one { col kind l with stage := 1 })
  { s with rb := { s.rb with colls := [coll kind l], rx := p }, dt := 20 * 10 ^ 9 }
/-- A NORM_CLOSE in cohort slot 2. -/
def ncl : Task := tk opNormClose [(504, 2)]
def close : Close := ⟨7, 1, 2, 0, 5, false, false, false, [], [], false, false, none, none⟩
def closes (c : List (Nat × Nat)) (k : Close) (p : List Parcel) : State :=
  let s := cohort c (one { ncl with stage := 1 })
  { s with rb := { s.rb with closes := [k], rx := p }, dt := 20 * 10 ^ 9 }
def decided (code : Nat) : DecisionRec := ⟨0, 0, 5, 0, code⟩
/-- Context 1 holds a decision and a region of 2 MiB at 2 MiB of the slow tier, with a header of one row and two columns at its start. -/
def decides (code : Nat) (l : List Host.Cell) (s : State) : State :=
  octs [(Od.hazelDecision, 2, (decided code).bytes), (Od.hazelRegion, 2, beBytes 8 1 ++ beBytes 8 1)]
    { s with slow := { s.slow with data := [(0x200030, 2), (0x200034, 1)] ++ l } }
def upd (kind : Nat) (l : List (Nat × Nat)) : Task := tk opUpdate ([(504, kind), (384, 0x1000)] ++ l)
/-- An UPDATE that has taken the decision. -/
def updd (kind code : Nat) (l : List (Nat × Nat)) : Task := { upd kind l with decided := (decided code).bytes }
def upds (kind code : Nat) (l : List Host.Cell) : State := decides code l (one (updd kind code []))
def gs (op kind n : Nat) : Task := tk op [(510, kind), (456, n), (408, 64), (312, 0x4000)]
def gss (op kind n : Nat) : State := decides 1 [(0x200070, 2), (0x200074, 1)] (one (gs op kind n))
/-- A sample of one cell without reduction elements. -/
def smp (stage : Nat) (vn vs : BitVec 32) : Sample :=
  ⟨4, 0, 0, 7, 1, 0, 0, 0, 0, 1, 1, 1, [0], [[]], [[]], 3, [vn], [vs], [], stage, 1, 0, [unitCode 0 0], 1, false⟩
def smps (x : Sample) (t : Task) : State := { one t with ras := { (one t).ras with samples := [x], nextSample := 5 } }
def tests (l : List Test) (v : Nat) : State := let s := regs [(Od.plazaState, 8, v)] full; { s with ras := { s.ras with tests := l } }
/-- The module can send: a traffic key and its TXC records stand, and a parcel waits for device 1. -/
def keyed : State :=
  { full with wal := { full.wal with keys := [(0, [1])] }, emith := { full.emith with txc := [(0, ⟨5, 2 ^ 36, List.replicate 16 none, 1⟩)] } }
def txk : ConnKey := ⟨true, 0, 1, 0, 9⟩
def rxk : ConnKey := ⟨false, 0, 1, 0, 9⟩
def tx : TxConn := ⟨txk, 1, 4, [⟨3, [5], 10, 0, 255⟩], 40000, 0, 0, [], 0, 0, 100000, 255, 1, 0, 2 * 10 ^ 9⟩
def rx : RxConn := { RxConn.fresh rxk 1 8 with firstAt := some 9, marks := [1], since := 1 }
def link (t : List TxConn) (r : List RxConn) (p : List Parcel) : State :=
  { keyed with emith := { keyed.emith with tx := t, rx := r }, rb := { keyed.rb with tx := p } }
def up32 : State := regs [(Od.hostPortState, 1, 2)] full
def session : Session := ⟨3, 0, 2, [1], [1], 0, 0, 0, false, 32⟩
def hcmd (psn op len va : Nat) (body : List Byte) : HostCmd := ⟨3, 1, psn, 32, beBytes 16 (HHead.num ⟨op, 1, len, 0, va, 5, 0⟩) ++ body⟩
/-- Session 3 of context 1, with ring 3 served and commands held. -/
def hosts (x : Session) (l : List HostCmd) : State := { served 0 with emith := { full.emith with sessions := [x], hostRx := l } }
def repair (phase : Nat) (st : Nat) : State := let s := regs [(Od.fabPortState, 16, st)] full; { s with emith := { s.emith with repairs := [⟨15, none, phase, 5⟩] } }
def cli : Client := ⟨1, 2, 34, 77, full.reg Od.odpUdpPort 0, none⟩
def cst : OdpClient := ⟨cli, 5, 0, 0, 0, none, [], none, []⟩
def req (op idx len : Nat) (data : List Byte) : Frame := ⟨BitVec.ofNat 192 (OHead.num ⟨1, op, false, false, 0, 0, 1, 9, idx, 0, len, 0, 0⟩), data, false⟩
def knows (x : OdpClient) : State := { full with odp := { full.odp with clients := [x] } }
def sub : EventSub := ⟨0, 0, 0, 0, 0, false, 5⟩
def ev (seq : Nat) : EventRec := ⟨seq, 0x4300, 255, 5, []⟩
def logs (l : List EventRec) (x : OdpClient) : State := regs [(Od.eventNextSeq, 0, 9)] { knows x with log := l }
def timed (src : Nat) : State := regs [(Od.timeSource, 0, src), (Od.fabPortState, 1, 2)] full
/-- A master that may be chosen, a message of it, and the state that hears it on FP0. -/
def ann : PtpAnnounce := ⟨128, 6, 32, 0, 128, 77, 0, 37⟩
def msg (m : PtpBody) : PtpMessage := ⟨0, (timed 1).reg Od.ptpDomain 0, (timed 1).reg Od.ptpTransport 0, 7, 4, m⟩
def ptp (e : Option PtpExchange) : State := { timed 1 with cal := { Cal.reset with ptpAt := 0, masters := [⟨7, ann, 10 ^ 9, some (10 ^ 9 - 5)⟩], exch := e } }
def cals (l : List CalEvent) : State := { full with cal := { full.cal with events := l } }
def shed (pin : Bool) : State := { full with gov := { full.gov with shed := true, shedAt := 5 }, pins := { full.pins with shed := pin } }
def kinds (k : FwKind) : State := { full with wal := { full.wal with kinds := List.replicate 4 k } }
def pw (v : List Byte) : PWrite := ⟨3, [7], v⟩

end Fix

/-! ### The spec's own examples -/

/-- Numeric formats, "encoding one BS16 block": 0.75 and −0.0123, the draw of element 1 being 0x9000_0000. -/
theorem test_bs16_block : bs16Bytes (bs16Encode ([0x3F400000#32, 0xBC4985F0#32] ++ List.replicate 62 0#32) 0 0 (fun _ => 0x90000000)).1
    = [0x7F, 0, 0, 0, 0x00, 0x30, 0x36, 0xFF] ++ List.replicate 124 (0 : Byte) := by decide +kernel

/-- Roundabout, "one BS16 block on eight members": the sums 2.5 and 4.25 in blocks, and 5.75 in BF16. -/
theorem test_bs16_hops : (bs16Encode [0x40200000#32] 127 0 (fun _ => 0)).1 = ⟨0, false, 129, [10240]⟩
    ∧ (bs16Encode [0x40880000#32] 0 1 (fun _ => 0)).1 = ⟨1, false, 130, [8704]⟩
    ∧ srBF16 0x40B80000#32 0xFFFF = (0x40B8, false) := by decide +kernel

/-- Numeric formats, "one weight update with remainder": `w' = 1 - 1678 * 2^-24` and `u = 154` give weight 1.0 and `q = -6`. -/
theorem test_weight_update : remUpdate (BitVec.ofNat 32 (0x3F800000 - 1678)) 154 = (0x3F80, -6, 0)
    ∧ f32 (master32 0x3F80 (-6)) = .fin false (2 ^ 23 + 2 ^ 23 - 6 * 256) (-24) := by decide +kernel

/-- HBM, "locating one granule": the address lies on pseudo-channel 5, of stack 0. -/
theorem test_granule : pcOf 0x001234567A00 = 5 ∧ stackOf 0x001234567A00 = 0 := by decide

/-- Dispatcher, "a ring across its index wrap": the header of the descriptor at index 0. -/
theorem test_descriptor : let d : Desc := BitVec.ofNat 512 0x24000000670000002400000000000000
    opcodeOf d = opMatmul ∧ passOf d = passFwd ∧ spOf d = 0 ∧ wait0Of d = (103, 36) ∧ wait1Of d = (0, 0) ∧ sigOf d = 0 := by decide +kernel

/-- Dispatcher, "a ring across its index wrap": the doorbell moves the producer of ring 4100 from 65,534 across the wrap to 8, and one more than the depth is refused. -/
theorem test_doorbell_wrap :
    let r : Ring := { Ring.empty with cfg := Fix.rec256 [(242, 4100), (234, 5), (227, 8), (226, 1), (144, 0x10000000), (80, 0x10004000)], state := .active, fetch := 65534, producer := 65534 }
    let s : State := { Fix.full with disp := { Fix.full.disp with rings := [(4100, r)] } }
    (s.run (xDoorbell 0x4010000000000008#64)).disp.rings = [(4100, { r with producer := 8, workAt := Fix.full.dt + 1 })]
      ∧ (s.run (xDoorbell 0x40100000000000FF#64)).disp.rings = [(4100, r)] := by decide +kernel


theorem witness_StepRunsFront :
    (∃ (s : State) (c : Instr) (rest : List Instr), s.pending = c :: rest)
    ∧ (∃ (s : State), s.pending = []) :=
  ⟨⟨{Fix.up with pending := [.sourceSilence, .lossOfInput]}, .sourceSilence, [.lossOfInput], by decide +kernel⟩,
   ⟨Fix.up, by decide +kernel⟩⟩

theorem witness_QueueIsFifo :
    (∃ (c : Instr) (s : State) (t : State), exec c s = .next t)
    ∧ (∃ (s : State) (t : State), step s = .next t) :=
  ⟨⟨.lossOfInput, Fix.up, _, rfl⟩,
   ⟨Fix.up, _, rfl⟩⟩

theorem witness_SettledKept :
    (∃ (s : State) (t : State), Settled s.toBlock ∧ step s = .next t) :=
  ⟨Fix.up, _, by unfold Settled; decide +kernel, rfl⟩

theorem witness_AlertFollowsLog :
    (∃ (s : State) (t : State), Settled s.toBlock ∧ step s = .next t)
    ∧ (∃ (s : State) (v : Nat), s.sys.phase = .up ∧ s.toBlock.walnutBusy = false ∧ v < 2 ^ 32) :=
  ⟨⟨Fix.up, _, by unfold Settled; decide +kernel, rfl⟩,
   ⟨Fix.up, 2 ^ 32 - 1, by decide +kernel⟩⟩

theorem witness_SingleErrorCorrected :
    (∃ (d : Nat) (i : Nat), d < 2 ^ 64 ∧ i < 64) :=
  ⟨2 ^ 64 - 1, 63, by decide +kernel⟩

theorem witness_DoubleErrorDetected :
    (∃ (d : Nat) (i : Nat) (j : Nat), d < 2 ^ 64 ∧ i < 64 ∧ j < i) :=
  ⟨2 ^ 64 - 1, 63, 62, by decide +kernel⟩

theorem witness_PowerPins :
    (∃ (s : State), s.pins.pgood = true)
    ∧ (∃ (s : State), s.pins.pgood = false)
    ∧ (∃ (s : State), s.sys.phase ≠ .off)
    ∧ (∃ (s : State), s.sys.phase = .off)
    ∧ (∃ (s : State), s.pins.pgood = true)
    ∧ (∃ (s : State), s.pins.pgood = false ∧ s.pins.rst = true)
    ∧ (∃ (s : State), s.pins.pgood = false ∧ s.pins.rst = false)
    ∧ (∃ (s : State), s.pins.rst = false)
    ∧ (∃ (s : State), s.pins.rst = true ∧ s.pins.pgood = false)
    ∧ (∃ (s : State), s.pins.rst = true ∧ s.pins.pgood = true)
    ∧ (∃ (mv : Nat), 44000 ≤ mv ∧ mv ≤ 66000)
    ∧ (∃ (mv : Nat), 42000 < mv ∧ mv < 44000)
    ∧ (∃ (s : State) (mv : Nat), mv ≤ 42000 ∧ s.sys.phase = .off)
    ∧ (∃ (s : State) (mv : Nat), mv ≤ 42000 ∧ s.sys.phase ≠ .off) :=
  ⟨⟨Fix.full, by decide +kernel⟩,
   ⟨State.reset, by decide +kernel⟩,
   ⟨Fix.full, by decide +kernel⟩,
   ⟨State.reset, by decide +kernel⟩,
   ⟨Fix.full, by decide +kernel⟩,
   ⟨{State.reset with pins := {Pins.reset with rst := true}}, by decide +kernel⟩,
   ⟨State.reset, by decide +kernel⟩,
   ⟨Fix.full, by decide +kernel⟩,
   ⟨{State.reset with pins := {Pins.reset with rst := true}}, by decide +kernel⟩,
   ⟨{State.reset with pins := {Pins.reset with rst := true, pgood := true}}, by decide +kernel⟩,
   ⟨66000, by decide +kernel⟩,
   ⟨43999, by decide +kernel⟩,
   ⟨State.reset, 42000, by decide +kernel⟩,
   ⟨Fix.full, 42000, by decide +kernel⟩⟩

theorem witness_WarmReset :
    (∃ (s : State), Writable s.toBlock ∧ s.toBlock.inBringup = false)
    ∧ (∃ (s : State) (v : Nat), Writable s.toBlock ∧ v ≠ 1) :=
  ⟨⟨Fix.full, by decide +kernel⟩,
   ⟨Fix.full, 2, by decide +kernel⟩⟩

theorem witness_UnitResets :
    (∃ (s : State) (k : Nat), k < 4 ∧ Writable s.toBlock ∧ s.toBlock.live = true ∧ s.service = svcFull ∧ s.toBlock.boroughBusy k = false)
    ∧ (∃ (s : State) (k : Nat), k < 4 ∧ s.toBlock.live = true ∧ s.toBlock.walnutBusy = false ∧ s.service = svcFull ∧ s.toBlock.boroughBusy k = false)
    ∧ (∃ (s : State) (p : Nat), p < 8 ∧ Writable s.toBlock ∧ s.toBlock.live = true ∧ s.service = svcFull ∧ s.plaza p ≠ plRetired ∧ (∀ c ∈ s.sys.checks, c.1 ≠ p)) :=
  ⟨⟨Fix.full, 3, by decide +kernel⟩,
   ⟨Fix.full, 3, by decide +kernel⟩,
   ⟨Fix.full, 7, by decide +kernel⟩⟩

theorem witness_ContextResets :
    (∃ (s : State) (c : Nat), c < 64 ∧ Writable s.toBlock ∧ s.service ≠ svcManagement ∧ s.toBlock.resetting c = false)
    ∧ (∃ (s : State) (c : Nat), c < 64 ∧ s.toBlock.resetting c = true ∧ s.toBlock.live = true) :=
  ⟨⟨Fix.full, 63, by decide +kernel⟩,
   ⟨Fix.regs [(Od.ctxState, 64, 1)] Fix.full, 63, by decide +kernel⟩⟩

theorem witness_StartCheck :
    (∃ (s : State) (p : Nat) (r : TestResult), p < 8 ∧ s.toBlock.live = true ∧ s.sys.checks.find? (fun c => c.1 == p) = some (p, .bringup) ∧ r.failed = [] ∧ s.toBlock.mustRetire p = false)
    ∧ (∃ (s : State) (p : Nat) (r : TestResult), p < 8 ∧ s.toBlock.live = true ∧ s.sys.checks.find? (fun c => c.1 == p) = some (p, .plazaReset) ∧ r.failed = [] ∧ s.toBlock.mustRetire p = false ∧ s.service = svcFull ∧ s.reg Od.plazaHold (p + 1) = 0 ∧ s.ras.tests = [])
    ∧ (∃ (s : State) (p : Nat) (k : Nat) (r : TestResult) (why : CheckFor), p < 8 ∧ k < 144 ∧ s.toBlock.live = true ∧ s.sys.checks.find? (fun c => c.1 == p) = some (p, why) ∧ r.failed = [(unitCode p k, true)]) :=
  ⟨⟨{Fix.up with sys := {Fix.up.sys with checks := [(7, .bringup)]}}, 7, ⟨[], 60, 5⟩, by decide +kernel⟩,
   ⟨{Fix.full with sys := {Fix.up.sys with checks := [(7, .plazaReset)]}}, 7, ⟨[], 60, 5⟩, by decide +kernel⟩,
   ⟨{Fix.full with sys := {Fix.up.sys with checks := [(7, .plazaReset)]}}, 7, 143, ⟨[(unitCode 7 143, true)], 60, 5⟩, .plazaReset, by decide +kernel⟩⟩

theorem witness_Service :
    (∃ (s : State), s.toBlock.live = true ∧ s.service = svcManagement ∧ s.gov.shed = false ∧ s.toBlock.usesLimited = true ∧ s.toBlock.checking [0, 1] = false ∧ s.sys.hp0Trained = true)
    ∧ (∃ (s : State), s.toBlock.live = true ∧ s.service ≠ svcFull ∧ s.gov.shed = false ∧ s.toBlock.shedAsked = false ∧ (s.service = svcManagement → s.toBlock.usesLimited = false) ∧ s.toBlock.checking (List.range 8) = false ∧ s.sys.slowOk = true ∧ s.toBlock.edgesFailed = [] ∧ (∀ k < 8, nth true s.toBlock.laneTest.sys.hbmOk k = true))
    ∧ (∃ (s : State), s.toBlock.live = true ∧ s.service ≠ svcFull ∧ s.gov.shed = false ∧ (s.service = svcManagement → s.toBlock.usesLimited = false) ∧ s.toBlock.checking (List.range 8) = false ∧ (s.sys.slowOk = false ∨ s.toBlock.edgesFailed ≠ [] ∨ ∃ k < 8, nth true s.toBlock.laneTest.sys.hbmOk k = false)) :=
  ⟨⟨Fix.regs [(Od.limitedEnable, 0, 1), (Od.plazaState, 1, 4)] {Fix.up with sys := {Fix.up.sys with hp0Trained := true, passed := [0, 1]}}, by decide +kernel⟩,
   ⟨{Fix.up with sys := {Fix.up.sys with slowOk := true, edgesOk := List.replicate 4 true, hbmOk := [true]}}, by decide +kernel⟩,
   ⟨Fix.up, by decide +kernel⟩⟩

theorem witness_PowerStates :
    (∃ (s : State), Writable s.toBlock ∧ s.power = pwrPark)
    ∧ (∃ (s : State), Writable s.toBlock ∧ s.power = pwrStandby)
    ∧ (∃ (s : State), Writable s.toBlock ∧ s.power ≠ pwrPark ∧ s.power ≠ pwrStandby)
    ∧ (∃ (s : State), Writable s.toBlock ∧ s.toBlock.mayPark = true)
    ∧ (∃ (s : State), Writable s.toBlock ∧ s.toBlock.mayPark = false)
    ∧ (∃ (s : State), Writable s.toBlock ∧ (s.toBlock.mayPark = true ∨ s.power = pwrPark))
    ∧ (∃ (s : State), s.toBlock.live = true ∧ s.power = pwrRun ∧ s.service = svcFull ∧ s.gov.shed = false ∧ s.toBlock.busy = false) :=
  ⟨⟨Fix.regs [(Od.pwrState, 0, 2)] Fix.full, by decide +kernel⟩,
   ⟨Fix.regs [(Od.pwrState, 0, 3)] Fix.up, by decide +kernel⟩,
   ⟨Fix.full, by decide +kernel⟩,
   ⟨Fix.full, by decide +kernel⟩,
   ⟨Fix.up, by decide +kernel⟩,
   ⟨Fix.full, by decide +kernel⟩,
   ⟨Fix.full, by decide +kernel⟩⟩

theorem witness_PlazaWrites :
    (∃ (s : State) (p : Nat) (v : Nat), p < 8 ∧ v ≤ 2 ∧ Writable s.toBlock)
    ∧ (∃ (s : State) (v : Nat), 2 < v ∧ Writable s.toBlock)
    ∧ (∃ (s : State) (p : Nat), p < 8 ∧ Writable s.toBlock ∧ s.service = svcFull ∧ s.plaza p ≠ plRetired ∧ s.dt < 2 ^ 64 ∧ (∀ x ∈ s.ras.tests, x.plaza = p → x.draining = false))
    ∧ (∃ (s : State) (p : Nat), p < 8 ∧ Writable s.toBlock ∧ s.service = svcFull ∧ s.plaza p ≠ plRetired ∧ (∃ x ∈ s.ras.tests, x.plaza = p ∧ x.draining = true))
    ∧ (∃ (s : State) (p : Nat), Writable s.toBlock ∧ (7 < p ∨ s.service ≠ svcFull ∨ s.plaza p = plRetired)) :=
  ⟨⟨Fix.full, 7, 2, by decide +kernel⟩,
   ⟨Fix.full, 3, by decide +kernel⟩,
   ⟨Fix.full, 7, by decide +kernel⟩,
   ⟨Fix.tests [⟨7, false, 5, true, 0⟩] 0, 7, by decide +kernel⟩,
   ⟨Fix.full, 8, by decide +kernel⟩⟩

theorem witness_RingWrites :
    (∃ (s : State) (r : BitVec 256), Writable s.toBlock ∧ s.service ≠ svcManagement ∧ s.toBlock.resetting (cfgCtx r) = false ∧ s.toBlock.ringResetting (cfgRing r) = false ∧ (s.toBlock.ring (cfgRing r)).state = .disabled ∧ cfgEnable r = true ∧ (∀ x ∈ s.disp.tasks, x.ring ≠ cfgRing r) ∧ badRing r = false)
    ∧ (∃ (s : State) (r : BitVec 256), Writable s.toBlock ∧ s.service ≠ svcManagement ∧ s.toBlock.ringResetting (cfgRing r) = false ∧ cfgEnable r = false)
    ∧ (∃ (s : State) (r : BitVec 256), Writable s.toBlock ∧ (s.service = svcManagement ∨ s.toBlock.ringResetting (cfgRing r) = true ∨ (cfgEnable r = true ∧ (s.toBlock.resetting (cfgCtx r) = true ∨ (s.toBlock.ring (cfgRing r)).state ≠ .disabled ∨ (∃ x ∈ s.disp.tasks, x.ring = cfgRing r) ∨ badRing r = true))))
    ∧ (∃ (s : State) (k : Nat), Writable s.toBlock ∧ (s.toBlock.ring k).state = .halted ∧ (s.toBlock.ring k).reason ≠ 7)
    ∧ (∃ (s : State) (k : Nat), Writable s.toBlock ∧ ((s.toBlock.ring k).state ≠ .halted ∨ (s.toBlock.ring k).reason = 7))
    ∧ (∃ (s : State) (v : Nat), Writable s.toBlock ∧ v < 2 ^ 32) :=
  ⟨⟨Fix.full, Fix.cfg3, by decide +kernel⟩,
   ⟨Fix.ring Fix.ring3 Fix.full, Fix.rec256 [(242, 3)], by decide +kernel⟩,
   ⟨Fix.ring Fix.ring3 Fix.full, Fix.cfg3, by decide +kernel⟩,
   ⟨Fix.ring {Fix.ring3 with state := .halted, reason := 6} Fix.full, 3, by decide +kernel⟩,
   ⟨Fix.ring {Fix.ring3 with state := .halted, reason := 7} Fix.full, 3, by decide +kernel⟩,
   ⟨Fix.full, 2 ^ 32 - 1, by decide +kernel⟩⟩

theorem witness_Doorbells :
    (∃ (s : State) (w : BitVec 64) (r : Ring), s.toBlock.live = true ∧ r = s.toBlock.ring (bits w.toNat 63 50) ∧ bits w.toNat 49 16 = 0 ∧ r.state = .active ∧ s.toBlock.resetting (cfgCtx r.cfg) = false ∧ (bits w.toNat 15 0 + 2 ^ 16 - r.fetch) % 2 ^ 16 ≤ 2 ^ cfgLog r.cfg)
    ∧ (∃ (s : State) (w : BitVec 64) (r : Ring), s.toBlock.live = true ∧ r = s.toBlock.ring (bits w.toNat 63 50) ∧ (bits w.toNat 49 16 ≠ 0 ∨ r.state ≠ .active ∨ s.toBlock.resetting (cfgCtx r.cfg) = true ∨ 2 ^ cfgLog r.cfg < (bits w.toNat 15 0 + 2 ^ 16 - r.fetch) % 2 ^ 16))
    ∧ (∃ (s : State) (k : Nat) (x : Task) (r : Ring), s.toBlock.starting k opEvent = some x ∧ eventKind x.desc = 1 ∧ s.gov.shed = false ∧ r = s.toBlock.ring (eventRing x.desc) ∧ cfgCtx r.cfg = x.ctx ∧ r.state = .active ∧ s.toBlock.resetting x.ctx = false ∧ (eventProducer x.desc + 2 ^ 16 - r.fetch) % 2 ^ 16 ≤ 2 ^ cfgLog r.cfg)
    ∧ (∃ (s : State) (k : Nat) (x : Task), s.toBlock.starting k opEvent = some x ∧ eventKind x.desc = 1 ∧ s.gov.shed = false ∧ cfgCtx (s.toBlock.ring (eventRing x.desc)).cfg ≠ x.ctx) :=
  ⟨⟨Fix.ring Fix.ring3 Fix.full, BitVec.ofNat 64 (3 * 2 ^ 50 + 16), Fix.ring3, by decide +kernel⟩,
   ⟨Fix.ring Fix.ring3 Fix.full, BitVec.ofNat 64 (3 * 2 ^ 50 + 17), Fix.ring3, by decide +kernel⟩,
   ⟨Fix.tasks [Fix.tk opEvent [(510, 1), (488, 3), (472, 16)]] (Fix.ring Fix.ring3 Fix.full), 7, Fix.tk opEvent [(510, 1), (488, 3), (472, 16)], Fix.ring3, by decide +kernel⟩,
   ⟨Fix.tasks [Fix.tk opEvent [(510, 1), (488, 4), (472, 16)]] (Fix.ring Fix.ring3 Fix.full), 7, Fix.tk opEvent [(510, 1), (488, 4), (472, 16)], by decide +kernel⟩⟩

theorem witness_FetchAndIssue :
    (∃ (s : State) (k : Nat) (pa : Nat) (tk : Nat) (r : Ring) (d : Desc) (b : Block), r = s.toBlock.ring k ∧ d = BitVec.ofNat 512 (ofLE (s.toBlock.readPhys pa 64).1) ∧ s.toBlock.dispRuns = true ∧ s.toBlock.resetting (cfgCtx r.cfg) = false ∧ FetchServed s.toBlock k ∧ s.service = svcFull ∧ r.state = .active ∧ r.fetch ≠ r.producer ∧ (s.toBlock.heldTasks k).length < 8 ∧ s.toBlock.slotAddr (cfgCtx r.cfg) (cfgBase r.cfg + 64 * (r.fetch % 2 ^ cfgLog r.cfg)) false = some pa ∧ (s.toBlock.readPhys pa 64).2 = false ∧ s.toBlock.malformed (cfgCtx r.cfg) d = 0 ∧ s.toBlock.newTicket k = some (tk, b))
    ∧ (∃ (s : State) (k : Nat) (pa : Nat) (m : Nat) (r : Ring) (d : Desc), r = s.toBlock.ring k ∧ d = BitVec.ofNat 512 (ofLE (s.toBlock.readPhys pa 64).1) ∧ s.toBlock.dispRuns = true ∧ s.toBlock.resetting (cfgCtx r.cfg) = false ∧ FetchServed s.toBlock k ∧ s.service = svcFull ∧ r.state = .active ∧ r.fetch ≠ r.producer ∧ (s.toBlock.heldTasks k).length < 8 ∧ s.toBlock.slotAddr (cfgCtx r.cfg) (cfgBase r.cfg + 64 * (r.fetch % 2 ^ cfgLog r.cfg)) false = some pa ∧ (s.toBlock.readPhys pa 64).2 = false ∧ s.toBlock.malformed (cfgCtx r.cfg) d = m ∧ m ≠ 0)
    ∧ (∃ (s : State) (k : Nat) (x : Task), (s.toBlock.heldTasks k).head? = some x ∧ s.toBlock.dispRuns = true ∧ s.toBlock.resetting x.ctx = false ∧ s.toBlock.issueHold x = 0 ∧ IssueServed s.toBlock k ∧ opcodeOf x.desc ≠ opXfer ∧ opcodeOf x.desc ≠ opGather ∧ opcodeOf x.desc ≠ opScatter)
    ∧ (∃ (s : State) (k : Nat) (x : Task), (s.toBlock.heldTasks k).head? = some x ∧ s.toBlock.dispRuns = true ∧ s.toBlock.resetting x.ctx = false ∧ s.toBlock.issueHold x = 0 ∧ IssueServed s.toBlock k ∧ (opcodeOf x.desc = opXfer ∨ opcodeOf x.desc = opGather ∨ opcodeOf x.desc = opScatter))
    ∧ (∃ (s : State) (k : Nat) (x : Task), (s.toBlock.heldTasks k).head? = some x ∧ s.toBlock.dispRuns = true ∧ s.toBlock.resetting x.ctx = false ∧ s.toBlock.issueHold x ≠ 0)
    ∧ (∃ (s : State) (k : Nat) (x : Task), (s.toBlock.heldTasks k).head? = some x ∧ s.toBlock.dispRuns = true ∧ s.toBlock.resetting x.ctx = false ∧ s.toBlock.issueHold x = 0 ∧ ¬ IssueServed s.toBlock k)
    ∧ (∃ (s : State) (k : Nat) (x : Task), (s.toBlock.heldTasks k).head? = some x ∧ s.toBlock.dispRuns = true ∧ s.toBlock.resetting x.ctx = false) :=
  ⟨⟨Fix.cells [(0x20100F, 0x10)] (Fix.served 1), 3, 0x201000, 0, _, _, {(Fix.cells [(0x20100F, 0x10)] (Fix.served 1)).toBlock with disp := {(Fix.served 1).disp with gens := [(0, 1)]}}, rfl, rfl, by decide +kernel⟩,
   ⟨Fix.served 1, 3, 0x201000, 1, _, _, rfl, rfl, by decide +kernel⟩,
   ⟨Fix.one (Fix.held opFence []), 3, Fix.held opFence [], by decide +kernel⟩,
   ⟨Fix.one (Fix.held opXfer [(509, 2)]), 3, Fix.held opXfer [(509, 2)], by decide +kernel⟩,
   ⟨Fix.one (Fix.held opFence [(88, 1), (56, 5)]), 3, Fix.held opFence [(88, 1), (56, 5)], by decide +kernel⟩,
   ⟨Fix.tasks ((List.range 5).map (fun i => {Fix.held opFence [] with ring := 3 + i, ticket := 7 + i})) (Fix.served 1), 7, {Fix.held opFence [] with ring := 7, ticket := 11}, by decide +kernel⟩,
   ⟨Fix.one (Fix.held opFence []), 3, Fix.held opFence [], by decide +kernel⟩⟩

theorem witness_Complete :
    (∃ (s : State) (k : Nat) (st : Nat) (u : Nat) (pa : Nat) (x : Task), s.toBlock.task? k = some x ∧ x.phase = .ended st u ∧ s.toBlock.live = true ∧ s.gov.shed = false ∧ s.toBlock.resetting x.ctx = false ∧ (x.ring, k) ∉ s.disp.stuck ∧ opcodeOf x.desc ≠ opNormClose ∧ s.toBlock.slotAddr (cfgCtx x.cfg) (recordAt x.cfg x.index) true = some pa ∧ pa % 64 = 0 ∧ s.toBlock.lostAt pa = false)
    ∧ (∃ (s : State) (k : Nat) (st : Nat) (u : Nat) (x : Task), s.toBlock.task? k = some x ∧ x.phase = .ended st u ∧ s.toBlock.live = true ∧ s.gov.shed = false ∧ s.toBlock.resetting x.ctx = false ∧ (x.ring, k) ∉ s.disp.stuck ∧ s.toBlock.slotAddr (cfgCtx x.cfg) (recordAt x.cfg x.index) true = none) :=
  ⟨⟨Fix.one {Fix.tk opFence [] with phase := .ended 0 0}, 7, 0, 0, 0x202000, {Fix.tk opFence [] with phase := .ended 0 0}, by decide +kernel⟩,
   ⟨Fix.tasks [{Fix.tk opFence [] with phase := .ended 0 0}] (Fix.ring Fix.ring3 Fix.full), 7, 0, 0, {Fix.tk opFence [] with phase := .ended 0 0}, by decide +kernel⟩⟩

theorem witness_Fences :
    (∃ (s : State) (k : Nat) (x : Task), s.toBlock.starting k opFence = some x ∧ passOf x.desc = passNone ∧ fenceScope x.desc = 0 ∧ s.gov.shed = false)
    ∧ (∃ (s : State) (k : Nat) (x : Task), s.toBlock.starting k opFence = some x ∧ passOf x.desc = passNone ∧ fenceScope x.desc = 1 ∧ s.gov.shed = false ∧ s.toBlock.earlierDone x = true)
    ∧ (∃ (s : State) (k : Nat) (x : Task), s.toBlock.starting k opFence = some x ∧ s.toBlock.earlierDone x = false)
    ∧ (∃ (s : State) (k : Nat) (x : Task), s.toBlock.starting k opFence = some x ∧ passOf x.desc = passNone ∧ fenceScope x.desc = 2 ∧ s.gov.shed = false ∧ (∀ w ∈ x.waits, s.toBlock.task? w = none))
    ∧ (∃ (s : State) (k : Nat) (x : Task), s.toBlock.starting k opFence = some x ∧ (∃ w ∈ x.waits, s.toBlock.task? w ≠ none))
    ∧ (∃ (s : State) (k : Nat) (x : Task), s.toBlock.starting k opFence = some x ∧ passOf x.desc = passBwd ∧ s.gov.shed = false ∧ (∃ y ∈ s.disp.turns, y.2.2 = k) ∧ fwdCountOf x.desc ≤ s.reg Od.ctxFwdDone (x.ctx + 1))
    ∧ (∃ (s : State) (k : Nat) (x : Task), s.toBlock.starting k opFence = some x ∧ (∃ y ∈ s.disp.turns, y.2.2 = k) ∧ s.reg Od.ctxFwdDone (x.ctx + 1) < fwdCountOf x.desc)
    ∧ (∃ (s : State) (k : Nat) (x : Task), s.toBlock.starting k opFence = some x ∧ passOf x.desc = passBwd ∧ s.gov.shed = false ∧ (∀ y ∈ s.disp.turns, y.2.2 ≠ k)) :=
  ⟨⟨Fix.one (Fix.tk opFence []), 7, Fix.tk opFence [], by decide +kernel⟩,
   ⟨Fix.one (Fix.tk opFence [(510, 1)]), 7, Fix.tk opFence [(510, 1)], by decide +kernel⟩,
   ⟨Fix.tasks [{Fix.tk opFence [] with ticket := 6}, Fix.tk opFence [(510, 1)]] (Fix.served 2), 7, Fix.tk opFence [(510, 1)], by decide +kernel⟩,
   ⟨Fix.one ({Fix.tk opFence [(510, 2)] with waits := [5]}), 7, {Fix.tk opFence [(510, 2)] with waits := [5]}, by decide +kernel⟩,
   ⟨Fix.tasks [{Fix.tk opFence [] with ticket := 6}, {Fix.tk opFence [(510, 2)] with waits := [6]}] (Fix.served 2), 7, {Fix.tk opFence [(510, 2)] with waits := [6]}, by decide +kernel⟩,
   ⟨Fix.regs [(Od.ctxFwdDone, 2, 2)] {Fix.one (Fix.tk opFence [(122, passBwd), (480, 2)]) with disp := {(Fix.one (Fix.tk opFence [(122, passBwd), (480, 2)])).disp with turns := [(1, 0, 7)]}}, 7, Fix.tk opFence [(122, passBwd), (480, 2)], by decide +kernel⟩,
   ⟨Fix.regs [(Od.ctxFwdDone, 2, 1)] {Fix.one (Fix.tk opFence [(122, passBwd), (480, 2)]) with disp := {(Fix.one (Fix.tk opFence [(122, passBwd), (480, 2)])).disp with turns := [(1, 0, 7)]}}, 7, Fix.tk opFence [(122, passBwd), (480, 2)], by decide +kernel⟩,
   ⟨Fix.one (Fix.tk opFence [(122, passBwd), (480, 2)]), 7, Fix.tk opFence [(122, passBwd), (480, 2)], by decide +kernel⟩⟩

theorem witness_DispatcherTasks :
    (∃ (s : State) (k : Nat) (x : Task), s.toBlock.starting k opEvent = some x ∧ eventKind x.desc = 0 ∧ s.gov.shed = false)
    ∧ (∃ (s : State) (k : Nat) (n : Nat) (x : Task), n = s.toBlock.moduleToken x.ctx (eventToken x.desc) ∧ s.toBlock.starting k opEvent = some x ∧ eventKind x.desc = 2 ∧ s.gov.shed = false ∧ eventToken x.desc ≠ 0)
    ∧ (∃ (s : State) (k : Nat) (x : Task), s.toBlock.starting k opTimeWait = some x ∧ s.gov.shed = false ∧ timeTarget x.desc ≤ s.dt)
    ∧ (∃ (s : State) (k : Nat) (x : Task), s.toBlock.starting k opTimeWait = some x ∧ s.gov.shed = false ∧ s.dt < timeTarget x.desc)
    ∧ (∃ (s : State) (k : Nat) (x : Task), s.toBlock.task? k = some x ∧ x.phase = .running ∧ x.stage = 1 ∧ opcodeOf x.desc = opTimeWait ∧ s.gov.shed = false)
    ∧ (∃ (s : State) (k : Nat), s.toBlock.isHeld k = true ∧ (s.toBlock.holdOf k).alerted = false ∧ s.reg Od.dispHoldAlertMs 0 ≠ 0 ∧ (s.toBlock.holdOf k).since + s.reg Od.dispHoldAlertMs 0 * 10 ^ 6 < s.dt)
    ∧ (∃ (s : State) (c : Nat) (r : Nat), sget 0 s.disp.release c = r + 1 ∧ s.toBlock.inOrder r 3 = true) :=
  ⟨⟨Fix.one (Fix.tk opEvent [(502, 255), (360, 258)]), 7, Fix.tk opEvent [(502, 255), (360, 258)], by decide +kernel⟩,
   ⟨Fix.one (Fix.tk opEvent [(510, 2), (456, 1), (424, 3)]), 7, _, Fix.tk opEvent [(510, 2), (456, 1), (424, 3)], rfl, by decide +kernel⟩,
   ⟨Fix.one (Fix.tk opTimeWait [(448, 10 ^ 9 + 7)]), 7, Fix.tk opTimeWait [(448, 10 ^ 9 + 7)], by decide +kernel⟩,
   ⟨Fix.one (Fix.tk opTimeWait [(448, 10 ^ 9 + 8)]), 7, Fix.tk opTimeWait [(448, 10 ^ 9 + 8)], by decide +kernel⟩,
   ⟨Fix.one ({Fix.tk opTimeWait [(448, 10 ^ 9 + 8)] with stage := 1}), 7, {Fix.tk opTimeWait [(448, 10 ^ 9 + 8)] with stage := 1}, by decide +kernel⟩,
   ⟨{Fix.ring Fix.ring3 Fix.full with dt := 10 ^ 12, disp := {(Fix.ring Fix.ring3 Fix.full).disp with holds := [(3, ⟨1, 7, false⟩)]}}, 3, by decide +kernel⟩,
   ⟨{Fix.full with disp := {Fix.full.disp with release := [(1, 2 * 10 ^ 9 + 1)]}}, 1, 2 * 10 ^ 9, by decide +kernel⟩⟩

theorem witness_PlazaTasks :
    (∃ (s : State) (k : Nat) (sel : List Nat) (x : Task) (r : Block × Option Nat), r = s.toBlock.tilesRun x (mmOf x.desc) sel (s.toBlock.tilesLeft x (mmOf x.desc)) ∧ s.toBlock.starting k opMatmul = some x ∧ (mmOf x.desc).mode = 0 ∧ s.gov.shed = false ∧ (∀ f ∈ s.plz.ports, f.ticket ≠ k) ∧ ((s.toBlock.intake k).tile ≠ 0 ∨ s.toBlock.keepFault x (mmOf x.desc) = false) ∧ r.2 = none ∧ r.1.tilesLeft x (mmOf x.desc) = [] ∧ r.1.ras.nextSample = s.ras.nextSample ∧ (∀ j ∈ s.plz.drains, j.set_.ticket ≠ k))
    ∧ (∃ (s : State) (k : Nat) (sel : List Nat) (x : Task) (r : Block × Option Nat), r = s.toBlock.tilesRun x (mmOf x.desc) sel (s.toBlock.tilesLeft x (mmOf x.desc)) ∧ s.toBlock.starting k opDist = some x ∧ (mmOf x.desc).mode = 1 ∧ s.gov.shed = false ∧ (∀ f ∈ s.plz.ports, f.ticket ≠ k) ∧ ((s.toBlock.intake k).tile ≠ 0 ∨ s.toBlock.keepFault x (mmOf x.desc) = false) ∧ r.2 = none ∧ r.1.tilesLeft x (mmOf x.desc) = [] ∧ r.1.ras.nextSample = s.ras.nextSample ∧ (∀ j ∈ s.plz.drains, j.set_.ticket ≠ k))
    ∧ (∃ (s : State) (k : Nat) (sel : List Nat) (x : Task) (r : Block × Option Nat), r = s.toBlock.tilesRun x (mmOf x.desc) sel (s.toBlock.tilesLeft x (mmOf x.desc)) ∧ s.toBlock.starting k opDist = some x ∧ (mmOf x.desc).mode = 2 ∧ s.gov.shed = false ∧ (∀ f ∈ s.plz.ports, f.ticket ≠ k) ∧ ((s.toBlock.intake k).tile ≠ 0 ∨ s.toBlock.keepFault x (mmOf x.desc) = false) ∧ r.2 = none ∧ r.1.tilesLeft x (mmOf x.desc) = [] ∧ r.1.ras.nextSample = s.ras.nextSample ∧ (∀ j ∈ s.plz.drains, j.set_.ticket ≠ k))
    ∧ (∃ (s : State) (k : Nat) (sel : List Nat) (x : Task) (r : Block × Option Nat), r = s.toBlock.tilesRun x (mmOf x.desc) sel (s.toBlock.tilesLeft x (mmOf x.desc)) ∧ s.toBlock.starting k opDist = some x ∧ (mmOf x.desc).mode = 3 ∧ s.gov.shed = false ∧ (∀ f ∈ s.plz.ports, f.ticket ≠ k) ∧ ((s.toBlock.intake k).tile ≠ 0 ∨ s.toBlock.keepFault x (mmOf x.desc) = false) ∧ r.2 = none ∧ r.1.tilesLeft x (mmOf x.desc) = [] ∧ r.1.ras.nextSample = s.ras.nextSample ∧ (∀ j ∈ s.plz.drains, j.set_.ticket ≠ k))
    ∧ (∃ (s : State) (k : Nat) (sel : List Nat) (x : Task) (r : Block × Option Nat), r = s.toBlock.tilesRun x (mmOf x.desc) sel (s.toBlock.tilesLeft x (mmOf x.desc)) ∧ s.toBlock.starting k opDist = some x ∧ (mmOf x.desc).mode = 4 ∧ s.gov.shed = false ∧ (∀ f ∈ s.plz.ports, f.ticket ≠ k) ∧ ((s.toBlock.intake k).tile ≠ 0 ∨ s.toBlock.keepFault x (mmOf x.desc) = false) ∧ r.2 = none ∧ r.1.tilesLeft x (mmOf x.desc) = [] ∧ r.1.ras.nextSample = s.ras.nextSample ∧ (∀ j ∈ s.plz.drains, j.set_.ticket ≠ k))
    ∧ (∃ (s : State) (k : Nat) (sel : List Nat) (x : Task) (r : Block × Option Nat), r = s.toBlock.tilesRun x (mmOf x.desc) sel (s.toBlock.tilesLeft x (mmOf x.desc)) ∧ s.toBlock.starting k opDist = some x ∧ (mmOf x.desc).mode = 5 ∧ s.gov.shed = false ∧ (∀ f ∈ s.plz.ports, f.ticket ≠ k) ∧ ((s.toBlock.intake k).tile ≠ 0 ∨ s.toBlock.keepFault x (mmOf x.desc) = false) ∧ r.2 = none ∧ r.1.tilesLeft x (mmOf x.desc) = [] ∧ r.1.ras.nextSample = s.ras.nextSample ∧ (∀ j ∈ s.plz.drains, j.set_.ticket ≠ k))
    ∧ (∃ (s : State) (k : Nat) (sel : List Nat) (x : Task) (r : Block × Option Nat), r = s.toBlock.tilesRun x (mmOf x.desc) sel (s.toBlock.tilesLeft x (mmOf x.desc)) ∧ s.toBlock.starting k opMatmul = some x ∧ (mmOf x.desc).mode = 0 ∧ s.gov.shed = false ∧ (∀ f ∈ s.plz.ports, f.ticket ≠ k) ∧ ((s.toBlock.intake k).tile ≠ 0 ∨ s.toBlock.keepFault x (mmOf x.desc) = false) ∧ r.2 = none ∧ (r.1.tilesLeft x (mmOf x.desc) ≠ [] ∨ r.1.ras.nextSample ≠ s.ras.nextSample))
    ∧ (∃ (s : State) (k : Nat) (sel : List Nat) (x : Task) (r : Block × Option Nat), r = s.toBlock.tilesRun x (mmOf x.desc) sel (s.toBlock.tilesLeft x (mmOf x.desc)) ∧ s.toBlock.starting k opMatmul = some x ∧ (mmOf x.desc).mode = 0 ∧ s.gov.shed = false ∧ (∀ f ∈ s.plz.ports, f.ticket ≠ k) ∧ (s.toBlock.intake k).tile = 0 ∧ s.toBlock.keepFault x (mmOf x.desc) = true)
    ∧ (∃ (s : State) (k : Nat) (sel : List Nat) (x : Task) (r : Block × Option Nat) (st : _), r = s.toBlock.tilesRun x (mmOf x.desc) sel (s.toBlock.tilesLeft x (mmOf x.desc)) ∧ s.toBlock.starting k opMatmul = some x ∧ (mmOf x.desc).mode = 0 ∧ s.gov.shed = false ∧ (∀ f ∈ s.plz.ports, f.ticket ≠ k) ∧ ((s.toBlock.intake k).tile ≠ 0 ∨ s.toBlock.keepFault x (mmOf x.desc) = false) ∧ r.2 = some st) :=
  ⟨⟨Fix.mms opMatmul 0 [], 7, [], Fix.mm opMatmul 0 [], _, rfl, by decide +kernel⟩,
   ⟨Fix.mms opDist 1 [], 7, [], Fix.mm opDist 1 [], _, rfl, by decide +kernel⟩,
   ⟨Fix.mms opDist 2 [], 7, [], Fix.mm opDist 2 [], _, rfl, by decide +kernel⟩,
   ⟨Fix.mms opDist 3 [], 7, [], Fix.mm opDist 3 [], _, rfl, by decide +kernel⟩,
   ⟨Fix.mms opDist 4 [], 7, [], Fix.mm opDist 4 [], _, rfl, by decide +kernel⟩,
   ⟨Fix.mms opDist 5 [], 7, [], Fix.mm opDist 5 [], _, rfl, by decide +kernel⟩,
   ⟨Fix.one (Fix.mm opMatmul 0 []), 7, [0], Fix.mm opMatmul 0 [], _, rfl, by decide +kernel⟩,
   ⟨Fix.mms opMatmul 0 [(492, 2)], 7, [], Fix.mm opMatmul 0 [(492, 2)], _, rfl, by decide +kernel⟩,
   ⟨Fix.ports [⟨⟨0, kindS, 0⟩, 99, 1, [], false, sAborted, 0, 0, 0⟩] (Fix.one (Fix.mm opMatmul 0 [])), 7, [], Fix.mm opMatmul 0 [], _, sAborted, rfl, by decide +kernel⟩⟩

theorem witness_BlockCells :
    (∃ (s : State) (k : Nat) (x : Task) (m : MM) (S : List Elem) (H : List Elem), m = mmOf x.desc ∧ S = (portElems (s.toBlock.queue ⟨x.unit, kindS, m.sPort⟩)).take (m.m * m.k) ∧ H = (portElems (s.toBlock.queue ⟨x.unit, kindH, m.hPort⟩)).take (m.n * m.k) ∧ s.toBlock.starting k opMatmul = some x ∧ m.mode = 0 ∧ s.gov.shed = false ∧ m.init = 0 ∧ m.h = 1 ∧ m.w = 1 ∧ 0 < m.m ∧ m.m ≤ 32 ∧ 0 < m.n ∧ m.n ≤ 32 ∧ 0 < m.k ∧ s.toBlock.intake k = Intake.empty k ∧ s.toBlock.setDrains x m 0 = false ∧ S.length = m.m * m.k ∧ H.length = m.n * m.k ∧ (∀ v ∈ S ++ H, v.poison = false))
    ∧ (∃ (s : State) (k : Nat) (x : Task) (m : MM) (S : List Elem) (H : List Elem), m = mmOf x.desc ∧ S = (portElems (s.toBlock.queue ⟨x.unit, kindS, m.sPort⟩)).take (m.m * m.k) ∧ H = (portElems (s.toBlock.queue ⟨x.unit, kindH, m.hPort⟩)).take (m.n * m.k) ∧ s.toBlock.starting k opDist = some x ∧ m.mode = 1 ∧ s.gov.shed = false ∧ m.init = 0 ∧ m.h = 1 ∧ m.w = 1 ∧ 0 < m.m ∧ m.m ≤ 32 ∧ 0 < m.n ∧ m.n ≤ 32 ∧ 0 < m.k ∧ s.toBlock.intake k = Intake.empty k ∧ s.toBlock.setDrains x m 0 = false ∧ S.length = m.m * m.k ∧ H.length = m.n * m.k ∧ (∀ v ∈ S ++ H, v.poison = false))
    ∧ (∃ (s : State) (k : Nat) (x : Task) (m : MM) (S : List Elem) (H : List Elem), m = mmOf x.desc ∧ S = (portElems (s.toBlock.queue ⟨x.unit, kindS, m.sPort⟩)).take (m.m * m.k) ∧ H = (portElems (s.toBlock.queue ⟨x.unit, kindH, m.hPort⟩)).take (m.n * m.k) ∧ s.toBlock.starting k opDist = some x ∧ m.mode = 2 ∧ s.gov.shed = false ∧ m.init = 0 ∧ m.h = 1 ∧ m.w = 1 ∧ 0 < m.m ∧ m.m ≤ 32 ∧ 0 < m.n ∧ m.n ≤ 32 ∧ 0 < m.k ∧ s.toBlock.intake k = Intake.empty k ∧ s.toBlock.setDrains x m 0 = false ∧ S.length = m.m * m.k ∧ H.length = m.n * m.k ∧ (∀ v ∈ S ++ H, v.poison = false))
    ∧ (∃ (s : State) (k : Nat) (x : Task) (m : MM) (S : List Elem) (H : List Elem), m = mmOf x.desc ∧ S = (portElems (s.toBlock.queue ⟨x.unit, kindS, m.sPort⟩)).take (m.m * m.k) ∧ H = (portElems (s.toBlock.queue ⟨x.unit, kindH, m.hPort⟩)).take (m.n * m.k) ∧ s.toBlock.starting k opDist = some x ∧ m.mode = 3 ∧ s.gov.shed = false ∧ m.init = 0 ∧ m.h = 1 ∧ m.w = 1 ∧ 0 < m.m ∧ m.m ≤ 32 ∧ 0 < m.n ∧ m.n ≤ 32 ∧ 0 < m.k ∧ s.toBlock.intake k = Intake.empty k ∧ s.toBlock.setDrains x m 0 = false ∧ S.length = m.m * m.k ∧ H.length = m.n * m.k ∧ (∀ v ∈ S ++ H, v.poison = false))
    ∧ (∃ (s : State) (k : Nat) (x : Task) (m : MM) (S : List Elem) (H : List Elem), m = mmOf x.desc ∧ S = (portElems (s.toBlock.queue ⟨x.unit, kindS, m.sPort⟩)).take (m.m * m.k) ∧ H = (portElems (s.toBlock.queue ⟨x.unit, kindH, m.hPort⟩)).take (m.n * m.k) ∧ s.toBlock.starting k opDist = some x ∧ m.mode = 4 ∧ s.gov.shed = false ∧ m.init = 0 ∧ m.h = 1 ∧ m.w = 1 ∧ 0 < m.m ∧ m.m ≤ 32 ∧ 0 < m.n ∧ m.n ≤ 32 ∧ 0 < m.k ∧ s.toBlock.intake k = Intake.empty k ∧ s.toBlock.setDrains x m 0 = false ∧ S.length = m.m * m.k ∧ H.length = m.n * m.k ∧ (∀ v ∈ S ++ H, v.poison = false))
    ∧ (∃ (s : State) (k : Nat) (x : Task) (m : MM) (S : List Elem) (H : List Elem), m = mmOf x.desc ∧ S = (portElems (s.toBlock.queue ⟨x.unit, kindS, m.sPort⟩)).take (m.m * m.k) ∧ H = (portElems (s.toBlock.queue ⟨x.unit, kindH, m.hPort⟩)).take (m.n * m.k) ∧ s.toBlock.starting k opDist = some x ∧ m.mode = 5 ∧ s.gov.shed = false ∧ m.init = 0 ∧ m.h = 1 ∧ m.w = 1 ∧ 0 < m.m ∧ m.m ≤ 32 ∧ 0 < m.n ∧ m.n ≤ 32 ∧ 0 < m.k ∧ s.toBlock.intake k = Intake.empty k ∧ s.toBlock.setDrains x m 0 = false ∧ S.length = m.m * m.k ∧ H.length = m.n * m.k ∧ (∀ v ∈ S ++ H, v.poison = false)) :=
  ⟨⟨Fix.mms opMatmul 0 [(491, 1)], 7, Fix.mm opMatmul 0 [(491, 1)], _, _, _, rfl, rfl, rfl, by decide +kernel⟩,
   ⟨Fix.mms opDist 1 [(491, 1)], 7, Fix.mm opDist 1 [(491, 1)], _, _, _, rfl, rfl, rfl, by decide +kernel⟩,
   ⟨Fix.mms opDist 2 [(491, 1)], 7, Fix.mm opDist 2 [(491, 1)], _, _, _, rfl, rfl, rfl, by decide +kernel⟩,
   ⟨Fix.mms opDist 3 [(491, 1)], 7, Fix.mm opDist 3 [(491, 1)], _, _, _, rfl, rfl, rfl, by decide +kernel⟩,
   ⟨Fix.mms opDist 4 [(491, 1)], 7, Fix.mm opDist 4 [(491, 1)], _, _, _, rfl, rfl, rfl, by decide +kernel⟩,
   ⟨Fix.mms opDist 5 [(491, 1)], 7, Fix.mm opDist 5 [(491, 1)], _, _, _, rfl, rfl, rfl, by decide +kernel⟩⟩

theorem witness_DrainAndTimeout :
    (∃ (s : State) (p : Nat) (j : DrainJob), s.gov.shed = false ∧ s.plz.drains.find? (fun j => s.toBlock.drainReady p j && s.toBlock.queueRoom p j.queue) = some j)
    ∧ (∃ (s : State) (k : Nat) (x : Task), s.toBlock.task? k = some x ∧ x.phase = .running ∧ x.stage = 0 ∧ (opcodeOf x.desc = opMatmul ∨ opcodeOf x.desc = opDist) ∧ s.gov.shed = false ∧ (∀ y ∈ s.ras.tests, y.plaza = x.unit → y.draining = false) ∧ s.toBlock.starved x (mmOf x.desc) = true) :=
  ⟨⟨{Fix.one {Fix.mm opMatmul 0 [] with stage := 1} with plz := {Plz.reset with drains := [(⟨0, 2, 0, ⟨7, 1, 0, 0, 1, 1, [0], false, false⟩⟩ : DrainJob)]}}, 0, (⟨0, 2, 0, ⟨7, 1, 0, 0, 1, 1, [0], false, false⟩⟩ : DrainJob), by decide +kernel⟩,
   ⟨Fix.one (Fix.mm opMatmul 0 []), 7, Fix.mm opMatmul 0 [], by decide +kernel⟩⟩

theorem witness_VectorTasks :
    (∃ (s : State) (k : Nat) (x : Task) (v : Vec) (a : Block) (b : Block) (xs : _) (z : _) (cs : _) (o : _), v = vecOf x.desc ∧ a = (if v.srcX = 0 then s.toBlock.gather x v else s.toBlock) ∧ b = (a.vectorWants x v).foldl (fun b u => b.takeStream x v u) a ∧ z = (nth [] (b.intake k).bufs 1).map (streamValue v.fmtZ) ∧ cs = nth [] (b.intake k).bufs 2 ∧ o = v.compute (xs.map (·.1)) z (cs.map (streamValue 7)) (cs.map (·.v)) ∧ s.toBlock.starting k opVector = some x ∧ v.op = 0x01 ∧ s.gov.shed = false ∧ (∀ f ∈ s.plz.ports, f.ticket ≠ k) ∧ a.vectorFault x v = none ∧ (∀ u ∈ b.vectorWants x v, u.2.2 = 0) ∧ b.xValues x v = some xs ∧ o.fault = false)
    ∧ (∃ (s : State) (k : Nat) (x : Task) (v : Vec) (a : Block) (b : Block) (xs : _) (z : _) (cs : _) (o : _), v = vecOf x.desc ∧ a = (if v.srcX = 0 then s.toBlock.gather x v else s.toBlock) ∧ b = (a.vectorWants x v).foldl (fun b u => b.takeStream x v u) a ∧ z = (nth [] (b.intake k).bufs 1).map (streamValue v.fmtZ) ∧ cs = nth [] (b.intake k).bufs 2 ∧ o = v.compute (xs.map (·.1)) z (cs.map (streamValue 7)) (cs.map (·.v)) ∧ s.toBlock.starting k opVector = some x ∧ v.op = 0x02 ∧ s.gov.shed = false ∧ (∀ f ∈ s.plz.ports, f.ticket ≠ k) ∧ a.vectorFault x v = none ∧ (∀ u ∈ b.vectorWants x v, u.2.2 = 0) ∧ b.xValues x v = some xs ∧ o.fault = false)
    ∧ (∃ (s : State) (k : Nat) (x : Task) (v : Vec) (a : Block) (b : Block) (xs : _) (z : _) (cs : _) (o : _), v = vecOf x.desc ∧ a = (if v.srcX = 0 then s.toBlock.gather x v else s.toBlock) ∧ b = (a.vectorWants x v).foldl (fun b u => b.takeStream x v u) a ∧ z = (nth [] (b.intake k).bufs 1).map (streamValue v.fmtZ) ∧ cs = nth [] (b.intake k).bufs 2 ∧ o = v.compute (xs.map (·.1)) z (cs.map (streamValue 7)) (cs.map (·.v)) ∧ s.toBlock.starting k opVector = some x ∧ v.op = 0x03 ∧ s.gov.shed = false ∧ (∀ f ∈ s.plz.ports, f.ticket ≠ k) ∧ a.vectorFault x v = none ∧ (∀ u ∈ b.vectorWants x v, u.2.2 = 0) ∧ b.xValues x v = some xs ∧ o.fault = false)
    ∧ (∃ (s : State) (k : Nat) (x : Task) (v : Vec) (a : Block) (b : Block) (xs : _) (z : _) (cs : _) (o : _), v = vecOf x.desc ∧ a = (if v.srcX = 0 then s.toBlock.gather x v else s.toBlock) ∧ b = (a.vectorWants x v).foldl (fun b u => b.takeStream x v u) a ∧ z = (nth [] (b.intake k).bufs 1).map (streamValue v.fmtZ) ∧ cs = nth [] (b.intake k).bufs 2 ∧ o = v.compute (xs.map (·.1)) z (cs.map (streamValue 7)) (cs.map (·.v)) ∧ s.toBlock.starting k opVector = some x ∧ v.op = 0x04 ∧ s.gov.shed = false ∧ (∀ f ∈ s.plz.ports, f.ticket ≠ k) ∧ a.vectorFault x v = none ∧ (∀ u ∈ b.vectorWants x v, u.2.2 = 0) ∧ b.xValues x v = some xs ∧ o.fault = false)
    ∧ (∃ (s : State) (k : Nat) (x : Task) (v : Vec) (a : Block) (b : Block) (xs : _) (z : _) (cs : _) (o : _), v = vecOf x.desc ∧ a = (if v.srcX = 0 then s.toBlock.gather x v else s.toBlock) ∧ b = (a.vectorWants x v).foldl (fun b u => b.takeStream x v u) a ∧ z = (nth [] (b.intake k).bufs 1).map (streamValue v.fmtZ) ∧ cs = nth [] (b.intake k).bufs 2 ∧ o = v.compute (xs.map (·.1)) z (cs.map (streamValue 7)) (cs.map (·.v)) ∧ s.toBlock.starting k opVector = some x ∧ v.op = 0x05 ∧ s.gov.shed = false ∧ (∀ f ∈ s.plz.ports, f.ticket ≠ k) ∧ a.vectorFault x v = none ∧ (∀ u ∈ b.vectorWants x v, u.2.2 = 0) ∧ b.xValues x v = some xs ∧ o.fault = false)
    ∧ (∃ (s : State) (k : Nat) (x : Task) (v : Vec) (a : Block) (b : Block) (xs : _) (z : _) (cs : _) (o : _), v = vecOf x.desc ∧ a = (if v.srcX = 0 then s.toBlock.gather x v else s.toBlock) ∧ b = (a.vectorWants x v).foldl (fun b u => b.takeStream x v u) a ∧ z = (nth [] (b.intake k).bufs 1).map (streamValue v.fmtZ) ∧ cs = nth [] (b.intake k).bufs 2 ∧ o = v.compute (xs.map (·.1)) z (cs.map (streamValue 7)) (cs.map (·.v)) ∧ s.toBlock.starting k opVector = some x ∧ v.op = 0x08 ∧ s.gov.shed = false ∧ (∀ f ∈ s.plz.ports, f.ticket ≠ k) ∧ a.vectorFault x v = none ∧ (∀ u ∈ b.vectorWants x v, u.2.2 = 0) ∧ b.xValues x v = some xs ∧ o.fault = false)
    ∧ (∃ (s : State) (k : Nat) (x : Task) (v : Vec) (a : Block) (b : Block) (xs : _) (z : _) (cs : _) (o : _), v = vecOf x.desc ∧ a = (if v.srcX = 0 then s.toBlock.gather x v else s.toBlock) ∧ b = (a.vectorWants x v).foldl (fun b u => b.takeStream x v u) a ∧ z = (nth [] (b.intake k).bufs 1).map (streamValue v.fmtZ) ∧ cs = nth [] (b.intake k).bufs 2 ∧ o = v.compute (xs.map (·.1)) z (cs.map (streamValue 7)) (cs.map (·.v)) ∧ s.toBlock.starting k opVector = some x ∧ v.op = 0x09 ∧ s.gov.shed = false ∧ (∀ f ∈ s.plz.ports, f.ticket ≠ k) ∧ a.vectorFault x v = none ∧ (∀ u ∈ b.vectorWants x v, u.2.2 = 0) ∧ b.xValues x v = some xs ∧ o.fault = false)
    ∧ (∃ (s : State) (k : Nat) (x : Task) (v : Vec) (a : Block) (b : Block) (xs : _) (z : _) (cs : _) (o : _), v = vecOf x.desc ∧ a = (if v.srcX = 0 then s.toBlock.gather x v else s.toBlock) ∧ b = (a.vectorWants x v).foldl (fun b u => b.takeStream x v u) a ∧ z = (nth [] (b.intake k).bufs 1).map (streamValue v.fmtZ) ∧ cs = nth [] (b.intake k).bufs 2 ∧ o = v.compute (xs.map (·.1)) z (cs.map (streamValue 7)) (cs.map (·.v)) ∧ s.toBlock.starting k opVector = some x ∧ v.op = 0x0A ∧ s.gov.shed = false ∧ (∀ f ∈ s.plz.ports, f.ticket ≠ k) ∧ a.vectorFault x v = none ∧ (∀ u ∈ b.vectorWants x v, u.2.2 = 0) ∧ b.xValues x v = some xs ∧ o.fault = false)
    ∧ (∃ (s : State) (k : Nat) (x : Task) (v : Vec) (a : Block) (b : Block) (xs : _) (z : _) (cs : _) (o : _), v = vecOf x.desc ∧ a = (if v.srcX = 0 then s.toBlock.gather x v else s.toBlock) ∧ b = (a.vectorWants x v).foldl (fun b u => b.takeStream x v u) a ∧ z = (nth [] (b.intake k).bufs 1).map (streamValue v.fmtZ) ∧ cs = nth [] (b.intake k).bufs 2 ∧ o = v.compute (xs.map (·.1)) z (cs.map (streamValue 7)) (cs.map (·.v)) ∧ s.toBlock.starting k opVector = some x ∧ v.op = 0x0B ∧ s.gov.shed = false ∧ (∀ f ∈ s.plz.ports, f.ticket ≠ k) ∧ a.vectorFault x v = none ∧ (∀ u ∈ b.vectorWants x v, u.2.2 = 0) ∧ b.xValues x v = some xs ∧ o.fault = false)
    ∧ (∃ (s : State) (k : Nat) (x : Task) (v : Vec) (a : Block) (b : Block) (xs : _) (z : _) (cs : _) (o : _), v = vecOf x.desc ∧ a = (if v.srcX = 0 then s.toBlock.gather x v else s.toBlock) ∧ b = (a.vectorWants x v).foldl (fun b u => b.takeStream x v u) a ∧ z = (nth [] (b.intake k).bufs 1).map (streamValue v.fmtZ) ∧ cs = nth [] (b.intake k).bufs 2 ∧ o = v.compute (xs.map (·.1)) z (cs.map (streamValue 7)) (cs.map (·.v)) ∧ s.toBlock.starting k opVector = some x ∧ v.op = 0x0C ∧ s.gov.shed = false ∧ (∀ f ∈ s.plz.ports, f.ticket ≠ k) ∧ a.vectorFault x v = none ∧ (∀ u ∈ b.vectorWants x v, u.2.2 = 0) ∧ b.xValues x v = some xs ∧ o.fault = false)
    ∧ (∃ (s : State) (k : Nat) (x : Task) (v : Vec) (a : Block) (b : Block) (xs : _) (z : _) (cs : _) (o : _), v = vecOf x.desc ∧ a = (if v.srcX = 0 then s.toBlock.gather x v else s.toBlock) ∧ b = (a.vectorWants x v).foldl (fun b u => b.takeStream x v u) a ∧ z = (nth [] (b.intake k).bufs 1).map (streamValue v.fmtZ) ∧ cs = nth [] (b.intake k).bufs 2 ∧ o = v.compute (xs.map (·.1)) z (cs.map (streamValue 7)) (cs.map (·.v)) ∧ s.toBlock.starting k opVector = some x ∧ v.op = 0x0D ∧ s.gov.shed = false ∧ (∀ f ∈ s.plz.ports, f.ticket ≠ k) ∧ a.vectorFault x v = none ∧ (∀ u ∈ b.vectorWants x v, u.2.2 = 0) ∧ b.xValues x v = some xs ∧ o.fault = false)
    ∧ (∃ (s : State) (k : Nat) (x : Task) (v : Vec) (a : Block) (b : Block) (xs : _) (z : _) (cs : _) (o : _), v = vecOf x.desc ∧ a = (if v.srcX = 0 then s.toBlock.gather x v else s.toBlock) ∧ b = (a.vectorWants x v).foldl (fun b u => b.takeStream x v u) a ∧ z = (nth [] (b.intake k).bufs 1).map (streamValue v.fmtZ) ∧ cs = nth [] (b.intake k).bufs 2 ∧ o = v.compute (xs.map (·.1)) z (cs.map (streamValue 7)) (cs.map (·.v)) ∧ s.toBlock.starting k opVector = some x ∧ v.op = 0x10 ∧ s.gov.shed = false ∧ (∀ f ∈ s.plz.ports, f.ticket ≠ k) ∧ a.vectorFault x v = none ∧ (∀ u ∈ b.vectorWants x v, u.2.2 = 0) ∧ b.xValues x v = some xs ∧ o.fault = false)
    ∧ (∃ (s : State) (k : Nat) (x : Task) (v : Vec) (a : Block) (b : Block) (xs : _) (z : _) (cs : _) (o : _), v = vecOf x.desc ∧ a = (if v.srcX = 0 then s.toBlock.gather x v else s.toBlock) ∧ b = (a.vectorWants x v).foldl (fun b u => b.takeStream x v u) a ∧ z = (nth [] (b.intake k).bufs 1).map (streamValue v.fmtZ) ∧ cs = nth [] (b.intake k).bufs 2 ∧ o = v.compute (xs.map (·.1)) z (cs.map (streamValue 7)) (cs.map (·.v)) ∧ s.toBlock.starting k opVector = some x ∧ v.op = 0x11 ∧ s.gov.shed = false ∧ (∀ f ∈ s.plz.ports, f.ticket ≠ k) ∧ a.vectorFault x v = none ∧ (∀ u ∈ b.vectorWants x v, u.2.2 = 0) ∧ b.xValues x v = some xs ∧ o.fault = false)
    ∧ (∃ (s : State) (k : Nat) (x : Task) (v : Vec) (a : Block) (b : Block) (xs : _) (z : _) (cs : _) (o : _), v = vecOf x.desc ∧ a = (if v.srcX = 0 then s.toBlock.gather x v else s.toBlock) ∧ b = (a.vectorWants x v).foldl (fun b u => b.takeStream x v u) a ∧ z = (nth [] (b.intake k).bufs 1).map (streamValue v.fmtZ) ∧ cs = nth [] (b.intake k).bufs 2 ∧ o = v.compute (xs.map (·.1)) z (cs.map (streamValue 7)) (cs.map (·.v)) ∧ s.toBlock.starting k opVector = some x ∧ v.op = 0x18 ∧ s.gov.shed = false ∧ (∀ f ∈ s.plz.ports, f.ticket ≠ k) ∧ a.vectorFault x v = none ∧ (∀ u ∈ b.vectorWants x v, u.2.2 = 0) ∧ b.xValues x v = some xs ∧ o.fault = false)
    ∧ (∃ (s : State) (k : Nat) (x : Task) (v : Vec) (a : Block) (b : Block) (xs : _) (z : _) (cs : _) (o : _), v = vecOf x.desc ∧ a = (if v.srcX = 0 then s.toBlock.gather x v else s.toBlock) ∧ b = (a.vectorWants x v).foldl (fun b u => b.takeStream x v u) a ∧ z = (nth [] (b.intake k).bufs 1).map (streamValue v.fmtZ) ∧ cs = nth [] (b.intake k).bufs 2 ∧ o = v.compute (xs.map (·.1)) z (cs.map (streamValue 7)) (cs.map (·.v)) ∧ s.toBlock.starting k opVector = some x ∧ v.op = 0x1C ∧ s.gov.shed = false ∧ (∀ f ∈ s.plz.ports, f.ticket ≠ k) ∧ a.vectorFault x v = none ∧ (∀ u ∈ b.vectorWants x v, u.2.2 = 0) ∧ b.xValues x v = some xs ∧ o.fault = false)
    ∧ (∃ (s : State) (k : Nat) (x : Task) (v : Vec) (a : Block) (b : Block) (xs : _) (z : _) (cs : _) (o : _), v = vecOf x.desc ∧ a = (if v.srcX = 0 then s.toBlock.gather x v else s.toBlock) ∧ b = (a.vectorWants x v).foldl (fun b u => b.takeStream x v u) a ∧ z = (nth [] (b.intake k).bufs 1).map (streamValue v.fmtZ) ∧ cs = nth [] (b.intake k).bufs 2 ∧ o = v.compute (xs.map (·.1)) z (cs.map (streamValue 7)) (cs.map (·.v)) ∧ s.toBlock.starting k opVector = some x ∧ v.op = 0x10 ∧ s.gov.shed = false ∧ (∀ f ∈ s.plz.ports, f.ticket ≠ k) ∧ a.vectorFault x v = none ∧ (∀ u ∈ b.vectorWants x v, u.2.2 = 0) ∧ b.xValues x v = some xs ∧ o.fault = true)
    ∧ (∃ (s : State) (k : Nat) (x : Task) (v : Vec) (a : Block) (b : Block), v = vecOf x.desc ∧ a = (if v.srcX = 0 then s.toBlock.gather x v else s.toBlock) ∧ b = (a.vectorWants x v).foldl (fun b u => b.takeStream x v u) a ∧ s.toBlock.starting k opVector = some x ∧ v.op = 0x01 ∧ s.gov.shed = false ∧ (∀ f ∈ s.plz.ports, f.ticket ≠ k) ∧ a.vectorFault x v = none ∧ ((∃ u ∈ b.vectorWants x v, u.2.2 ≠ 0) ∨ b.xValues x v = none))
    ∧ (∃ (s : State) (k : Nat) (x : Task) (v : Vec) (a : Block) (b : Block) (st : _), v = vecOf x.desc ∧ a = (if v.srcX = 0 then s.toBlock.gather x v else s.toBlock) ∧ b = (a.vectorWants x v).foldl (fun b u => b.takeStream x v u) a ∧ s.toBlock.starting k opVector = some x ∧ v.op = 0x01 ∧ s.gov.shed = false ∧ (∀ f ∈ s.plz.ports, f.ticket ≠ k) ∧ a.vectorFault x v = some st) :=
  ⟨⟨Fix.vs 1 2 [], 7, Fix.vt 1 2 [], _, _, _, Fix.vxs 1 2 [], _, _, _, rfl, rfl, rfl, rfl, rfl, rfl, by decide +kernel⟩,
   ⟨Fix.vs 2 2 [], 7, Fix.vt 2 2 [], _, _, _, Fix.vxs 2 2 [], _, _, _, rfl, rfl, rfl, rfl, rfl, rfl, by decide +kernel⟩,
   ⟨Fix.vs 3 2 [], 7, Fix.vt 3 2 [], _, _, _, Fix.vxs 3 2 [], _, _, _, rfl, rfl, rfl, rfl, rfl, rfl, by decide +kernel⟩,
   ⟨Fix.vs 4 2 [], 7, Fix.vt 4 2 [], _, _, _, Fix.vxs 4 2 [], _, _, _, rfl, rfl, rfl, rfl, rfl, rfl, by decide +kernel⟩,
   ⟨Fix.vs 5 2 [], 7, Fix.vt 5 2 [], _, _, _, Fix.vxs 5 2 [], _, _, _, rfl, rfl, rfl, rfl, rfl, rfl, by decide +kernel⟩,
   ⟨Fix.vs 8 2 [], 7, Fix.vt 8 2 [], _, _, _, Fix.vxs 8 2 [], _, _, _, rfl, rfl, rfl, rfl, rfl, rfl, by decide +kernel⟩,
   ⟨Fix.vs 9 2 [], 7, Fix.vt 9 2 [], _, _, _, Fix.vxs 9 2 [], _, _, _, rfl, rfl, rfl, rfl, rfl, rfl, by decide +kernel⟩,
   ⟨Fix.vs 10 2 [], 7, Fix.vt 10 2 [], _, _, _, Fix.vxs 10 2 [], _, _, _, rfl, rfl, rfl, rfl, rfl, rfl, by decide +kernel⟩,
   ⟨Fix.vs 11 2 [], 7, Fix.vt 11 2 [], _, _, _, Fix.vxs 11 2 [], _, _, _, rfl, rfl, rfl, rfl, rfl, rfl, by decide +kernel⟩,
   ⟨Fix.vs 12 2 [], 7, Fix.vt 12 2 [], _, _, _, Fix.vxs 12 2 [], _, _, _, rfl, rfl, rfl, rfl, rfl, rfl, by decide +kernel⟩,
   ⟨Fix.vs 13 2 [], 7, Fix.vt 13 2 [], _, _, _, Fix.vxs 13 2 [], _, _, _, rfl, rfl, rfl, rfl, rfl, rfl, by decide +kernel⟩,
   ⟨Fix.vs 16 2 [], 7, Fix.vt 16 2 [], _, _, _, Fix.vxs 16 2 [], _, _, _, rfl, rfl, rfl, rfl, rfl, rfl, by decide +kernel⟩,
   ⟨Fix.vs 17 2 [], 7, Fix.vt 17 2 [], _, _, _, Fix.vxs 17 2 [], _, _, _, rfl, rfl, rfl, rfl, rfl, rfl, by decide +kernel⟩,
   ⟨Fix.vs 24 1 [], 7, Fix.vt 24 1 [], _, _, _, Fix.vxs 24 1 [], _, _, _, rfl, rfl, rfl, rfl, rfl, rfl, by decide +kernel⟩,
   ⟨Fix.vs 28 2 [], 7, Fix.vt 28 2 [], _, _, _, Fix.vxs 28 2 [], _, _, _, rfl, rfl, rfl, rfl, rfl, rfl, by decide +kernel⟩,
   ⟨Fix.vs 16 1 [], 7, Fix.vt 16 1 [], _, _, _, Fix.vxs 16 1 [], _, _, _, rfl, rfl, rfl, rfl, rfl, rfl, by decide +kernel⟩,
   ⟨Fix.one (Fix.vt 1 2 []), 7, Fix.vt 1 2 [], _, _, _, rfl, rfl, rfl, by decide +kernel⟩,
   ⟨Fix.ports [⟨⟨0, kindSP, 0⟩, 99, 1, [], false, sAborted, 0, 0, 0⟩] (Fix.one (Fix.vt 1 2 [])), 7, Fix.vt 1 2 [], _, _, _, sAborted, rfl, rfl, rfl, by decide +kernel⟩⟩

theorem witness_ElementResults :
    (∃ (s : State) (k : Nat) (x : Task) (v : Vec) (X : Nat → F32) (Z : Nat → F32) (C : Nat → F32), v = vecOf x.desc ∧ X = (fun i => streamValue v.fmtX (nth ⟨0, 127, false⟩ (portElems (s.toBlock.queue ⟨x.unit, kindSP, v.xPort⟩)) i)) ∧ Z = (fun i => streamValue v.fmtZ (nth ⟨0, 127, false⟩ (portElems (s.toBlock.queue ⟨x.unit, kindSP, v.zPort⟩)) i)) ∧ C = (fun i => streamValue 7 (nth ⟨0, 127, false⟩ (portElems (s.toBlock.queue ⟨x.unit, kindSP, v.cPort⟩)) i)) ∧ s.toBlock.starting k opVector = some x ∧ badVector x.desc = false ∧ v.op = 0x01 ∧ s.gov.shed = false ∧ v.srcX = 1 ∧ v.fmtY = 7 ∧ s.toBlock.intake k = Intake.empty k ∧ s.toBlock.vectorFault x v = none ∧ (∀ u ∈ v.takes x.unit, u.2.2 ≤ (portElems (s.toBlock.queue u.1)).length))
    ∧ (∃ (s : State) (k : Nat) (x : Task) (v : Vec) (X : Nat → F32) (Z : Nat → F32) (C : Nat → F32), v = vecOf x.desc ∧ X = (fun i => streamValue v.fmtX (nth ⟨0, 127, false⟩ (portElems (s.toBlock.queue ⟨x.unit, kindSP, v.xPort⟩)) i)) ∧ Z = (fun i => streamValue v.fmtZ (nth ⟨0, 127, false⟩ (portElems (s.toBlock.queue ⟨x.unit, kindSP, v.zPort⟩)) i)) ∧ C = (fun i => streamValue 7 (nth ⟨0, 127, false⟩ (portElems (s.toBlock.queue ⟨x.unit, kindSP, v.cPort⟩)) i)) ∧ s.toBlock.starting k opVector = some x ∧ badVector x.desc = false ∧ v.op = 0x02 ∧ s.gov.shed = false ∧ v.srcX = 1 ∧ v.fmtY = 7 ∧ s.toBlock.intake k = Intake.empty k ∧ s.toBlock.vectorFault x v = none ∧ (∀ u ∈ v.takes x.unit, u.2.2 ≤ (portElems (s.toBlock.queue u.1)).length))
    ∧ (∃ (s : State) (k : Nat) (x : Task) (v : Vec) (X : Nat → F32) (Z : Nat → F32) (C : Nat → F32), v = vecOf x.desc ∧ X = (fun i => streamValue v.fmtX (nth ⟨0, 127, false⟩ (portElems (s.toBlock.queue ⟨x.unit, kindSP, v.xPort⟩)) i)) ∧ Z = (fun i => streamValue v.fmtZ (nth ⟨0, 127, false⟩ (portElems (s.toBlock.queue ⟨x.unit, kindSP, v.zPort⟩)) i)) ∧ C = (fun i => streamValue 7 (nth ⟨0, 127, false⟩ (portElems (s.toBlock.queue ⟨x.unit, kindSP, v.cPort⟩)) i)) ∧ s.toBlock.starting k opVector = some x ∧ badVector x.desc = false ∧ v.op = 0x03 ∧ s.gov.shed = false ∧ v.srcX = 1 ∧ v.fmtY = 7 ∧ s.toBlock.intake k = Intake.empty k ∧ s.toBlock.vectorFault x v = none ∧ (∀ u ∈ v.takes x.unit, u.2.2 ≤ (portElems (s.toBlock.queue u.1)).length))
    ∧ (∃ (s : State) (k : Nat) (x : Task) (v : Vec) (X : Nat → F32) (Z : Nat → F32) (C : Nat → F32), v = vecOf x.desc ∧ X = (fun i => streamValue v.fmtX (nth ⟨0, 127, false⟩ (portElems (s.toBlock.queue ⟨x.unit, kindSP, v.xPort⟩)) i)) ∧ Z = (fun i => streamValue v.fmtZ (nth ⟨0, 127, false⟩ (portElems (s.toBlock.queue ⟨x.unit, kindSP, v.zPort⟩)) i)) ∧ C = (fun i => streamValue 7 (nth ⟨0, 127, false⟩ (portElems (s.toBlock.queue ⟨x.unit, kindSP, v.cPort⟩)) i)) ∧ s.toBlock.starting k opVector = some x ∧ badVector x.desc = false ∧ v.op = 0x04 ∧ s.gov.shed = false ∧ v.srcX = 1 ∧ v.fmtY = 7 ∧ s.toBlock.intake k = Intake.empty k ∧ s.toBlock.vectorFault x v = none ∧ (∀ u ∈ v.takes x.unit, u.2.2 ≤ (portElems (s.toBlock.queue u.1)).length))
    ∧ (∃ (s : State) (k : Nat) (x : Task) (v : Vec) (X : Nat → F32) (Z : Nat → F32) (C : Nat → F32), v = vecOf x.desc ∧ X = (fun i => streamValue v.fmtX (nth ⟨0, 127, false⟩ (portElems (s.toBlock.queue ⟨x.unit, kindSP, v.xPort⟩)) i)) ∧ Z = (fun i => streamValue v.fmtZ (nth ⟨0, 127, false⟩ (portElems (s.toBlock.queue ⟨x.unit, kindSP, v.zPort⟩)) i)) ∧ C = (fun i => streamValue 7 (nth ⟨0, 127, false⟩ (portElems (s.toBlock.queue ⟨x.unit, kindSP, v.cPort⟩)) i)) ∧ s.toBlock.starting k opVector = some x ∧ badVector x.desc = false ∧ v.op = 0x05 ∧ s.gov.shed = false ∧ v.srcX = 1 ∧ v.fmtY = 7 ∧ s.toBlock.intake k = Intake.empty k ∧ s.toBlock.vectorFault x v = none ∧ (∀ u ∈ v.takes x.unit, u.2.2 ≤ (portElems (s.toBlock.queue u.1)).length)) :=
  ⟨⟨Fix.vs 1 2 [], 7, Fix.vt 1 2 [], _, _, _, _, rfl, rfl, rfl, rfl, by decide +kernel⟩,
   ⟨Fix.vs 2 2 [], 7, Fix.vt 2 2 [], _, _, _, _, rfl, rfl, rfl, rfl, by decide +kernel⟩,
   ⟨Fix.vs 3 2 [], 7, Fix.vt 3 2 [], _, _, _, _, rfl, rfl, rfl, rfl, by decide +kernel⟩,
   ⟨Fix.vs 4 2 [], 7, Fix.vt 4 2 [], _, _, _, _, rfl, rfl, rfl, rfl, by decide +kernel⟩,
   ⟨Fix.vs 5 2 [], 7, Fix.vt 5 2 [], _, _, _, _, rfl, rfl, rfl, rfl, by decide +kernel⟩⟩

theorem witness_Transfers :
    (∃ (s : State) (k : Nat) (x : Task) (y : Xfer) (raw : BitVec 512) (ms : List Move) (b : Block) (cause : _) (origin : _), y = x.xfer ∧ b = s.toBlock.contended (fun b => b.readsShape x) ∧ ms = y.moves (shapeOf raw) ∧ s.toBlock.starting k opXfer = some x ∧ (xferOf x.desc).xop = 0 ∧ s.gov.shed = false ∧ x.shape = some (.ok raw) ∧ (((xferOf x.desc).persist = true ∨ 0 = 1) → s.toBlock.streamFree x (xferOf x.desc) = true) ∧ (0 = 1 → ∃ p, s.toBlock.stream? x.unit (xferOf x.desc).stream = some p ∧ p.ctx = x.ctx ∧ p.desc = x.opts ∧ p.shape = raw) ∧ b.xferTaint x = some (cause, origin))
    ∧ (∃ (s : State) (k : Nat) (x : Task) (y : Xfer) (raw : BitVec 512) (ms : List Move) (b : Block) (cause : _) (origin : _), y = x.xfer ∧ b = s.toBlock.contended (fun b => b.readsShape x) ∧ ms = y.moves (shapeOf raw) ∧ s.toBlock.starting k opXfer = some x ∧ (xferOf x.desc).xop = 1 ∧ s.gov.shed = false ∧ x.shape = some (.ok raw) ∧ (((xferOf x.desc).persist = true ∨ 1 = 1) → s.toBlock.streamFree x (xferOf x.desc) = true) ∧ (1 = 1 → ∃ p, s.toBlock.stream? x.unit (xferOf x.desc).stream = some p ∧ p.ctx = x.ctx ∧ p.desc = x.opts ∧ p.shape = raw) ∧ b.xferTaint x = some (cause, origin))
    ∧ (∃ (s : State) (k : Nat) (x : Task) (y : Xfer) (raw : BitVec 512) (ms : List Move) (b : Block), y = x.xfer ∧ b = s.toBlock.contended (fun b => b.readsShape x) ∧ ms = y.moves (shapeOf raw) ∧ s.toBlock.starting k opXfer = some x ∧ (xferOf x.desc).xop = 0 ∧ s.gov.shed = false ∧ x.shape = some (.ok raw) ∧ (((xferOf x.desc).persist = true ∨ 0 = 1) → s.toBlock.streamFree x (xferOf x.desc) = true) ∧ (0 = 1 → ∃ p, s.toBlock.stream? x.unit (xferOf x.desc).stream = some p ∧ p.ctx = x.ctx ∧ p.desc = x.opts ∧ p.shape = raw) ∧ b.xferTaint x = none ∧ b.outTurn x y = false)
    ∧ (∃ (s : State) (k : Nat) (x : Task) (y : Xfer) (raw : BitVec 512) (ms : List Move) (b : Block), y = x.xfer ∧ b = s.toBlock.contended (fun b => b.readsShape x) ∧ ms = y.moves (shapeOf raw) ∧ s.toBlock.starting k opXfer = some x ∧ (xferOf x.desc).xop = 1 ∧ s.gov.shed = false ∧ x.shape = some (.ok raw) ∧ (((xferOf x.desc).persist = true ∨ 1 = 1) → s.toBlock.streamFree x (xferOf x.desc) = true) ∧ (1 = 1 → ∃ p, s.toBlock.stream? x.unit (xferOf x.desc).stream = some p ∧ p.ctx = x.ctx ∧ p.desc = x.opts ∧ p.shape = raw) ∧ b.xferTaint x = none ∧ b.outTurn x y = false)
    ∧ (∃ (s : State) (k : Nat) (x : Task) (y : Xfer) (raw : BitVec 512) (ms : List Move) (b : Block) (r : Run), y = x.xfer ∧ b = s.toBlock.contended (fun b => b.readsShape x) ∧ ms = y.moves (shapeOf raw) ∧ r = b.walkMoves (b.yieldStaging x) y (shapeOf raw) (if y.src = 1 then b.portOuts (b.drainUnit k) y.port else []) (if y.toPorts then fitting y (2 * b.room (b.yieldStaging x)) (ms.drop x.flow.pos) else ms.drop x.flow.pos) ∧ s.toBlock.starting k opXfer = some x ∧ (xferOf x.desc).xop = 0 ∧ s.gov.shed = false ∧ x.shape = some (.ok raw) ∧ (((xferOf x.desc).persist = true ∨ 0 = 1) → s.toBlock.streamFree x (xferOf x.desc) = true) ∧ (0 = 1 → ∃ p, s.toBlock.stream? x.unit (xferOf x.desc).stream = some p ∧ p.ctx = x.ctx ∧ p.desc = x.opts ∧ p.shape = raw) ∧ b.xferTaint x = none ∧ b.outTurn x y = true ∧ r.stop = none ∧ y.toPorts = false ∧ r.flow.pos = ms.length)
    ∧ (∃ (s : State) (k : Nat) (x : Task) (y : Xfer) (raw : BitVec 512) (ms : List Move) (b : Block) (r : Run), y = x.xfer ∧ b = s.toBlock.contended (fun b => b.readsShape x) ∧ ms = y.moves (shapeOf raw) ∧ r = b.walkMoves (b.yieldStaging x) y (shapeOf raw) (if y.src = 1 then b.portOuts (b.drainUnit k) y.port else []) (if y.toPorts then fitting y (2 * b.room (b.yieldStaging x)) (ms.drop x.flow.pos) else ms.drop x.flow.pos) ∧ s.toBlock.starting k opXfer = some x ∧ (xferOf x.desc).xop = 1 ∧ s.gov.shed = false ∧ x.shape = some (.ok raw) ∧ (((xferOf x.desc).persist = true ∨ 1 = 1) → s.toBlock.streamFree x (xferOf x.desc) = true) ∧ (1 = 1 → ∃ p, s.toBlock.stream? x.unit (xferOf x.desc).stream = some p ∧ p.ctx = x.ctx ∧ p.desc = x.opts ∧ p.shape = raw) ∧ b.xferTaint x = none ∧ b.outTurn x y = true ∧ r.stop = none ∧ y.toPorts = false ∧ r.flow.pos = ms.length)
    ∧ (∃ (s : State) (k : Nat) (x : Task) (y : Xfer) (raw : BitVec 512) (ms : List Move) (b : Block) (r : Run), y = x.xfer ∧ b = s.toBlock.contended (fun b => b.readsShape x) ∧ ms = y.moves (shapeOf raw) ∧ r = b.walkMoves (b.yieldStaging x) y (shapeOf raw) (if y.src = 1 then b.portOuts (b.drainUnit k) y.port else []) (if y.toPorts then fitting y (2 * b.room (b.yieldStaging x)) (ms.drop x.flow.pos) else ms.drop x.flow.pos) ∧ s.toBlock.starting k opXfer = some x ∧ (xferOf x.desc).xop = 0 ∧ s.gov.shed = false ∧ x.shape = some (.ok raw) ∧ (((xferOf x.desc).persist = true ∨ 0 = 1) → s.toBlock.streamFree x (xferOf x.desc) = true) ∧ (0 = 1 → ∃ p, s.toBlock.stream? x.unit (xferOf x.desc).stream = some p ∧ p.ctx = x.ctx ∧ p.desc = x.opts ∧ p.shape = raw) ∧ b.xferTaint x = none ∧ b.outTurn x y = true ∧ r.stop = none ∧ (y.toPorts = true ∨ r.flow.pos ≠ ms.length))
    ∧ (∃ (s : State) (k : Nat) (x : Task) (y : Xfer) (raw : BitVec 512) (ms : List Move) (b : Block) (r : Run), y = x.xfer ∧ b = s.toBlock.contended (fun b => b.readsShape x) ∧ ms = y.moves (shapeOf raw) ∧ r = b.walkMoves (b.yieldStaging x) y (shapeOf raw) (if y.src = 1 then b.portOuts (b.drainUnit k) y.port else []) (if y.toPorts then fitting y (2 * b.room (b.yieldStaging x)) (ms.drop x.flow.pos) else ms.drop x.flow.pos) ∧ s.toBlock.starting k opXfer = some x ∧ (xferOf x.desc).xop = 1 ∧ s.gov.shed = false ∧ x.shape = some (.ok raw) ∧ (((xferOf x.desc).persist = true ∨ 1 = 1) → s.toBlock.streamFree x (xferOf x.desc) = true) ∧ (1 = 1 → ∃ p, s.toBlock.stream? x.unit (xferOf x.desc).stream = some p ∧ p.ctx = x.ctx ∧ p.desc = x.opts ∧ p.shape = raw) ∧ b.xferTaint x = none ∧ b.outTurn x y = true ∧ r.stop = none ∧ (y.toPorts = true ∨ r.flow.pos ≠ ms.length))
    ∧ (∃ (s : State) (k : Nat) (x : Task) (y : Xfer) (raw : BitVec 512) (ms : List Move) (b : Block) (r : Run), y = x.xfer ∧ b = s.toBlock.contended (fun b => b.readsShape x) ∧ ms = y.moves (shapeOf raw) ∧ r = b.walkMoves (b.yieldStaging x) y (shapeOf raw) (if y.src = 1 then b.portOuts (b.drainUnit k) y.port else []) (if y.toPorts then fitting y (2 * b.room (b.yieldStaging x)) (ms.drop x.flow.pos) else ms.drop x.flow.pos) ∧ s.toBlock.starting k opXfer = some x ∧ (xferOf x.desc).xop = 0 ∧ s.gov.shed = false ∧ x.shape = some (.ok raw) ∧ (((xferOf x.desc).persist = true ∨ 0 = 1) → s.toBlock.streamFree x (xferOf x.desc) = true) ∧ (0 = 1 → ∃ p, s.toBlock.stream? x.unit (xferOf x.desc).stream = some p ∧ p.ctx = x.ctx ∧ p.desc = x.opts ∧ p.shape = raw) ∧ b.xferTaint x = none ∧ b.outTurn x y = true ∧ r.stop = none ∧ y.toPorts = true)
    ∧ (∃ (s : State) (k : Nat) (x : Task) (y : Xfer) (raw : BitVec 512) (ms : List Move) (b : Block) (r : Run), y = x.xfer ∧ b = s.toBlock.contended (fun b => b.readsShape x) ∧ ms = y.moves (shapeOf raw) ∧ r = b.walkMoves (b.yieldStaging x) y (shapeOf raw) (if y.src = 1 then b.portOuts (b.drainUnit k) y.port else []) (if y.toPorts then fitting y (2 * b.room (b.yieldStaging x)) (ms.drop x.flow.pos) else ms.drop x.flow.pos) ∧ s.toBlock.starting k opXfer = some x ∧ (xferOf x.desc).xop = 1 ∧ s.gov.shed = false ∧ x.shape = some (.ok raw) ∧ (((xferOf x.desc).persist = true ∨ 1 = 1) → s.toBlock.streamFree x (xferOf x.desc) = true) ∧ (1 = 1 → ∃ p, s.toBlock.stream? x.unit (xferOf x.desc).stream = some p ∧ p.ctx = x.ctx ∧ p.desc = x.opts ∧ p.shape = raw) ∧ b.xferTaint x = none ∧ b.outTurn x y = true ∧ r.stop = none ∧ y.toPorts = true)
    ∧ (∃ (s : State) (k : Nat) (x : Task) (y : Xfer) (raw : BitVec 512) (ms : List Move) (b : Block) (r : Run) (cause : _) (va : _) (i : _), y = x.xfer ∧ b = s.toBlock.contended (fun b => b.readsShape x) ∧ ms = y.moves (shapeOf raw) ∧ r = b.walkMoves (b.yieldStaging x) y (shapeOf raw) (if y.src = 1 then b.portOuts (b.drainUnit k) y.port else []) (if y.toPorts then fitting y (2 * b.room (b.yieldStaging x)) (ms.drop x.flow.pos) else ms.drop x.flow.pos) ∧ s.toBlock.starting k opXfer = some x ∧ (xferOf x.desc).xop = 0 ∧ s.gov.shed = false ∧ x.shape = some (.ok raw) ∧ (((xferOf x.desc).persist = true ∨ 0 = 1) → s.toBlock.streamFree x (xferOf x.desc) = true) ∧ (0 = 1 → ∃ p, s.toBlock.stream? x.unit (xferOf x.desc).stream = some p ∧ p.ctx = x.ctx ∧ p.desc = x.opts ∧ p.shape = raw) ∧ b.xferTaint x = none ∧ b.outTurn x y = true ∧ r.stop = some (.fault cause va, i) ∧ y.toPorts = false)
    ∧ (∃ (s : State) (k : Nat) (x : Task) (y : Xfer) (raw : BitVec 512) (ms : List Move) (b : Block) (r : Run) (cause : _) (va : _) (i : _), y = x.xfer ∧ b = s.toBlock.contended (fun b => b.readsShape x) ∧ ms = y.moves (shapeOf raw) ∧ r = b.walkMoves (b.yieldStaging x) y (shapeOf raw) (if y.src = 1 then b.portOuts (b.drainUnit k) y.port else []) (if y.toPorts then fitting y (2 * b.room (b.yieldStaging x)) (ms.drop x.flow.pos) else ms.drop x.flow.pos) ∧ s.toBlock.starting k opXfer = some x ∧ (xferOf x.desc).xop = 1 ∧ s.gov.shed = false ∧ x.shape = some (.ok raw) ∧ (((xferOf x.desc).persist = true ∨ 1 = 1) → s.toBlock.streamFree x (xferOf x.desc) = true) ∧ (1 = 1 → ∃ p, s.toBlock.stream? x.unit (xferOf x.desc).stream = some p ∧ p.ctx = x.ctx ∧ p.desc = x.opts ∧ p.shape = raw) ∧ b.xferTaint x = none ∧ b.outTurn x y = true ∧ r.stop = some (.fault cause va, i) ∧ y.toPorts = false)
    ∧ (∃ (s : State) (k : Nat) (x : Task) (y : Xfer) (raw : BitVec 512) (ms : List Move) (b : Block) (r : Run) (va : _) (i : _), y = x.xfer ∧ b = s.toBlock.contended (fun b => b.readsShape x) ∧ ms = y.moves (shapeOf raw) ∧ r = b.walkMoves (b.yieldStaging x) y (shapeOf raw) (if y.src = 1 then b.portOuts (b.drainUnit k) y.port else []) (if y.toPorts then fitting y (2 * b.room (b.yieldStaging x)) (ms.drop x.flow.pos) else ms.drop x.flow.pos) ∧ s.toBlock.starting k opXfer = some x ∧ (xferOf x.desc).xop = 0 ∧ s.gov.shed = false ∧ x.shape = some (.ok raw) ∧ (((xferOf x.desc).persist = true ∨ 0 = 1) → s.toBlock.streamFree x (xferOf x.desc) = true) ∧ (0 = 1 → ∃ p, s.toBlock.stream? x.unit (xferOf x.desc).stream = some p ∧ p.ctx = x.ctx ∧ p.desc = x.opts ∧ p.shape = raw) ∧ b.xferTaint x = none ∧ b.outTurn x y = true ∧ r.stop = some (.poison va, i) ∧ y.toPorts = false)
    ∧ (∃ (s : State) (k : Nat) (x : Task) (y : Xfer) (raw : BitVec 512) (ms : List Move) (b : Block) (r : Run) (va : _) (i : _), y = x.xfer ∧ b = s.toBlock.contended (fun b => b.readsShape x) ∧ ms = y.moves (shapeOf raw) ∧ r = b.walkMoves (b.yieldStaging x) y (shapeOf raw) (if y.src = 1 then b.portOuts (b.drainUnit k) y.port else []) (if y.toPorts then fitting y (2 * b.room (b.yieldStaging x)) (ms.drop x.flow.pos) else ms.drop x.flow.pos) ∧ s.toBlock.starting k opXfer = some x ∧ (xferOf x.desc).xop = 1 ∧ s.gov.shed = false ∧ x.shape = some (.ok raw) ∧ (((xferOf x.desc).persist = true ∨ 1 = 1) → s.toBlock.streamFree x (xferOf x.desc) = true) ∧ (1 = 1 → ∃ p, s.toBlock.stream? x.unit (xferOf x.desc).stream = some p ∧ p.ctx = x.ctx ∧ p.desc = x.opts ∧ p.shape = raw) ∧ b.xferTaint x = none ∧ b.outTurn x y = true ∧ r.stop = some (.poison va, i) ∧ y.toPorts = false)
    ∧ (∃ (s : State) (k : Nat) (x : Task), s.toBlock.starting k opXfer = some x ∧ (xferOf x.desc).xop = 1 ∧ s.gov.shed = false ∧ s.toBlock.streamFree x (xferOf x.desc) = true ∧ s.toBlock.stream? x.unit (xferOf x.desc).stream = none)
    ∧ (∃ (s : State) (k : Nat) (x : Task), s.toBlock.starting k opXfer = some x ∧ (xferOf x.desc).xop = 2 ∧ s.gov.shed = false ∧ s.toBlock.streamFree x (xferOf x.desc) = true ∧ x.flow.pos = 0 ∧ s.toBlock.feeding k = [])
    ∧ (∃ (s : State) (k : Nat) (x : Task), s.toBlock.starting k opXfer = some x ∧ (xferOf x.desc).xop = 3 ∧ s.gov.shed = false ∧ x.flow.pos = 0 ∧ s.toBlock.feeding k = []) :=
  ⟨⟨Fix.tainted (Fix.copies (Fix.begun (Fix.copy [(352, 0x5000)])) [(352, 0x5000)]), 7, Fix.begun (Fix.copy [(352, 0x5000)]), _, Fix.shape, _, _, 9, 9, rfl, rfl, rfl, by decide +kernel⟩,
   ⟨Fix.tainted (Fix.copies (Fix.rearm 0x5000 []) []), 7, Fix.rearm 0x5000 [], _, Fix.shape, _, _, 9, 9, rfl, rfl, rfl, by decide +kernel⟩,
   ⟨Fix.copies (Fix.begun (Fix.copy [(495, 1), (352, 0x5000)])) [(495, 1), (352, 0x5000)], 7, Fix.begun (Fix.copy [(495, 1), (352, 0x5000)]), _, Fix.shape, _, _, rfl, rfl, rfl, by decide +kernel⟩,
   ⟨Fix.copies (Fix.rearm 0x5000 [(495, 1)]) [(495, 1)], 7, Fix.rearm 0x5000 [(495, 1)], _, Fix.shape, _, _, rfl, rfl, rfl, by decide +kernel⟩,
   ⟨Fix.copies (Fix.begun (Fix.copy [(352, 0x5000)])) [(352, 0x5000)], 7, Fix.begun (Fix.copy [(352, 0x5000)]), _, Fix.shape, _, _, _, rfl, rfl, rfl, rfl, by decide +kernel⟩,
   ⟨Fix.copies (Fix.rearm 0x5000 []) [], 7, Fix.rearm 0x5000 [], _, Fix.shape, _, _, _, rfl, rfl, rfl, rfl, by decide +kernel⟩,
   ⟨Fix.copies (Fix.begun (Fix.copy [(498, 4), (483, 1), (352, 0x5000)])) [(498, 4), (483, 1), (352, 0x5000)], 7, Fix.begun (Fix.copy [(498, 4), (483, 1), (352, 0x5000)]), _, Fix.shape, _, _, _, rfl, rfl, rfl, rfl, by decide +kernel⟩,
   ⟨Fix.copies (Fix.rearm 0x5000 [(498, 4), (483, 1)]) [(498, 4), (483, 1)], 7, Fix.rearm 0x5000 [(498, 4), (483, 1)], _, Fix.shape, _, _, _, rfl, rfl, rfl, rfl, by decide +kernel⟩,
   ⟨Fix.copies (Fix.begun (Fix.copy [(498, 4), (483, 1), (352, 0x5000)])) [(498, 4), (483, 1), (352, 0x5000)], 7, Fix.begun (Fix.copy [(498, 4), (483, 1), (352, 0x5000)]), _, Fix.shape, _, _, _, rfl, rfl, rfl, rfl, by decide +kernel⟩,
   ⟨Fix.copies (Fix.rearm 0x5000 [(498, 4), (483, 1)]) [(498, 4), (483, 1)], 7, Fix.rearm 0x5000 [(498, 4), (483, 1)], _, Fix.shape, _, _, _, rfl, rfl, rfl, rfl, by decide +kernel⟩,
   ⟨Fix.copies (Fix.begun (Fix.copy [(352, 0x400000)])) [(352, 0x400000)], 7, Fix.begun (Fix.copy [(352, 0x400000)]), _, Fix.shape, _, _, _, 2, 0x400000, [0, 0, 0, 0, 0], rfl, rfl, rfl, rfl, by decide +kernel⟩,
   ⟨Fix.copies (Fix.rearm 0x400000 []) [], 7, Fix.rearm 0x400000 [], _, Fix.shape, _, _, _, 2, 0x400000, [0, 0, 0, 0, 0], rfl, rfl, rfl, rfl, by decide +kernel⟩,
   ⟨Fix.poisoned (Fix.copies (Fix.begun (Fix.copy [(352, 0x5000)])) [(352, 0x5000)]), 7, Fix.begun (Fix.copy [(352, 0x5000)]), _, Fix.shape, _, _, _, 0x4000, [0, 0, 0, 0, 0], rfl, rfl, rfl, rfl, by decide +kernel⟩,
   ⟨Fix.poisoned (Fix.copies (Fix.rearm 0x5000 []) []), 7, Fix.rearm 0x5000 [], _, Fix.shape, _, _, _, 0x4000, [0, 0, 0, 0, 0], rfl, rfl, rfl, rfl, by decide +kernel⟩,
   ⟨Fix.one (Fix.rearm 0x5000 []), 7, Fix.rearm 0x5000 [], by decide +kernel⟩,
   ⟨Fix.copies (Fix.tk opXfer [(509, 2), (463, 5)]) [], 7, Fix.tk opXfer [(509, 2), (463, 5)], by decide +kernel⟩,
   ⟨Fix.copies (Fix.tk opXfer [(509, 3)]) [], 7, Fix.tk opXfer [(509, 3)], by decide +kernel⟩⟩

theorem witness_Collectives :
    (∃ (s : State) (k : Nat) (y : Task) (x : Col) (h : Cohort) (w : Work), x = colOf y.desc ∧ h = s.toBlock.cohort x.cohort ∧ w = ⟨startColl y x, x, h⟩ ∧ s.toBlock.starting k opCollective = some y ∧ x.kind = 0 ∧ s.gov.shed = false ∧ h.enabled = true ∧ h.ctx = y.ctx ∧ s.toBlock.partialSlots x ≤ s.toBlock.sharedSlots x.slice ∧ w.rangesBad = false ∧ (∀ j ∈ s.rb.colls, j.slot ≠ x.cohort) ∧ (∀ j ∈ s.rb.colls, j.ticket ≠ k))
    ∧ (∃ (s : State) (k : Nat) (y : Task) (x : Col) (h : Cohort) (w : Work), x = colOf y.desc ∧ h = s.toBlock.cohort x.cohort ∧ w = ⟨startColl y x, x, h⟩ ∧ s.toBlock.starting k opCollective = some y ∧ x.kind = 1 ∧ s.gov.shed = false ∧ h.enabled = true ∧ h.ctx = y.ctx ∧ s.toBlock.partialSlots x ≤ s.toBlock.sharedSlots x.slice ∧ w.rangesBad = false ∧ (∀ j ∈ s.rb.colls, j.slot ≠ x.cohort) ∧ (∀ j ∈ s.rb.colls, j.ticket ≠ k))
    ∧ (∃ (s : State) (k : Nat) (y : Task) (x : Col) (h : Cohort) (w : Work), x = colOf y.desc ∧ h = s.toBlock.cohort x.cohort ∧ w = ⟨startColl y x, x, h⟩ ∧ s.toBlock.starting k opCollective = some y ∧ x.kind = 2 ∧ s.gov.shed = false ∧ h.enabled = true ∧ h.ctx = y.ctx ∧ s.toBlock.partialSlots x ≤ s.toBlock.sharedSlots x.slice ∧ w.rangesBad = false ∧ (∀ j ∈ s.rb.colls, j.slot ≠ x.cohort) ∧ (∀ j ∈ s.rb.colls, j.ticket ≠ k))
    ∧ (∃ (s : State) (k : Nat) (y : Task) (x : Col) (h : Cohort) (w : Work), x = colOf y.desc ∧ h = s.toBlock.cohort x.cohort ∧ w = ⟨startColl y x, x, h⟩ ∧ s.toBlock.starting k opCollective = some y ∧ x.kind = 3 ∧ s.gov.shed = false ∧ h.enabled = true ∧ h.ctx = y.ctx ∧ s.toBlock.partialSlots x ≤ s.toBlock.sharedSlots x.slice ∧ w.rangesBad = false ∧ (∀ j ∈ s.rb.colls, j.slot ≠ x.cohort) ∧ (∀ j ∈ s.rb.colls, j.ticket ≠ k))
    ∧ (∃ (s : State) (k : Nat) (y : Task) (x : Col) (h : Cohort) (w : Work), x = colOf y.desc ∧ h = s.toBlock.cohort x.cohort ∧ w = ⟨startColl y x, x, h⟩ ∧ s.toBlock.starting k opCollective = some y ∧ x.kind = 4 ∧ s.gov.shed = false ∧ h.enabled = true ∧ h.ctx = y.ctx ∧ s.toBlock.partialSlots x ≤ s.toBlock.sharedSlots x.slice ∧ w.rangesBad = false ∧ (∀ j ∈ s.rb.colls, j.slot ≠ x.cohort) ∧ (∀ j ∈ s.rb.colls, j.ticket ≠ k))
    ∧ (∃ (s : State) (k : Nat) (y : Task) (x : Col) (h : Cohort) (w : Work), x = colOf y.desc ∧ h = s.toBlock.cohort x.cohort ∧ w = ⟨startColl y x, x, h⟩ ∧ s.toBlock.starting k opCollective = some y ∧ x.kind = 5 ∧ s.gov.shed = false ∧ h.enabled = true ∧ h.ctx = y.ctx ∧ s.toBlock.partialSlots x ≤ s.toBlock.sharedSlots x.slice ∧ w.rangesBad = false ∧ (∀ j ∈ s.rb.colls, j.slot ≠ x.cohort) ∧ (∀ j ∈ s.rb.colls, j.ticket ≠ k))
    ∧ (∃ (s : State) (k : Nat) (y : Task) (x : Col) (h : Cohort) (w : Work), x = colOf y.desc ∧ h = s.toBlock.cohort x.cohort ∧ w = ⟨startColl y x, x, h⟩ ∧ s.toBlock.starting k opCollective = some y ∧ x.kind = 0 ∧ s.gov.shed = false ∧ h.enabled = true ∧ h.ctx = y.ctx ∧ s.toBlock.partialSlots x ≤ s.toBlock.sharedSlots x.slice ∧ w.rangesBad = false ∧ (∀ j ∈ s.rb.colls, j.slot ≠ x.cohort) ∧ (∀ j ∈ s.rb.colls, j.ticket ≠ k) ∧ 1 < h.n ∧ h.n % h.g = 0 ∧ h.pos < h.n ∧ (x.kind = 5 ∨ 0 < x.len) ∧ (x.kind ≤ 1 → ∀ i < h.n, 0 < w.shardSize i) ∧ (x.kind = 3 → x.root ≠ h.pos))
    ∧ (∃ (s : State) (k : Nat) (y : Task) (x : Col) (h : Cohort) (w : Work), x = colOf y.desc ∧ h = s.toBlock.cohort x.cohort ∧ w = ⟨startColl y x, x, h⟩ ∧ s.toBlock.starting k opCollective = some y ∧ x.kind = 0 ∧ s.gov.shed = false ∧ (h.enabled = false ∨ h.ctx ≠ y.ctx) ∧ (∀ j ∈ s.rb.colls, j.slot ≠ x.cohort) ∧ x.acct = 0 ∧ x.dst = 0)
    ∧ (∃ (s : State) (k : Nat) (y : Task) (x : Col), x = colOf y.desc ∧ s.toBlock.starting k opCollective = some y ∧ x.kind = 5 ∧ s.gov.shed = false ∧ x.acct = 0 ∧ x.dst = 0 ∧ (s.toBlock.cohort x.cohort).enabled = true ∧ (s.toBlock.cohort x.cohort).ctx = y.ctx ∧ (s.toBlock.cohort x.cohort).n = 1 ∧ (s.toBlock.cohort x.cohort).g = 1 ∧ (s.toBlock.cohort x.cohort).pos = 0 ∧ (∀ j ∈ s.rb.colls, j.slot ≠ x.cohort) ∧ (∀ j ∈ s.rb.colls, j.ctx ≠ y.ctx) ∧ (∀ j ∈ s.rb.colls, j.ticket ≠ k))
    ∧ (∃ (s : State) (k : Nat) (w : Work) (y : Task), s.toBlock.work k = some w ∧ s.toBlock.task? k = some y ∧ y.phase = .running ∧ w.k.stopped = false ∧ w.complete = false ∧ s.gov.shed = false ∧ w.x.acct = 0 ∧ w.k.since + s.toBlock.shedSince w.k.since + 10 ^ 6 * s.reg Od.rbHopTimeoutMs 0 ≤ s.dt) :=
  ⟨⟨Fix.cohort [] (Fix.one (Fix.col 0 [])), 7, Fix.col 0 [], _, _, _, rfl, rfl, rfl, by decide +kernel⟩,
   ⟨Fix.cohort [] (Fix.one (Fix.col 1 [])), 7, Fix.col 1 [], _, _, _, rfl, rfl, rfl, by decide +kernel⟩,
   ⟨Fix.cohort [] (Fix.one (Fix.col 2 [])), 7, Fix.col 2 [], _, _, _, rfl, rfl, rfl, by decide +kernel⟩,
   ⟨Fix.cohort [] (Fix.one (Fix.col 3 [])), 7, Fix.col 3 [], _, _, _, rfl, rfl, rfl, by decide +kernel⟩,
   ⟨Fix.cohort [] (Fix.one (Fix.col 4 [])), 7, Fix.col 4 [], _, _, _, rfl, rfl, rfl, by decide +kernel⟩,
   ⟨Fix.cohort [] (Fix.one (Fix.col 5 [])), 7, Fix.col 5 [], _, _, _, rfl, rfl, rfl, by decide +kernel⟩,
   ⟨Fix.cohort Fix.two (Fix.one (Fix.col 0 [(414, 126)])), 7, Fix.col 0 [(414, 126)], _, _, _, rfl, rfl, rfl, by decide +kernel⟩,
   ⟨Fix.one (Fix.col 0 []), 7, Fix.col 0 [], _, _, _, rfl, rfl, rfl, by decide +kernel⟩,
   ⟨Fix.cohort [] (Fix.one (Fix.col 5 [])), 7, Fix.col 5 [], _, rfl, by decide +kernel⟩,
   ⟨Fix.colls 0 [] [], 7, Fix.cwork 0 [] Fix.two, {Fix.col 0 [] with stage := 1}, by decide +kernel⟩⟩

theorem witness_CohortConfig :
    (∃ (s : State) (r : BitVec 256) (l : List (Nat × Nat)), Writable s.toBlock ∧ (cohortOf r).enabled = true ∧ s.toBlock.badCohort (cohortOf r) = false ∧ s.toBlock.readKept (cohortOf r) = some l ∧ ((cohortOf r).slot * 2 ^ 18 + (cohortOf r).pos, s.reg Od.deviceIndex 0) ∈ l)
    ∧ (∃ (s : State) (r : BitVec 256), Writable s.toBlock ∧ (cohortOf r).enabled = true ∧ s.toBlock.badCohort (cohortOf r) = true)
    ∧ (∃ (s : State) (r : BitVec 256), (∀ l, s.toBlock.readKept (cohortOf r) = some l → ((cohortOf r).slot * 2 ^ 18 + (cohortOf r).pos, s.reg Od.deviceIndex 0) ∉ l) ∧ Writable s.toBlock ∧ (cohortOf r).enabled = true)
    ∧ (∃ (s : State) (r : BitVec 256), Writable s.toBlock ∧ (cohortOf r).enabled = false ∧ s.toBlock.cohortBusy (cohortOf r).slot = true)
    ∧ (∃ (s : State) (r : BitVec 256), Writable s.toBlock ∧ (cohortOf r).enabled = false ∧ s.toBlock.cohortBusy (cohortOf r).slot = false) :=
  ⟨⟨Fix.one (Fix.tk opFence []), Fix.coh [], [(2 ^ 19, 0)], by decide +kernel⟩,
   ⟨Fix.cohort [] (Fix.one (Fix.tk opFence [])), Fix.coh [], by decide +kernel⟩,
   ⟨Fix.regs [(Od.deviceIndex, 0, 1)] (Fix.one (Fix.tk opFence [])), Fix.coh [], by intro l hl; have h : (Fix.regs [(Od.deviceIndex, 0, 1)] (Fix.one (Fix.tk opFence []))).toBlock.readKept (cohortOf (Fix.coh [])) = some [(2 ^ 19, 0)] := (by decide +kernel); rw [h] at hl; cases hl; decide +kernel, by decide +kernel⟩,
   ⟨Fix.colls 0 [] [], Fix.rec256 [(248, 2)], by decide +kernel⟩,
   ⟨Fix.cohort [] (Fix.one (Fix.tk opFence [])), Fix.rec256 [(248, 2)], by decide +kernel⟩⟩

theorem witness_Parcels :
    (∃ (s : State) (n : Nat) (p : Parcel) (w : Work), s.gov.shed = false ∧ s.toBlock.nextParcel n pkReduce Work.reduceReady = some (p, w))
    ∧ (∃ (s : State) (n : Nat) (p : Parcel) (w : Work), s.gov.shed = false ∧ s.toBlock.nextParcel n pkGather always = some (p, w))
    ∧ (∃ (s : State) (n : Nat) (p : Parcel) (w : Work), s.gov.shed = false ∧ s.toBlock.nextParcel n pkAll always = some (p, w))
    ∧ (∃ (s : State) (n : Nat) (p : Parcel) (w : Work), s.gov.shed = false ∧ s.toBlock.nextParcel n pkBroadcast always = some (p, w))
    ∧ (∃ (s : State) (n : Nat) (p : Parcel) (w : Work), s.gov.shed = false ∧ s.toBlock.nextParcel n pkBarrier always = some (p, w))
    ∧ (∃ (s : State) (n : Nat) (p : Parcel) (w : Work), s.gov.shed = false ∧ s.toBlock.nextParcel n pkGather always = some (p, w) ∧ (Work.gatherFits w p) = true)
    ∧ (∃ (s : State) (n : Nat) (p : Parcel) (w : Work), s.gov.shed = false ∧ s.toBlock.nextParcel n pkAll always = some (p, w) ∧ (Work.allFits w p) = true)
    ∧ (∃ (s : State) (n : Nat) (p : Parcel) (w : Work), s.gov.shed = false ∧ s.toBlock.nextParcel n pkBroadcast always = some (p, w) ∧ (Work.broadcastFits w p) = true)
    ∧ (∃ (s : State) (n : Nat) (p : Parcel) (w : Work), s.gov.shed = false ∧ s.toBlock.nextParcel n pkReduce Work.reduceReady = some (p, w) ∧ w.reduceFits p = true ∧ p.head.phase = 0 ∧ w.h.g ≤ w.h.hop0 p.head.shard + 1) :=
  ⟨⟨Fix.colls 0 [] [Fix.parcel pkReduce 0 2 1 0 [0x80, 0x3F, 0, 0x40]], 0, Fix.parcel pkReduce 0 2 1 0 [0x80, 0x3F, 0, 0x40], Fix.cwork 0 [] Fix.two, by decide +kernel⟩,
   ⟨Fix.colls 2 [] [Fix.parcel pkGather 1 2 1 3 [0x80, 0x3F, 0, 0x40]], 0, Fix.parcel pkGather 1 2 1 3 [0x80, 0x3F, 0, 0x40], Fix.cwork 2 [] Fix.two, by decide +kernel⟩,
   ⟨Fix.colls 4 [] [Fix.parcel pkAll 0 2 1 0 [0x80, 0x3F, 0, 0x40]], 0, Fix.parcel pkAll 0 2 1 0 [0x80, 0x3F, 0, 0x40], Fix.cwork 4 [] Fix.two, by decide +kernel⟩,
   ⟨Fix.colls 3 [(446, 1)] [Fix.parcel pkBroadcast 0 2 1 0 [0x80, 0x3F, 0, 0x40]], 0, Fix.parcel pkBroadcast 0 2 1 0 [0x80, 0x3F, 0, 0x40], Fix.cwork 3 [(446, 1)] Fix.two, by decide +kernel⟩,
   ⟨Fix.colls 5 [] [Fix.parcel pkBarrier 0 0 1 0 []], 0, Fix.parcel pkBarrier 0 0 1 0 [], Fix.cwork 5 [] Fix.two, by decide +kernel⟩,
   ⟨Fix.colls 2 [] [Fix.parcel pkGather 1 2 1 3 [0x80, 0x3F, 0, 0x40]], 0, Fix.parcel pkGather 1 2 1 3 [0x80, 0x3F, 0, 0x40], Fix.cwork 2 [] Fix.two, by decide +kernel⟩,
   ⟨Fix.colls 4 [] [Fix.parcel pkAll 0 2 1 0 [0x80, 0x3F, 0, 0x40]], 0, Fix.parcel pkAll 0 2 1 0 [0x80, 0x3F, 0, 0x40], Fix.cwork 4 [] Fix.two, by decide +kernel⟩,
   ⟨Fix.colls 3 [(446, 1)] [Fix.parcel pkBroadcast 0 2 1 0 [0x80, 0x3F, 0, 0x40]], 0, Fix.parcel pkBroadcast 0 2 1 0 [0x80, 0x3F, 0, 0x40], Fix.cwork 3 [(446, 1)] Fix.two, by decide +kernel⟩,
   ⟨Fix.colls 0 [] [Fix.parcel pkReduce 0 2 1 0 [0x80, 0x3F, 0, 0x40]], 0, Fix.parcel pkReduce 0 2 1 0 [0x80, 0x3F, 0, 0x40], Fix.cwork 0 [] Fix.two, by decide +kernel⟩⟩

theorem witness_NormClose :
    (∃ (s : State) (k : Nat) (y : Task), s.toBlock.starting k opNormClose = some y ∧ s.gov.shed = false ∧ (s.toBlock.cohort (closeCohort y.desc)).enabled = true ∧ (s.toBlock.cohort (closeCohort y.desc)).ctx = y.ctx)
    ∧ (∃ (s : State) (k : Nat) (y : Task), s.toBlock.starting k opNormClose = some y ∧ s.gov.shed = false ∧ ((s.toBlock.cohort (closeCohort y.desc)).enabled = false ∨ (s.toBlock.cohort (closeCohort y.desc)).ctx ≠ y.ctx))
    ∧ (∃ (s : State) (c : Nat) (k : Close) (y : Task), s.rb.closes.find? (fun k => k.ctx == c && !k.sent) = some k ∧ s.toBlock.close? k.ticket = some k ∧ s.toBlock.task? k.ticket = some y ∧ s.gov.shed = false ∧ closeBuckets y.desc ≤ s.reg Od.ctxBucketsAdded (c + 1) ∧ (if k.step % 2 = 0 then (s.toBlock.gate c).open0 else (s.toBlock.gate c).open1) = 0)
    ∧ (∃ (s : State) (n : Nat) (k : Close), s.toBlock.close? n = some k ∧ k.stalled = false ∧ (k.result = none ∨ k.pace = none) ∧ k.since + 10 ^ 6 * s.reg Od.rbHopTimeoutMs 0 ≤ s.dt)
    ∧ (∃ (s : State) (n : Nat) (p : Parcel) (k : Close) (h : Cohort), s.gov.shed = false ∧ nextClose s.toBlock n pkUp = some (p, k, h))
    ∧ (∃ (s : State) (n : Nat) (p : Parcel) (k : Close) (h : Cohort), s.gov.shed = false ∧ nextClose s.toBlock n pkPaceUp = some (p, k, h))
    ∧ (∃ (s : State) (n : Nat) (key : Nat) (p : Parcel) (k : Close) (h : Cohort), s.gov.shed = false ∧ nextClose s.toBlock n pkUp = some (p, k, h) ∧ h.keyOf p.head.sender = some key)
    ∧ (∃ (s : State) (n : Nat) (key : Nat) (p : Parcel) (k : Close) (h : Cohort), s.gov.shed = false ∧ nextClose s.toBlock n pkPaceUp = some (p, k, h) ∧ h.keyOf p.head.sender = some key)
    ∧ (∃ (s : State) (n : Nat) (p : Parcel) (k : Close) (h : Cohort), s.gov.shed = false ∧ nextClose s.toBlock n pkDown = some (p, k, h) ∧ h.fromAbove p.head.sender = true)
    ∧ (∃ (s : State) (n : Nat) (p : Parcel) (k : Close) (h : Cohort), s.gov.shed = false ∧ nextClose s.toBlock n pkPaceDown = some (p, k, h) ∧ h.fromAbove p.head.sender = true) :=
  ⟨⟨Fix.cohort [] (Fix.one Fix.ncl), 7, Fix.ncl, by decide +kernel⟩,
   ⟨Fix.one Fix.ncl, 7, Fix.ncl, by decide +kernel⟩,
   ⟨Fix.closes [] Fix.close [], 1, Fix.close, {Fix.ncl with stage := 1}, by decide +kernel⟩,
   ⟨Fix.closes [] Fix.close [], 7, Fix.close, by decide +kernel⟩,
   ⟨Fix.closes Fix.two Fix.close [Fix.parcel pkUp 0 37 1 0 (List.replicate 37 1)], 0, Fix.parcel pkUp 0 37 1 0 (List.replicate 37 1), Fix.close, cohortOf (Fix.coh Fix.two), by decide +kernel⟩,
   ⟨Fix.closes Fix.two Fix.close [Fix.parcel pkPaceUp 0 16 1 0 (List.replicate 16 1)], 0, Fix.parcel pkPaceUp 0 16 1 0 (List.replicate 16 1), Fix.close, cohortOf (Fix.coh Fix.two), by decide +kernel⟩,
   ⟨Fix.closes Fix.two Fix.close [Fix.parcel pkUp 0 37 1 0 (List.replicate 37 1)], 0, 1, Fix.parcel pkUp 0 37 1 0 (List.replicate 37 1), Fix.close, cohortOf (Fix.coh Fix.two), by decide +kernel⟩,
   ⟨Fix.closes Fix.two Fix.close [Fix.parcel pkPaceUp 0 16 1 0 (List.replicate 16 1)], 0, 1, Fix.parcel pkPaceUp 0 16 1 0 (List.replicate 16 1), Fix.close, cohortOf (Fix.coh Fix.two), by decide +kernel⟩,
   ⟨Fix.closes Fix.twoB Fix.close [Fix.parcel pkDown 0 32 0 0 (List.replicate 32 1)], 0, Fix.parcel pkDown 0 32 0 0 (List.replicate 32 1), Fix.close, cohortOf (Fix.coh Fix.twoB), by decide +kernel⟩,
   ⟨Fix.closes Fix.twoB Fix.close [Fix.parcel pkPaceDown 0 16 0 0 (List.replicate 16 1)], 0, Fix.parcel pkPaceDown 0 16 0 0 (List.replicate 16 1), Fix.close, cohortOf (Fix.coh Fix.twoB), by decide +kernel⟩⟩

theorem witness_UpdateDecisions :
    (∃ (s : State) (k : Nat) (x : Task) (d : DecisionRec), s.toBlock.starting k opUpdate = some x ∧ updKind x.desc = 0 ∧ s.toBlock.hazelRuns = true ∧ s.gov.shed = false ∧ s.toBlock.firstUpdate x = true ∧ decisionOf x.decided = some d ∧ d.code = decNonfinite)
    ∧ (∃ (s : State) (k : Nat) (x : Task) (d : DecisionRec), s.toBlock.starting k opUpdate = some x ∧ updKind x.desc = 0 ∧ s.toBlock.hazelRuns = true ∧ s.gov.shed = false ∧ s.toBlock.firstUpdate x = true ∧ decisionOf x.decided = some d ∧ d.code = decDispute)
    ∧ (∃ (s : State) (k : Nat) (x : Task) (d : DecisionRec), s.toBlock.starting k opUpdate = some x ∧ updKind x.desc = 0 ∧ s.toBlock.hazelRuns = true ∧ s.gov.shed = false ∧ s.toBlock.firstUpdate x = true ∧ decisionOf x.decided = some d ∧ d.code = decDiscard)
    ∧ (∃ (s : State) (k : Nat) (x : Task) (d : DecisionRec), s.toBlock.starting k opUpdate = some x ∧ updKind x.desc = 1 ∧ s.toBlock.hazelRuns = true ∧ s.gov.shed = false ∧ s.toBlock.firstUpdate x = true ∧ decisionOf x.decided = some d ∧ d.code = decNonfinite)
    ∧ (∃ (s : State) (k : Nat) (x : Task) (d : DecisionRec), s.toBlock.starting k opUpdate = some x ∧ updKind x.desc = 1 ∧ s.toBlock.hazelRuns = true ∧ s.gov.shed = false ∧ s.toBlock.firstUpdate x = true ∧ decisionOf x.decided = some d ∧ d.code = decDispute)
    ∧ (∃ (s : State) (k : Nat) (x : Task) (d : DecisionRec), s.toBlock.starting k opUpdate = some x ∧ updKind x.desc = 1 ∧ s.toBlock.hazelRuns = true ∧ s.gov.shed = false ∧ s.toBlock.firstUpdate x = true ∧ decisionOf x.decided = some d ∧ d.code = decDiscard)
    ∧ (∃ (s : State) (k : Nat) (x : Task) (d : DecisionRec), s.toBlock.starting k opUpdate = some x ∧ updKind x.desc = 0 ∧ s.toBlock.hazelRuns = true ∧ s.gov.shed = false ∧ s.toBlock.firstUpdate x = true ∧ decisionOf x.decided = some d ∧ d.code = decHold)
    ∧ (∃ (s : State) (k : Nat) (x : Task) (d : DecisionRec), s.toBlock.starting k opUpdate = some x ∧ updKind x.desc = 0 ∧ s.toBlock.hazelRuns = true ∧ s.gov.shed = false ∧ s.toBlock.firstUpdate x = true ∧ decisionOf x.decided = some d ∧ (d.code = decCommit ∨ d.code = decAdopted) ∧ s.toBlock.header x.ctx (updState x.desc) = none)
    ∧ (∃ (s : State) (k : Nat) (x : Task), s.toBlock.starting k opUpdate = some x ∧ decisionOf x.decided = none) :=
  ⟨⟨Fix.upds 0 3 [], 7, Fix.updd 0 3 [], Fix.decided 3, by decide +kernel⟩,
   ⟨Fix.upds 0 4 [], 7, Fix.updd 0 4 [], Fix.decided 4, by decide +kernel⟩,
   ⟨Fix.upds 0 6 [], 7, Fix.updd 0 6 [], Fix.decided 6, by decide +kernel⟩,
   ⟨Fix.upds 1 3 [], 7, Fix.updd 1 3 [], Fix.decided 3, by decide +kernel⟩,
   ⟨Fix.upds 1 4 [], 7, Fix.updd 1 4 [], Fix.decided 4, by decide +kernel⟩,
   ⟨Fix.upds 1 6 [], 7, Fix.updd 1 6 [], Fix.decided 6, by decide +kernel⟩,
   ⟨Fix.upds 0 5 [], 7, Fix.updd 0 5 [], Fix.decided 5, by decide +kernel⟩,
   ⟨Fix.octs [(Od.hazelRegion, 2, [])] (Fix.upds 0 1 []), 7, Fix.updd 0 1 [], Fix.decided 1, by decide +kernel⟩,
   ⟨Fix.one (Fix.upd 0 []), 7, Fix.upd 0 [], by decide +kernel⟩⟩

theorem witness_UpdateCommits :
    (∃ (s : State) (k : Nat) (x : Task) (d : DecisionRec) (h : Header) (rows : List (Nat × List PV)), s.toBlock.starting k opUpdate = some x ∧ updKind x.desc = 0 ∧ s.toBlock.hazelRuns = true ∧ s.gov.shed = false ∧ s.toBlock.firstUpdate x = true ∧ decisionOf x.decided = some d ∧ d.code = decCommit ∧ s.toBlock.header x.ctx (updState x.desc) = some (h, false) ∧ updWork x.desc = 0 ∧ (ruleOf x.rule).second ≠ 5 ∧ updState x.desc % 16 = 0 ∧ h.step ≠ x.counter ∧ h.step + 1 = x.counter ∧ s.toBlock.updateRows x (ruleOf x.rule) h = .ok rows)
    ∧ (∃ (s : State) (k : Nat) (x : Task) (d : DecisionRec) (h : Header), s.toBlock.starting k opUpdate = some x ∧ updKind x.desc = 0 ∧ s.toBlock.hazelRuns = true ∧ s.gov.shed = false ∧ s.toBlock.firstUpdate x = true ∧ decisionOf x.decided = some d ∧ d.code = decCommit ∧ s.toBlock.header x.ctx (updState x.desc) = some (h, false) ∧ updWork x.desc = 0 ∧ h.step = x.counter ∧ s.toBlock.inRegion x.ctx (updState x.desc) (blockSize (ruleOf x.rule) h) = true)
    ∧ (∃ (s : State) (j : RootJob) (rest : List RootJob), s.hazel.roots = j :: rest ∧ s.toBlock.hazelRuns = true ∧ s.gov.shed = false) :=
  ⟨⟨Fix.upds 0 1 [], 7, Fix.updd 0 1 [], Fix.decided 1, ⟨0, 1, 2, false, 0, 0, 0, 0, 0⟩, [(0, [(0, false), (0, false)])], by decide +kernel⟩,
   ⟨Fix.upds 0 1 [(0x200038, 1)], 7, Fix.updd 0 1 [], Fix.decided 1, ⟨1, 1, 2, false, 0, 0, 0, 0, 0⟩, by decide +kernel⟩,
   ⟨{Fix.upds 0 1 [] with hazel := {Hazel.reset with roots := [(⟨1, 0x200000, BitVec.ofNat 512 (5 <<< 505)⟩ : RootJob)]}}, (⟨1, 0x200000, BitVec.ofNat 512 (5 <<< 505)⟩ : RootJob), [], by decide +kernel⟩⟩

theorem witness_EmbeddingTasks :
    (∃ (s : State) (k : Nat) (x : Task), s.toBlock.starting k opGather = some x ∧ gsKind x.desc = 0 ∧ s.toBlock.hazelRuns = true ∧ s.gov.shed = false ∧ (((opGather, 0)) = (opScatter, 0) → s.toBlock.firstScatter x = true))
    ∧ (∃ (s : State) (k : Nat) (x : Task), s.toBlock.starting k opGather = some x ∧ gsKind x.desc = 1 ∧ s.toBlock.hazelRuns = true ∧ s.gov.shed = false ∧ (((opGather, 1)) = (opScatter, 0) → s.toBlock.firstScatter x = true))
    ∧ (∃ (s : State) (k : Nat) (x : Task), s.toBlock.starting k opGather = some x ∧ gsKind x.desc = 2 ∧ s.toBlock.hazelRuns = true ∧ s.gov.shed = false ∧ (((opGather, 2)) = (opScatter, 0) → s.toBlock.firstScatter x = true))
    ∧ (∃ (s : State) (k : Nat) (x : Task), s.toBlock.starting k opScatter = some x ∧ gsKind x.desc = 0 ∧ s.toBlock.hazelRuns = true ∧ s.gov.shed = false ∧ (((opScatter, 0)) = (opScatter, 0) → s.toBlock.firstScatter x = true))
    ∧ (∃ (s : State) (k : Nat) (x : Task), s.toBlock.starting k opScatter = some x ∧ gsKind x.desc = 1 ∧ s.toBlock.hazelRuns = true ∧ s.gov.shed = false ∧ (((opScatter, 1)) = (opScatter, 0) → s.toBlock.firstScatter x = true))
    ∧ (∃ (s : State) (k : Nat) (x : Task) (h : Header), s.toBlock.starting k opGather = some x ∧ gsKind x.desc = 0 ∧ s.toBlock.hazelRuns = true ∧ s.gov.shed = false ∧ gsCount x.desc = 0 ∧ s.toBlock.tainted x.ctx (idxExtent x.desc) = none ∧ s.toBlock.header x.ctx (gsBlock x.desc) = some (h, false))
    ∧ (∃ (s : State) (k : Nat) (pa : Nat) (a : Nat) (x : Task), a = (s.toBlock.region x.ctx).1 + gsBlock x.desc ∧ s.toBlock.starting k opGather = some x ∧ gsKind x.desc = 1 ∧ s.toBlock.hazelRuns = true ∧ s.gov.shed = false ∧ gsCount x.desc % 64 = 0 ∧ 0 < gsCount x.desc ∧ gsBlock x.desc + gsCount x.desc ≤ (s.toBlock.region x.ctx).2 ∧ s.slow.anyPoison a (gsCount x.desc) = false ∧ gsVa x.desc < 2 ^ 48 ∧ gsVa x.desc % pageSize + gsCount x.desc ≤ pageSize ∧ s.toBlock.walk x.ctx (gsVa x.desc) true false = .ok pa ∧ pa % 64 = 0 ∧ (∀ i < gsCount x.desc, s.toBlock.lostAt (pa + i) = false))
    ∧ (∃ (s : State) (k : Nat) (pa : Nat) (a : Nat) (x : Task), a = (s.toBlock.region x.ctx).1 + gsBlock x.desc ∧ s.toBlock.starting k opScatter = some x ∧ gsKind x.desc = 1 ∧ s.toBlock.hazelRuns = true ∧ s.gov.shed = false ∧ s.toBlock.tainted x.ctx (s.toBlock.scatterSrc x) = none ∧ gsCount x.desc % 64 = 0 ∧ 0 < gsCount x.desc ∧ gsBlock x.desc + gsCount x.desc ≤ (s.toBlock.region x.ctx).2 ∧ a % 16 = 0 ∧ gsVa x.desc < 2 ^ 48 ∧ gsVa x.desc % pageSize + gsCount x.desc ≤ pageSize ∧ s.toBlock.walk x.ctx (gsVa x.desc) false false = .ok pa ∧ s.mem.anyPoison pa (gsCount x.desc) = false ∧ (∀ i < gsCount x.desc, s.toBlock.lostAt (pa + i) = false)) :=
  ⟨⟨Fix.gss opGather 0 64, 7, Fix.gs opGather 0 64, by decide +kernel⟩,
   ⟨Fix.gss opGather 1 64, 7, Fix.gs opGather 1 64, by decide +kernel⟩,
   ⟨Fix.gss opGather 2 64, 7, Fix.gs opGather 2 64, by decide +kernel⟩,
   ⟨Fix.gss opScatter 0 64, 7, Fix.gs opScatter 0 64, by decide +kernel⟩,
   ⟨Fix.gss opScatter 1 64, 7, Fix.gs opScatter 1 64, by decide +kernel⟩,
   ⟨Fix.gss opGather 0 0, 7, Fix.gs opGather 0 0, ⟨0, 1, 2, false, 0, 0, 0, 0, 0⟩, by decide +kernel⟩,
   ⟨Fix.gss opGather 1 64, 7, 0x204000, _, Fix.gs opGather 1 64, rfl, by decide +kernel⟩,
   ⟨Fix.gss opScatter 1 64, 7, 0x204000, _, Fix.gs opScatter 1 64, rfl, by decide +kernel⟩⟩

theorem witness_SkewResolve :
    (∃ (s : State) (c : Nat) (d : DecisionRec), Writable s.toBlock ∧ s.toBlock.decision c = some d ∧ d.code = decHold ∧ s.toBlock.resetting c = false)
    ∧ (∃ (s : State) (c : Nat) (d : DecisionRec), Writable s.toBlock ∧ s.toBlock.decision c = some d ∧ d.code = decHold ∧ s.toBlock.resetting c = false)
    ∧ (∃ (s : State) (c : Nat), Writable s.toBlock ∧ (∀ d, s.toBlock.decision c = some d → d.code ≠ decHold))
    ∧ (∃ (s : State) (c : Nat), Writable s.toBlock ∧ (∀ d, s.toBlock.decision c = some d → d.code ≠ decHold)) :=
  ⟨⟨Fix.decides 5 [] Fix.full, 1, Fix.decided 5, by decide +kernel⟩,
   ⟨Fix.decides 5 [] Fix.full, 1, Fix.decided 5, by decide +kernel⟩,
   ⟨Fix.decides 4 [] Fix.full, 1, by decide +kernel⟩,
   ⟨Fix.decides 4 [] Fix.full, 1, by decide +kernel⟩⟩

theorem witness_DecisionTable :
    (∃ (count : Nat) (token : Nat), count ≠ token)
    ∧ (∃ (b : Block) (c : Nat) (s : Nat) (nf : Bool) (dispute : Bool) (token : Nat) (clip : F32), (b.commitDecision c s nf dispute token clip).reg Od.hazelStep (c + 1) ≠ b.reg Od.hazelStep (c + 1))
    ∧ (∃ (b : Block) (c : Nat) (token : Nat), (b.reg Od.hazelStep (c + 1) = token ∨ b.reg Od.hazelAdopt (c + 1) = 1))
    ∧ (∃ (b : Block) (c : Nat) (token : Nat), b.reg Od.hazelStep (c + 1) ≠ token ∧ b.reg Od.hazelAdopt (c + 1) ≠ 1)
    ∧ (∃ (nf : Bool) (dispute : Bool), (nf = true ∨ dispute = true))
    ∧ (∃ (b : Block) (c : Nat) (s : Nat) (x : _), x ∈ b.disp.tasks ∧ x.ctx = c ∧ x.isRunning = true ∧ opcodeOf x.desc = opUpdate ∧ x.decided = [] ∧ belongsTo x s = true)
    ∧ (∃ (s : State) (k : Nat) (x : Task) (d : DecisionRec), s.toBlock.starting k opUpdate = some x ∧ updKind x.desc = 0 ∧ s.toBlock.hazelRuns = true ∧ s.gov.shed = false ∧ s.toBlock.firstUpdate x = true ∧ decisionOf x.decided = some d ∧ s.toBlock.stageOut x = false ∧ d.code = decNonfinite)
    ∧ (∃ (s : State) (k : Nat) (x : Task) (d : DecisionRec), s.toBlock.starting k opUpdate = some x ∧ updKind x.desc = 0 ∧ s.toBlock.hazelRuns = true ∧ s.gov.shed = false ∧ s.toBlock.firstUpdate x = true ∧ decisionOf x.decided = some d ∧ s.toBlock.stageOut x = false ∧ d.code = decDispute)
    ∧ (∃ (s : State) (k : Nat) (x : Task) (d : DecisionRec), s.toBlock.starting k opUpdate = some x ∧ updKind x.desc = 0 ∧ s.toBlock.hazelRuns = true ∧ s.gov.shed = false ∧ s.toBlock.firstUpdate x = true ∧ decisionOf x.decided = some d ∧ s.toBlock.stageOut x = false ∧ d.code = decHold)
    ∧ (∃ (s : State) (k : Nat) (x : Task) (d : DecisionRec), s.toBlock.starting k opUpdate = some x ∧ updKind x.desc = 1 ∧ s.toBlock.hazelRuns = true ∧ s.gov.shed = false ∧ s.toBlock.firstUpdate x = true ∧ decisionOf x.decided = some d ∧ s.toBlock.stageOut x = false ∧ d.code = decNonfinite)
    ∧ (∃ (s : State) (k : Nat) (x : Task) (d : DecisionRec), s.toBlock.starting k opUpdate = some x ∧ updKind x.desc = 1 ∧ s.toBlock.hazelRuns = true ∧ s.gov.shed = false ∧ s.toBlock.firstUpdate x = true ∧ decisionOf x.decided = some d ∧ s.toBlock.stageOut x = false ∧ d.code = decDispute)
    ∧ (∃ (s : State) (k : Nat) (x : Task) (d : DecisionRec), s.toBlock.starting k opUpdate = some x ∧ updKind x.desc = 1 ∧ s.toBlock.hazelRuns = true ∧ s.gov.shed = false ∧ s.toBlock.firstUpdate x = true ∧ decisionOf x.decided = some d ∧ s.toBlock.stageOut x = false ∧ d.code = decHold) :=
  ⟨⟨1, 2, by decide +kernel⟩,
   ⟨Fix.full.toBlock, 1, 0, false, false, 0, 0, by decide +kernel⟩,
   ⟨Fix.full.toBlock, 1, 0, by decide +kernel⟩,
   ⟨Fix.full.toBlock, 1, 1, by decide +kernel⟩,
   ⟨false, true, by decide +kernel⟩,
   ⟨(Fix.decides 1 [] (Fix.one (Fix.upd 0 []))).toBlock, 1, 0, Fix.upd 0 [], by decide +kernel⟩,
   ⟨Fix.upds 0 3 [], 7, Fix.updd 0 3 [], Fix.decided 3, by decide +kernel⟩,
   ⟨Fix.upds 0 4 [], 7, Fix.updd 0 4 [], Fix.decided 4, by decide +kernel⟩,
   ⟨Fix.upds 0 5 [], 7, Fix.updd 0 5 [], Fix.decided 5, by decide +kernel⟩,
   ⟨Fix.upds 1 3 [], 7, Fix.updd 1 3 [], Fix.decided 3, by decide +kernel⟩,
   ⟨Fix.upds 1 4 [], 7, Fix.updd 1 4 [], Fix.decided 4, by decide +kernel⟩,
   ⟨Fix.upds 1 5 [], 7, Fix.updd 1 5 [], Fix.decided 5, by decide +kernel⟩⟩

theorem witness_Shadow :
    (∃ (s : State) (id : Nat) (eb : List (Nat × BitVec 32)) (es : List (Nat × BitVec 32)) (x : Sample), s.toBlock.sample? id = some x ∧ x.stage = 0 ∧ s.gov.shed = false ∧ x.disagreeing (x.run x.narrowCell eb) (x.run x.shadowCell es) = [])
    ∧ (∃ (s : State) (id : Nat) (a : Nat) (eb : List (Nat × BitVec 32)) (es : List (Nat × BitVec 32)) (x : Sample) (r : List Nat), s.toBlock.sample? id = some x ∧ (∀ y ∈ s.ras.samples, y.id = id → y = x) ∧ x.stage = 0 ∧ s.gov.shed = false ∧ x.disagreeing (x.run x.narrowCell eb) (x.run x.shadowCell es) ≠ [] ∧ s.toBlock.arbiters x.plaza = a :: r)
    ∧ (∃ (s : State) (id : Nat) (err : List (Nat × BitVec 32)) (x : Sample), s.toBlock.sample? id = some x ∧ x.stage = 1 ∧ s.gov.shed = false ∧ x.run x.narrowCell err = x.vn)
    ∧ (∃ (s : State) (id : Nat) (err : List (Nat × BitVec 32)) (x : Sample) (y : Task), s.toBlock.sample? id = some x ∧ x.stage = 1 ∧ s.gov.shed = false ∧ x.run x.narrowCell err ≠ x.vn ∧ x.disagreeing (x.run x.narrowCell err) x.vs = [] ∧ s.toBlock.task? x.ticket = some y ∧ y.phase = .running)
    ∧ (∃ (s : State) (id : Nat) (unit : Nat) (x : Sample), s.toBlock.sample? id = some x ∧ x.stage = 3 ∧ unit ∈ x.suspects ∧ s.toBlock.blockFree unit = true ∧ s.gov.shed = false) :=
  ⟨⟨Fix.smps (Fix.smp 0 0 0) ({Fix.mm opMatmul 0 [] with stage := 1}), 4, [], [], Fix.smp 0 0 0, by decide +kernel⟩,
   ⟨Fix.smps (Fix.smp 0 0 0) ({Fix.mm opMatmul 0 [] with stage := 1}), 4, 1, [], [(0, 0x3F800000)], Fix.smp 0 0 0, (Fix.full.toBlock.arbiters 0).tail, by decide +kernel⟩,
   ⟨Fix.smps (Fix.smp 1 0 1) ({Fix.mm opMatmul 0 [] with stage := 1}), 4, [], Fix.smp 1 0 1, by decide +kernel⟩,
   ⟨Fix.smps (Fix.smp 1 1 0) ({Fix.mm opMatmul 0 [] with stage := 1}), 4, [], Fix.smp 1 1 0, {Fix.mm opMatmul 0 [] with stage := 1}, by decide +kernel⟩,
   ⟨Fix.smps (Fix.smp 3 1 0) (Fix.tk opFence []), 4, 0, Fix.smp 3 1 0, by decide +kernel⟩⟩

theorem witness_InFieldTests :
    (∃ (s : State) (p : Nat), s.toBlock.live = true ∧ s.service = svcFull ∧ s.plaza p ≠ plRetired ∧ (∀ x ∈ s.ras.tests, x.plaza = p → x.observation = true))
    ∧ (∃ (s : State) (unit : Nat) (o : Obs), s.ras.observed.find? (fun o => o.unit == unit) = some o ∧ s.toBlock.live = true ∧ s.service = svcFull ∧ s.plaza (unit / 256) ≠ plRetired ∧ (∀ x ∈ s.ras.tests, x.plaza ≠ unit / 256) ∧ ¬(o.due ≤ s.reg Od.iftNextDue (unit / 256 + 1) ∧ s.reg Od.iftNextDue (unit / 256 + 1) < o.due + hour))
    ∧ (∃ (s : State) (p : Nat) (x : Test), p < 8 ∧ s.ras.tests.find? (fun x => x.plaza == p) = some x ∧ x.draining = false ∧ s.toBlock.testPlace = false ∧ s.plaza p = plInService ∧ s.power ≠ pwrPark ∧ s.toBlock.live = true)
    ∧ (∃ (s : State) (p : Nat), p < 8 ∧ s.plaza p = plDraining ∧ s.toBlock.plazaBusy p = false)
    ∧ (∃ (s : State) (p : Nat) (x : Test), p < 8 ∧ s.plaza p = plTesting ∧ s.ras.tests.find? (fun x => x.plaza == p && x.draining) = some x) :=
  ⟨⟨Fix.full, 7, by decide +kernel⟩,
   ⟨{Fix.full with ras := {Fix.full.ras with observed := [⟨unitCode 7 143, 1, 0, 0, 5⟩]}}, unitCode 7 143, ⟨unitCode 7 143, 1, 0, 0, 5⟩, by decide +kernel⟩,
   ⟨Fix.tests [⟨7, false, 0, false, 0⟩] 0, 7, ⟨7, false, 0, false, 0⟩, by decide +kernel⟩,
   ⟨Fix.tests [⟨7, false, 0, true, 0⟩] 1, 7, by decide +kernel⟩,
   ⟨Fix.tests [⟨7, false, 0, true, 0⟩] 2, 7, ⟨7, false, 0, true, 0⟩, by decide +kernel⟩⟩

theorem witness_MemoryUpkeep :
    (∃ (s : State), s.toBlock.awake = true ∧ s.toBlock.stackState (s.hbm.nextPc / 32) = stInService ∧ s.toBlock.inOrder (retrainAt (s.reg Od.hbmRetrainPeriodMs 0) (max s.dt s.hbm.nextAt)) 4 = true)
    ∧ (∃ (s : State) (pc : Nat) (half : Nat), pc < 256 ∧ half < 2 ∧ s.toBlock.awake = true ∧ s.toBlock.stackState (pc / 32) = stInService ∧ s.toBlock.spareUsed (2 * pc + half) = false)
    ∧ (∃ (s : State) (pc : Nat) (half : Nat) (passes : Bool), pc < 256 ∧ s.toBlock.awake = true ∧ s.toBlock.stackState (pc / 32) = stInService ∧ (s.toBlock.spareUsed (2 * pc + half) = true ∨ passes = false))
    ∧ (∃ (s : State) (k : Nat), k < 8 ∧ s.toBlock.live = true ∧ (s.toBlock.stackState k = stInService ∨ s.toBlock.stackState k = stSelfRefresh))
    ∧ (∃ (s : State) (pc : Nat) (l : WcbLine), s.hbm.wcb.find? (fun l => l.pc == pc) = some l ∧ s.toBlock.awake = true)
    ∧ (∃ (s : State) (n : Nat), n < 16 ∧ s.toBlock.slowPowered = true)
    ∧ (∃ (s : State), s.toBlock.awake = true ∧ s.toBlock.slowTier = slInService)
    ∧ (∃ (s : State), s.toBlock.live = true ∧ (s.toBlock.slowTier = slInService ∨ s.toBlock.slowTier = slTraining ∨ s.toBlock.slowTier = slSelfRefresh)) :=
  ⟨⟨Fix.full, by decide +kernel⟩,
   ⟨Fix.full, 255, 1, by decide +kernel⟩,
   ⟨Fix.full, 255, 1, false, by decide +kernel⟩,
   ⟨Fix.full, 7, by decide +kernel⟩,
   ⟨{Fix.full with hbm := {Fix.full.hbm with wcb := [⟨3, 6, 1, 1, 5⟩]}}, 3, ⟨3, 6, 1, 1, 5⟩, by decide +kernel⟩,
   ⟨Fix.full, 15, by decide +kernel⟩,
   ⟨Fix.full, by decide +kernel⟩,
   ⟨Fix.full, by decide +kernel⟩⟩

theorem witness_Scrubs :
    (∃ (s : State) (a : Nat), s.toBlock.awake = true ∧ a < hbmSize ∧ s.toBlock.stackState (stackOf a) = stInService)
    ∧ (∃ (s : State) (a : Nat) (k : _), s.toBlock.awake = true ∧ terraceOf a = some k ∧ s.toBlock.boroughDown k = false)
    ∧ (∃ (s : State) (a : Nat), s.toBlock.awake = true ∧ a < s.toBlock.slowCapacity ∧ s.toBlock.slowTier = slInService)
    ∧ (∃ (s : State) (a : Nat) (k : Nat) (y : Nat) (u : Upset), s.toBlock.awake = true ∧ terraceOf a = some k ∧ s.toBlock.boroughDown k = false ∧ u.link = 0 ∧ decodeWord ((s.mem.stored (a / 8)).1 ^^^ u.dataXor.toNat) ((s.mem.stored (a / 8)).2 ^^^ u.checkXor.toNat) = .bad y)
    ∧ (∃ (s : State) (a : Nat) (k : Nat) (y : Nat) (u : Upset), s.toBlock.awake = true ∧ terraceOf a = some k ∧ s.toBlock.boroughDown k = false ∧ (u.link = 4 ∨ u.link = 5) ∧ u.replays ≤ replayMax ∧ decodeWord ((s.mem.stored (a / 8)).1 ^^^ u.dataXor.toNat) ((s.mem.stored (a / 8)).2 ^^^ u.checkXor.toNat) = .bad y) :=
  ⟨⟨Fix.full, hbmSize - 1, by decide +kernel⟩,
   ⟨Fix.full, terraceBase, 0, by decide +kernel⟩,
   ⟨Fix.full, 0, by decide +kernel⟩,
   ⟨Fix.full, terraceBase + 8, 0, 12, ⟨3, 0, 0, 0⟩, by decide +kernel⟩,
   ⟨Fix.full, terraceBase + 8, 0, 12, ⟨3, 0, 5, 8⟩, by decide +kernel⟩⟩

theorem witness_EmithSend :
    (∃ (s : State) (slice : Nat) (i : Nat) (c : TxConn) (p : Parcel) (b : Block), b = (s.toBlock.openNeeded slice).awaitCredits slice ∧ s.toBlock.live = true ∧ slice < 4 ∧ s.toBlock.boroughDown slice = false ∧ b.chooseTx slice = some c ∧ b.tx? c.key = some c ∧ b.nextParcelOf slice c.key = some p ∧ (b.reach c.freeAt).pickIface c.key c.iface none = some i ∧ CanSend b c.key) :=
  ⟨Fix.link [Fix.tx] [] [Fix.parcel pkReduce 0 0 1 0 []], 0, 0, Fix.tx, Fix.parcel pkReduce 0 0 1 0 [], _, rfl, by decide +kernel⟩

theorem witness_EmithAcks :
    (∃ (c : TxConn) (rmax : Nat), 1000 ≤ c.rate ∧ c.rate ≤ rmax) :=
  ⟨Fix.tx, 40000, by decide +kernel⟩

theorem witness_EmithTimers :
    (∃ (s : State) (k : ConnKey) (c : RxConn) (t0 : Nat) (i : Nat), s.toBlock.rx? k = some c ∧ c.firstAt = some t0 ∧ s.toBlock.live = true ∧ (s.toBlock.reach (t0 + 2000)).pickIface k c.iface none = some i ∧ CanSend s.toBlock k)
    ∧ (∃ (s : State) (k : ConnKey) (c : RxConn) (i : Nat), s.toBlock.rx? k = some c ∧ c.since = 0 ∧ s.toBlock.live = true ∧ (s.toBlock.reach (c.sentAt + 100000)).pickIface k c.iface none = some i ∧ CanSend s.toBlock k)
    ∧ (∃ (s : State) (k : ConnKey) (psn : Nat) (i : Nat) (c : TxConn) (u : SentPkt), s.toBlock.tx? k = some c ∧ c.unacked.find? (fun x => x.psn == psn) = some u ∧ s.toBlock.live = true ∧ (s.toBlock.reach (max (u.at_ + c.rto) c.freeAt)).pickIface k c.iface (some u.iface) = some i ∧ CanSend s.toBlock k)
    ∧ (∃ (s : State) (k : ConnKey) (c : TxConn), k.sending = true ∧ s.toBlock.tx? k = some c)
    ∧ (∃ (s : State) (k : ConnKey) (c : RxConn), k.sending = false ∧ s.toBlock.rx? k = some c) :=
  ⟨⟨Fix.link [] [Fix.rx] [], Fix.rxk, Fix.rx, 9, 0, by decide +kernel⟩,
   ⟨Fix.link [] [{Fix.rx with since := 0}] [], Fix.rxk, {Fix.rx with since := 0}, 0, by decide +kernel⟩,
   ⟨Fix.link [Fix.tx] [] [], Fix.txk, 3, 0, Fix.tx, ⟨3, [5], 10, 0, 255⟩, by decide +kernel⟩,
   ⟨Fix.link [Fix.tx] [] [], Fix.txk, Fix.tx, by decide +kernel⟩,
   ⟨Fix.link [] [Fix.rx] [], Fix.rxk, Fix.rx, by decide +kernel⟩⟩

theorem witness_HostSessions :
    (∃ (s : State) (port : Nat), s.toBlock.live = true ∧ s.toBlock.walnutBusy = false ∧ isHost port = true ∧ s.toBlock.receives port = true ∧ (s.emith.hsSecond = s.dt / 10 ^ 9 → s.emith.hsCount < 100))
    ∧ (∃ (s : State), s.emith.hsSecond = s.dt / 10 ^ 9 ∧ 100 ≤ s.emith.hsCount)
    ∧ (∃ (s : State) (n : Nat) (x : Session), s.toBlock.session? n = some x) :=
  ⟨⟨Fix.up32, 32, by decide +kernel⟩,
   ⟨{Fix.up32 with emith := {Fix.up32.emith with hsSecond := 1, hsCount := 100}}, by decide +kernel⟩,
   ⟨Fix.hosts Fix.session [], 3, Fix.session, by decide +kernel⟩⟩

theorem witness_HostCommands :
    (∃ (s : State) (n : Nat) (psn : Nat) (pa : Nat) (x : Session) (c : HostCmd), HostTaken s.toBlock n psn x c ∧ c.head.hop = 1 ∧ hostMalformed c.head c.text = false ∧ bit x.granted c.head.ctx = true ∧ s.power ≠ pwrPark ∧ s.toBlock.hostRange c.head.ctx c.head.va c.head.len true = .ok [(pa, c.head.len)] ∧ s.mem.anyPoison pa c.head.len = false ∧ (∀ i < c.head.len, s.toBlock.lostAt (pa + i) = false))
    ∧ (∃ (s : State) (n : Nat) (psn : Nat) (x : Session) (c : HostCmd) (l : List (Nat × Nat)), HostTaken s.toBlock n psn x c ∧ c.head.hop = 2 ∧ hostMalformed c.head c.text = false ∧ bit x.granted c.head.ctx = true ∧ s.power ≠ pwrPark ∧ s.toBlock.hostRange c.head.ctx c.head.va c.head.len false = .ok l)
    ∧ (∃ (s : State) (n : Nat) (psn : Nat) (w : Nat) (x : Session) (c : HostCmd) (r : Ring), w = ofBE (slice c.text 16 8) ∧ r = s.toBlock.ring (bits w 63 50) ∧ HostTaken s.toBlock n psn x c ∧ c.head.hop = 4 ∧ hostMalformed c.head c.text = false ∧ bit x.granted c.head.ctx = true ∧ x.failed = false ∧ cfgCtx r.cfg = c.head.ctx ∧ bits w 49 16 = 0 ∧ r.state = .active ∧ s.toBlock.resetting c.head.ctx = false ∧ (bits w 15 0 + 2 ^ 16 - r.fetch) % 2 ^ 16 ≤ 2 ^ cfgLog r.cfg)
    ∧ (∃ (s : State) (n : Nat) (psn : Nat) (w : Nat) (x : Session) (c : HostCmd) (r : Ring), w = ofBE (slice c.text 16 8) ∧ r = s.toBlock.ring (bits w 63 50) ∧ HostTaken s.toBlock n psn x c ∧ c.head.hop = 4 ∧ hostMalformed c.head c.text = false ∧ bit x.granted c.head.ctx = true ∧ (x.failed = true ∨ cfgCtx r.cfg ≠ c.head.ctx))
    ∧ (∃ (s : State) (n : Nat) (psn : Nat) (x : Session) (c : HostCmd), HostTaken s.toBlock n psn x c ∧ (c.head.hop ≠ 2 ∧ c.head.hop ≠ 4) ∧ (hostMalformed c.head c.text = true ∨ bit x.granted c.head.ctx = false))
    ∧ (∃ (s : State) (n : Nat) (psn : Nat) (x : Session) (c : HostCmd), HostTaken s.toBlock n psn x c ∧ (c.head.hop = 2) ∧ (hostMalformed c.head c.text = true ∨ bit x.granted c.head.ctx = false))
    ∧ (∃ (s : State) (n : Nat) (psn : Nat) (x : Session) (c : HostCmd), HostTaken s.toBlock n psn x c ∧ (c.head.hop = 4) ∧ (hostMalformed c.head c.text = true ∨ bit x.granted c.head.ctx = false))
    ∧ (∃ (s : State) (n : Nat) (psn : Nat) (c : HostCmd), s.toBlock.heldCmd n psn = some c ∧ s.toBlock.mayTake c = false)
    ∧ (∃ (s : State) (n : Nat) (psn : Nat) (c : HostCmd), s.toBlock.heldCmd n psn = some c ∧ s.toBlock.mayTake c = false)
    ∧ (∃ (s : State) (n : Nat) (psn : Nat) (c : HostCmd), s.toBlock.heldCmd n psn = some c ∧ s.toBlock.mayTake c = false) :=
  ⟨⟨Fix.hosts Fix.session [Fix.hcmd 7 1 2 0x4000 [1, 2]], 3, 7, 0x204000, Fix.session, Fix.hcmd 7 1 2 0x4000 [1, 2], by decide +kernel⟩,
   ⟨Fix.hosts Fix.session [Fix.hcmd 7 2 2 0x4000 []], 3, 7, Fix.session, Fix.hcmd 7 2 2 0x4000 [], [(0x204000, 2)], by decide +kernel⟩,
   ⟨Fix.hosts Fix.session [Fix.hcmd 7 4 8 0 (beBytes 8 (3 * 2 ^ 50 + 16))], 3, 7, _, Fix.session, Fix.hcmd 7 4 8 0 (beBytes 8 (3 * 2 ^ 50 + 16)), _, rfl, rfl, by decide +kernel⟩,
   ⟨Fix.hosts {Fix.session with failed := true} [Fix.hcmd 7 4 8 0 (beBytes 8 (3 * 2 ^ 50 + 16))], 3, 7, _, {Fix.session with failed := true}, Fix.hcmd 7 4 8 0 (beBytes 8 (3 * 2 ^ 50 + 16)), _, rfl, rfl, by decide +kernel⟩,
   ⟨Fix.hosts Fix.session [Fix.hcmd 7 1 9 0 []], 3, 7, Fix.session, Fix.hcmd 7 1 9 0 [], by decide +kernel⟩,
   ⟨Fix.hosts Fix.session [Fix.hcmd 7 2 4081 0 []], 3, 7, Fix.session, Fix.hcmd 7 2 4081 0 [], by decide +kernel⟩,
   ⟨Fix.hosts Fix.session [Fix.hcmd 7 4 9 0 []], 3, 7, Fix.session, Fix.hcmd 7 4 9 0 [], by decide +kernel⟩,
   ⟨Fix.hosts Fix.session [Fix.hcmd 6 1 2 0x4001 [3, 4], Fix.hcmd 7 1 2 0x4000 [1, 2]], 3, 7, Fix.hcmd 7 1 2 0x4000 [1, 2], by decide +kernel⟩,
   ⟨Fix.hosts Fix.session [Fix.hcmd 6 1 2 0x4001 [3, 4], Fix.hcmd 7 2 2 0x4000 []], 3, 7, Fix.hcmd 7 2 2 0x4000 [], by decide +kernel⟩,
   ⟨Fix.hosts Fix.session [Fix.hcmd 6 1 2 0x4001 [3, 4], Fix.hcmd 7 4 8 0 (beBytes 8 (3 * 2 ^ 50 + 16))], 3, 7, Fix.hcmd 7 4 8 0 (beBytes 8 (3 * 2 ^ 50 + 16)), by decide +kernel⟩⟩

theorem witness_PortRepair :
    (∃ (s : State) (p : Nat), (isFabric p = true ∨ isHost p = true) ∧ s.toBlock.live = true ∧ (∀ r ∈ s.emith.repairs, isFabric r.port = true ∨ isHost r.port = true) ∧ (s.toBlock.portState p = ptDown ∨ s.toBlock.portState p = ptTraining))
    ∧ (∃ (s : State) (p : Nat), (isFabric p = true ∨ isHost p = true) ∧ s.toBlock.live = true ∧ (∀ r ∈ s.emith.repairs, isFabric r.port = true ∨ isHost r.port = true) ∧ (s.toBlock.portState p = ptDown ∨ s.toBlock.portState p = ptTraining))
    ∧ (∃ (s : State) (p : Nat) (lane : _), (isFabric p = true ∨ isHost p = true) ∧ s.toBlock.live = true ∧ (∀ r ∈ s.emith.repairs, isFabric r.port = true ∨ isHost r.port = true) ∧ s.toBlock.portState p = ptUp ∧ s.toBlock.repair? p = none ∧ (isFabric p = true → s.reg Od.fabLaneFailTicks 0 ≤ sget 0 s.emith.laneTicks (4 * p + lane)) ∧ s.toBlock.laneAgain p lane = false ∧ (∀ r ∈ s.emith.repairs, r.phase ≠ 0))
    ∧ (∃ (s : State) (p : Nat) (lane : _), (isFabric p = true ∨ isHost p = true) ∧ s.toBlock.live = true ∧ (∀ r ∈ s.emith.repairs, isFabric r.port = true ∨ isHost r.port = true) ∧ s.toBlock.portState p = ptUp ∧ s.toBlock.repair? p = none ∧ (isFabric p = true → s.reg Od.fabLaneFailTicks 0 ≤ sget 0 s.emith.laneTicks (4 * p + lane)) ∧ s.toBlock.laneAgain p lane = true)
    ∧ (∃ (s : State) (p : Nat), (isFabric p = true ∨ isHost p = true) ∧ s.toBlock.live = true ∧ (∀ r ∈ s.emith.repairs, isFabric r.port = true ∨ isHost r.port = true) ∧ s.toBlock.portState p = ptUp ∧ s.toBlock.repair? p = none ∧ (∀ r ∈ s.emith.repairs, r.phase ≠ 0))
    ∧ (∃ (s : State) (p : Nat) (r : _), (isFabric p = true ∨ isHost p = true) ∧ s.toBlock.live = true ∧ (∀ r ∈ s.emith.repairs, isFabric r.port = true ∨ isHost r.port = true) ∧ s.toBlock.inPhase p 1 = some r)
    ∧ (∃ (s : State) (p : Nat) (r : _), (isFabric p = true ∨ isHost p = true) ∧ s.toBlock.live = true ∧ (∀ r ∈ s.emith.repairs, isFabric r.port = true ∨ isHost r.port = true) ∧ s.toBlock.inPhase p 2 = some r)
    ∧ (∃ (s : State) (p : Nat) (r : _), (isFabric p = true ∨ isHost p = true) ∧ s.toBlock.live = true ∧ (∀ r ∈ s.emith.repairs, isFabric r.port = true ∨ isHost r.port = true) ∧ s.toBlock.inPhase p 3 = some r)
    ∧ (∃ (s : State) (p : Nat) (r : _), (isFabric p = true ∨ isHost p = true) ∧ s.toBlock.live = true ∧ (∀ r ∈ s.emith.repairs, isFabric r.port = true ∨ isHost r.port = true) ∧ s.toBlock.inPhase p 3 = some r)
    ∧ (∃ (s : State) (p : Nat) (v : _), (isFabric p = true ∨ isHost p = true) ∧ s.toBlock.live = true ∧ (∀ r ∈ s.emith.repairs, isFabric r.port = true ∨ isHost r.port = true) ∧ p < 16 ∧ Writable s.toBlock ∧ v ≤ 3)
    ∧ (∃ (s : State) (p : Nat) (v : _), (isFabric p = true ∨ isHost p = true) ∧ s.toBlock.live = true ∧ (∀ r ∈ s.emith.repairs, isFabric r.port = true ∨ isHost r.port = true) ∧ Writable s.toBlock ∧ 3 < v) :=
  ⟨⟨Fix.full, 15, by decide +kernel⟩,
   ⟨Fix.up, 33, by decide +kernel⟩,
   ⟨Fix.up32, 32, 3, by decide +kernel⟩,
   ⟨{Fix.up32 with emith := {Fix.up32.emith with laneAt := [(131, 6)]}}, 32, 3, by decide +kernel⟩,
   ⟨Fix.up32, 32, by decide +kernel⟩,
   ⟨Fix.repair 1 3, 15, ⟨15, none, 1, 5⟩, by decide +kernel⟩,
   ⟨Fix.repair 2 4, 15, ⟨15, none, 2, 5⟩, by decide +kernel⟩,
   ⟨Fix.repair 3 4, 15, ⟨15, none, 3, 5⟩, by decide +kernel⟩,
   ⟨Fix.repair 3 4, 15, ⟨15, none, 3, 5⟩, by decide +kernel⟩,
   ⟨Fix.full, 15, 3, by decide +kernel⟩,
   ⟨Fix.full, 15, 4, by decide +kernel⟩⟩

theorem witness_PortFrames :
    (∃ (s : State) (i : Nat) (q : Nat) (quanta : List Nat), q = nth 0 quanta (pcpOf (s.reg Od.fabVlan 0)) ∧ s.reg Od.fabPfcEnable 0 = 1 ∧ s.toBlock.receives (portOf i) = true ∧ (isHost (portOf i) = true ∨ i ∈ s.toBlock.ifacesOf (portOf i)))
    ∧ (∃ (f : WireFrame) (d : Nat), f.leaves ≠ d)
    ∧ (∃ (s : State) (i : Nat), (s.reg Od.fabPfcEnable 0 ≠ 1 ∨ s.toBlock.receives (portOf i) = false ∨ (isHost (portOf i) = false ∧ i ∉ s.toBlock.ifacesOf (portOf i))))
    ∧ (∃ (s : State) (p : Nat) (f : EthFrame), isFabric p = true ∧ s.toBlock.receives p = true ∧ s.toBlock.accepts p f = false)
    ∧ (∃ (s : State) (p : Nat) (f : EthFrame), isFabric p = false ∨ s.toBlock.receives p = false ∨ s.toBlock.accepts p f = true)
    ∧ (∃ (f : EthFrame), f.length > 9216)
    ∧ (∃ (s : State) (i : Nat), s.toBlock.live = true ∧ s.toBlock.ifaceUp i = true)
    ∧ (∃ (s : State) (i : Nat) (f : NdFrame), s.toBlock.hearsNd i = true ∧ f.kind = 1 ∧ i < 130 ∧ f.ip = s.toBlock.gatewayIp)
    ∧ (∃ (s : State) (i : Nat) (f : NdFrame), s.toBlock.hearsNd i = true ∧ (f.kind = 0 ∨ f.kind = 2) ∧ s.toBlock.ownsIp i f.ip = true) :=
  ⟨⟨Fix.regs [(Od.fabPfcEnable, 0, 1)] Fix.full, 0, _, [3], rfl, by decide +kernel⟩,
   ⟨⟨0, 0, 0, 0, 0, 0, 0, 5, ⟨1, [], [], false⟩, [], [], []⟩, 6, by decide +kernel⟩,
   ⟨Fix.regs [(Od.fabPfcEnable, 0, 0)] Fix.full, 0, by decide +kernel⟩,
   ⟨Fix.full, 0, ⟨9217, none, 0, 0⟩, by decide +kernel⟩,
   ⟨Fix.full, 32, ⟨9217, none, 0, 0⟩, by decide +kernel⟩,
   ⟨⟨9217, none, 0, 0⟩, by decide +kernel⟩,
   ⟨Fix.full, 0, by decide +kernel⟩,
   ⟨Fix.full, 0, ⟨1, ofBE (Fix.full.oct Od.fabGateway 0), 6⟩, by decide +kernel⟩,
   ⟨Fix.regs [(Od.emithV4Base, 0, 0x0A000000)] Fix.full, 0, ⟨2, (Fix.regs [(Od.emithV4Base, 0, 0x0A000000)] Fix.full).toBlock.ifaceV4 0 0, 6⟩, by decide +kernel⟩⟩

theorem witness_TimeMeasurements :
    (∃ (s : State) (o : Int) (t1 : Int) (t4 : Int) (m : PtpMessage) (seq : Nat) (t2 : Nat) (t3 : Nat), s.sys.phase = .up ∧ s.reg Od.timeSource 0 = srcPtp ∧ (srcPtp = srcPtp → s.toBlock.ptpHears m = true ∧ ({ s.toBlock with dt := (s.dt + m.elapsedNs) } : Block).bestMaster.map (·.source) = some m.source ∧ m.body = .delayResp seq true t4 ∧ s.cal.exch = some ⟨seq, some t1, t2, some (seq, t3)⟩ ∧ o = offsetOf t1 t2 t3 t4) ∧ (srcPtp = srcPps → s.cal.timeSet = none ∧ o = ppsOffset (s.dt + m.elapsedNs) ∧ ¬(s.reg Od.timeState 0 = tsLocked ∧ 10 ^ 8 < o.natAbs)))
    ∧ (∃ (s : State) (o : Int) (t1 : Int) (t4 : Int) (m : PtpMessage) (el : Nat) (seq : Nat) (t2 : Nat) (t3 : Nat), s.sys.phase = .up ∧ s.reg Od.timeSource 0 = srcPps ∧ (srcPps = srcPtp → s.toBlock.ptpHears m = true ∧ ({ s.toBlock with dt := (s.dt + el) } : Block).bestMaster.map (·.source) = some m.source ∧ m.body = .delayResp seq true t4 ∧ s.cal.exch = some ⟨seq, some t1, t2, some (seq, t3)⟩ ∧ o = offsetOf t1 t2 t3 t4) ∧ (srcPps = srcPps → s.cal.timeSet = none ∧ o = ppsOffset (s.dt + el) ∧ ¬(s.reg Od.timeState 0 = tsLocked ∧ 10 ^ 8 < o.natAbs)))
    ∧ (∃ (s : State) (m : PtpMessage) (a : PtpAnnounce), m.body = .announce a ∧ s.toBlock.ptpHears m = true)
    ∧ (∃ (s : State) (m : PtpMessage) (seq : _) (t1 : _), s.toBlock.ptpHears m = true ∧ ({ s.toBlock with dt := s.dt + m.elapsedNs } : Block).bestMaster.map (·.source) = some m.source ∧ m.body = .sync seq true t1)
    ∧ (∃ (s : State) (m : PtpMessage) (seq : _) (t1 : _), s.toBlock.ptpHears m = true ∧ ({ s.toBlock with dt := s.dt + m.elapsedNs } : Block).bestMaster.map (·.source) = some m.source ∧ m.body = .sync seq false t1)
    ∧ (∃ (s : State) (m : PtpMessage) (seq : _) (t1 : _) (t2 : _) (r : _), s.toBlock.ptpHears m = true ∧ ({ s.toBlock with dt := s.dt + m.elapsedNs } : Block).bestMaster.map (·.source) = some m.source ∧ m.body = .followUp seq t1 ∧ s.cal.exch = some ⟨seq, none, t2, r⟩)
    ∧ (∃ (s : State) (m : PtpMessage), s.toBlock.serving = true ∧ s.toBlock.ptpHears m = false)
    ∧ (∃ (s : State) (el : Nat), s.sys.phase = .up ∧ s.reg Od.timeSource 0 = srcPps ∧ s.cal.timeSet = none ∧ s.reg Od.timeState 0 = tsLocked ∧ 10 ^ 8 < (ppsOffset (s.dt + el)).natAbs)
    ∧ (∃ (s : State) (v : Nat), s.sys.phase = .up ∧ s.reg Od.timeSource 0 = srcPps ∧ s.cal.timeSet = some v)
    ∧ (∃ (s : State), s.toBlock.serving = true ∧ (s.reg Od.timeSource 0 ≠ srcPps ∨ s.sys.phase ≠ .up)) :=
  ⟨⟨Fix.ptp (some ⟨3, some 100, 95, some (3, 200)⟩), -5, 100, 205, Fix.msg (.delayResp 3 true 205), 3, 95, 200, by decide +kernel⟩,
   ⟨Fix.timed 2, 11, 0, 0, Fix.msg (.sync 0 true 0), 4, 0, 0, 0, by decide +kernel⟩,
   ⟨Fix.ptp none, Fix.msg (.announce Fix.ann), Fix.ann, by decide +kernel⟩,
   ⟨Fix.ptp none, Fix.msg (.sync 3 true 0), 3, 0, by decide +kernel⟩,
   ⟨Fix.ptp none, Fix.msg (.sync 3 false 100), 3, 100, by decide +kernel⟩,
   ⟨Fix.ptp (some ⟨3, none, 95, none⟩), Fix.msg (.followUp 3 100), 3, 100, 95, none, by decide +kernel⟩,
   ⟨Fix.timed 2, Fix.msg (.sync 3 false 100), by decide +kernel⟩,
   ⟨Fix.regs [(Od.timeState, 0, 2)] (Fix.timed 2), 3 * 10 ^ 8, by decide +kernel⟩,
   ⟨{Fix.timed 2 with cal := {Cal.reset with timeSet := some 5}}, 5, by decide +kernel⟩,
   ⟨Fix.timed 1, by decide +kernel⟩⟩

theorem witness_DeviceTime :
    (∃ (s : State), Writable s.toBlock ∧ s.reg Od.timeSource 0 = srcPtp)
    ∧ (∃ (s : State), Writable s.toBlock ∧ s.reg Od.timeSource 0 = srcFree)
    ∧ (∃ (s : State), Writable s.toBlock ∧ s.reg Od.timeSource 0 = srcPps)
    ∧ (∃ (s : State), s.toBlock.serving = true ∧ s.reg Od.timeState 0 = tsLocked ∧ s.reg Od.timeSource 0 ≠ srcFree)
    ∧ (∃ (s : State), s.toBlock.serving = true ∧ s.reg Od.timeState 0 = tsHoldover)
    ∧ (∃ (s : State), s.toBlock.serving = true ∧ s.reg Od.timeSource 0 = srcPtp ∧ s.cal.ptpAt ≠ s.reg Od.ptpPort 0 ∧ s.toBlock.portUp (s.reg Od.ptpPort 0) = true)
    ∧ (∃ (s : State), s.toBlock.serving = true ∧ s.toBlock.ppsAllowed = true ∧ s.pins.enabled = true)
    ∧ (∃ (s : State), s.toBlock.ppsAllowed = false)
    ∧ (∃ (s : State), s.toBlock.serving = true)
    ∧ (∃ (s : State), s.toBlock.serving = true) :=
  ⟨⟨Fix.timed 1, by decide +kernel⟩,
   ⟨Fix.timed 0, by decide +kernel⟩,
   ⟨Fix.timed 2, by decide +kernel⟩,
   ⟨Fix.regs [(Od.timeState, 0, 2)] (Fix.timed 2), by decide +kernel⟩,
   ⟨Fix.regs [(Od.timeState, 0, 3)] (Fix.timed 2), by decide +kernel⟩,
   ⟨Fix.regs [(Od.ptpPort, 0, 0)] (Fix.timed 1), by decide +kernel⟩,
   ⟨Fix.regs [(Od.timeState, 0, 2), (Od.ppsOutEnable, 0, 1)] (Fix.timed 2), by decide +kernel⟩,
   ⟨Fix.timed 2, by decide +kernel⟩,
   ⟨Fix.timed 1, by decide +kernel⟩,
   ⟨Fix.timed 1, by decide +kernel⟩⟩

theorem witness_GovernorInstants :
    (∃ (s : State), s.toBlock.serving = true ∧ s.toBlock.walnutBusy = false)
    ∧ (∃ (s : State) (e : CalEvent), s.toBlock.firstEvent 1 = some e ∧ s.toBlock.serving = true ∧ s.toBlock.inOrder (tickAt e.at_) 1 = true)
    ∧ (∃ (s : State) (e : CalEvent), s.toBlock.firstEvent 2 = some e ∧ s.toBlock.serving = true ∧ s.toBlock.inOrder e.at_ 2 = true ∧ s.gov.ceils.length = 8 ∧ s.gov.target.length = 8)
    ∧ (∃ (s : State), s.sys.phase = .up ∧ s.toBlock.inOrder (tickAt (max s.dt (s.gov.sampled + 1))) 5 = true)
    ∧ (∃ (s : State) (p : Nat) (f : Nat) (g : Nat), f = s.toBlock.clockOf p ∧ g = s.toBlock.targetOf p ∧ f ≠ g ∧ p < s.gov.clock.length ∧ p < s.gov.target.length ∧ s.power = pwrRun ∧ s.toBlock.live = true ∧ s.gov.shed = false) :=
  ⟨⟨Fix.full, by decide +kernel⟩,
   ⟨Fix.cals [⟨2 * 10 ^ 9, 1, 1200, none, 0⟩], ⟨2 * 10 ^ 9, 1, 1200, none, 0⟩, by decide +kernel⟩,
   ⟨Fix.cals [⟨2 * 10 ^ 9, 2, 0, some 1200, 0⟩], ⟨2 * 10 ^ 9, 2, 0, some 1200, 0⟩, by decide +kernel⟩,
   ⟨Fix.full, by decide +kernel⟩,
   ⟨{Fix.full with gov := {Fix.full.gov with target := List.replicate 8 1700}}, 7, _, _, rfl, rfl, by decide +kernel⟩⟩

theorem witness_GovernorHardware :
    (∃ (s : State) (d : Nat), d < 12 ∧ s.toBlock.awake = true ∧ s.gov.droop.length = 13 ∧ nth false s.gov.droop d = false ∧ (∀ p < 8, s.plaza p ≠ plTesting) ∧ s.gov.target.length = 8)
    ∧ (∃ (s : State) (d : Nat), d < s.gov.droop.length)
    ∧ (∃ (s : State), s.toBlock.awake = true ∧ s.gov.droop.length = 13 ∧ nth false s.gov.droop 12 = false ∧ (∀ p < 8, s.plaza p ≠ plTesting))
    ∧ (∃ (s : State), s.toBlock.awake = true ∧ s.gov.ceils.length = 8 ∧ s.gov.clock.length = 8 ∧ s.gov.target.length = 8)
    ∧ (∃ (s : State) (p : Nat), s.toBlock.live = true ∧ s.plaza p ≠ plRetired) :=
  ⟨⟨Fix.full, 11, by decide +kernel⟩,
   ⟨{Fix.full with gov := {Fix.full.gov with droop := List.replicate 13 true}}, 11, by decide +kernel⟩,
   ⟨Fix.full, by decide +kernel⟩,
   ⟨Fix.full, by decide +kernel⟩,
   ⟨Fix.full, 7, by decide +kernel⟩⟩

theorem witness_PowerCommands :
    (∃ (s : State), True ∧ (true = true ∨ (s.reg Od.pwrShedCmd 0) = 1) ∧ s.toBlock.live = true ∧ s.power = pwrRun ∧ s.gov.shed = true)
    ∧ (∃ (s : State), True ∧ (false = true ∨ (s.reg Od.pwrShedCmd 0) = 1) ∧ s.toBlock.live = true ∧ s.power = pwrRun ∧ s.gov.shed = true)
    ∧ (∃ (s : State), (Writable s.toBlock) ∧ (s.pins.shed = true ∨ 0 = 1) ∧ s.toBlock.live = true ∧ s.power = pwrRun ∧ s.gov.shed = true)
    ∧ (∃ (s : State), (Writable s.toBlock) ∧ (s.pins.shed = true ∨ 1 = 1) ∧ s.toBlock.live = true ∧ s.power = pwrRun ∧ s.gov.shed = true)
    ∧ (∃ (s : State), True ∧ (true = true ∨ (s.reg Od.pwrShedCmd 0) = 1) ∧ s.toBlock.live = true ∧ s.power = pwrRun ∧ s.gov.shed = false ∧ (∀ p < 8, s.plaza p ≠ plTesting))
    ∧ (∃ (s : State), True ∧ (false = true ∨ (s.reg Od.pwrShedCmd 0) = 1) ∧ s.toBlock.live = true ∧ s.power = pwrRun ∧ s.gov.shed = false ∧ (∀ p < 8, s.plaza p ≠ plTesting))
    ∧ (∃ (s : State), (Writable s.toBlock) ∧ (s.pins.shed = true ∨ 0 = 1) ∧ s.toBlock.live = true ∧ s.power = pwrRun ∧ s.gov.shed = false ∧ (∀ p < 8, s.plaza p ≠ plTesting))
    ∧ (∃ (s : State), (Writable s.toBlock) ∧ (s.pins.shed = true ∨ 1 = 1) ∧ s.toBlock.live = true ∧ s.power = pwrRun ∧ s.gov.shed = false ∧ (∀ p < 8, s.plaza p ≠ plTesting))
    ∧ (∃ (s : State), True ∧ (true = true ∨ (s.reg Od.pwrShedCmd 0) = 1) ∧ s.toBlock.live = true ∧ s.power = pwrRun ∧ s.gov.shed = false)
    ∧ (∃ (s : State), True ∧ (false = true ∨ (s.reg Od.pwrShedCmd 0) = 1) ∧ s.toBlock.live = true ∧ s.power = pwrRun ∧ s.gov.shed = false)
    ∧ (∃ (s : State), (Writable s.toBlock) ∧ (s.pins.shed = true ∨ 0 = 1) ∧ s.toBlock.live = true ∧ s.power = pwrRun ∧ s.gov.shed = false)
    ∧ (∃ (s : State), (Writable s.toBlock) ∧ (s.pins.shed = true ∨ 1 = 1) ∧ s.toBlock.live = true ∧ s.power = pwrRun ∧ s.gov.shed = false)
    ∧ (∃ (s : State), True ∧ ((true = false ∧ (s.reg Od.pwrShedCmd 0) ≠ 1) ∨ s.toBlock.live = false ∨ s.power ≠ pwrRun) ∧ s.gov.shed = false)
    ∧ (∃ (s : State), True ∧ ((false = false ∧ (s.reg Od.pwrShedCmd 0) ≠ 1) ∨ s.toBlock.live = false ∨ s.power ≠ pwrRun) ∧ s.gov.shed = false)
    ∧ (∃ (s : State), (Writable s.toBlock) ∧ ((s.pins.shed = false ∧ 0 ≠ 1) ∨ s.toBlock.live = false ∨ s.power ≠ pwrRun) ∧ s.gov.shed = false)
    ∧ (∃ (s : State), (Writable s.toBlock) ∧ ((s.pins.shed = false ∧ 1 ≠ 1) ∨ s.toBlock.live = false ∨ s.power ≠ pwrRun) ∧ s.gov.shed = false)
    ∧ (∃ (s : State), True ∧ ((true = false ∧ (s.reg Od.pwrShedCmd 0) ≠ 1) ∨ s.toBlock.live = false ∨ s.power ≠ pwrRun) ∧ s.gov.shed = true ∧ (∀ x ∈ s.ras.tests, x.draining = true ∨ s.dt < x.due) ∧ s.gov.ceils.length = 8 ∧ s.gov.clock.length = 8 ∧ s.gov.target.length = 8)
    ∧ (∃ (s : State), True ∧ ((false = false ∧ (s.reg Od.pwrShedCmd 0) ≠ 1) ∨ s.toBlock.live = false ∨ s.power ≠ pwrRun) ∧ s.gov.shed = true ∧ (∀ x ∈ s.ras.tests, x.draining = true ∨ s.dt < x.due) ∧ s.gov.ceils.length = 8 ∧ s.gov.clock.length = 8 ∧ s.gov.target.length = 8)
    ∧ (∃ (s : State), (Writable s.toBlock) ∧ ((s.pins.shed = false ∧ 0 ≠ 1) ∨ s.toBlock.live = false ∨ s.power ≠ pwrRun) ∧ s.gov.shed = true ∧ (∀ x ∈ s.ras.tests, x.draining = true ∨ s.dt < x.due) ∧ s.gov.ceils.length = 8 ∧ s.gov.clock.length = 8 ∧ s.gov.target.length = 8)
    ∧ (∃ (s : State), (Writable s.toBlock) ∧ ((s.pins.shed = false ∧ 1 ≠ 1) ∨ s.toBlock.live = false ∨ s.power ≠ pwrRun) ∧ s.gov.shed = true ∧ (∀ x ∈ s.ras.tests, x.draining = true ∨ s.dt < x.due) ∧ s.gov.ceils.length = 8 ∧ s.gov.clock.length = 8 ∧ s.gov.target.length = 8)
    ∧ (∃ (s : State), True ∧ ((false = false ∧ (s.reg Od.pwrShedCmd 0) ≠ 1) ∨ s.toBlock.live = false ∨ s.power ≠ pwrRun) ∧ s.gov.shed = true ∧ false = false ∧ (s.reg Od.pwrShedCmd 0) ≠ 1)
    ∧ (∃ (s : State), (Writable s.toBlock) ∧ ((s.pins.shed = false ∧ 0 ≠ 1) ∨ s.toBlock.live = false ∨ s.power ≠ pwrRun) ∧ s.gov.shed = true ∧ s.pins.shed = false ∧ 0 ≠ 1)
    ∧ (∃ (s : State) (v : Nat), Writable s.toBlock ∧ 1 < v)
    ∧ (∃ (s : State) (v : Nat), Writable s.toBlock ∧ (v = 0 ∨ (900 ≤ v ∧ v ≤ 2600)))
    ∧ (∃ (s : State) (v : Nat), Writable s.toBlock ∧ ¬(v = 0 ∨ (900 ≤ v ∧ v ≤ 2600)))
    ∧ (∃ (s : State), Writable s.toBlock)
    ∧ (∃ (s : State) (r : BitVec 128) (at_ : Nat) (w : Nat), at_ = bits r.toNat 127 64 ∧ w = bits r.toNat 63 48 ∧ Writable s.toBlock ∧ okWatts w = false)
    ∧ (∃ (s : State) (r : BitVec 128) (at_ : Nat) (w : Nat), at_ = bits r.toNat 127 64 ∧ w = bits r.toNat 63 48 ∧ Writable s.toBlock ∧ okWatts w = true ∧ s.dt + 24 * hour < at_)
    ∧ (∃ (s : State) (r : BitVec 128) (at_ : Nat) (w : Nat), at_ = bits r.toNat 127 64 ∧ w = bits r.toNat 63 48 ∧ Writable s.toBlock ∧ okWatts w = true ∧ at_ ≤ s.dt + 24 * hour ∧ 1022 < s.cal.events.length)
    ∧ (∃ (s : State) (r : BitVec 128) (at_ : Nat) (w : Nat), at_ = bits r.toNat 127 64 ∧ w = bits r.toNat 63 48 ∧ Writable s.toBlock ∧ okWatts w = true ∧ at_ < s.dt ∧ s.cal.events.length ≤ 1022)
    ∧ (∃ (s : State) (r : BitVec 128) (at_ : Nat) (w : Nat), at_ = bits r.toNat 127 64 ∧ w = bits r.toNat 63 48 ∧ Writable s.toBlock ∧ okWatts w = true ∧ s.dt + 2 * 10 ^ 6 ≤ at_ ∧ at_ ≤ s.dt + 24 * hour ∧ s.cal.events.length ≤ 1022)
    ∧ (∃ (s : State) (r : BitVec 128) (at_ : Nat) (w : Nat), at_ = bits r.toNat 127 64 ∧ w = bits r.toNat 63 48 ∧ Writable s.toBlock ∧ okWatts w = true ∧ s.dt ≤ at_ ∧ at_ < s.dt + 2 * 10 ^ 6 ∧ s.cal.events.length ≤ 1022) :=
  ⟨⟨Fix.shed true, by decide +kernel⟩,
   ⟨Fix.regs [(Od.pwrShedCmd, 0, 1)] (Fix.shed true), by decide +kernel⟩,
   ⟨Fix.shed true, by decide +kernel⟩,
   ⟨Fix.shed false, by decide +kernel⟩,
   ⟨Fix.full, by decide +kernel⟩,
   ⟨Fix.regs [(Od.pwrShedCmd, 0, 1)] Fix.full, by decide +kernel⟩,
   ⟨{Fix.full with pins := {Fix.full.pins with shed := true}}, by decide +kernel⟩,
   ⟨Fix.full, by decide +kernel⟩,
   ⟨Fix.tests [⟨7, false, 5, true, 0⟩] 3, by decide +kernel⟩,
   ⟨Fix.regs [(Od.pwrShedCmd, 0, 1)] Fix.full, by decide +kernel⟩,
   ⟨{Fix.full with pins := {Fix.full.pins with shed := true}}, by decide +kernel⟩,
   ⟨Fix.tests [⟨7, false, 5, true, 0⟩] 3, by decide +kernel⟩,
   ⟨Fix.regs [(Od.pwrState, 0, 2)] Fix.full, by decide +kernel⟩,
   ⟨Fix.full, by decide +kernel⟩,
   ⟨Fix.full, by decide +kernel⟩,
   ⟨Fix.regs [(Od.pwrState, 0, 2)] Fix.full, by decide +kernel⟩,
   ⟨Fix.regs [(Od.pwrState, 0, 2)] (Fix.shed true), by decide +kernel⟩,
   ⟨Fix.shed true, by decide +kernel⟩,
   ⟨Fix.regs [(Od.pwrShedCmd, 0, 1)] (Fix.shed false), by decide +kernel⟩,
   ⟨Fix.regs [(Od.pwrState, 0, 2)] (Fix.shed true), by decide +kernel⟩,
   ⟨Fix.shed true, by decide +kernel⟩,
   ⟨Fix.regs [(Od.pwrShedCmd, 0, 1)] (Fix.shed false), by decide +kernel⟩,
   ⟨Fix.full, 2, by decide +kernel⟩,
   ⟨Fix.full, 2600, by decide +kernel⟩,
   ⟨Fix.full, 2601, by decide +kernel⟩,
   ⟨Fix.cals [⟨2 * 10 ^ 9, 1, 1200, none, 0⟩], by decide +kernel⟩,
   ⟨Fix.full, BitVec.ofNat 128 ((2 * 10 ^ 9) * 2 ^ 64 + 899 * 2 ^ 48), _, _, rfl, rfl, by decide +kernel⟩,
   ⟨Fix.full, BitVec.ofNat 128 ((10 ^ 9 + 8 + 24 * hour) * 2 ^ 64 + 900 * 2 ^ 48), _, _, rfl, rfl, by decide +kernel⟩,
   ⟨Fix.cals (List.replicate 1023 ⟨2 * 10 ^ 9, 1, 1200, none, 0⟩), BitVec.ofNat 128 ((10 ^ 9 + 7 + 24 * hour) * 2 ^ 64 + 900 * 2 ^ 48), _, _, rfl, rfl, by decide +kernel⟩,
   ⟨Fix.full, BitVec.ofNat 128 ((10 ^ 9 + 6) * 2 ^ 64 + 2600 * 2 ^ 48), _, _, rfl, rfl, by decide +kernel⟩,
   ⟨Fix.full, BitVec.ofNat 128 ((10 ^ 9 + 2000007) * 2 ^ 64 + 900 * 2 ^ 48), _, _, rfl, rfl, by decide +kernel⟩,
   ⟨Fix.full, BitVec.ofNat 128 ((10 ^ 9 + 2000006) * 2 ^ 64 + 900 * 2 ^ 48), _, _, rfl, rfl, by decide +kernel⟩⟩

theorem witness_Attestation :
    (∃ (s : State) (q : Nat) (nonce : List Byte), q = s.reg Od.attIndex 0 ∧ Writable s.toBlock ∧ nonce.length = 32 ∧ s.wal.attExhausted = false ∧ s.reg Od.attTokens 0 ≠ 0 ∧ s.wal.records.length = 8 ∧ 2 ≤ s.wal.usable)
    ∧ (∃ (s : State) (st : Nat) (nonce : List Byte), Writable s.toBlock ∧ (if nonce.length ≠ 32 then st = stLength else if s.wal.attExhausted then st = stWriteRefused else s.reg Od.attTokens 0 = 0 ∧ st = stLimit))
    ∧ (∃ (s : State), s.sys.phase = .up)
    ∧ (∃ (s : State) (q : Nat), q = s.reg Od.attIndex 0 ∧ s.sys.phase = .up) :=
  ⟨⟨Fix.full, _, List.replicate 32 1, rfl, by decide +kernel⟩,
   ⟨Fix.full, stLength, [1], by decide +kernel⟩,
   ⟨Fix.full, by decide +kernel⟩,
   ⟨Fix.full, _, rfl, by decide +kernel⟩⟩

theorem witness_ProtectedWrites :
    (∃ (s : State) (r : List Byte) (key : List Byte) (sig : List Byte) (seq : Nat), Writable s.toBlock ∧ enrolFields r = some (key, seq, sig))
    ∧ (∃ (s : State) (w : PWrite), Writable s.toBlock ∧ w.value = [1])
    ∧ (∃ (s : State) (k : Nat) (w : PWrite) (kek : List Byte), kek = Config.hkdf (kemDecaps s.wal.seed (w.value.take 1568)) (s.oct Od.deviceId 0) (kekLabel ++ beBytes 1 k) 32 ∧ Writable s.toBlock ∧ k < 4)
    ∧ (∃ (s : State) (w : PWrite) (u : Nat), s.sys.phase = .up ∧ s.toBlock.walnutBusy = false ∧ u < 2 ^ 16 ∧ w.value = beBytes 2 u ∧ w.seq < 2 ^ 64 ∧ u ∈ s.ras.retired ∧ s.ras.observed.length < 32) :=
  ⟨⟨Fix.full, List.replicate 56 1 ++ beBytes 8 3 ++ beBytes 2 1 ++ [7], List.replicate 56 1, [7], 3, by decide +kernel⟩,
   ⟨Fix.full, Fix.pw [1], by decide +kernel⟩,
   ⟨Fix.full, 3, Fix.pw (List.replicate 1644 1), _, rfl, by decide +kernel⟩,
   ⟨{Fix.full with ras := {Fix.full.ras with retired := [unitCode 7 144]}}, Fix.pw (beBytes 2 (unitCode 7 144)), unitCode 7 144, by decide +kernel⟩⟩

theorem witness_Firmware :
    (∃ (s : State) (r : List Byte) (v : List Byte) (k : Nat) (off : Nat) (z : Nat), k = ofBE (r.take 1) ∧ off = ofBE (slice r 4 4) ∧ v = r.drop 8 ∧ z = 1 - (s.toBlock.kind k).active ∧ Writable s.toBlock ∧ 8 ≤ r.length ∧ v.length ≤ 1024 ∧ 1 ≤ k ∧ k ≤ 4 ∧ off + v.length ≤ 2048 + bodyMax ∧ (s.toBlock.kind k).trial = false)
    ∧ (∃ (s : State) (r : List Byte) (v : List Byte) (k : Nat) (off : Nat) (z : Nat), k = ofBE (r.take 1) ∧ off = ofBE (slice r 4 4) ∧ v = r.drop 8 ∧ z = 1 - (s.toBlock.kind k).active ∧ Writable s.toBlock ∧ 8 ≤ r.length ∧ v.length ≤ 1024 ∧ 1 ≤ k ∧ k ≤ 4 ∧ off + v.length ≤ 2048 + bodyMax ∧ (s.toBlock.kind k).trial = true)
    ∧ (∃ (s : State) (w : PWrite) (v : Nat) (k : Nat) (z : Nat), k = bits v 2 0 ∧ z = (if (s.toBlock.kind k).trial = true ∧ false = false then (s.toBlock.kind k).active else 1 - (s.toBlock.kind k).active) ∧ s.sys.phase = .up ∧ s.toBlock.walnutBusy = false ∧ w.value = [BitVec.ofNat 8 v] ∧ v < 256 ∧ bit v 7 = false ∧ 1 ≤ k ∧ k ≤ 4 ∧ s.wal.kinds.length = 4)
    ∧ (∃ (s : State) (w : PWrite) (v : Nat) (k : Nat) (z : Nat), k = bits v 2 0 ∧ z = (if (s.toBlock.kind k).trial = true ∧ true = false then (s.toBlock.kind k).active else 1 - (s.toBlock.kind k).active) ∧ s.sys.phase = .up ∧ s.toBlock.walnutBusy = false ∧ w.value = [BitVec.ofNat 8 v] ∧ v < 256 ∧ bit v 7 = true ∧ 1 ≤ k ∧ k ≤ 4 ∧ s.wal.kinds.length = 4)
    ∧ (∃ (s : State) (k : Nat) (z : Nat), s.sys.phase = .up ∧ (s.toBlock.kind k).pending = some z ∧ 1 ≤ k ∧ k ≤ 4 ∧ s.wal.kinds.length = 4 ∧ s.toBlock.mayActivate k = true)
    ∧ (∃ (s : State) (k : Nat) (z : Nat), s.sys.phase = .up ∧ (s.toBlock.kind k).pending = some z ∧ 1 ≤ k ∧ k ≤ 4 ∧ s.wal.kinds.length = 4 ∧ s.toBlock.mayActivate k = false)
    ∧ (∃ (s : State) (k : Nat) (z : Nat), s.sys.phase = .up ∧ (s.toBlock.kind k).pending = some z ∧ 1 ≤ k ∧ k ≤ 4 ∧ s.wal.kinds.length = 4 ∧ k = kConfig)
    ∧ (∃ (s : State) (w : PWrite) (k : Nat), s.sys.phase = .up ∧ s.toBlock.walnutBusy = false ∧ 1 ≤ k ∧ k ≤ 4 ∧ w.value = [BitVec.ofNat 8 k] ∧ (s.toBlock.kind k).trial = true ∧ s.wal.kinds.length = 4)
    ∧ (∃ (s : State) (k : Nat), s.sys.phase = .up ∧ (s.toBlock.kind k).switching = true ∧ k - 1 < s.wal.kinds.length)
    ∧ (∃ (s : State) (k : Nat), s.sys.phase = .up ∧ (s.toBlock.kind k).switching = true ∧ k - 1 < s.wal.kinds.length) :=
  ⟨⟨Fix.kinds FwKind.reset, beBytes 1 4 ++ [0, 0, 0] ++ beBytes 4 0 ++ [1, 2], _, _, _, _, rfl, rfl, rfl, rfl, by decide +kernel⟩,
   ⟨Fix.kinds {FwKind.reset with trial := true}, beBytes 1 4 ++ [0, 0, 0] ++ beBytes 4 0 ++ [1, 2], _, _, _, _, rfl, rfl, rfl, rfl, by decide +kernel⟩,
   ⟨Fix.full, Fix.pw [4], 4, _, _, rfl, rfl, by decide +kernel⟩,
   ⟨Fix.full, Fix.pw [132], 132, _, _, rfl, rfl, by decide +kernel⟩,
   ⟨{Fix.kinds {FwKind.reset with pending := some 1} with dt := 4 * hour}, 2, 1, by decide +kernel⟩,
   ⟨Fix.kinds {FwKind.reset with pending := some 1}, 4, 1, by decide +kernel⟩,
   ⟨Fix.kinds {FwKind.reset with pending := some 1}, 4, 1, by decide +kernel⟩,
   ⟨Fix.kinds {FwKind.reset with trial := true}, Fix.pw [4], 4, by decide +kernel⟩,
   ⟨Fix.kinds {FwKind.reset with switching := true}, 4, by decide +kernel⟩,
   ⟨Fix.kinds {FwKind.reset with switching := true, fails := 2}, 4, by decide +kernel⟩⟩

theorem witness_Requests :
    (∃ (s : State) (c : Client) (f : Frame) (r : Frame), Reached s.toBlock c ∧ s.toBlock.filterPasses c.addr = true ∧ f.short = false ∧ (frameHead f).len ≤ f.data.length ∧ (frameHead f).ver = 1 ∧ s.toBlock.overRate = false ∧ (frameHead f).request = 1 ∧ s.toBlock.kept c (frameHead f).reqId = some r)
    ∧ (∃ (s : State) (c : Client) (f : Frame) (r : Frame), Reached s.toBlock c ∧ s.toBlock.filterPasses c.addr = true ∧ f.short = false ∧ (frameHead f).len ≤ f.data.length ∧ (frameHead f).ver = 1 ∧ s.toBlock.overRate = false ∧ (frameHead f).request = 2 ∧ s.toBlock.kept c (frameHead f).reqId = some r)
    ∧ (∃ (s : State) (c : Client) (f : Frame) (r : Frame), Reached s.toBlock c ∧ s.toBlock.filterPasses c.addr = true ∧ f.short = false ∧ (frameHead f).len ≤ f.data.length ∧ (frameHead f).ver = 1 ∧ s.toBlock.overRate = false ∧ (frameHead f).request = 3 ∧ s.toBlock.kept c (frameHead f).reqId = some r)
    ∧ (∃ (s : State) (c : Client) (f : Frame) (r : Frame), Reached s.toBlock c ∧ s.toBlock.filterPasses c.addr = true ∧ f.short = false ∧ (frameHead f).len ≤ f.data.length ∧ (frameHead f).ver = 1 ∧ s.toBlock.overRate = false ∧ (frameHead f).request = 4 ∧ s.toBlock.kept c (frameHead f).reqId = some r)
    ∧ (∃ (s : State) (c : Client) (f : Frame) (r : Frame), Reached s.toBlock c ∧ s.toBlock.filterPasses c.addr = true ∧ f.short = false ∧ (frameHead f).len ≤ f.data.length ∧ (frameHead f).ver = 1 ∧ s.toBlock.overRate = false ∧ (frameHead f).request = 5 ∧ s.toBlock.kept c (frameHead f).reqId = some r)
    ∧ (∃ (s : State) (c : Client) (f : Frame) (r : Frame), Reached s.toBlock c ∧ s.toBlock.filterPasses c.addr = true ∧ f.short = false ∧ (frameHead f).len ≤ f.data.length ∧ (frameHead f).ver = 1 ∧ s.toBlock.overRate = false ∧ (frameHead f).request = 6 ∧ s.toBlock.kept c (frameHead f).reqId = some r)
    ∧ (∃ (s : State) (c : Client) (f : Frame), Reached s.toBlock c ∧ (f.short = true ∨ (frameHead f).request = 1) ∧ (s.toBlock.filterPasses c.addr = false ∨ f.short = true ∨ f.data.length < (frameHead f).len ∨ ((frameHead f).ver = 1 ∧ s.toBlock.overRate = true)))
    ∧ (∃ (s : State) (c : Client) (f : Frame), Reached s.toBlock c ∧ (f.short = true ∨ (frameHead f).request = 1) ∧ s.toBlock.filterPasses c.addr = true ∧ f.short = false ∧ (frameHead f).len ≤ f.data.length ∧ (frameHead f).ver ≠ 1)
    ∧ (∃ (s : State) (c : Client) (f : Frame) (x : OdEntry) (v : List Byte), v = (s.toBlock.countRequest.touch c).odValue c x (frameHead f).sub ∧ Requested s.toBlock c f 1 ∧ s.toBlock.items (frameHead f) = some [((frameHead f).sub, .entry x)] ∧ x.acc ≠ .wo ∧ (frameHead f).idx ≠ Od.eventLog ∧ (frameHead f).offset = 0 ∧ v.length ≤ dataMax)
    ∧ (∃ (s : State) (c : Client) (f : Frame), Requested s.toBlock c f 1 ∧ s.toBlock.items (frameHead f) = none)
    ∧ (∃ (s : State) (c : Client) (f : Frame) (h : OHead) (x : OdEntry) (v : List Byte) (st : Nat), h = frameHead f ∧ v = f.data.take h.len ∧ Requested s.toBlock c f 2 ∧ s.sys.phase = .up ∧ odItem h.idx h.sub = some (.entry x) ∧ h.count = 1 ∧ (if x.acc = .ro ∨ x.per = .factory then st = stWriteRefused else if x.acc = .rwp then st = stSigRequired else if fitsLength x v = false then st = stLength else fitsRange x v = false ∧ st = stRange))
    ∧ (∃ (s : State) (c : Client) (f : Frame) (h : OHead) (x : OdEntry) (v : List Byte), h = frameHead f ∧ v = f.data.take h.len ∧ Requested s.toBlock c f 2 ∧ s.sys.phase = .up ∧ s.service ≠ svcRetired ∧ odItem h.idx h.sub = some (.entry x) ∧ x.idx = h.idx ∧ h.count = 1 ∧ ¬(x.acc = .ro ∨ x.per = .factory) ∧ x.acc ≠ .rwp ∧ fitsLength x v = true ∧ fitsRange x v = true ∧ h.idx ∉ activeEntries ∧ s.toBlock.ownRefusal h.idx h.sub v = stOK)
    ∧ (∃ (s : State) (c : Client) (f : Frame) (h : OHead) (x : OdEntry) (w : PWrite), h = frameHead f ∧ pwriteOf (f.data.take h.len) = some w ∧ Requested s.toBlock c f 3 ∧ s.sys.phase = .up ∧ s.service ≠ svcRetired ∧ odItem h.idx h.sub = some (.entry x) ∧ x.idx = h.idx ∧ h.count = 1 ∧ x.acc = .rwp ∧ h.idx ∉ [Od.fwActivate, Od.fwConfirm, Od.ownerRelease, Od.emithKey, Od.rasUnretire] ∧ h.idx ∉ activeEntries ∧ fitsLength x w.value = true ∧ fitsRange x w.value = true ∧ s.toBlock.ownRefusal h.idx h.sub w.value = stOK) :=
  ⟨⟨Fix.knows {Fix.cst with replies := [(9, 10 ^ 9, Fix.req 1 5 0 [])]}, Fix.cli, Fix.req 1 Od.moduleService 0 [], Fix.req 1 5 0 [], by decide +kernel⟩,
   ⟨Fix.knows {Fix.cst with replies := [(9, 10 ^ 9, Fix.req 1 5 0 [])]}, Fix.cli, Fix.req 2 Od.plazaFeedTimeoutUs 4 (beBytes 4 500), Fix.req 1 5 0 [], by decide +kernel⟩,
   ⟨Fix.knows {Fix.cst with replies := [(9, 10 ^ 9, Fix.req 1 5 0 [])]}, Fix.cli, Fix.req 3 Od.deviceIndex 4 (beBytes 4 5), Fix.req 1 5 0 [], by decide +kernel⟩,
   ⟨Fix.knows {Fix.cst with replies := [(9, 10 ^ 9, Fix.req 1 5 0 [])]}, Fix.cli, Fix.req 4 Od.eventLog 8 (List.replicate 8 1), Fix.req 1 5 0 [], by decide +kernel⟩,
   ⟨Fix.knows {Fix.cst with replies := [(9, 10 ^ 9, Fix.req 1 5 0 [])]}, Fix.cli, Fix.req 4 Od.powerStream 4 (beBytes 2 10 ++ [32, 0]), Fix.req 1 5 0 [], by decide +kernel⟩,
   ⟨Fix.knows {Fix.cst with replies := [(9, 10 ^ 9, Fix.req 1 5 0 [])]}, Fix.cli, Fix.req 6 Od.eventLog 4 (beBytes 4 5), Fix.req 1 5 0 [], by decide +kernel⟩,
   ⟨Fix.octs [(Od.mgmtClientFilter, 0, [128] ++ beBytes 16 77)] Fix.full, Fix.cli, Fix.req 1 Od.moduleService 0 [], by decide +kernel⟩,
   ⟨Fix.knows Fix.cst, Fix.cli, ⟨BitVec.ofNat 192 (OHead.num ⟨2, 1, false, false, 0, 0, 1, 9, Od.moduleService, 0, 0, 0, 0⟩), [], false⟩, by decide +kernel⟩,
   ⟨Fix.knows Fix.cst, Fix.cli, Fix.req 1 Od.moduleService 0 [], ⟨Od.moduleService, 0, 0, .u8, .ro, .volatile, 0, 0, 255, 0⟩, _, rfl, by decide +kernel⟩,
   ⟨Fix.knows Fix.cst, Fix.cli, Fix.req 1 0x0001 0 [], by decide +kernel⟩,
   ⟨Fix.knows Fix.cst, Fix.cli, Fix.req 2 Od.plazaFeedTimeoutUs 4 (beBytes 4 99), _, ⟨Od.plazaFeedTimeoutUs, 0, 0, .u32, .rw, .warm, 10000, 100, 1000000, 0⟩, _, stRange, rfl, rfl, by decide +kernel⟩,
   ⟨Fix.knows Fix.cst, Fix.cli, Fix.req 2 Od.plazaFeedTimeoutUs 4 (beBytes 4 500), _, ⟨Od.plazaFeedTimeoutUs, 0, 0, .u32, .rw, .warm, 10000, 100, 1000000, 0⟩, _, rfl, rfl, by decide +kernel⟩,
   ⟨Fix.knows Fix.cst, Fix.cli, Fix.req 3 Od.deviceIndex 15 (beBytes 8 3 ++ beBytes 2 1 ++ [7] ++ beBytes 4 262143), _, ⟨Od.deviceIndex, 0, 0, .u32, .rwp, .saved, 0, 0, 262143, 0⟩, ⟨3, [7], beBytes 4 262143⟩, rfl, by decide +kernel⟩⟩

theorem witness_Subscriptions :
    (∃ (s : State) (c : Client) (f : Frame) (x : OdpClient) (v : List Byte), v = f.data.take (frameHead f).len ∧ Requested s.toBlock c f 4 ∧ s.sys.phase = .up ∧ s.toBlock.client? c = some x ∧ v.length = 8 ∧ ofBE (v.take 1) ≠ 0 ∧ x.events = none ∧ (s.odp.clients.filter (fun x => x.events.isSome)).length < subMax)
    ∧ (∃ (s : State) (c : Client) (f : Frame) (x : OdpClient) (v : List Byte), v = f.data.take (frameHead f).len ∧ Requested s.toBlock c f 4 ∧ s.sys.phase = .up ∧ s.toBlock.client? c = some x ∧ v.length = 8 ∧ ofBE (v.take 1) ≠ 0 ∧ x.events = none ∧ subMax ≤ (s.odp.clients.filter (fun x => x.events.isSome)).length)
    ∧ (∃ (s : State) (c : Client) (f : Frame) (x : OdpClient) (v : List Byte), v = f.data.take (frameHead f).len ∧ Requested s.toBlock c f 4 ∧ s.sys.phase = .up ∧ s.toBlock.client? c = some x ∧ v.length = 8 ∧ ofBE (v.take 1) = 0)
    ∧ (∃ (s : State) (c : Client) (f : Frame) (x : OdpClient) (v : List Byte), v = f.data.take (frameHead f).len ∧ Requested s.toBlock c f 5 ∧ s.sys.phase = .up ∧ isStream (frameHead f).idx = true ∧ s.toBlock.client? c = some x ∧ v.length = 4 ∧ 1 ≤ ofBE (v.take 2) ∧ ofBE (v.take 2) ≤ 1000 ∧ 1 ≤ ofBE (slice v 2 1) ∧ ofBE (slice v 2 1) ≤ 32 ∧ (∀ y ∈ x.streams, y.idx ≠ (frameHead f).idx) ∧ (s.odp.clients.flatMap (·.streams)).length < subMax)
    ∧ (∃ (s : State) (c : Client) (f : Frame) (x : OdpClient) (v : List Byte), v = f.data.take (frameHead f).len ∧ Requested s.toBlock c f 5 ∧ s.sys.phase = .up ∧ isStream (frameHead f).idx = true ∧ s.toBlock.client? c = some x ∧ v.length = 4 ∧ ofBE (v.take 2) = 0)
    ∧ (∃ (s : State) (c : Client) (f : Frame) (x : OdpClient) (v : List Byte), v = f.data.take (frameHead f).len ∧ Requested s.toBlock c f 5 ∧ s.sys.phase = .up ∧ isStream (frameHead f).idx = true ∧ s.toBlock.client? c = some x ∧ v.length = 4 ∧ ofBE (v.take 2) ≠ 0 ∧ (1000 < ofBE (v.take 2) ∨ ofBE (slice v 2 1) = 0 ∨ 32 < ofBE (slice v 2 1)))
    ∧ (∃ (s : State) (c : Client) (x : OdpClient) (e : EventSub), s.toBlock.pushes = true ∧ s.toBlock.client? c = some x ∧ x.events = some e ∧ e.mustReport s.toBlock.oldestSeq = false ∧ (dueEvents s.toBlock e).1 ≠ 0)
    ∧ (∃ (s : State) (c : Client) (x : OdpClient) (e : EventSub), s.toBlock.pushes = true ∧ s.toBlock.client? c = some x ∧ x.events = some e ∧ e.mustReport s.toBlock.oldestSeq = false ∧ (dueEvents s.toBlock e).1 = 0)
    ∧ (∃ (s : State) (c : Client) (x : OdpClient) (e : EventSub), s.toBlock.pushes = true ∧ s.toBlock.client? c = some x ∧ x.events = some e ∧ e.mustReport s.toBlock.oldestSeq = true ∧ e.newLoss s.toBlock.oldestSeq = true)
    ∧ (∃ (s : State) (c : Client) (x : OdpClient) (e : EventSub), s.toBlock.pushes = true ∧ s.toBlock.client? c = some x ∧ x.events = some e ∧ e.sent ≠ e.cursor ∧ { e with sent := e.cursor }.mustReport s.toBlock.oldestSeq = false ∧ (dueEvents s.toBlock { e with sent := e.cursor }).1 ≠ 0)
    ∧ (∃ (s : State) (c : Client) (f : Frame) (x : OdpClient) (e : EventSub) (n : Nat), n = ofBE (f.data.take (frameHead f).len) ∧ Requested s.toBlock c f 6 ∧ (f.data.take (frameHead f).len).length = 4 ∧ s.toBlock.client? c = some x ∧ x.events = some e)
    ∧ (∃ (s : State) (c : Client) (x : OdpClient), s.toBlock.serving = true ∧ s.toBlock.walnutBusy = false ∧ s.toBlock.client? c = some x ∧ (x.events ≠ none ∨ x.streams ≠ []))
    ∧ (∃ (s : State) (c : Client) (x : OdpClient) (z : _), s.toBlock.serving = true ∧ s.toBlock.client? c = some x ∧ x.snap = some z)
    ∧ (∃ (s : State) (c : Client) (x : OdpClient) (id : _) (z : _), s.toBlock.serving = true ∧ s.toBlock.client? c = some x ∧ x.replies.find? (fun r => r.1 == id) = some z) :=
  ⟨⟨Fix.knows Fix.cst, Fix.cli, Fix.req 4 Od.eventLog 8 (List.replicate 8 1), Fix.cst, _, rfl, by decide +kernel⟩,
   ⟨{Fix.knows Fix.cst with odp := {(Fix.knows Fix.cst).odp with clients := Fix.cst :: List.replicate 31 {Fix.cst with id := ⟨3, 4, 34, 0, 0, none⟩, events := some Fix.sub}}}, Fix.cli, Fix.req 4 Od.eventLog 8 (List.replicate 8 1), Fix.cst, _, rfl, by decide +kernel⟩,
   ⟨Fix.knows Fix.cst, Fix.cli, Fix.req 4 Od.eventLog 8 (List.replicate 8 0), Fix.cst, _, rfl, by decide +kernel⟩,
   ⟨Fix.knows Fix.cst, Fix.cli, Fix.req 4 Od.powerStream 4 (beBytes 2 10 ++ [32, 0]), Fix.cst, _, rfl, by decide +kernel⟩,
   ⟨Fix.knows Fix.cst, Fix.cli, Fix.req 4 Od.powerStream 4 [0, 0, 1, 0], Fix.cst, _, rfl, by decide +kernel⟩,
   ⟨Fix.knows Fix.cst, Fix.cli, Fix.req 4 Od.powerStream 4 (beBytes 2 1001 ++ [1, 0]), Fix.cst, _, rfl, by decide +kernel⟩,
   ⟨Fix.logs [Fix.ev 0] {Fix.cst with events := some Fix.sub}, Fix.cli, {Fix.cst with events := some Fix.sub}, Fix.sub, by decide +kernel⟩,
   ⟨Fix.logs [] {Fix.cst with events := some {Fix.sub with cursor := 9, sent := 9}}, Fix.cli, {Fix.cst with events := some {Fix.sub with cursor := 9, sent := 9}}, {Fix.sub with cursor := 9, sent := 9}, by decide +kernel⟩,
   ⟨Fix.logs [Fix.ev 5] {Fix.cst with events := some Fix.sub}, Fix.cli, {Fix.cst with events := some Fix.sub}, Fix.sub, by decide +kernel⟩,
   ⟨Fix.logs [Fix.ev 0] {Fix.cst with events := some {Fix.sub with sent := 1}}, Fix.cli, {Fix.cst with events := some {Fix.sub with sent := 1}}, {Fix.sub with sent := 1}, by decide +kernel⟩,
   ⟨Fix.logs [Fix.ev 0] {Fix.cst with events := some Fix.sub}, Fix.cli, Fix.req 6 Od.eventLog 4 (beBytes 4 1), {Fix.cst with events := some Fix.sub}, Fix.sub, _, rfl, by decide +kernel⟩,
   ⟨Fix.knows {Fix.cst with events := some Fix.sub}, Fix.cli, {Fix.cst with events := some Fix.sub}, by decide +kernel⟩,
   ⟨Fix.knows {Fix.cst with snap := some (5, 0, [1], 7)}, Fix.cli, {Fix.cst with snap := some (5, 0, [1], 7)}, (5, 0, [1], 7), by decide +kernel⟩,
   ⟨Fix.knows {Fix.cst with replies := [(9, 7, Fix.req 1 5 0 [])]}, Fix.cli, {Fix.cst with replies := [(9, 7, Fix.req 1 5 0 [])]}, 9, (9, 7, Fix.req 1 5 0 []), by decide +kernel⟩⟩

theorem witness_RetiredRefuses :
    (∃ (s : State), s.sys.phase = .up ∧ s.toBlock.walnutBusy = false ∧ s.service = svcRetired)
    ∧ (∃ (s : State), s.sys.phase = .up ∧ s.toBlock.walnutBusy = false ∧ s.service = svcRetired)
    ∧ (∃ (s : State), s.sys.phase = .up ∧ s.toBlock.walnutBusy = false ∧ s.service = svcRetired)
    ∧ (∃ (s : State), s.sys.phase = .up ∧ s.toBlock.walnutBusy = false ∧ s.service = svcRetired)
    ∧ (∃ (s : State), s.sys.phase = .up ∧ s.toBlock.walnutBusy = false ∧ s.service = svcRetired)
    ∧ (∃ (s : State), s.sys.phase = .up ∧ s.toBlock.walnutBusy = false ∧ s.service = svcRetired)
    ∧ (∃ (s : State), s.sys.phase = .up ∧ s.toBlock.walnutBusy = false ∧ s.service = svcRetired)
    ∧ (∃ (s : State), s.sys.phase = .up ∧ s.toBlock.walnutBusy = false ∧ s.service = svcRetired)
    ∧ (∃ (s : State), s.sys.phase = .up ∧ s.toBlock.walnutBusy = false ∧ s.service = svcRetired)
    ∧ (∃ (s : State), s.sys.phase = .up ∧ s.toBlock.walnutBusy = false ∧ s.service = svcRetired)
    ∧ (∃ (s : State), s.sys.phase = .up ∧ s.toBlock.walnutBusy = false ∧ s.service = svcRetired)
    ∧ (∃ (s : State), s.sys.phase = .up ∧ s.toBlock.walnutBusy = false ∧ s.service = svcRetired)
    ∧ (∃ (s : State), s.sys.phase = .up ∧ s.toBlock.walnutBusy = false ∧ s.service = svcRetired)
    ∧ (∃ (s : State), s.sys.phase = .up ∧ s.toBlock.walnutBusy = false ∧ s.service = svcRetired)
    ∧ (∃ (s : State), s.sys.phase = .up ∧ s.toBlock.walnutBusy = false ∧ s.service = svcRetired)
    ∧ (∃ (s : State), s.sys.phase = .up ∧ s.toBlock.walnutBusy = false ∧ s.service = svcRetired)
    ∧ (∃ (s : State), s.sys.phase = .up ∧ s.toBlock.walnutBusy = false ∧ s.service = svcRetired)
    ∧ (∃ (s : State), s.sys.phase = .up ∧ s.toBlock.walnutBusy = false ∧ s.service = svcRetired)
    ∧ (∃ (s : State), s.sys.phase = .up ∧ s.toBlock.walnutBusy = false ∧ s.service = svcRetired)
    ∧ (∃ (s : State), s.sys.phase = .up ∧ s.toBlock.walnutBusy = false ∧ s.service = svcRetired)
    ∧ (∃ (s : State), s.sys.phase = .up ∧ s.toBlock.walnutBusy = false ∧ s.service = svcRetired)
    ∧ (∃ (s : State), s.sys.phase = .up ∧ s.toBlock.walnutBusy = false ∧ s.service = svcRetired)
    ∧ (∃ (s : State), s.sys.phase = .up ∧ s.toBlock.walnutBusy = false ∧ s.service = svcRetired)
    ∧ (∃ (s : State), s.sys.phase = .up ∧ s.toBlock.walnutBusy = false ∧ s.service = svcRetired)
    ∧ (∃ (s : State), s.sys.phase = .up ∧ s.toBlock.walnutBusy = false ∧ s.service = svcRetired) :=
  ⟨⟨Fix.regs [(Od.moduleService, 0, 3), (Od.pwrState, 0, 4)] Fix.up, by decide +kernel⟩,
   ⟨Fix.regs [(Od.moduleService, 0, 3), (Od.pwrState, 0, 4)] Fix.up, by decide +kernel⟩,
   ⟨Fix.regs [(Od.moduleService, 0, 3), (Od.pwrState, 0, 4)] Fix.up, by decide +kernel⟩,
   ⟨Fix.regs [(Od.moduleService, 0, 3), (Od.pwrState, 0, 4)] Fix.up, by decide +kernel⟩,
   ⟨Fix.regs [(Od.moduleService, 0, 3), (Od.pwrState, 0, 4)] Fix.up, by decide +kernel⟩,
   ⟨Fix.regs [(Od.moduleService, 0, 3), (Od.pwrState, 0, 4)] Fix.up, by decide +kernel⟩,
   ⟨Fix.regs [(Od.moduleService, 0, 3), (Od.pwrState, 0, 4)] Fix.up, by decide +kernel⟩,
   ⟨Fix.regs [(Od.moduleService, 0, 3), (Od.pwrState, 0, 4)] Fix.up, by decide +kernel⟩,
   ⟨Fix.regs [(Od.moduleService, 0, 3), (Od.pwrState, 0, 4)] Fix.up, by decide +kernel⟩,
   ⟨Fix.regs [(Od.moduleService, 0, 3), (Od.pwrState, 0, 4)] Fix.up, by decide +kernel⟩,
   ⟨Fix.regs [(Od.moduleService, 0, 3), (Od.pwrState, 0, 4)] Fix.up, by decide +kernel⟩,
   ⟨Fix.regs [(Od.moduleService, 0, 3), (Od.pwrState, 0, 4)] Fix.up, by decide +kernel⟩,
   ⟨Fix.regs [(Od.moduleService, 0, 3), (Od.pwrState, 0, 4)] Fix.up, by decide +kernel⟩,
   ⟨Fix.regs [(Od.moduleService, 0, 3), (Od.pwrState, 0, 4)] Fix.up, by decide +kernel⟩,
   ⟨Fix.regs [(Od.moduleService, 0, 3), (Od.pwrState, 0, 4)] Fix.up, by decide +kernel⟩,
   ⟨Fix.regs [(Od.moduleService, 0, 3), (Od.pwrState, 0, 4)] Fix.up, by decide +kernel⟩,
   ⟨Fix.regs [(Od.moduleService, 0, 3), (Od.pwrState, 0, 4)] Fix.up, by decide +kernel⟩,
   ⟨Fix.regs [(Od.moduleService, 0, 3), (Od.pwrState, 0, 4)] Fix.up, by decide +kernel⟩,
   ⟨Fix.regs [(Od.moduleService, 0, 3), (Od.pwrState, 0, 4)] Fix.up, by decide +kernel⟩,
   ⟨Fix.regs [(Od.moduleService, 0, 3), (Od.pwrState, 0, 4)] Fix.up, by decide +kernel⟩,
   ⟨Fix.regs [(Od.moduleService, 0, 3), (Od.pwrState, 0, 4)] Fix.up, by decide +kernel⟩,
   ⟨Fix.regs [(Od.moduleService, 0, 3), (Od.pwrState, 0, 4)] Fix.up, by decide +kernel⟩,
   ⟨Fix.regs [(Od.moduleService, 0, 3), (Od.pwrState, 0, 4)] Fix.up, by decide +kernel⟩,
   ⟨Fix.regs [(Od.moduleService, 0, 3), (Od.pwrState, 0, 4)] Fix.up, by decide +kernel⟩,
   ⟨Fix.regs [(Od.moduleService, 0, 3), (Od.pwrState, 0, 4)] Fix.up, by decide +kernel⟩⟩

end Sys2Proof
end

section
/-! PROOFS. Walnut's images: what the operations behind R494 to R497 write, and what they leave as it was. -/

namespace Sys2Proof.Machine

/-- An arm of exec that runs `f`, where `f` takes the block to `c`. -/
theorem goes_run_eq {s : State} {f : Block → Block} {c : Block} {P : State → Prop} (h : f s.toBlock = c)
    (hp : P { s with toBlock := settle c }) : Goes (.next (s.run f)) P :=
  ⟨_, rfl, by rw [State.run, h]; exact hp⟩

theorem lastEvent_raise (b : Block) (code ctx : Nat) (arg : List Byte) : LastEvent (b.raise code ctx arg) code ctx arg :=
  ⟨_, b.raise_last code ctx arg, rfl, rfl, (b.raise_dt code ctx arg).symm, rfl⟩

/-- The newest record stays so while neither the log nor DT moves. -/
theorem lastEvent_of_log {b c : Block} {code ctx : Nat} {arg : List Byte} (hl : c.log = b.log) (hd : c.dt = b.dt)
    (h : LastEvent b code ctx arg) : LastEvent c code ctx arg := by
  unfold LastEvent at *; rwa [hl, hd]

/-! ### Entries of different indices -/

theorem reg_setReg_of_idx_ne (b : Block) {i j : Nat} (k m v : Nat) (h : i ≠ j) (hi : i < 65536) (hj : j < 65536) :
    (b.setReg j m v).reg i k = b.reg i k := b.reg_setReg_ne v (odKey_ne h hi hj k m)

theorem reg_raise_of_idx_ne (b : Block) (c x : Nat) (a : List Byte) {i : Nat} (k : Nat) (h : i ≠ Od.eventNextSeq) (hi : i < 65536) :
    (b.raise c x a).reg i k = b.reg i k := b.reg_raise_ne c x a (odKey_ne h hi (by decide) k 0)

/-! ### Image kinds and slots -/

@[simp] theorem Block.setKind_reg (b : Block) (k : Nat) (f : FwKind → FwKind) (i n : Nat) : (b.setKind k f).reg i n = b.reg i n := rfl

theorem Block.kind_of_wal {b c : Block} (h : c.wal = b.wal) (k : Nat) : c.kind k = b.kind k := by unfold Block.kind; rw [h]
theorem Block.image_of_wal {b c : Block} (h : c.wal = b.wal) (k z : Nat) : c.image k z = b.image k z := by unfold Block.image; rw [h]
theorem Block.runSlot_of_wal {b c : Block} (h : c.wal = b.wal) (k z : Nat) (x : FwKind) : c.runSlot k z x = b.runSlot k z x := by
  unfold Block.runSlot; rw [Block.image_of_wal h]

theorem Block.kind_setKind_self {b : Block} {k : Nat} (h : k - 1 < b.wal.kinds.length) (f : FwKind → FwKind) :
    (b.setKind k f).kind k = f (b.kind k) := by
  simp [Block.kind, Block.setKind, nth, List.getD_eq_getElem?_getD, h]

theorem Block.kind_setKind_ne (b : Block) {j k : Nat} (h : j - 1 ≠ k - 1) (f : FwKind → FwKind) : (b.setKind k f).kind j = b.kind j := by
  simp [Block.kind, Block.setKind, nth, List.getD_eq_getElem?_getD, h.symm]

theorem Block.image_setImage_self (b : Block) (k z : Nat) (v : List Byte) : (b.setImage k z v).image k z = v := sget_sset_self ..

theorem Block.image_setImage_ne (b : Block) {k z j y : Nat} (v : List Byte) (h : 2 * j + y ≠ 2 * k + z) :
    (b.setImage k z v).image j y = b.image j y := sget_sset_ne _ _ _ _ h

/-- Data written at offset 0 replaces what the slot held. -/
theorem stageBytes_zero (old v : List Byte) : stageBytes old 0 v = v := by simp [stageBytes]

/-- Data written within what the slot holds, or right behind it, leaves the bytes around it. -/
theorem stageBytes_within {old v : List Byte} {off : Nat} (h0 : 0 < off) (h : off ≤ old.length) :
    stageBytes old off v = old.take off ++ v ++ old.drop (off + v.length) := by
  simp [stageBytes, Nat.ne_of_gt h0, Nat.sub_eq_zero_of_le h]

/-- Whether an image passes does not depend on OWNER_SEQ (R478). -/
theorem Block.passes_setReg_ownerSeq (b : Block) (n k z : Nat) : (b.setReg Od.ownerSeq 0 n).passes k z = b.passes k z := by
  have image : (b.setReg Od.ownerSeq 0 n).image k z = b.image k z := rfl
  unfold Block.passes
  rw [image, reg_setReg_of_idx_ne b 0 0 n (by decide) (by decide) (by decide), reg_setReg_of_idx_ne b k 0 n (by decide) (by decide) (by decide),
    Block.oct_setReg]

/-! ### Writes that Retired admits, and protected writes -/

/-- Walnut serves outside recovery and none of its images switches (R495, R502). -/
def Block.Answers (b : Block) : Prop := b.sys.phase = .up ∧ b.walnutBusy = false

/-- A write that Retired does not refuse reaches its entry whatever the service (R538). -/
theorem Block.onWrite_retiredWritable {b : Block} (h : b.Answers) {idx : Nat} (hi : retiredWritable idx = true) (r : Bool) (f : Block → Block) :
    b.onWrite idx r f = f b := by
  obtain ⟨up, idle⟩ := h
  unfold Block.onWrite Block.serving
  rw [up, idle, hi]
  simp

/-- A protected write of such an entry: OWNER_SEQ first, then the value, or the refusal of R489. -/
theorem Block.protect_retiredWritable {b : Block} (h : b.Answers) {idx : Nat} (hi : retiredWritable idx = true) (sub op : Nat) (w : PWrite)
    (f : Block → Block) :
    b.protect idx sub op w f = if b.signed idx sub op w then f (b.setReg Od.ownerSeq 0 w.seq) else b.refuseProtected stSigInvalid :=
  Block.onWrite_retiredWritable h hi _ _

/-- What the refusal of a protected write leaves: everything but its answer, the log, the count of refusals and the second of its last event. -/
theorem Block.refuseProtected_frame (b : Block) (st : Nat) :
    (b.refuseProtected st).odp.status = st ∧ (b.refuseProtected st).wal.kinds = b.wal.kinds ∧ (b.refuseProtected st).wal.flash = b.wal.flash
    ∧ (b.refuseProtected st).mem = b.mem ∧ (b.refuseProtected st).disp = b.disp
    ∧ RegsKept [odKey Od.protWriteRefused 0, odKey Od.eventNextSeq 0] b (b.refuseProtected st) := by
  have count : RegsKept [odKey Od.protWriteRefused 0, odKey Od.eventNextSeq 0] b (b.bump Od.protWriteRefused 0 1) := RegsKept.setReg _ _ _ _ (by simp)
  unfold Block.refuseProtected
  dsimp only
  split
  · exact ⟨rfl, rfl, rfl, rfl, rfl, count⟩
  · simp only [Block.answer_wal, Block.answer_mem, Block.answer_disp, Block.raise_wal, Block.raise_mem, Block.raise_disp]
    exact ⟨rfl, rfl, rfl, rfl, rfl, count.trans ((RegsKept.of_od rfl).trans (RegsKept.raise _ _ _ _ (by simp)))⟩

theorem ofBE_singleton {v : Nat} (h : v < 256) : ofBE [BitVec.ofNat 8 v] = v := by
  simp [ofBE, ofLE, Nat.mod_eq_of_lt h]

/-! ### FW_STAGE (R494) -/

section Stage
variable {b : Block} {r : List Byte} {k off : Nat} (hw : Writable b) (hk : k = ofBE (r.take 1)) (ho : off = ofBE (slice r 4 4))
  (hlen : 8 ≤ r.length) (hdata : (r.drop 8).length ≤ 1024) (k1 : 1 ≤ k) (k4 : k ≤ 4) (hend : off + (r.drop 8).length ≤ 2048 + bodyMax)
include hw hk ho hlen hdata k1 k4 hend

/-- A well-formed FW_STAGE is refused on trial, and else writes the inactive slot. -/
theorem xStage_eq : xStage r b = if (b.kind k).trial then b.answer stWriteRefused
    else (b.setImage k (1 - (b.kind k).active) (stageBytes (b.image k (1 - (b.kind k).active)) off (r.drop 8))).answer stOK := by
  have hl : ¬ (r.length < 8 ∨ (r.drop 8).length > 1024) := by omega
  have hr : ¬ (k = 0 ∨ k > 4 ∨ (b.sys.phase = .recovery ∧ k ≠ kWalnut) ∨ off + (r.drop 8).length > 2048 + bodyMax) := by
    rw [hw.1]; simp only [reduceCtorEq, false_and, false_or]; omega
  unfold xStage
  rw [Block.onWrite_open hw]
  dsimp only
  rw [← hk, ← ho, if_neg hl, if_neg hr]

end Stage

/-! ### FW_ACTIVATE (R495) -/

/-- An activation of a kind that exists: pending where its slot passes, refused with event 0x4702 where not. -/
theorem Block.activate_eq {b : Block} {v k z : Nat} (up : b.sys.phase = .up) (hk : k = bits v 2 0) (k1 : 1 ≤ k) (k4 : k ≤ 4)
    (hz : z = if (b.kind k).trial = true ∧ bit v 7 = false then (b.kind k).active else 1 - (b.kind k).active) :
    b.activate v = if b.passes k z then (b.setKind k (fun y => { y with pending := some z })).answer stOK
      else (b.raise 0x4702 noCtx []).answer stWriteRefused := by
  have hr : (k == 0 || decide (k > 4) || (b.sys.phase == .recovery && k != kWalnut)) = false := by
    rw [up]; simp; omega
  have hz' : (if (b.kind k).trial && !bit v 7 then (b.kind k).active else 1 - (b.kind k).active) = z := by rw [hz]; simp
  unfold Block.activate
  dsimp only
  rw [← hk, hr, hz']
  cases b.passes k z <;> rfl

/-- A protected write to FW_ACTIVATE: the activation where the owner signed it, else the refusal of R489. -/
theorem xActivate_eq {b : Block} {w : PWrite} {v k z : Nat} (h : b.Answers) (hv : v < 256) (hw : w.value = [BitVec.ofNat 8 v])
    (hk : k = bits v 2 0) (k1 : 1 ≤ k) (k4 : k ≤ 4)
    (hz : z = if (b.kind k).trial = true ∧ bit v 7 = false then (b.kind k).active else 1 - (b.kind k).active) :
    xActivate w b = if b.signed Od.fwActivate 0 0 w then
        (if b.passes k z then ((b.setReg Od.ownerSeq 0 w.seq).setKind k (fun y => { y with pending := some z })).answer stOK
        else ((b.setReg Od.ownerSeq 0 w.seq).raise 0x4702 noCtx []).answer stWriteRefused)
      else b.refuseProtected stSigInvalid := by
  have signed : (b.setReg Od.ownerSeq 0 w.seq).activate v = _ := Block.activate_eq h.1 hk k1 k4 hz
  rw [Block.passes_setReg_ownerSeq] at signed
  rw [← signed]
  unfold xActivate
  dsimp only
  rw [hw, ofBE_singleton hv, h.1, Block.protect_retiredWritable h (by decide)]
  rfl

/-! ### FW_SWITCH (R495, R496) -/

/-- `c` differs from `b` in transmit counters and the events of their reservation only (R319). -/
structure TxcReserved (b c : Block) : Prop where
  eq : c = { b with od := c.od, log := c.log, fatal := c.fatal, emith := { b.emith with txc := c.emith.txc } }
  regs : RegsKept [odKey Od.eventNextSeq 0] b c

theorem TxcReserved.refl (b : Block) : TxcReserved b b := ⟨rfl, RegsKept.refl _ b⟩

theorem TxcReserved.trans {a b c : Block} (h : TxcReserved a b) (k : TxcReserved b c) : TxcReserved a c :=
  ⟨by rw [k.eq, h.eq], h.regs.trans k.regs⟩

theorem TxcReserved.wal {b c : Block} (h : TxcReserved b c) : c.wal = b.wal := by rw [h.eq]
theorem TxcReserved.dt {b c : Block} (h : TxcReserved b c) : c.dt = b.dt := by rw [h.eq]
theorem TxcReserved.mem {b c : Block} (h : TxcReserved b c) : c.mem = b.mem := by rw [h.eq]
theorem TxcReserved.slow {b c : Block} (h : TxcReserved b c) : c.slow = b.slow := by rw [h.eq]
theorem TxcReserved.disp {b c : Block} (h : TxcReserved b c) : c.disp = b.disp := by rw [h.eq]
theorem TxcReserved.tx {b c : Block} (h : TxcReserved b c) : c.emith.tx = b.emith.tx := by rw [h.eq]
theorem TxcReserved.sessions {b c : Block} (h : TxcReserved b c) : c.emith.sessions = b.emith.sessions := by rw [h.eq]

theorem TxcReserved.reserveTxc (b : Block) (n : Nat) : TxcReserved b (b.reserveTxc n) := by
  unfold Block.reserveTxc
  dsimp only
  split
  · refine ⟨?_, RegsKept.raise _ _ _ _ (by simp)⟩
    conv_lhs => rw [Block.raise_eq]
    rw [Block.raise_emith]
    rfl
  · exact ⟨rfl, RegsKept.of_od rfl⟩

theorem TxcReserved.foldl (b : Block) (l : List Nat) :
    TxcReserved b (l.foldl (fun b n => if (b.trafficKey n).isEmpty then b else b.reserveTxc n) b) := by
  refine foldl_has (TxcReserved b) (fun c n h => ?_) l (TxcReserved.refl b)
  split
  · exact h
  · exact h.trans (TxcReserved.reserveTxc c n)

/-- How an image stands right after its switch: active and on trial from DT `t` on, its start still to come. -/
def FwKind.switched (x : FwKind) (z t : Nat) : FwKind :=
  { x with active := z, trial := true, pending := none, switching := true, since := t, fails := 0 }

section Switch
variable {b : Block} {k z : Nat} (hp : (b.kind k).pending = some z)
include hp

theorem xSwitch_waits (hm : b.mayActivate k = false) : xSwitch k b = b := by
  unfold xSwitch; rw [hp]; simp [hm]

theorem xSwitch_rejects (up : b.sys.phase = .up) (hm : b.mayActivate k = true) (hz : b.passes k z = false) :
    xSwitch k b = (b.setKind k (fun y => { y with pending := none })).raise 0x4702 noCtx [] := by
  unfold xSwitch; rw [hp]; simp [up, hm, hz]

theorem xSwitch_starts (up : b.sys.phase = .up) (hm : b.mayActivate k = true) (hz : b.passes k z = true) :
    ∃ c, TxcReserved b c ∧ xSwitch k b = c.setKind k (fun x => c.runSlot k z (x.switched z c.dt)) := by
  unfold xSwitch
  rw [hp]
  simp only [up, hm, hz, bne_self_eq_false, Bool.not_true, Bool.or_false, Bool.false_eq_true, if_false]
  refine ⟨_, ?_, rfl⟩
  split
  · exact TxcReserved.foldl b _
  · exact TxcReserved.refl b

end Switch

/-- A CONFIG image waits for a boot (R547). -/
theorem Block.mayActivate_config (b : Block) : b.mayActivate kConfig = false := rfl

/-! ### FW_CONFIRM (R497) -/

/-- The floors rise to the SVN and the key of image `i` of kind `k`. -/
def Block.raiseFloors (b : Block) (k : Nat) (i : List Byte) : Block :=
  let c := b.setReg Od.fwSvnFloor k (max (b.reg Od.fwSvnFloor k) (imgSvn i))
  c.setReg Od.fwKeyFloor 0 (max (c.reg Od.fwKeyFloor 0) (imgKey i))

@[simp] theorem Block.raiseFloors_wal (b : Block) (k : Nat) (i : List Byte) : (b.raiseFloors k i).wal = b.wal := rfl

theorem Block.raiseFloors_svnFloor (b : Block) (k : Nat) (i : List Byte) :
    (b.raiseFloors k i).reg Od.fwSvnFloor k = wrap (odWidth Od.fwSvnFloor k) (max (b.reg Od.fwSvnFloor k) (imgSvn i)) := by
  unfold Block.raiseFloors
  rw [reg_setReg_of_idx_ne _ k 0 _ (by decide) (by decide) (by decide), Block.reg_setReg_self]

theorem Block.raiseFloors_keyFloor (b : Block) (k : Nat) (i : List Byte) :
    (b.raiseFloors k i).reg Od.fwKeyFloor 0 = wrap (odWidth Od.fwKeyFloor 0) (max (b.reg Od.fwKeyFloor 0) (imgKey i)) := by
  unfold Block.raiseFloors
  rw [Block.reg_setReg_self, reg_setReg_of_idx_ne _ 0 k _ (by decide) (by decide) (by decide)]

/-- What a signed confirmation does: OWNER_SEQ, the end of the trial, the floors, the event. -/
def Block.confirmed (b : Block) (seq k : Nat) : Block :=
  ((((b.setReg Od.ownerSeq 0 seq).setKind k (fun y => { y with trial := false, fails := 0 })).raiseFloors k
    (b.image k (b.kind k).active)).raise 0x0704 noCtx []).answer stOK

theorem xConfirm_eq {b : Block} {w : PWrite} {k : Nat} (h : b.Answers) (k1 : 1 ≤ k) (k4 : k ≤ 4) (hw : w.value = [BitVec.ofNat 8 k])
    (ht : (b.kind k).trial = true) :
    xConfirm w b = if b.signed Od.fwConfirm 0 0 w then b.confirmed w.seq k else b.refuseProtected stSigInvalid := by
  have hr : ¬ (k = 0 ∨ k > 4) := by omega
  have ht : ((b.setReg Od.ownerSeq 0 w.seq).kind k).trial = true := ht
  unfold xConfirm
  rw [Block.protect_retiredWritable h (by decide), hw, ofBE_singleton (by omega)]
  simp only [List.length_singleton, bne_self_eq_false, Bool.false_eq_true, if_false, hr, ht, Bool.not_true]
  rfl

theorem Block.confirmed_kind {b : Block} {k : Nat} (h : k - 1 < b.wal.kinds.length) (seq : Nat) :
    (b.confirmed seq k).kind k = { b.kind k with trial := false, fails := 0 } := by
  unfold Block.confirmed
  rw [Block.kind_of_wal (Block.answer_wal ..), Block.kind_of_wal (Block.raise_wal ..), Block.kind_of_wal (Block.raiseFloors_wal ..),
    Block.kind_setKind_self (by exact h)]
  rfl

theorem Block.confirmed_lastEvent (b : Block) (seq k : Nat) : LastEvent (b.confirmed seq k) 0x0704 noCtx [] :=
  lastEvent_of_log (Block.answer_log ..) (Block.answer_dt ..) (lastEvent_raise ..)

theorem Block.confirmed_svnFloor (b : Block) (seq k : Nat) : (b.confirmed seq k).reg Od.fwSvnFloor k
    = wrap (odWidth Od.fwSvnFloor k) (max (b.reg Od.fwSvnFloor k) (imgSvn (b.image k (b.kind k).active))) := by
  unfold Block.confirmed
  rw [Block.reg_answer, reg_raise_of_idx_ne _ _ _ _ _ (by decide) (by decide), Block.raiseFloors_svnFloor, Block.setKind_reg,
    reg_setReg_of_idx_ne _ k 0 _ (by decide) (by decide) (by decide)]

theorem Block.confirmed_keyFloor (b : Block) (seq k : Nat) : (b.confirmed seq k).reg Od.fwKeyFloor 0
    = wrap (odWidth Od.fwKeyFloor 0) (max (b.reg Od.fwKeyFloor 0) (imgKey (b.image k (b.kind k).active))) := by
  unfold Block.confirmed
  rw [Block.reg_answer, reg_raise_of_idx_ne _ _ _ _ _ (by decide) (by decide), Block.raiseFloors_keyFloor, Block.setKind_reg,
    reg_setReg_of_idx_ne _ 0 0 _ (by decide) (by decide) (by decide)]

/-! ### FW_ACTIVATED (R495, R497) -/

/-- `c` differs from `b` in what the clients of ODP have been sent and hold only. -/
def Delivered (b c : Block) : Prop := c = { b with odp := { b.odp with clients := c.odp.clients, tx := c.odp.tx } }

theorem Delivered.refl (b : Block) : Delivered b b := rfl
theorem Delivered.trans {a b c : Block} (h : Delivered a b) (k : Delivered b c) : Delivered a c := by
  unfold Delivered at *; rw [k, h]
theorem Delivered.log {b c : Block} (h : Delivered b c) : c.log = b.log := by rw [h]
theorem Delivered.dt {b c : Block} (h : Delivered b c) : c.dt = b.dt := by rw [h]
theorem Delivered.od {b c : Block} (h : Delivered b c) : c.od = b.od := by rw [h]
theorem Delivered.mem {b c : Block} (h : Delivered b c) : c.mem = b.mem := by rw [h]
theorem Delivered.disp {b c : Block} (h : Delivered b c) : c.disp = b.disp := by rw [h]
theorem Delivered.wal {b c : Block} (h : Delivered b c) : c.wal = b.wal := by rw [h]
theorem Delivered.held {b c : Block} (h : Delivered b c) : c.odp.held = b.odp.held := by rw [h]

theorem Delivered.publish (b : Block) (idx t : Nat) (record : List Byte) : Delivered b (b.publish idx t record) := by
  unfold Block.publish
  refine foldl_has (Delivered b) (fun c x h => ?_) _ (Delivered.refl b)
  split
  · exact h
  · dsimp only
    split
    · exact h.trans rfl
    · exact h.trans rfl

/-- Delivering the held records leaves none held, and touches nothing outside ODP. -/
theorem Block.flushHeld_delivered (b : Block) : Delivered { b with odp := { b.odp with held := [] } } b.flushHeld :=
  foldl_has (Delivered _) (fun c _ h => h.trans (Delivered.publish c _ _ _)) _ (Delivered.refl _)

/-- The block with the records held through a switch delivered, where the switch was of WALNUT and is over (R495). -/
def Block.switchOver (b : Block) (k : Nat) : Block := if k = kWalnut ∧ !b.walnutBusy then b.flushHeld else b

theorem Block.switchOver_eq (b : Block) (k : Nat) : b.switchOver k = { b with odp := (b.switchOver k).odp } := by
  unfold Block.switchOver
  split
  · have h := b.flushHeld_delivered
    unfold Delivered at h
    rw [h]
  · rfl

theorem Block.switchOver_held {b : Block} (h : b.walnutBusy = false) : (b.switchOver kWalnut).odp.held = [] := by
  unfold Block.switchOver
  rw [h, if_pos (by simp)]
  exact b.flushHeld_delivered.held

@[simp] theorem Block.switchOver_od (b : Block) (k : Nat) : (b.switchOver k).od = b.od := by rw [b.switchOver_eq k]
@[simp] theorem Block.switchOver_log (b : Block) (k : Nat) : (b.switchOver k).log = b.log := by rw [b.switchOver_eq k]
@[simp] theorem Block.switchOver_dt (b : Block) (k : Nat) : (b.switchOver k).dt = b.dt := by rw [b.switchOver_eq k]
@[simp] theorem Block.switchOver_mem (b : Block) (k : Nat) : (b.switchOver k).mem = b.mem := by rw [b.switchOver_eq k]
@[simp] theorem Block.switchOver_disp (b : Block) (k : Nat) : (b.switchOver k).disp = b.disp := by rw [b.switchOver_eq k]
@[simp] theorem Block.switchOver_wal (b : Block) (k : Nat) : (b.switchOver k).wal = b.wal := by rw [b.switchOver_eq k]

/-- A start that succeeds: the image runs from the interruption bound on. -/
def Block.startDone (b : Block) (k : Nat) : Block :=
  ((b.reach ((b.kind k).since + switchNs k)).setKind k (fun y => { y with switching := false, fails := 0 })).raise 0x0700 noCtx []

/-- By when an image that was switched to has started or failed to (R495, R497). -/
def startBound (k : Nat) : Nat := if k = kWalnut then 10 ^ 9 else switchNs k

section Activated
variable {b : Block} {k : Nat} (hs : (b.kind k).switching = true)
include hs

theorem xActivated_started (up : b.sys.phase = .up) : xActivated k true b = (b.startDone k).switchOver k := by
  unfold xActivated; simp only [up, hs]; rfl

theorem xActivated_failed (up : b.sys.phase = .up) : xActivated k false b = (b.startFailed k).switchOver k := by
  unfold xActivated; simp only [up, hs]; rfl

end Activated

theorem Block.startFailed_again {b : Block} {k : Nat} (h : (b.kind k).fails < 2) :
    b.startFailed k = (b.reach ((b.kind k).since + startBound k)).setKind k
      (fun y => { y with fails := y.fails + 1, since := max b.dt ((b.kind k).since + startBound k) }) := by
  unfold Block.startFailed
  dsimp only
  rw [if_pos (by omega)]
  rfl

/-- The third failure in a row reverts to the other slot (R497). -/
theorem Block.startFailed_reverts {b : Block} {k : Nat} (h : 2 ≤ (b.kind k).fails) :
    b.startFailed k = ((b.reach ((b.kind k).since + startBound k)).setKind k
      (fun y => b.runSlot k (1 - y.active) { y with active := 1 - y.active, trial := false, fails := 0, switching := false })).raise 0x4701 noCtx [] := by
  unfold Block.startFailed
  dsimp only
  rw [if_neg (by omega)]
  rfl

theorem Block.startDone_kind {b : Block} {k : Nat} (h : k - 1 < b.wal.kinds.length) :
    (b.startDone k).kind k = { b.kind k with switching := false, fails := 0 } := by
  unfold Block.startDone
  rw [Block.kind_of_wal (Block.raise_wal ..), Block.kind_setKind_self (by exact h)]
  rfl

/-- What a successful start leaves: the entries but EVENT_NEXT_SEQ, memory and the Dispatcher. -/
theorem Block.startDone_frame (b : Block) (k : Nat) :
    (b.startDone k).dt = max b.dt ((b.kind k).since + switchNs k) ∧ (b.startDone k).mem = b.mem ∧ (b.startDone k).disp = b.disp
    ∧ RegsKept [odKey Od.eventNextSeq 0] b (b.startDone k) := by
  unfold Block.startDone
  refine ⟨Block.raise_dt .., Block.raise_mem .., Block.raise_disp .., (RegsKept.of_od ?_).trans (RegsKept.raise _ _ _ _ (by simp))⟩
  rfl

/-- What a failed start leaves, whether it is tried again or reverts. -/
theorem Block.startFailed_frame (b : Block) (k : Nat) :
    (b.startFailed k).dt = max b.dt ((b.kind k).since + startBound k) ∧ (b.startFailed k).mem = b.mem ∧ (b.startFailed k).disp = b.disp
    ∧ RegsKept [odKey Od.eventNextSeq 0] b (b.startFailed k) := by
  by_cases h : (b.kind k).fails < 2
  · rw [Block.startFailed_again h]
    exact ⟨rfl, rfl, rfl, RegsKept.of_od rfl⟩
  · rw [Block.startFailed_reverts (by omega)]
    refine ⟨Block.raise_dt .., Block.raise_mem .., Block.raise_disp .., (RegsKept.of_od ?_).trans (RegsKept.raise _ _ _ _ (by simp))⟩
    rfl

theorem Block.startFailed_kind_again {b : Block} {k : Nat} (h : (b.kind k).fails < 2) (hk : k - 1 < b.wal.kinds.length) :
    (b.startFailed k).kind k = { b.kind k with fails := (b.kind k).fails + 1, since := (b.startFailed k).dt } := by
  rw [(b.startFailed_frame k).1, Block.startFailed_again h, Block.kind_setKind_self (by exact hk)]
  rfl

theorem Block.startFailed_kind_reverts {b : Block} {k : Nat} (h : 2 ≤ (b.kind k).fails) (hk : k - 1 < b.wal.kinds.length) :
    (b.startFailed k).kind k = b.runSlot k (1 - (b.kind k).active)
      { b.kind k with active := 1 - (b.kind k).active, trial := false, fails := 0, switching := false } := by
  rw [Block.startFailed_reverts h, Block.kind_of_wal (Block.raise_wal ..), Block.kind_setKind_self (by exact hk)]
  rfl

end Sys2Proof.Machine
end

section
/-! PROOFS. The statements of the family 00_scope: the state after reset, the register file, firmware images. -/

namespace Sys2Proof.Machine

/-- Settles O3: every entry of an empty register file reads its default, and no Plaza defaults to TESTING, so that the module is not busy. -/
theorem resetState : Obligations.ResetState := by
  unfold Obligations.ResetState
  have notBusy : State.reset.toBlock.busy = false := by decide +kernel
  refine ⟨⟨rfl, rfl, rfl, rfl, rfl, rfl, rfl, rfl, fun _ _ => rfl, fun _ _ => rfl⟩, ?_⟩
  unfold Settled settle
  rw [notBusy]
  rfl

/-- Settles O6: the register file is keyed by index and subindex. -/
theorem registerFile : Obligations.RegisterFile := by
  unfold Obligations.RegisterFile
  exact fun b i k v => ⟨b.reg_setReg_self i k v, RegsKept.setReg b i k v (List.mem_singleton.mpr rfl), rfl⟩

/-! ### The clauses of O57, one for each command -/

/-- FW_STAGE writes the inactive slot, and is refused on trial (R494). -/
theorem fwStage_goes (s : State) (r v : List Byte) (k off z : Nat) (hw : Writable s.toBlock) (hk : k = ofBE (r.take 1))
    (ho : off = ofBE (slice r 4 4)) (hv : v = r.drop 8) (hlen : 8 ≤ r.length) (hdata : v.length ≤ 1024) (k1 : 1 ≤ k) (k4 : k ≤ 4)
    (hend : off + v.length ≤ 2048 + bodyMax) (hz : z = 1 - (s.toBlock.kind k).active) :
    ((s.toBlock.kind k).trial = false → Goes (exec (.fwStage r) s) fun t => t.odp.status = stOK ∧ t.wal.kinds = s.wal.kinds
      ∧ (off = 0 → t.toBlock.image k z = v)
      ∧ (0 < off → off ≤ (s.toBlock.image k z).length →
          t.toBlock.image k z = (s.toBlock.image k z).take off ++ v ++ (s.toBlock.image k z).drop (off + v.length))
      ∧ (∀ j y, 2 * j + y ≠ 2 * k + z → t.toBlock.image j y = s.toBlock.image j y) ∧ RegsKept [] s.toBlock t.toBlock)
    ∧ ((s.toBlock.kind k).trial = true → Goes (exec (.fwStage r) s) fun t => t.toBlock = settle (s.toBlock.answer stWriteRefused)) := by
  subst hv hz
  have run := xStage_eq hw hk ho hlen hdata k1 k4 hend
  refine ⟨fun ht => goes_run_eq (run.trans (if_neg (by simp [ht]))) ⟨rfl, rfl, ?_, ?_, ?_, RegsKept.of_od rfl⟩,
    fun ht => goes_run_eq (run.trans (if_pos ht)) rfl⟩
  · rintro rfl
    exact (Block.image_setImage_self ..).trans (stageBytes_zero _ _)
  · intro h0 hin
    exact (Block.image_setImage_self ..).trans (stageBytes_within h0 hin)
  · exact fun j y h => Block.image_setImage_ne _ _ h

/-- FW_ACTIVATE and the revert leave an activation pending only where its slot passes (R495). -/
theorem fwActivate_goes (s : State) (w : PWrite) (v k z : Nat) : ∀ e ∈ [(Instr.fwActivate w, false), (.fwRevert w, true)],
    s.sys.phase = .up → s.toBlock.walnutBusy = false → w.value = [BitVec.ofNat 8 v] → v < 256 → bit v 7 = e.2 →
    k = bits v 2 0 → 1 ≤ k → k ≤ 4 →
    z = (if (s.toBlock.kind k).trial = true ∧ e.2 = false then (s.toBlock.kind k).active else 1 - (s.toBlock.kind k).active) →
    s.wal.kinds.length = 4 → Goes (exec e.1 s) fun t =>
      (s.toBlock.signed Od.fwActivate 0 0 w = true → s.toBlock.passes k z = true →
        t.odp.status = stOK ∧ t.toBlock.kind k = { s.toBlock.kind k with pending := some z } ∧ t.log = s.log)
      ∧ (s.toBlock.signed Od.fwActivate 0 0 w = true → s.toBlock.passes k z = false →
        t.odp.status = stWriteRefused ∧ t.wal.kinds = s.wal.kinds ∧ LastEvent t.toBlock 0x4702 noCtx [])
      ∧ (s.toBlock.signed Od.fwActivate 0 0 w = false → t.odp.status = stSigInvalid ∧ t.wal.kinds = s.wal.kinds)
      ∧ t.wal.flash = s.wal.flash ∧ t.mem = s.mem ∧ t.disp = s.disp := by
  intro e he up idle hw hv he2 hk k1 k4 hz hn
  have arm : exec e.1 s = .next (s.run (xActivate w)) := by
    rcases List.mem_pair.mp he with rfl | rfl <;> rfl
  have run := xActivate_eq ⟨up, idle⟩ hv hw hk k1 k4 (hz.trans (by rw [he2]))
  rw [arm]
  by_cases hs : s.toBlock.signed Od.fwActivate 0 0 w = true
  · rw [if_pos hs] at run
    by_cases hp : s.toBlock.passes k z = true
    · exact goes_run_eq (run.trans (if_pos hp)) ⟨fun _ _ => ⟨rfl, Block.kind_setKind_self (by rw [Block.setReg_wal]; omega) _, rfl⟩,
        fun _ h => absurd hp (by simp [h]), fun h => absurd hs (by simp [h]), rfl, rfl, rfl⟩
    · have wal : (settle (((s.toBlock.setReg Od.ownerSeq 0 w.seq).raise 0x4702 noCtx []).answer stWriteRefused)).wal = s.wal :=
        Block.raise_wal ..
      exact goes_run_eq (run.trans (if_neg hp)) ⟨fun _ h => absurd h hp,
        fun _ _ => ⟨rfl, congrArg Wal.kinds wal, lastEvent_of_log rfl rfl (lastEvent_raise ..)⟩, fun h => absurd hs (by simp [h]),
        congrArg Wal.flash wal, Block.raise_mem .., Block.raise_disp ..⟩
  · obtain ⟨status, kinds, flash, mem, disp, -⟩ := s.toBlock.refuseProtected_frame stSigInvalid
    exact goes_run_eq (run.trans (if_neg hs)) ⟨fun h => absurd h hs, fun h => absurd h hs, fun _ => ⟨status, kinds⟩, flash, mem, disp⟩

/-- FW_SWITCH starts an image on trial when it may, and none that does not pass (R2, R478, R495, R496). -/
theorem fwSwitch_goes (s : State) (k z : Nat) (up : s.sys.phase = .up) (hp : (s.toBlock.kind k).pending = some z) (k1 : 1 ≤ k)
    (hn : k - 1 < s.wal.kinds.length) (hm : s.toBlock.mayActivate k = true) : Goes (exec (.fwSwitch k) s) fun t =>
      (s.toBlock.passes k z = true → t.toBlock.kind k = s.toBlock.runSlot k z ((s.toBlock.kind k).switched z s.dt)
        ∧ t.emith.tx = s.emith.tx ∧ t.emith.sessions = s.emith.sessions)
      ∧ (s.toBlock.passes k z = false → t.toBlock.kind k = { s.toBlock.kind k with pending := none } ∧ LastEvent t.toBlock 0x4702 noCtx [])
      ∧ (∀ j, 1 ≤ j → j ≠ k → t.toBlock.kind j = s.toBlock.kind j) ∧ t.mem = s.mem ∧ t.slow = s.slow ∧ t.disp = s.disp ∧ t.dt = s.dt
      ∧ RegsKept [odKey Od.eventNextSeq 0] s.toBlock t.toBlock := by
  by_cases hz : s.toBlock.passes k z = true
  · obtain ⟨c, hc, run⟩ := xSwitch_starts hp up hm hz
    refine goes_run_eq run ⟨fun _ => ⟨?_, hc.tx, hc.sessions⟩, fun h => absurd hz (by simp [h]), ?_, hc.mem, hc.slow, hc.disp, hc.dt,
      hc.regs.trans (RegsKept.of_od rfl)⟩
    · refine (Block.kind_setKind_self (by rwa [hc.wal]) _).trans ?_
      rw [Block.runSlot_of_wal hc.wal, Block.kind_of_wal hc.wal, hc.dt]
    · exact fun j j1 hj => (Block.kind_setKind_ne c (by omega) _).trans (Block.kind_of_wal hc.wal j)
  · refine goes_run_eq (xSwitch_rejects hp up hm (by simpa using hz)) ⟨fun h => absurd h hz,
      fun _ => ⟨?_, lastEvent_of_log rfl rfl (lastEvent_raise ..)⟩, fun j j1 hj => ?_, Block.raise_mem .., Block.raise_slow ..,
      Block.raise_disp .., Block.raise_dt .., (RegsKept.of_od ?_).trans ((RegsKept.raise _ _ _ _ (by simp)).trans (RegsKept.of_od rfl))⟩
    · exact (Block.kind_of_wal (Block.raise_wal ..) k).trans (Block.kind_setKind_self hn _)
    · exact (Block.kind_of_wal (Block.raise_wal ..) j).trans (Block.kind_setKind_ne _ (by omega) _)
    · rfl

/-- FW_CONFIRM ends the trial and raises the floors (R497). -/
theorem fwConfirm_goes (s : State) (w : PWrite) (k : Nat) (up : s.sys.phase = .up) (idle : s.toBlock.walnutBusy = false) (k1 : 1 ≤ k)
    (k4 : k ≤ 4) (hw : w.value = [BitVec.ofNat 8 k]) (ht : (s.toBlock.kind k).trial = true) (hn : s.wal.kinds.length = 4) :
    Goes (exec (.fwConfirm w) s) fun t =>
    (s.toBlock.signed Od.fwConfirm 0 0 w = true → t.odp.status = stOK ∧ t.toBlock.kind k = { s.toBlock.kind k with trial := false, fails := 0 }
      ∧ LastEvent t.toBlock 0x0704 noCtx []
      ∧ t.reg Od.fwSvnFloor k
          = wrap (odWidth Od.fwSvnFloor k) (max (s.reg Od.fwSvnFloor k) (imgSvn (s.toBlock.image k (s.toBlock.kind k).active)))
      ∧ t.reg Od.fwKeyFloor 0
          = wrap (odWidth Od.fwKeyFloor 0) (max (s.reg Od.fwKeyFloor 0) (imgKey (s.toBlock.image k (s.toBlock.kind k).active))))
    ∧ (s.toBlock.signed Od.fwConfirm 0 0 w = false → t.odp.status = stSigInvalid ∧ t.wal.kinds = s.wal.kinds
      ∧ RegsKept [odKey Od.protWriteRefused 0, odKey Od.eventNextSeq 0] s.toBlock t.toBlock) := by
  have run := xConfirm_eq ⟨up, idle⟩ k1 k4 hw ht
  by_cases hs : s.toBlock.signed Od.fwConfirm 0 0 w = true
  · exact goes_run_eq (run.trans (if_pos hs)) ⟨fun _ => ⟨rfl,
      (Block.kind_of_wal (settle_wal _) k).trans (Block.confirmed_kind (by omega) _),
      lastEvent_of_log (settle_log _) (settle_dt _) (Block.confirmed_lastEvent ..),
      (reg_settle ..).trans (Block.confirmed_svnFloor ..), (reg_settle ..).trans (Block.confirmed_keyFloor ..)⟩,
      fun h => absurd hs (by simp [h])⟩
  · obtain ⟨status, kinds, -, -, -, regs⟩ := s.toBlock.refuseProtected_frame stSigInvalid
    exact goes_run_eq (run.trans (if_neg hs)) ⟨fun h => absurd h hs, fun _ => ⟨status, kinds, regs.trans (RegsKept.of_od rfl)⟩⟩

section Activated
variable (s : State) (k : Nat) (up : s.sys.phase = .up) (hs : (s.toBlock.kind k).switching = true) (hk : k - 1 < s.wal.kinds.length)
include up hs hk

/-- FW_ACTIVATED ends the interruption at its bound, with event 0x0700 (R495). -/
theorem fwActivated_started_goes : Goes (exec (.fwActivated ⟨k, true⟩) s) fun t =>
      t.dt = max s.dt ((s.toBlock.kind k).since + switchNs k) ∧ t.toBlock.kind k = { s.toBlock.kind k with switching := false, fails := 0 }
      ∧ LastEvent t.toBlock 0x0700 noCtx [] ∧ (k = kWalnut → t.odp.held = []) ∧ t.mem = s.mem ∧ t.disp = s.disp
      ∧ RegsKept [odKey Od.eventNextSeq 0] s.toBlock t.toBlock := by
  obtain ⟨dt, mem, disp, regs⟩ := s.toBlock.startDone_frame k
  have kind := Block.startDone_kind hk
  refine goes_run_eq (xActivated_started hs up) ⟨(Block.switchOver_dt ..).trans dt, (Block.kind_of_wal (Block.switchOver_wal ..) k).trans kind,
    lastEvent_of_log (Block.switchOver_log ..) (Block.switchOver_dt ..) (lastEvent_raise ..), ?_, (Block.switchOver_mem ..).trans mem,
    (Block.switchOver_disp ..).trans disp, regs.trans (RegsKept.of_od (Block.switchOver_od ..))⟩
  rintro rfl
  exact Block.switchOver_held (congrArg FwKind.switching kind)

/-- A start that fails is tried again, and the third failure reverts to the other slot (R497). -/
theorem fwActivated_failed_goes : Goes (exec (.fwActivated ⟨k, false⟩) s) fun t =>
      t.dt = max s.dt ((s.toBlock.kind k).since + startBound k) ∧ t.mem = s.mem ∧ t.disp = s.disp
      ∧ RegsKept [odKey Od.eventNextSeq 0] s.toBlock t.toBlock
      ∧ ((s.toBlock.kind k).fails < 2 →
        t.toBlock.kind k = { s.toBlock.kind k with fails := (s.toBlock.kind k).fails + 1, since := t.dt } ∧ t.log = s.log)
      ∧ (2 ≤ (s.toBlock.kind k).fails → (t.toBlock.kind k).active = 1 - (s.toBlock.kind k).active
        ∧ (t.toBlock.kind k).running = 1 - (s.toBlock.kind k).active ∧ (t.toBlock.kind k).trial = false
        ∧ (t.toBlock.kind k).switching = false ∧ LastEvent t.toBlock 0x4701 noCtx []) := by
  obtain ⟨dt, mem, disp, regs⟩ := s.toBlock.startFailed_frame k
  refine goes_run_eq (xActivated_failed hs up) ⟨(Block.switchOver_dt ..).trans dt, (Block.switchOver_mem ..).trans mem,
    (Block.switchOver_disp ..).trans disp, regs.trans (RegsKept.of_od (Block.switchOver_od ..)), fun h => ⟨?_, ?_⟩, fun h => ?_⟩
  · rw [settle_dt, Block.switchOver_dt, ← Block.startFailed_kind_again h hk]
    exact Block.kind_of_wal (Block.switchOver_wal ..) k
  · rw [settle_log, Block.switchOver_log, Block.startFailed_again h]
    rfl
  · rw [Block.kind_of_wal ((settle_wal _).trans (Block.switchOver_wal ..)), Block.startFailed_kind_reverts h hk]
    refine ⟨rfl, rfl, rfl, rfl, lastEvent_of_log (Block.switchOver_log ..) (Block.switchOver_dt ..) ?_⟩
    rw [Block.startFailed_reverts h]
    exact lastEvent_raise ..

end Activated

/-- Settles O57, command by command. -/
theorem firmware : Obligations.Firmware := by
  unfold Obligations.Firmware
  refine ⟨fwStage_goes, fwActivate_goes, fun s k z up hp k1 k4 hn => ⟨fwSwitch_goes s k z up hp k1 (by omega),
      fun hm => goes_run_eq (xSwitch_waits hp hm) rfl, ?_⟩, fwConfirm_goes,
    fun s k up hs hk => ⟨fwActivated_started_goes s k up hs hk, fwActivated_failed_goes s k up hs hk⟩⟩
  rintro rfl
  exact Block.mayActivate_config _

end Sys2Proof.Machine
end

section
/-! PROOFS. Transfers and the tasks that take from their ports: what the operations of R61, R211, R219, R227 to R231 leave as it was. -/

namespace Sys2Proof.Machine

/-! ### The task of a ticket -/

theorem Block.task?_ticket {b : Block} {k : Nat} {x : Task} (h : b.task? k = some x) : x.ticket = k := by
  simpa using List.find?_some h

theorem Block.task?_of_disp {b c : Block} (h : c.disp = b.disp) (k : Nat) : c.task? k = b.task? k := by
  unfold Block.task?; rw [h]

/-- Changing the task of a ticket changes no other. -/
theorem Block.task?_setTask (b : Block) (t k : Nat) {f : Task → Task} (hf : ∀ y, (f y).ticket = y.ticket) :
    (b.setTask t f).task? k = if k = t then (b.task? t).map f else b.task? k := by
  have same : ((fun y : Task => y.ticket == k) ∘ fun y => if y.ticket == t then f y else y) = fun y => y.ticket == k := by
    funext y
    by_cases h : y.ticket = t <;> simp [h, hf]
  have found : (b.setTask t f).task? k = (b.task? k).map (fun y => if y.ticket == t then f y else y) := by
    rw [Block.task?, Block.setTask, List.find?_map, same]; rfl
  rw [found]
  split
  · rename_i h
    subst h
    cases e : b.task? k with
    | none => rfl
    | some y => simp [Block.task?_ticket e]
  · rename_i h
    cases e : b.task? k with
    | none => rfl
    | some y => simp [Block.task?_ticket e, h]

theorem Block.starting_eq_some {b : Block} {k op : Nat} {x : Task} (h : b.starting k op = some x) :
    b.task? k = some x ∧ x.phase = .running ∧ x.stage = 0 := by
  unfold Block.starting at h
  split at h
  · rename_i y hy
    split at h
    · rename_i ok
      cases h
      simp only [Task.isRunning, Bool.and_eq_true, beq_iff_eq] at ok
      exact ⟨hy, ok.1.1, ok.1.2⟩
    · cases h
  · cases h

/-- The unit ends a running task. -/
theorem endedWith_endTask {b : Block} {k : Nat} {x : Task} (h : b.task? k = some x) (hx : x.phase = .running) (st u : Nat) :
    EndedWith (b.endTask k st u) k st u := by
  refine ⟨{ x with phase := .ended st u }, ?_, rfl⟩
  rw [Block.endTask, Block.task?_setTask _ _ _ (fun y => by split <;> rfl), if_pos rfl, h]
  simp [Task.isRunning, hx]

theorem endedWith_of_disp {b c : Block} (h : c.disp = b.disp) {k st u : Nat} (e : EndedWith b k st u) : EndedWith c k st u := by
  unfold EndedWith at *; rwa [Block.task?_of_disp h]

/-- A task that has ended stays so where the tasks that have ended are left as they are. -/
theorem endedWith_setTask {b : Block} {k st u : Nat} (e : EndedWith b k st u) (t : Nat) {f : Task → Task} (hf : ∀ y, (f y).ticket = y.ticket)
    (hp : ∀ y, y.phase = .ended st u → (f y).phase = .ended st u) : EndedWith (b.setTask t f) k st u := by
  obtain ⟨y, hy, ended⟩ := e
  unfold EndedWith
  rw [Block.task?_setTask _ _ _ hf]
  split
  · rename_i h
    subst h
    exact ⟨f y, by rw [hy]; rfl, hp y ended⟩
  · exact ⟨y, hy, ended⟩

/-- Taking from a port leaves no entry of another ticket than before. -/
theorem exists_of_mem_takePorts (p : PortId) (f : PortEntry) (l : List PortEntry) :
    ∀ {n : Nat}, f ∈ takePorts p n l → ∃ e ∈ l, f.ticket = e.ticket := by
  induction l with
  | nil => exact fun h => (List.not_mem_nil h).elim
  | cons e r ih =>
    have later : ∀ {n : Nat}, f ∈ takePorts p n r → ∃ y ∈ e :: r, f.ticket = y.ticket := fun h =>
      (ih h).imp (fun _ q => ⟨List.mem_cons_of_mem _ q.1, q.2⟩)
    have first : ∀ {y : PortEntry}, y.ticket = e.ticket → f = y → ∃ y ∈ e :: r, f.ticket = y.ticket := fun same h =>
      ⟨e, List.mem_cons_self .., h ▸ same⟩
    intro n h
    unfold takePorts at h
    dsimp only at h
    split at h
    · exact (List.mem_cons.mp h).elim (first rfl) later
    · split at h
      · exact later h
      · exact (List.mem_cons.mp h).elim (first rfl) later

/-- What an entry becomes at the end of a transfer stands on the same port for the same ticket. -/
theorem Task.mem_leavePort {x : Task} {st : Nat} {e f : PortEntry} (h : f ∈ x.leavePort st e) : f.port = e.port ∧ f.ticket = e.ticket := by
  unfold Task.leavePort at h
  dsimp only at h
  split at h
  · rw [List.mem_singleton.mp h]; exact ⟨rfl, rfl⟩
  · split at h
    · cases h
    · rw [List.mem_singleton.mp h]; exact ⟨rfl, rfl⟩

theorem ticket_of_mem_forget {p : PortId} {gone : List (Nat × Nat)} {e f : PortEntry} (h : f ∈ forget p gone e) : f.ticket = e.ticket := by
  unfold forget at h
  dsimp only at h
  split at h
  · rw [List.mem_singleton.mp h]
  · split at h
    · cases h
    · rw [List.mem_singleton.mp h]

/-- Elements that meet `p` and stay are all that meets it, where the others leave none that does. -/
theorem filter_flatMap_of_kept {α : Type} {p : α → Bool} {g : α → List α} {l : List α} (hp : ∀ e ∈ l, p e = true → g e = [e])
    (hn : ∀ e ∈ l, p e = false → ∀ f ∈ g e, p f = false) : (l.flatMap g).filter p = l.filter p := by
  induction l with
  | nil => rfl
  | cons e r ih =>
    rw [List.flatMap_cons, List.filter_append, ih (fun y hy => hp y (List.mem_cons_of_mem _ hy)) (fun y hy => hn y (List.mem_cons_of_mem _ hy))]
    cases h : p e with
    | true => simp [hp e (List.mem_cons_self ..) h, h]
    | false =>
      rw [List.filter_cons_of_neg (by simp [h]), List.filter_eq_nil_iff.mpr (fun f hf => by simp [hn e (List.mem_cons_self ..) h f hf])]
      rfl

/-! ### Marks: entries, logs and the tables of the Stream Engines -/

/-- The number entries that a transfer which delivers or ends can write (R91, R109, R219, R227, R233, R235, R359, R516). Unlike `endIdx` they leave out the count of aborted tasks, which PLAZA_FEED_TIMEOUT advances by exactly one. -/
def transferIdx : List Nat :=
  [Od.eventNextSeq, Od.ctxTaintOverflow, Od.sePrefetchDiscardBytes, Od.hazelStageFaults, Od.ctxNfFlags, Od.seBytesDelivered, Od.mxNanBlockCount]

/-- `c` differs from `b` in entries, logs and what the Stream Engines hold only, and in number entries only at `transferIdx`. -/
structure MarkStep (b c : Block) : Prop where
  frame : c = { b with od := c.od, odb := c.odb, log := c.log, fatal := c.fatal, se := c.se }
  regs : IdxKept transferIdx b c

namespace MarkStep
variable {a b c : Block}

theorem refl (b : Block) : MarkStep b b := ⟨rfl, IdxKept.refl _ b⟩

theorem trans (h : MarkStep a b) (k : MarkStep b c) : MarkStep a c := ⟨by rw [k.frame, h.frame], h.regs.trans k.regs⟩

theorem disp (h : MarkStep b c) : c.disp = b.disp := by rw [h.frame]
theorem plz (h : MarkStep b c) : c.plz = b.plz := by rw [h.frame]

theorem of_regLog (h : RegLog b c) (k : IdxKept transferIdx b c) : MarkStep b c := ⟨by rw [h], k⟩

theorem setReg (b : Block) (i k v : Nat) (hi : i ∈ transferIdx) (h : i < 65536) : MarkStep b (b.setReg i k v) :=
  of_regLog (RegLog.setReg ..) (IdxKept.setReg _ _ _ _ hi h)

theorem bump (b : Block) (i k n : Nat) (hi : i ∈ transferIdx) (h : i < 65536) : MarkStep b (b.bump i k n) := setReg _ _ _ _ hi h

theorem raise (b : Block) (code ctx : Nat) (arg : List Byte) : MarkStep b (b.raise code ctx arg) :=
  of_regLog (RegLog.raise ..) (IdxKept.raise _ _ _ _ (by decide))

theorem setSe (b : Block) (v : SeState) : MarkStep b { b with se := v } := ⟨rfl, IdxKept.of_od rfl⟩

theorem taint1 (b : Block) (ctx o : Nat) (r : Nat × Nat) : MarkStep b (b.taint1 ctx o r) := by
  unfold Block.taint1
  split
  · exact refl b
  · dsimp only
    split
    · exact setSe ..
    · split
      · exact (setReg _ _ _ _ (by decide) (by decide)).trans (raise ..)
      · exact setSe ..

theorem addTaint (b : Block) (ctx o : Nat) (e : List (Nat × Nat)) : MarkStep b (b.addTaint ctx o e) :=
  foldl_has (MarkStep b) (fun _ r k => k.trans (taint1 _ ctx o r)) e (refl b)

theorem nonfinite (b : Block) (ctx n : Nat) : MarkStep b (b.nonfinite ctx n).2 := by
  have flags : ∀ (b : Block) v, MarkStep b (b.setReg Od.ctxNfFlags (ctx + 1) v) := fun b v => setReg b _ _ _ (by decide) (by decide)
  unfold Block.nonfinite Block.setNonfinite
  dsimp only
  split
  · exact (flags ..).trans (raise ..)
  · split
    · exact ((flags ..).trans (flags ..)).trans (raise ..)
    · exact flags ..

theorem stageFault (b : Block) (ctx n : Nat) : MarkStep b (b.stageFault ctx n) :=
  ((nonfinite b ctx n).trans (bump _ _ _ _ (by decide) (by decide))).trans (raise ..)

theorem xferMark (b : Block) (x : Task) (st o : Nat) : MarkStep b (b.xferMark x st o) := by
  unfold Block.xferMark
  split
  · split
    · exact setSe ..
    · exact refl b
  · dsimp only
    split
    · exact (addTaint ..).trans (stageFault ..)
    · exact addTaint ..

theorem arm (b : Block) (x : Task) (st : Nat) : MarkStep b (b.arm x st) := by
  unfold Block.arm
  dsimp only
  split
  · split
    · exact setSe ..
    · exact refl b
  · exact refl b

end MarkStep

/-! ### Steps of transfers -/

/-- What transfers do to the block as they deliver and end: marks, port queues and tasks move. Of the tasks only those of the tickets `T` do,
and none that has ended; no port queues a ticket that none queued before. -/
structure TransferStep (T : Nat → Prop) (b c : Block) : Prop where
  frame : c = { b with od := c.od, odb := c.odb, log := c.log, fatal := c.fatal, se := c.se, disp := { b.disp with tasks := c.disp.tasks },
                       plz := { b.plz with ports := c.plz.ports } }
  regs : IdxKept transferIdx b c
  others : ∀ {k}, ¬ T k → c.task? k = b.task? k
  ends : ∀ {k st u}, EndedWith b k st u → EndedWith c k st u
  unported : ∀ {k}, (∀ f ∈ b.plz.ports, f.ticket ≠ k) → ∀ f ∈ c.plz.ports, f.ticket ≠ k

namespace TransferStep
variable {T : Nat → Prop} {a b c : Block}

theorem refl (b : Block) : TransferStep T b b := ⟨rfl, IdxKept.refl _ b, fun _ => rfl, id, id⟩

theorem trans (h : TransferStep T a b) (k : TransferStep T b c) : TransferStep T a c :=
  ⟨by rw [k.frame, h.frame], h.regs.trans k.regs, fun q => (k.others q).trans (h.others q), k.ends ∘ h.ends, k.unported ∘ h.unported⟩

theorem dt (h : TransferStep T b c) : c.dt = b.dt := by rw [h.frame]
theorem mem (h : TransferStep T b c) : c.mem = b.mem := by rw [h.frame]
theorem slow (h : TransferStep T b c) : c.slow = b.slow := by rw [h.frame]
theorem emith (h : TransferStep T b c) : c.emith = b.emith := by rw [h.frame]
theorem ras (h : TransferStep T b c) : c.ras = b.ras := by rw [h.frame]
theorem drains (h : TransferStep T b c) : c.plz.drains = b.plz.drains := by rw [h.frame]

theorem of_mark (h : MarkStep b c) : TransferStep T b c := by
  refine ⟨?_, h.regs, fun _ => Block.task?_of_disp h.disp _, endedWith_of_disp h.disp, fun q => by rwa [h.plz]⟩
  rw [h.disp, h.plz]
  exact h.frame

theorem bump (b : Block) (i k n : Nat) (hi : i ∈ transferIdx) (h : i < 65536) : TransferStep T b (b.bump i k n) :=
  of_mark (MarkStep.bump b i k n hi h)

/-- The port queues change, without a ticket that is new to them. -/
theorem setPorts (b : Block) {l : List PortEntry} (h : ∀ f ∈ l, ∃ e ∈ b.plz.ports, f.ticket = e.ticket) :
    TransferStep T b { b with plz := { b.plz with ports := l } } := by
  refine ⟨rfl, IdxKept.of_od rfl, fun _ => rfl, id, fun q f hf => ?_⟩
  obtain ⟨e, he, same⟩ := h f hf
  exact same ▸ q e he

theorem setTask (b : Block) {t : Nat} (ht : T t) {f : Task → Task} (hf : ∀ y, (f y).ticket = y.ticket)
    (hp : ∀ y st u, y.phase = .ended st u → (f y).phase = .ended st u) : TransferStep T b (b.setTask t f) := by
  refine ⟨rfl, IdxKept.of_od rfl, fun q => ?_, fun e => endedWith_setTask e t hf (fun y => hp y _ _), id⟩
  rw [Block.task?_setTask _ _ _ hf, if_neg (fun same => q (by rwa [same]))]

theorem endTask (b : Block) {t : Nat} (ht : T t) (st u : Nat) : TransferStep T b (b.endTask t st u) :=
  setTask b ht (fun y => by split <;> rfl) (fun y _ _ h => by rw [if_neg (by simp [Task.isRunning, h])]; exact h)

/-! ### The end of a transfer -/

theorem leavePorts (b : Block) (x : Task) (st : Nat) : TransferStep T b (b.leavePorts x st) := by
  refine setPorts b (fun f hf => ?_)
  obtain ⟨e, he, hfe⟩ := List.mem_flatMap.mp hf
  exact ⟨e, he, (Task.mem_leavePort hfe).2⟩

theorem endXfer (b : Block) {t : Nat} (ht : T t) (st : Nat) (cs : List Nat) (cause va o : Nat) : TransferStep T b (b.endXfer t st cs cause va o) := by
  unfold Block.endXfer
  split
  · exact refl b
  · split
    · exact refl b
    · exact (((bump _ _ _ _ (by decide) (by decide)).trans (leavePorts ..)).trans (endTask _ ht _ _)).trans
        (of_mark ((MarkStep.arm ..).trans (MarkStep.xferMark ..)))

theorem feedDone (b : Block) {x : Task} (hx : T x.ticket) : TransferStep T b (b.feedDone x) := by
  unfold Block.feedDone
  split
  · exact refl b
  · split
    · exact endXfer _ hx ..
    · exact endXfer _ hx ..

/-! ### Elements taken from a port -/

theorem feedServed (b : Block) {t : Nat} (ht : T t) : TransferStep T b (b.feedServed t) := by
  have count := setTask b ht (f := fun y => { y with flow := { y.flow with served := y.flow.served + 1 } }) (fun _ => rfl) (fun _ _ _ h => h)
  unfold Block.feedServed
  dsimp only
  split
  · rename_i x hx
    exact count.trans (feedDone _ (Block.task?_ticket hx ▸ ht))
  · exact count

theorem received (b : Block) {e : PortEntry} (he : T e.ticket) (n : Nat) : TransferStep T b (b.received e n) := by
  unfold Block.received
  dsimp only
  split
  · exact refl b
  · rename_i x _
    have counts : ∀ m nan, TransferStep T b ((b.bump Od.seBytesDelivered (x.unit + 1) m).bump Od.mxNanBlockCount 4 nan) :=
      fun m nan => (bump _ _ _ _ (by decide) (by decide)).trans (bump _ _ _ _ (by decide) (by decide))
    split
    · exact (counts ..).trans (feedServed _ he)
    · exact counts ..

theorem receivedAll (l : List PortEntry) : (∀ e ∈ l, T e.ticket) → ∀ (b : Block) (n : Nat), TransferStep T b (b.receivedAll n l) := by
  induction l with
  | nil => exact fun _ b _ => refl b
  | cons e r ih =>
    intro h b n
    exact (received b (h e (List.mem_cons_self ..)) n).trans (ih (fun y hy => h y (List.mem_cons_of_mem _ hy)) _ _)

/-- A consumer takes elements from a port. -/
theorem takeElems (b : Block) (h : ∀ e ∈ b.plz.ports, T e.ticket) (p : PortId) (n : Nat) : TransferStep T b (b.takeElems p n) :=
  (setPorts b (fun _ => exists_of_mem_takePorts _ _ _)).trans (receivedAll _ (fun e he => h e (List.mem_of_mem_filter he)) _ _)

/-! ### A consumer ends -/

theorem dropDest (b : Block) (consumer : Nat) {e : PortEntry} (he : T e.ticket) : TransferStep T b (b.dropDest consumer e) := by
  unfold Block.dropDest
  dsimp only
  split
  · exact refl b
  · rename_i x hx
    split
    · exact endXfer _ he ..
    · have leaves := setPorts (T := T) b (l := b.plz.ports.filter (fun y => !(y.port == e.port && y.ticket == e.ticket)))
        (fun f hf => ⟨f, List.mem_of_mem_filter hf, rfl⟩)
      exact ((leaves.trans (bump _ _ _ _ (by decide) (by decide))).trans (of_mark (MarkStep.raise ..))).trans
        (feedDone _ (Block.task?_ticket hx ▸ he))

theorem dropPort (b : Block) (consumer : Nat) (p : PortId) (n : Nat) : TransferStep (fun _ => True) b (b.dropPort consumer p n) := by
  refine (foldl_has (TransferStep _ b) (fun _ e k => k.trans (dropDest _ consumer (e := e) trivial)) _ (refl b)).trans (setPorts _ (fun f hf => ?_))
  obtain ⟨e, he, hfe⟩ := List.mem_flatMap.mp hf
  exact ⟨e, he, ticket_of_mem_forget hfe⟩

end TransferStep

/-! ### Queues that other ports' consumers leave alone -/

/-- A port other than the one taken from keeps its queue. -/
theorem filter_takePorts {p q : PortId} (h : p ≠ q) (l : List PortEntry) :
    ∀ n, (takePorts p n l).filter (fun e => e.port == q) = l.filter (fun e => e.port == q) := by
  induction l with
  | nil => exact fun _ => rfl
  | cons e r ih =>
    intro n
    unfold takePorts
    dsimp only
    split
    · rw [List.filter_cons, List.filter_cons, ih]
    · rename_i he
      have he : e.port = p := by simpa using he
      have gone : ∀ y : PortEntry, y.port = e.port → ∀ m : List PortEntry, (y :: m).filter (fun e => e.port == q) = m.filter (fun e => e.port == q) :=
        fun y hy m => List.filter_cons_of_neg (by simpa [hy, he] using h)
      rw [gone e rfl]
      split
      · exact ih _
      · refine (gone _ ?_ _).trans (ih _)
        rfl

/-- A transfer that ends leaves the queues in which it has no place that still delivers (R212, R219). -/
theorem Block.queue_endXfer {b : Block} {q : PortId} {t : Nat} (h : ∀ e ∈ b.queue q, e.ticket = t → e.status ≠ 0) (st : Nat) (cs : List Nat)
    (cause va o : Nat) : (b.endXfer t st cs cause va o).queue q = b.queue q := by
  unfold Block.endXfer
  split
  · rfl
  · rename_i x hx
    split
    · rfl
    · dsimp only
      rw [Block.queue, (MarkStep.xferMark ..).plz, (MarkStep.arm ..).plz]
      refine filter_flatMap_of_kept (fun e he hq => ?_) (fun e _ hq f hf => ?_)
      · have other := h e (List.mem_filter.mpr ⟨he, hq⟩)
        rw [← Block.task?_ticket hx] at other
        unfold Task.leavePort
        rw [if_pos]
        by_cases same : e.ticket = x.ticket
        · simpa [same] using other same
        · simp [same]
      · rw [(Task.mem_leavePort hf).1]; exact hq

theorem Block.queue_feedDone {q : PortId} (hq : q.kind ≠ kindOP) (b : Block) (x : Task) : (b.feedDone x).queue q = b.queue q := by
  unfold Block.feedDone
  split
  · rfl
  · rename_i h
    have none : b.feeding x.ticket = [] := by
      simp only [Bool.or_eq_true, not_or, Bool.not_eq_true] at h
      simpa using h.2
    have ended : ∀ e ∈ b.queue q, e.ticket = x.ticket → e.status ≠ 0 := by
      intro e he same delivers
      obtain ⟨mem, port⟩ := List.mem_filter.mp he
      refine (List.filter_eq_nil_iff.mp none) e mem ?_
      rw [beq_iff_eq.mp port]
      simp [same, delivers, hq]
    split
    · exact Block.queue_endXfer ended ..
    · exact Block.queue_endXfer ended ..

theorem Block.queue_received {q : PortId} (hq : q.kind ≠ kindOP) (b : Block) (e : PortEntry) (n : Nat) : (b.received e n).queue q = b.queue q := by
  unfold Block.received Block.feedServed
  dsimp only
  split
  · rfl
  · split
    · split
      · exact Block.queue_feedDone hq _ _
      · rfl
    · rfl

theorem Block.queue_receivedAll {q : PortId} (hq : q.kind ≠ kindOP) (l : List PortEntry) :
    ∀ (b : Block) (n : Nat), (b.receivedAll n l).queue q = b.queue q := by
  induction l with
  | nil => exact fun _ _ => rfl
  | cons e r ih => exact fun b n => (ih _ _).trans (Block.queue_received hq b e n)

/-- What is taken from one port leaves the queue of another feed or stream input port (R211). -/
theorem Block.queue_takeElems {p q : PortId} (h : p ≠ q) (hq : q.kind ≠ kindOP) (b : Block) (n : Nat) : (b.takeElems p n).queue q = b.queue q :=
  (Block.queue_receivedAll hq _ _ _).trans (filter_takePorts h _ _)

end Sys2Proof.Machine
end

section
/-! PROOFS. How Plaza tasks end: of themselves, early, at the drain port and by the feed timeout (R38, R55, R60 to R62, R399). -/

namespace Sys2Proof.Machine

/-! ### Counters that a free number advances -/

@[simp] theorem Block.bumpFree_disp (b : Block) (e k : Nat) : (b.bumpFree e k).disp = b.disp := rfl
@[simp] theorem Block.bumpFree_plz (b : Block) (e k : Nat) : (b.bumpFree e k).plz = b.plz := rfl

theorem RegsKept.bumpFree (b : Block) (e k : Nat) : RegsKept [odKey e k] b (b.bumpFree e k) :=
  RegsKept.setReg b.draw.2 e k _ (List.mem_singleton.mpr rfl)

theorem IdxKept.bumpFree {l : List Nat} (b : Block) (e k : Nat) (hi : e ∈ l) (h : e < 65536) : IdxKept l b (b.bumpFree e k) :=
  IdxKept.bump b.draw.2 e k _ hi h

/-! ### The end of a task and of its samples -/

/-- Samples that settle clean change the reliability subsystem alone (R399). -/
theorem Block.settleEnded_eq (b : Block) (t : Nat) : b.settleEnded t = { b with ras := (b.settleEnded t).ras } := by
  have released : ∀ (c : Block) (x : Sample), c.releaseSample x = { c with ras := (c.releaseSample x).ras } := by
    intro c x
    unfold Block.releaseSample
    split <;> rfl
  have folded : ∀ l : List Sample, l.foldl (fun b x => b.releaseSample x) b = { b with ras := (l.foldl (fun b x => b.releaseSample x) b).ras } :=
    fun l => foldl_has (fun c => c = { b with ras := c.ras }) (fun c x h => by rw [released c x, h]) l rfl
  unfold Block.settleEnded
  dsimp only
  rw [folded]

/-- A Plaza task that ends of itself changes its own task and the reliability subsystem (R245, R399). -/
theorem Block.plazaEnd_eq (b : Block) (x : Task) (st : Nat) :
    b.plazaEnd x st = { b.endTask x.ticket st (plazaUnit x) with ras := (b.plazaEnd x st).ras } := Block.settleEnded_eq ..

theorem endedWith_plazaEnd {b : Block} {x y : Task} (h : b.task? x.ticket = some y) (hy : y.phase = .running) (st : Nat) :
    EndedWith (b.plazaEnd x st) x.ticket st (plazaUnit x) :=
  endedWith_of_disp (congrArg Block.disp (b.plazaEnd_eq x st)) (endedWith_endTask h hy _ _)

/-- An early end (R61): the task ends and its drains are dropped; then the transfers of its ports lose a destination. -/
theorem Block.abortPlaza_eq (b : Block) (x : Task) (st : Nat) : ∃ c : Block,
    c.disp = (b.endTask x.ticket st (plazaUnit x)).disp ∧ c.od = b.od ∧ c.plz.drains = b.plz.drains.filter (fun j => j.set_.ticket != x.ticket)
    ∧ TransferStep (fun _ => True) c (b.abortPlaza x st) := by
  unfold Block.abortPlaza
  dsimp only
  refine ⟨_, ?_, ?_, ?_, foldl_has (TransferStep _ _) (fun _ (u : PortId × Nat) k => k.trans (TransferStep.dropPort _ _ u.1 u.2)) _ (TransferStep.refl _)⟩
  · rw [Block.settleEnded_eq]; rfl
  · rw [Block.settleEnded_eq]; rfl
  · rw [Block.settleEnded_eq]; rfl

theorem endedWith_abortPlaza {b : Block} {x y : Task} (h : b.task? x.ticket = some y) (hy : y.phase = .running) (st : Nat) :
    EndedWith (b.abortPlaza x st) x.ticket st (plazaUnit x) := by
  obtain ⟨c, disp, -, -, step⟩ := b.abortPlaza_eq x st
  exact step.ends (endedWith_of_disp disp (endedWith_endTask h hy _ _))

/-- The drains of a task that ends early are dropped (R61). -/
theorem Block.abortPlaza_drains (b : Block) (x : Task) (st : Nat) : ∀ j ∈ (b.abortPlaza x st).plz.drains, j.set_.ticket ≠ x.ticket := by
  obtain ⟨c, -, -, drains, step⟩ := b.abortPlaza_eq x st
  rw [step.drains, drains]
  exact fun j hj => by simpa using (List.mem_filter.mp hj).2

theorem IdxKept.abortPlaza_transferIdx (b : Block) (x : Task) (st : Nat) : IdxKept transferIdx b (b.abortPlaza x st) := by
  obtain ⟨c, -, od, -, step⟩ := b.abortPlaza_eq x st
  exact (IdxKept.of_od od).trans step.regs

theorem endedWith_faultPlaza {b : Block} {x y : Task} (h : b.task? x.ticket = some y) (hy : y.phase = .running) (st : Nat) :
    EndedWith (b.faultPlaza x st) x.ticket st (plazaUnit x) :=
  endedWith_of_disp (Block.bump_disp ..) (endedWith_abortPlaza h hy st)

theorem Block.faultPlaza_drains (b : Block) (x : Task) (st : Nat) : ∀ j ∈ (b.faultPlaza x st).plz.drains, j.set_.ticket ≠ x.ticket := by
  rw [Block.faultPlaza, Block.bump_plz]
  exact b.abortPlaza_drains x st

/-- The aborts of a Plaza are counted (R63). -/
theorem Block.faultPlaza_aborts (b : Block) (x : Task) (st : Nat) : (b.faultPlaza x st).reg Od.plazaTaskAborts (x.unit + 1)
    = wrap (odWidth Od.plazaTaskAborts (x.unit + 1)) (b.reg Od.plazaTaskAborts (x.unit + 1) + 1) := by
  rw [Block.faultPlaza, Block.reg_bump_self, IdxKept.abortPlaza_transferIdx b x st _ _ (by decide) (by decide)]

/-! ### TILE_DRAIN (R38, R94) -/

/-- The set `j` leaves for its WVU input queue, and its partition goes behind the others. -/
def Block.popDrain (b : Block) (p : Nat) (j : DrainJob) : Block :=
  let left := b.plz.drains.erase j
  let same := fun (k : DrainJob) => k.plaza == p && k.set_.ticket == j.set_.ticket
  { b with plz := { b.plz with drains := left.filter (fun k => !same k) ++ left.filter same, queues := b.plz.queues ++ [⟨p, j.queue, j.set_⟩] } }

/-- A served set leaves; besides, at most the stall counter of the Plaza's drain port moves. -/
theorem xTileDrain_serves {b : Block} {p : Nat} {j : DrainJob} (hs : b.gov.shed = false)
    (hj : b.plz.drains.find? (fun j => b.drainReady p j && b.queueRoom p j.queue) = some j) :
    (xTileDrain p b).disp = ((b.popDrain p j).drainLeft b j).disp ∧ (xTileDrain p b).plz = ((b.popDrain p j).drainLeft b j).plz
    ∧ (xTileDrain p b).mem = ((b.popDrain p j).drainLeft b j).mem
    ∧ RegsKept [odKey Od.plazaDrainStallCycles (p + 1)] ((b.popDrain p j).drainLeft b j) (xTileDrain p b) := by
  generalize hc : (b.popDrain p j).drainLeft b j = c
  have served : xTileDrain p b = if c.plz.drains.any (c.drainReady p) then c.bumpFree Od.plazaDrainStallCycles (p + 1) else c := by
    unfold xTileDrain
    simp only [hs, hj, ← hc]
    rfl
  rw [served]
  split
  · exact ⟨rfl, rfl, rfl, RegsKept.bumpFree _ _ _⟩
  · exact ⟨rfl, rfl, rfl, RegsKept.refl _ _⟩

theorem Block.mem_popDrain {b : Block} {p : Nat} {j k : DrainJob} (h : k ∈ (b.popDrain p j).plz.drains) : k ∈ b.plz.drains.erase j :=
  (List.mem_append.mp h).elim List.mem_of_mem_filter List.mem_of_mem_filter

theorem Block.length_popDrain {b : Block} {j : DrainJob} (h : j ∈ b.plz.drains) (p : Nat) :
    (b.popDrain p j).plz.drains.length + 1 = b.plz.drains.length := by
  have parted := List.length_eq_length_filter_add (l := b.plz.drains.erase j) (fun k => k.plaza == p && k.set_.ticket == j.set_.ticket)
  have erased := List.length_erase_of_mem h
  have held := List.length_pos_of_mem h
  simp only [Block.popDrain, List.length_append]
  omega

/-- What becomes of the task of a set that has left moves no set, no memory and no entry. -/
theorem Block.drainLeft_frame (b was : Block) (j : DrainJob) :
    (b.drainLeft was j).plz.queues = b.plz.queues ∧ (b.drainLeft was j).plz.drains = b.plz.drains ∧ (b.drainLeft was j).mem = b.mem
    ∧ (b.drainLeft was j).od = b.od := by
  unfold Block.drainLeft
  dsimp only
  split
  · exact ⟨rfl, rfl, rfl, rfl⟩
  · split
    · split
      · exact ⟨rfl, rfl, rfl, rfl⟩
      · exact ⟨rfl, rfl, rfl, rfl⟩
    · split
      · exact ⟨rfl, rfl, rfl, rfl⟩
      · rw [Block.plazaEnd_eq]; exact ⟨rfl, rfl, rfl, rfl⟩

/-- The task that has computed all its tiles ends OK with its last set (R55). -/
theorem Block.drainLeft_last {b : Block} {j : DrainJob} {x : Task} (hx : b.task? j.set_.ticket = some x) (hp : x.phase = .running) (hs : x.stage ≠ 0)
    (hl : ∀ k ∈ b.plz.drains, k.set_.ticket ≠ j.set_.ticket) (was : Block) : EndedWith (b.drainLeft was j) j.set_.ticket sOK (plazaUnit x) := by
  have last : ¬ b.plz.drains.any (fun k => k.set_.ticket == j.set_.ticket) = true := by simpa using hl
  unfold Block.drainLeft
  simp only [hx, hs, last, if_false]
  have ticket := Block.task?_ticket hx
  exact ticket ▸ endedWith_plazaEnd (ticket.symm ▸ hx) hp sOK

theorem tileDrain_goes (s : State) (p : Nat) (j : DrainJob) (hs : s.gov.shed = false)
    (hj : s.plz.drains.find? (fun j => s.toBlock.drainReady p j && s.toBlock.queueRoom p j.queue) = some j) : Goes (exec (.tileDrain p) s) fun t =>
      t.plz.queues = s.plz.queues ++ [⟨p, j.queue, j.set_⟩] ∧ t.plz.drains.length + 1 = s.plz.drains.length ∧ t.mem = s.mem
      ∧ RegsKept [odKey Od.plazaDrainStallCycles (p + 1)] s.toBlock t.toBlock
      ∧ ((∀ k ∈ s.plz.drains.erase j, k.set_.ticket ≠ j.set_.ticket) →
        ∀ x, s.toBlock.task? j.set_.ticket = some x → x.phase = .running → x.stage ≠ 0 → EndedWith t.toBlock j.set_.ticket sOK (plazaUnit x)) := by
  obtain ⟨disp, plz, mem, regs⟩ := xTileDrain_serves hs hj
  obtain ⟨queues', drains', mem', od'⟩ := (s.toBlock.popDrain p j).drainLeft_frame s.toBlock j
  refine goes_run_eq (f := xTileDrain p) rfl ⟨?_, ?_, mem.trans mem', ?_, fun last x hx hp hst => ?_⟩
  · exact (congrArg Plz.queues plz).trans queues'
  · rw [settle_plz, plz, drains']
    exact Block.length_popDrain (List.mem_of_find?_eq_some hj) p
  · exact ((RegsKept.of_od (a := s.toBlock) od').trans regs).trans (RegsKept.of_od rfl)
  · exact endedWith_of_disp disp (Block.drainLeft_last (b := s.toBlock.popDrain p j) hx hp hst (fun k hk => last k (Block.mem_popDrain hk)) s.toBlock)

/-! ### PLAZA_FEED_TIMEOUT (R62) -/

theorem xPlazaFeedTimeout_starved {b : Block} {k : Nat} {x : Task} (hx : b.task? k = some x) (hp : x.phase = .running) (hst : x.stage = 0)
    (hop : opcodeOf x.desc = opMatmul ∨ opcodeOf x.desc = opDist) (hs : b.gov.shed = false)
    (ht : ∀ y ∈ b.ras.tests, y.plaza = x.unit → y.draining = false) (hw : b.starved x (mmOf x.desc) = true) :
    xPlazaFeedTimeout k b = (b.faultPlaza x sTimeout).bumpFree Od.plazaFeedStallCycles (x.unit + 1) := by
  have steady : b.ras.tests.any (fun y => y.plaza == x.unit && y.draining) = false := by
    rw [List.any_eq_false]
    intro y hy
    by_cases same : y.plaza = x.unit
    · simp [ht y hy same]
    · simp [same]
  unfold xPlazaFeedTimeout
  simp only [hx]
  rw [if_pos]
  simpa [Task.isRunning, hp, hst, hs, steady, hw] using hop

theorem plazaFeedTimeout_goes (s : State) (k : Nat) (x : Task) (hx : s.toBlock.task? k = some x) (hp : x.phase = .running) (hst : x.stage = 0)
    (hop : opcodeOf x.desc = opMatmul ∨ opcodeOf x.desc = opDist) (hs : s.gov.shed = false)
    (ht : ∀ y ∈ s.ras.tests, y.plaza = x.unit → y.draining = false) (hw : s.toBlock.starved x (mmOf x.desc) = true) :
    Goes (exec (.plazaFeedTimeout k) s) fun t =>
      EndedWith t.toBlock k sTimeout (plazaUnit x) ∧ (∀ j ∈ t.plz.drains, j.set_.ticket ≠ k)
      ∧ t.reg Od.plazaTaskAborts (x.unit + 1) = wrap (odWidth Od.plazaTaskAborts (x.unit + 1)) (s.reg Od.plazaTaskAborts (x.unit + 1) + 1) := by
  have ticket := Block.task?_ticket hx
  subst ticket
  refine goes_run_eq (xPlazaFeedTimeout_starved hx hp hst hop hs ht hw) ⟨?_, ?_, ?_⟩
  · exact endedWith_of_disp ((settle_disp _).trans (Block.bumpFree_disp ..)) (endedWith_faultPlaza hx hp sTimeout)
  · rw [settle_plz, Block.bumpFree_plz]
    exact s.toBlock.faultPlaza_drains x sTimeout
  · have apart := odKey_ne (i := Od.plazaTaskAborts) (j := Od.plazaFeedStallCycles) (by decide) (by decide) (by decide) (x.unit + 1) (x.unit + 1)
    rw [reg_settle, RegsKept.bumpFree _ _ _ _ _ (fun h => apart (List.mem_singleton.mp h)), Block.faultPlaza_aborts]

/-- Settles O25, command by command. -/
theorem drainAndTimeout : Obligations.DrainAndTimeout := by
  unfold Obligations.DrainAndTimeout
  exact ⟨tileDrain_goes, plazaFeedTimeout_goes⟩

end Sys2Proof.Machine
end

section
/-! PROOFS. Plaza tasks run: what taking from the feeds, a block, a sample and a tile leave as they were, and how a run ends (R36 to R62, R394 to R396). -/

namespace Sys2Proof.Machine

/-! ### Writes at a physical address -/

/-- `c` differs from `b` in number entries, memory, write-combining buffers and drawn values only. -/
def StoreOnly (b c : Block) : Prop := c = { b with od := c.od, mem := c.mem, hbm := c.hbm, freeCount := c.freeCount }

namespace StoreOnly
variable {a b c : Block}

theorem trans (h : StoreOnly a b) (k : StoreOnly b c) : StoreOnly a c := by unfold StoreOnly at *; rw [k, h]

theorem of_regOnly (h : RegOnly b c) : StoreOnly b c := by unfold StoreOnly; unfold RegOnly at h; rw [h]

theorem dt (h : StoreOnly b c) : c.dt = b.dt := by rw [h]
theorem disp (h : StoreOnly b c) : c.disp = b.disp := by rw [h]
theorem plz (h : StoreOnly b c) : c.plz = b.plz := by rw [h]
theorem slow (h : StoreOnly b c) : c.slow = b.slow := by rw [h]
theorem emith (h : StoreOnly b c) : c.emith = b.emith := by rw [h]
theorem ras (h : StoreOnly b c) : c.ras = b.ras := by rw [h]

theorem evictOldest (b : Block) (pc : Nat) : StoreOnly b (b.evictOldest pc) := by
  unfold Block.evictOldest
  split <;> rfl

theorem enterLine (b : Block) (at_ n : Nat) : StoreOnly b (b.enterLine at_ n) := by
  unfold Block.enterLine
  dsimp only
  split
  · rfl
  · refine StoreOnly.trans (b := if (b.hbm.wcb.filter (fun l => l.pc == pcOf at_)).length ≥ wcbDepth then b.evictOldest (pcOf at_) else b) ?_ rfl
    split
    · exact evictOldest ..
    · rfl

theorem writeHbm (n : Nat) : ∀ (b : Block) (at_ : Nat) (v : List Byte), StoreOnly b (b.writeHbm at_ v n) := by
  induction n with
  | zero => exact fun _ _ _ => rfl
  | succ n ih =>
    intro b at_ v
    unfold Block.writeHbm
    dsimp only
    split
    · rfl
    · refine StoreOnly.trans ?_ (ih ..)
      split
      · rfl
      · exact StoreOnly.trans (b := { b with mem := b.mem.putRaw at_ (v.take (lineCount at_ v.length)) }) rfl (enterLine ..)

theorem countWrite (b : Block) (at_ n : Nat) : StoreOnly b (b.countWrite at_ n) := by
  unfold Block.countWrite
  split
  · exact of_regOnly (RegOnly.bump ..)
  · exact of_regOnly (RegOnly.foldl (fun _ _ => RegOnly.bump ..) _ _)

theorem writePhys (b : Block) (at_ : Nat) (v : List Byte) : StoreOnly b (b.writePhys at_ v) := by
  have stored : ∀ c : Block, StoreOnly c (c.storePhys at_ v) := by
    intro c
    unfold Block.storePhys
    split
    · rfl
    · exact writeHbm ..
  exact (countWrite b at_ v.length).trans (stored _)

theorem writeCapture (b : Block) (p slot n : Nat) : StoreOnly b (b.writeCapture p slot n) :=
  StoreOnly.trans (b := b.draw.2) rfl (writePhys ..)

end StoreOnly

/-- A sample that opens is counted; besides the reliability subsystem, only what its capture writes changes (R394 to R396). -/
theorem Block.openSample_opens {b : Block} {t : Task} (h : b.sampleRoom t.unit = true) (m : MM) (block rows cols : Nat) (init : List F32)
    (s q : List (List (Nat × Nat))) :
    ∃ r : Ras, r.nextSample = b.ras.nextSample + 1 ∧ StoreOnly { b with ras := r } (b.openSample t m block rows cols init s q) := by
  unfold Block.openSample
  rw [if_neg (by simp [h])]
  exact ⟨_, rfl, (StoreOnly.of_regOnly (RegOnly.bump _ _ _ _)).trans (StoreOnly.writeCapture _ _ _ _)⟩

/-! ### Steps of a run -/

/-- The number entries that a run which samples no tile can write. -/
def runIdx : List Nat := Od.shadowSkipped :: transferIdx

/-- What a step in the run of the task of ticket `k` leaves: the slow tier, the network, DT, the task itself where no port
queues its ticket, the ready sets where the task does not drain, and, unless the step opens a sample, memory and every entry but those of `runIdx`. -/
structure RunStep (k : Nat) (m : MM) (b c : Block) : Prop where
  slow : c.slow = b.slow
  emith : c.emith = b.emith
  dt : c.dt = b.dt
  unported : (∀ f ∈ b.plz.ports, f.ticket ≠ k) → ∀ f ∈ c.plz.ports, f.ticket ≠ k
  task : (∀ f ∈ b.plz.ports, f.ticket ≠ k) → c.task? k = b.task? k
  drains : m.drain = false → c.plz.drains = b.plz.drains
  samples : b.ras.nextSample ≤ c.ras.nextSample
  unsampled : c.ras.nextSample = b.ras.nextSample → c.mem = b.mem ∧ IdxKept runIdx b c

namespace RunStep
variable {k : Nat} {m : MM} {a b c : Block}

theorem refl (b : Block) : RunStep k m b b :=
  ⟨rfl, rfl, rfl, id, fun _ => rfl, fun _ => rfl, le_rfl, fun _ => ⟨rfl, IdxKept.refl _ b⟩⟩

theorem trans (h : RunStep k m a b) (q : RunStep k m b c) : RunStep k m a c := by
  refine ⟨q.slow.trans h.slow, q.emith.trans h.emith, q.dt.trans h.dt, q.unported ∘ h.unported, fun free => (q.task (h.unported free)).trans (h.task free),
    fun d => (q.drains d).trans (h.drains d), h.samples.trans q.samples, fun same => ?_⟩
  have hs := h.samples
  have qs := q.samples
  obtain ⟨mem₁, regs₁⟩ := h.unsampled (by omega)
  obtain ⟨mem₂, regs₂⟩ := q.unsampled (by omega)
  exact ⟨mem₂.trans mem₁, regs₁.trans regs₂⟩

theorem foldl {α : Type} {f : Block → α → Block} (h : ∀ b x, RunStep k m b (f b x)) (l : List α) (b : Block) : RunStep k m b (l.foldl f b) :=
  foldl_has (RunStep k m b) (fun _ x q => q.trans (h _ x)) l (refl b)

/-- The parts of the Plazas other than the port queues change, the ready sets only where the task drains. -/
theorem setPlz (b : Block) {v : Plz} (hp : v.ports = b.plz.ports) (hd : m.drain = false → v.drains = b.plz.drains) :
    RunStep k m b { b with plz := v } :=
  ⟨rfl, rfl, rfl, fun free => by rwa [hp], fun _ => rfl, hd, le_rfl, fun _ => ⟨rfl, IdxKept.of_od rfl⟩⟩

/-- Transfers move, none of them under the ticket of the task. -/
theorem of_transfer (h : (∀ f ∈ b.plz.ports, f.ticket ≠ k) → TransferStep (· ≠ k) b c) (g : TransferStep (fun _ => True) b c) : RunStep k m b c :=
  ⟨g.slow, g.emith, g.dt, g.unported, fun free => (h free).others (fun q => q rfl), fun _ => g.drains, by rw [g.ras],
    fun _ => ⟨g.mem, g.regs.mono (fun _ => List.mem_cons_of_mem _)⟩⟩

/-- A task takes what a port holds for it. -/
theorem takeInto (b : Block) (u : PortId × Nat × Nat) : RunStep k m b (b.takeInto k u) := by
  unfold Block.takeInto
  dsimp only
  split
  · exact refl b
  · exact (of_transfer (fun free => TransferStep.takeElems b free _ _) (TransferStep.takeElems b (fun _ _ => trivial) _ _)).trans
      (setPlz _ rfl (fun _ => rfl))

/-- A sample opens, or is skipped for want of room (R394 to R396). -/
theorem openSample (b : Block) (t : Task) (block rows cols : Nat) (init : List F32) (s h : List (List (Nat × Nat))) :
    RunStep k m b (b.openSample t m block rows cols init s h) := by
  cases room : b.sampleRoom t.unit with
  | true =>
    obtain ⟨r, opened, store⟩ := Block.openSample_opens room m block rows cols init s h
    have more := (congrArg Ras.nextSample store.ras).trans opened
    refine ⟨store.slow, store.emith, store.dt, fun free => by rwa [store.plz], fun _ => Block.task?_of_disp store.disp k, fun _ => by rw [store.plz],
      by omega, fun same => by omega⟩
  | false =>
    unfold Block.openSample
    rw [if_pos (by simp [room])]
    exact ⟨rfl, rfl, rfl, id, fun _ => rfl, fun _ => rfl, le_rfl, fun _ => ⟨rfl, IdxKept.bump _ _ _ _ (by decide) (by decide)⟩⟩

/-- One block of a tile: its set, its sample, its drain (R37, R38, R395). -/
theorem blockTile (b : Block) (t : Task) (sel : List Nat) (tile : Nat) (ij : Nat × Nat) (f : Feeds) (br bc : Nat) :
    RunStep k m b (b.blockTile t m sel tile ij f br bc) := by
  have accumulates : ∀ p block set v, RunStep k m b (b.setAcc p block set v) := fun _ _ _ _ => setPlz b rfl (fun _ => rfl)
  have sampled : ∀ (c : Block) (p : Bool) block rows cols init s h, RunStep k m b c →
      RunStep k m b (if p then c.openSample t m block rows cols init s h else c) := by
    intro c p block rows cols init s h q
    split
    · exact q.trans (openSample ..)
    · exact q
  have drained : ∀ (c : Block) (j : DrainJob), RunStep k m b c →
      RunStep k m b (if m.drain then { c with plz := { c.plz with drains := c.plz.drains ++ [j] } } else c) := by
    intro c j q
    split
    · rename_i d
      exact q.trans (setPlz c rfl (fun nd => absurd d (by simp [nd])))
    · exact q
  unfold Block.blockTile
  dsimp only
  split
  · exact accumulates ..
  · exact drained _ _ (sampled _ _ _ _ _ _ _ _ (accumulates ..))

/-- One tile of a task (R36, R37). -/
theorem tile (b : Block) (t : Task) (sel : List Nat) (n : Nat) (ij : Nat × Nat) : RunStep k m b (b.tile t m sel n ij) :=
  (foldl (fun b (e : Nat × Nat) => blockTile b t sel n ij _ e.1 e.2) _ b).trans (setPlz _ rfl (fun _ => rfl))

/-- The tiles that a command computes. -/
theorem tilesRun {t : Task} (sel : List Nat) (l : List ((Nat × Nat) × Nat)) : ∀ b : Block, RunStep t.ticket m b (b.tilesRun t m sel l).1 := by
  induction l with
  | nil => exact refl
  | cons v r ih =>
    intro b
    unfold Block.tilesRun
    dsimp only
    have taken : RunStep t.ticket m b ((b.tileWants t m v.1).foldl (fun b u => b.takeInto t.ticket u) b) := foldl (fun b u => takeInto b u) _ b
    split
    · exact refl b
    · split
      · exact refl b
      · split
        · split
          · exact (taken.trans (tile ..)).trans (ih _)
          · exact taken.trans (tile ..)
        · exact taken

end RunStep

/-! ### How a command ends (R45 to R62) -/

theorem Block.plazaCmd_starting {b : Block} {op mode k : Nat} {x : Task} (hx : b.starting k op = some x) (hm : (mmOf x.desc).mode = mode)
    (hs : b.gov.shed = false) (sel : List Nat) : b.plazaCmd op mode k sel = b.plazaRun x sel := by
  unfold Block.plazaCmd
  simp only [hx]
  exact if_pos ⟨hm, by simp [hs]⟩

/-- A task that keeps a set of another context faults before its first tile (R52). -/
theorem Block.plazaRun_keeps {b : Block} {x : Task} (h0 : (b.intake x.ticket).tile = 0) (hk : b.keepFault x (mmOf x.desc) = true) (sel : List Nat) :
    b.plazaRun x sel = b.endTask x.ticket sAddrFault (plazaUnit x) := by
  unfold Block.plazaRun
  refine if_pos ?_
  simp [h0, hk]

section Runs
variable {b : Block} {x : Task} {sel : List Nat} {r : Block × Option Nat}
  (h : (b.intake x.ticket).tile ≠ 0 ∨ b.keepFault x (mmOf x.desc) = false)
  (hr : r = b.tilesRun x (mmOf x.desc) sel (b.tilesLeft x (mmOf x.desc)))
include h hr

/-- What follows the tiles of a command whose sets are its own. -/
theorem Block.plazaRun_runs : b.plazaRun x sel = (match r.2 with
    | some st => (if st = sPoisoned then r.1.consumePoison x.ctx x.ticket else r.1).faultPlaza x st
    | none => if (r.1.tilesLeft x (mmOf x.desc)).isEmpty && r.1.ras.nextSample == b.ras.nextSample then r.1.plazaDone x (mmOf x.desc) else r.1).bumpFree
      Od.plazaFeedStallCycles (x.unit + 1) := by
  subst hr
  unfold Block.plazaRun
  exact if_neg (by rcases h with h | h <;> simp [h])

/-- All tiles are computed: the task's results stand. -/
theorem Block.plazaRun_done (hst : r.2 = none) (hl : r.1.tilesLeft x (mmOf x.desc) = []) (hn : r.1.ras.nextSample = b.ras.nextSample) :
    b.plazaRun x sel = (r.1.plazaDone x (mmOf x.desc)).bumpFree Od.plazaFeedStallCycles (x.unit + 1) := by
  rw [Block.plazaRun_runs h hr, hst, hl, hn]
  simp

/-- Tiles are left, or one has just been sampled: the task waits. -/
theorem Block.plazaRun_waits (hst : r.2 = none) (hl : r.1.tilesLeft x (mmOf x.desc) ≠ [] ∨ r.1.ras.nextSample ≠ b.ras.nextSample) :
    b.plazaRun x sel = r.1.bumpFree Od.plazaFeedStallCycles (x.unit + 1) := by
  rw [Block.plazaRun_runs h hr, hst]
  simp only
  rw [if_neg]
  simp only [Bool.and_eq_true, List.isEmpty_iff, beq_iff_eq, not_and]
  exact fun none => hl.resolve_left (fun q => q none)

/-- A feed failed: the task aborts with its status (R60). -/
theorem Block.plazaRun_faults {st : Nat} (hst : r.2 = some st) :
    b.plazaRun x sel = ((if st = sPoisoned then r.1.consumePoison x.ctx x.ticket else r.1).faultPlaza x st).bumpFree
      Od.plazaFeedStallCycles (x.unit + 1) := by
  rw [Block.plazaRun_runs h hr, hst]

end Runs

/-- Poison that a task consumes moves no task (R393). -/
@[simp] theorem Block.consumePoison_disp (b : Block) (ctx t : Nat) : (b.consumePoison ctx t).disp = b.disp := by
  unfold Block.consumePoison
  dsimp only
  rw [apply_ite Block.disp, Block.raise_disp, ite_self]
  rfl

/-- A task whose results stand changes tasks, its intake and the reliability subsystem only. -/
theorem Block.plazaDone_frame (b : Block) (x : Task) (m : MM) :
    (b.plazaDone x m).mem = b.mem ∧ (b.plazaDone x m).slow = b.slow ∧ (b.plazaDone x m).emith = b.emith ∧ (b.plazaDone x m).dt = b.dt
    ∧ (b.plazaDone x m).od = b.od ∧ (b.plazaDone x m).plz.sets = b.plz.sets ∧ (b.plazaDone x m).plz.drains = b.plz.drains := by
  unfold Block.plazaDone
  dsimp only
  split
  · rw [Block.plazaEnd_eq]; exact ⟨rfl, rfl, rfl, rfl, rfl, rfl, rfl⟩
  · split
    · exact ⟨rfl, rfl, rfl, rfl, rfl, rfl, rfl⟩
    · rw [Block.plazaEnd_eq]; exact ⟨rfl, rfl, rfl, rfl, rfl, rfl, rfl⟩

section Done
variable {b : Block} {x : Task} {m : MM} (hx : b.task? x.ticket = some x) (hp : x.phase = .running)
include hx hp

/-- The end of a task whose results stand. -/
theorem Block.endedWith_plazaEnd_staged (st : Nat) :
    EndedWith (((b.setTask x.ticket (fun y => { y with stage := 1 })).dropIntake x.ticket).plazaEnd x st) x.ticket st (plazaUnit x) := by
  have staged := b.task?_setTask x.ticket x.ticket (f := fun y => { y with stage := 1 }) (fun _ => rfl)
  rw [if_pos rfl, hx] at staged
  exact endedWith_plazaEnd (b := (b.setTask x.ticket _).dropIntake x.ticket) (y := { x with stage := 1 }) staged hp st

/-- A task without reduction elements ends EMPTY_K (R55). -/
theorem Block.plazaDone_emptyK (hk : m.k = 0) : EndedWith (b.plazaDone x m) x.ticket sEmptyK (plazaUnit x) := by
  unfold Block.plazaDone
  dsimp only
  rw [if_pos hk]
  exact Block.endedWith_plazaEnd_staged hx hp sEmptyK

/-- A task none of whose sets drains ends OK (R55). -/
theorem Block.plazaDone_ok (hk : m.k ≠ 0) (hd : ∀ j ∈ b.plz.drains, j.set_.ticket ≠ x.ticket) :
    EndedWith (b.plazaDone x m) x.ticket sOK (plazaUnit x) := by
  have drained : ¬ b.plz.drains.any (fun j => j.set_.ticket == x.ticket) = true := by simpa using hd
  unfold Block.plazaDone
  dsimp only
  rw [if_neg hk, if_neg (by exact drained)]
  exact Block.endedWith_plazaEnd_staged hx hp sOK

end Done

/-! ### MATMUL and the DIST modes -/

/-- The six Plaza commands with their opcodes and modes (R45, R51). -/
def plazaCommands (k : Nat) (sel : List Nat) : List (Instr × Nat × Nat) :=
  [(.matmul k sel, opMatmul, 0), (.distL1 k sel, opDist, 1), (.distL2 k sel, opDist, 2), (.distMaxplus k sel, opDist, 3),
   (.distMinplus k sel, opDist, 4), (.distCmpcnt k sel, opDist, 5)]

/-- A Plaza command whose task has its opcode and mode runs that task. -/
theorem goes_plazaRun {s : State} {k : Nat} {sel : List Nat} {x : Task} {e : Instr × Nat × Nat} {c : Block} {P : State → Prop}
    (he : e ∈ plazaCommands k sel) (hx : s.toBlock.starting k e.2.1 = some x) (hm : (mmOf x.desc).mode = e.2.2) (hs : s.gov.shed = false)
    (hc : s.toBlock.plazaRun x sel = c) (hp : P { s with toBlock := settle c }) : Goes (exec e.1 s) P := by
  have arm : exec e.1 s = .next (s.run (fun b => b.plazaCmd e.2.1 e.2.2 k sel)) := by
    simp only [plazaCommands, List.mem_cons, List.not_mem_nil, or_false] at he
    rcases he with rfl | rfl | rfl | rfl | rfl | rfl <;> rfl
  rw [arm]
  exact goes_run_eq ((Block.plazaCmd_starting hx hm hs sel).trans hc) hp

/-- Settles O23: the run of the tiles leaves the task where it was, and then each way in which the command can end is one equation for it. -/
theorem plazaTasks : Obligations.PlazaTasks := by
  unfold Obligations.PlazaTasks
  intro s k sel x r e he hx hm hs free hr
  obtain ⟨task, running, -⟩ := Block.starting_eq_some hx
  have ticket := Block.task?_ticket task
  subst ticket
  have step := RunStep.tilesRun (m := mmOf x.desc) (t := x) sel (s.toBlock.tilesLeft x (mmOf x.desc)) s.toBlock
  rw [← hr] at step
  have still := (step.task free).trans task
  refine ⟨fun own fine none same idle => ?_, fun own fine waits => ?_, fun h0 hk => ?_, fun st own failed => ?_⟩
  · have run := Block.plazaRun_done own hr fine none same
    have emptyK := fun hk => Block.plazaDone_emptyK (m := mmOf x.desc) still running hk
    have ok := fun hk hd => Block.plazaDone_ok (m := mmOf x.desc) still running hk (by rw [step.drains hd]; exact idle)
    obtain ⟨mem, slow, emith, dt, od, -, -⟩ := r.1.plazaDone_frame x (mmOf x.desc)
    obtain ⟨unsampled, regs⟩ := step.unsampled same
    generalize r.1.plazaDone x (mmOf x.desc) = c at *
    refine goes_plazaRun he hx hm hs run ⟨fun hk => endedWith_of_disp rfl (emptyK hk), fun hk hd => endedWith_of_disp rfl (ok hk hd),
      mem.trans unsampled, slow.trans step.slow, emith.trans step.emith, dt.trans step.dt, ?_⟩
    exact ((regs.mono (by decide)).trans (IdxKept.of_od od)).trans (IdxKept.bumpFree c _ _ (by decide) (by decide))
  · exact goes_plazaRun he hx hm hs (Block.plazaRun_waits own hr fine waits) ⟨still, step.slow, step.dt, fun same => (step.unsampled same).1⟩
  · exact goes_plazaRun he hx hm hs (Block.plazaRun_keeps h0 hk sel) ⟨endedWith_of_disp rfl (endedWith_endTask task running _ _), rfl⟩
  · refine goes_plazaRun he hx hm hs (Block.plazaRun_faults own hr failed) ?_
    generalize hc : (if st = sPoisoned then r.1.consumePoison x.ctx x.ticket else r.1) = c
    have marked : c.task? x.ticket = some x := by
      rw [← hc]
      split
      · rwa [Block.task?_of_disp (Block.consumePoison_disp ..)]
      · exact still
    refine ⟨endedWith_of_disp ((settle_disp _).trans (Block.bumpFree_disp ..)) (endedWith_faultPlaza marked running st), ?_⟩
    rw [settle_plz, Block.bumpFree_plz]
    exact c.faultPlaza_drains x st

end Sys2Proof.Machine
end

section
/-! PROOFS. The cells of a task of one block-tile: what its feeds give it, what its block accumulates and what drains (R36 to R38, R45, R76 to R79). -/

namespace Sys2Proof.Machine

/-! ### What a task takes -/

theorem Block.intake_ticket (b : Block) (k : Nat) : (b.intake k).ticket = k := by
  unfold Block.intake
  cases h : b.plz.intake.find? (fun x => x.ticket == k) with
  | none => rfl
  | some x => simpa using List.find?_some h

theorem Block.intake_setIntake (b : Block) {k : Nat} {v : Intake} (h : v.ticket = k) : (b.setIntake k v).intake k = v := by
  have gone : (b.plz.intake.filter (fun x => x.ticket != k)).find? (fun x => x.ticket == k) = none := by simp
  unfold Block.intake Block.setIntake
  dsimp only
  rw [List.find?_append, gone]
  simp [h]

/-- A task takes what the port holds of what it wants (R36). -/
theorem Block.bufs_takeInto (b : Block) (k : Nat) (u : PortId × Nat × Nat) :
    ((b.takeInto k u).intake k).bufs = (b.intake k).bufs.modify u.2.1 (· ++ (portElems (b.queue u.1)).take u.2.2) := by
  unfold Block.takeInto
  dsimp only
  split
  · rename_i none
    rw [List.isEmpty_iff.mp none]
    simp only [List.append_nil]
    exact (List.modify_id ..).symm
  · rw [Block.intake_setIntake]
    exact b.intake_ticket k

theorem Block.queue_takeInto {q : PortId} (hq : q.kind ≠ kindOP) (b : Block) (k : Nat) {u : PortId × Nat × Nat} (h : u.1 ≠ q) :
    (b.takeInto k u).queue q = b.queue q := by
  unfold Block.takeInto
  dsimp only
  split
  · rfl
  · exact Block.queue_takeElems h hq _ _

/-- A queue that holds `n` elements has not broken off before them (R231). -/
theorem portBroken_of_le_length (q : List PortEntry) : ∀ n, n ≤ (portElems q).length → portBroken n q = none := by
  induction q with
  | nil => exact fun _ _ => rfl
  | cons e r ih =>
    intro n h
    unfold portElems at h
    unfold portBroken
    split at h
    · rename_i whole
      obtain ⟨done, fine⟩ := Bool.and_eq_true .. ▸ whole
      split
      · rfl
      · rw [if_neg (by simpa using fine)]
        rw [List.length_append] at h
        exact ih _ (by omega)
    · exact if_pos h

/-- Feeds that hold what a tile wants, none of it poisoned, impose no early end (R60). -/
theorem Block.takeFault_eq_none {b : Block} {l : List (PortId × Nat × Nat)} (held : ∀ u ∈ l, u.2.2 ≤ (portElems (b.queue u.1)).length)
    (clean : ∀ u ∈ l, ∀ e ∈ (portElems (b.queue u.1)).take u.2.2, e.poison = false) : b.takeFault l = none := by
  have unpoisoned : ¬ l.any (fun u => ((portElems (b.queue u.1)).take u.2.2).any (·.poison)) = true := by
    simp only [List.any_eq_true, not_exists, not_and]
    exact fun u hu e he => by simp [clean u hu e he]
  have unbroken : l.findSome? (fun u => portBroken u.2.2 (b.queue u.1)) = none :=
    List.findSome?_eq_none_iff.mpr (fun u hu => portBroken_of_le_length _ _ (held u hu))
  unfold Block.takeFault
  rw [if_neg unpoisoned, unbroken]
  rfl

/-! ### Grids of cells -/

/-- The values of `nr` rows of `nc` cells, row by row. -/
def grid {α : Type} (nr nc : Nat) (f : Nat → Nat → α) : List α := (List.range nr).flatMap (fun i => (List.range nc).map (fun j => f i j))

theorem grid_succ {α : Type} (nr nc : Nat) (f : Nat → Nat → α) : grid (nr + 1) nc f = grid nr nc f ++ (List.range nc).map (f nr) := by
  simp [grid, List.range_succ]

theorem length_grid {α : Type} (nr nc : Nat) (f : Nat → Nat → α) : (grid nr nc f).length = nr * nc := by
  simp [grid, List.length_flatMap]

theorem nth_map_range {α : Type} (d : α) (f : Nat → α) {n i : Nat} (h : i < n) : nth d ((List.range n).map f) i = f i := by
  simp [nth, List.getD_eq_getElem?_getD, h]

theorem nth_grid {α : Type} (d : α) (f : Nat → Nat → α) {nc j : Nat} (hj : j < nc) {nr : Nat} :
    ∀ {i : Nat}, i < nr → nth d (grid nr nc f) (i * nc + j) = f i j := by
  induction nr with
  | zero => exact fun h => absurd h (Nat.not_lt_zero _)
  | succ n ih =>
    intro i h
    unfold nth at *
    rw [grid_succ]
    by_cases last : i = n
    · subst last
      rw [List.getD_append_right _ _ _ _ (by rw [length_grid]; omega), length_grid, Nat.add_sub_cancel_left]
      exact nth_map_range d (f i) hj
    · have row : (i + 1) * nc ≤ n * nc := Nat.mul_le_mul_right nc (by omega)
      rw [List.getD_append _ _ _ _ (by rw [length_grid]; rw [Nat.succ_mul] at row; omega)]
      exact ih (by omega)

theorem grid_congr {α : Type} {nr nc : Nat} {f g : Nat → Nat → α} (h : ∀ i < nr, ∀ j < nc, f i j = g i j) : grid nr nc f = grid nr nc g := by
  unfold grid
  refine List.flatMap_congr (fun i hi => List.map_congr_left (fun j hj => ?_))
  exact h i (List.mem_range.mp hi) j (List.mem_range.mp hj)

/-- The last value that a fold sets at a key is what the key reads as, where the fold sets one value at each key. -/
theorem sget_foldl_sset {α β : Type} [DecidableEq α] (d : α) (key : β → Nat) (val : β → α) (l : List β) :
    ∀ (cs : List (Nat × α)) {v : β}, v ∈ l → (∀ w ∈ l, key w = key v → val w = val v) →
      sget d (l.foldl (fun cs w => sset d cs (key w) (val w)) cs) (key v) = val v := by
  have untouched : ∀ (l : List β) (cs : List (Nat × α)) (n : Nat), (∀ w ∈ l, key w ≠ n) →
      sget d (l.foldl (fun cs w => sset d cs (key w) (val w)) cs) n = sget d cs n := by
    intro l
    induction l with
    | nil => exact fun _ _ _ => rfl
    | cons w r ih =>
      intro cs n h
      rw [List.foldl_cons, ih _ _ (fun y hy => h y (List.mem_cons_of_mem _ hy)), sget_sset_ne _ _ _ _ (h w (List.mem_cons_self ..)).symm]
  induction l with
  | nil => exact fun _ _ h => absurd h List.not_mem_nil
  | cons w r ih =>
    intro cs v hv one
    rw [List.foldl_cons]
    by_cases later : ∃ u ∈ r, key u = key v
    · obtain ⟨u, hu, same⟩ := later
      rw [← same, ← one u (List.mem_cons_of_mem _ hu) same]
      refine ih _ hu (fun y hy q => ?_)
      rw [one y (List.mem_cons_of_mem _ hy) (q.trans same), one u (List.mem_cons_of_mem _ hu) same]
    · have last : v = w := (List.mem_cons.mp hv).resolve_right (fun h => later ⟨v, h, rfl⟩)
      subst last
      rw [untouched _ _ _ (fun y hy q => later ⟨y, hy, q⟩), sget_sset_self]

/-- A block's cells as they are stored: value `32 * row + lane` of a grid of at most 32 columns. -/
def storeCells (nc : Nat) (vals : List F32) (start : List (Nat × F32)) : List (Nat × F32) :=
  (vals.zipIdx).foldl (fun cs v => sset 0 cs (32 * (v.2 / nc) + v.2 % nc) v.1) start

theorem sget_storeCells {nr nc : Nat} (hc : nc ≤ 32) (f : Nat → Nat → F32) (start : List (Nat × F32)) {i j : Nat} (hi : i < nr) (hj : j < nc) :
    sget 0 (storeCells nc (grid nr nc f) start) (32 * i + j) = f i j := by
  have place : i * nc + j < (grid nr nc f).length := by
    have row : (i + 1) * nc ≤ nr * nc := Nat.mul_le_mul_right nc (by omega)
    rw [length_grid]
    rw [Nat.succ_mul] at row
    omega
  have value : (grid nr nc f)[i * nc + j]? = some (f i j) := by
    have read := nth_grid (0 : F32) f hj hi
    rw [nth, List.getD_eq_getElem?_getD, List.getElem?_eq_getElem place, Option.getD_some] at read
    rw [List.getElem?_eq_getElem place, read]
  have div : (i * nc + j) / nc = i := by rw [Nat.mul_comm, Nat.mul_add_div (by omega), Nat.div_eq_of_lt hj, Nat.add_zero]
  have mod : (i * nc + j) % nc = j := by rw [Nat.mul_comm, Nat.mul_add_mod, Nat.mod_eq_of_lt hj]
  have stored := sget_foldl_sset (0 : F32) (fun v : F32 × Nat => 32 * (v.2 / nc) + v.2 % nc) (·.1) (grid nr nc f).zipIdx start
    (v := (f i j, i * nc + j)) (List.mem_zipIdx_iff_getElem?.mpr value)
  simp only [div, mod] at stored
  refine stored (fun w hw same => ?_)
  have lane := Nat.mod_lt w.2 (by omega : 0 < nc)
  have split : nc * (w.2 / nc) + w.2 % nc = w.2 := Nat.div_add_mod ..
  have row : w.2 / nc = i := by omega
  have col : w.2 % nc = j := by omega
  rw [row, col, Nat.mul_comm] at split
  have found := List.mem_zipIdx_iff_getElem?.mp hw
  rw [← split, value] at found
  exact (Option.some.inj found).symm

/-! ### A task of one block-tile -/

/-- The product is one block-tile. -/
structure MM.OneBlock (m : MM) : Prop where
  h : m.h = 1
  w : m.w = 1
  m_pos : 0 < m.m
  m_le : m.m ≤ 32
  n_pos : 0 < m.n
  n_le : m.n ≤ 32

section OneBlock
variable {m : MM} (one : m.OneBlock)
include one

theorem MM.OneBlock.rowsIn : m.rowsIn 0 = m.m := by
  have := one.m_le
  simp [MM.rowsIn, one.h, this]

theorem MM.OneBlock.colsIn : m.colsIn 0 = m.n := by
  have := one.n_le
  simp [MM.colsIn, one.w, this]

theorem MM.OneBlock.visit : m.visit = [(0, 0)] := by
  obtain ⟨h, w, mp, ml, np, nl⟩ := one
  have rows : m.tileRows = 1 := by unfold MM.tileRows ceilDiv; rw [h]; omega
  have cols : m.tileCols = 1 := by unfold MM.tileCols ceilDiv; rw [w]; omega
  unfold MM.visit
  rw [rows, cols]
  split <;> rfl

/-- What its feeds still owe the tile, where C is not loaded. -/
theorem MM.OneBlock.tileWants (h0 : m.init = 0) (b : Block) (t : Task) : b.tileWants t m (0, 0) =
    [(⟨t.unit, kindS, m.sPort⟩, 0, m.m * m.k - (nth [] (b.intake t.ticket).bufs 0).length),
     (⟨t.unit, kindH, m.hPort⟩, 1, m.n * m.k - (nth [] (b.intake t.ticket).bufs 1).length)] := by
  have first : m.takesH (0, 0) = true := by simp [MM.takesH]
  have needs : m.tileNeeds (0, 0) = [m.m * m.k, m.n * m.k, 0] := by
    simp [MM.tileNeeds, one.rowsIn, one.colsIn, first, h0]
  have ports : feedPorts t.unit m = [⟨t.unit, kindS, m.sPort⟩, ⟨t.unit, kindH, m.hPort⟩] := by simp [feedPorts, h0]
  unfold Block.tileWants
  rw [ports, needs]
  rfl

/-- The tile starts from the mode's initial value in every cell. -/
theorem MM.OneBlock.startCells (h0 : m.init = 0) (old : AccSet) {i j : Nat} (hi : i < m.m) (hj : j < m.n) :
    sget 0 (m.startCells old) (32 * i + j) = modeInit m.mode := by
  have listed : ∀ (l : List Nat) (n : Nat), n ∈ l → sget 0 (l.map (fun i => (i, modeInit m.mode))) n = modeInit m.mode := by
    intro l
    induction l with
    | nil => exact fun _ h => absurd h List.not_mem_nil
    | cons a r ih =>
      intro n h
      rw [List.map_cons, sget]
      split
      · rfl
      · rename_i ne
        exact ih n ((List.mem_cons.mp h).resolve_left ne)
  have ml := one.m_le
  have nl := one.n_le
  unfold MM.startCells
  rw [if_neg (by omega)]
  split
  · rename_i zero
    rw [zero]
    rfl
  · exact listed _ _ (List.mem_range.mpr (by omega))

/-- The accumulation of a mode over the elements that a tile holds of its feeds. -/
def MM.cell (m : MM) (S H : List Elem) (i j : Nat) : F32 := cellDot m.mode m.fmtS m.fmtH (modeInit m.mode) (sRow S m.m m.k i) (hCol H m.n m.k j)

/-- The one block writes its set, and what it computed drains. -/
theorem MM.OneBlock.blockTile (h0 : m.init = 0) (hk : 0 < m.k) (b : Block) (t : Task) (S H : List Elem) {block : Nat}
    (hb : block = 12 * t.rect.1 + t.rect.2.1) :
    (b.blockTile t m [] 0 (0, 0) ⟨S, H, []⟩ 0 0).plz.sets = sset AccSet.empty b.plz.sets (setKey t.unit block m.aset)
      ⟨some t.ctx, storeCells m.n (grid m.m m.n (m.cell S H)) (m.startCells (b.accSet t.unit block m.aset))⟩
    ∧ (b.blockTile t m [] 0 (0, 0) ⟨S, H, []⟩ 0 0).plz.drains = if m.drain then b.plz.drains ++ [⟨t.unit, m.outQ, setKey t.unit block m.aset,
        ⟨t.ticket, t.ctx, 0, 0, m.m, m.n, grid m.m m.n (m.cell S H), m.k == 0, false⟩⟩] else b.plz.drains := by
  have mp := one.m_pos
  have ml := one.m_le
  have np := one.n_pos
  have nl := one.n_le
  have rows : min 32 m.m = m.m := by omega
  have cols : min 32 m.n = m.n := by omega
  have computed : grid m.m m.n (m.cell S H) = grid m.m m.n (fun i j => cellDot m.mode m.fmtS m.fmtH
      (nth 0 (grid m.m m.n (fun i j => sget 0 (m.startCells (b.accSet t.unit block m.aset)) (32 * i + j))) (i * m.n + j))
      (nth [] ((List.range m.m).map (fun i => sRow S m.m m.k i)) i) (nth [] ((List.range m.n).map (fun j => hCol H m.n m.k j)) j)) := by
    refine grid_congr (fun i hi j hj => ?_)
    rw [nth_grid _ _ hj hi, nth_map_range _ _ hi, nth_map_range _ _ hj, one.startCells h0 _ hi hj]
    rfl
  have within : ¬ (m.m = 0 ∨ m.n = 0) := by omega
  have reduces : m.k ≠ 0 := by omega
  have unsampled : ([] : List Nat).contains (0 * 144 + block) = false := rfl
  unfold Block.blockTile
  dsimp only
  rw [one.rowsIn, one.colsIn]
  simp only [Nat.mul_zero, Nat.sub_zero, rows, cols, Nat.zero_mod, Nat.add_zero, Nat.zero_add, ← hb, within, reduces, h0, unsampled, Bool.false_and,
    Bool.false_eq_true, if_false, Nat.zero_ne_one]
  rw [computed]
  cases m.drain
  · exact ⟨rfl, rfl⟩
  · exact ⟨rfl, rfl⟩

/-- The one tile is its one block. -/
theorem MM.OneBlock.tile_plz {b : Block} {t : Task} {S H : List Elem} (held : (b.intake t.ticket).bufs = [S, H, []]) (sel : List Nat) :
    (b.tile t m sel 0 (0, 0)).plz.sets = (b.blockTile t m sel 0 (0, 0) ⟨S, H, []⟩ 0 0).plz.sets
    ∧ (b.tile t m sel 0 (0, 0)).plz.drains = (b.blockTile t m sel 0 (0, 0) ⟨S, H, []⟩ 0 0).plz.drains := by
  have blocks : (List.range m.h).flatMap (fun i => (List.range m.w).map (fun j => (i, j))) = [(0, 0)] := by rw [one.h, one.w]; rfl
  have first : m.takesH (0, 0) = true := by simp [MM.takesH]
  unfold Block.tile
  dsimp only
  rw [blocks, held, first]
  simp only [if_true, List.foldl_cons, List.foldl_nil, nth, List.getD_cons_zero, List.getD_cons_succ]
  exact ⟨rfl, rfl⟩

/-- The tile leaves its cells in the set of its block, and where the task drains they are what drains. -/
theorem MM.OneBlock.tile (h0 : m.init = 0) (hk : 0 < m.k) {b : Block} {t : Task} {S H : List Elem} (held : (b.intake t.ticket).bufs = [S, H, []]) :
    (∀ i < m.m, ∀ j < m.n, sget 0 ((b.tile t m [] 0 (0, 0)).accSet t.unit (12 * t.rect.1 + t.rect.2.1) m.aset).cells (32 * i + j) = m.cell S H i j)
    ∧ (m.drain = true → ∃ d ∈ (b.tile t m [] 0 (0, 0)).plz.drains, d.plaza = t.unit ∧ d.queue = m.outQ ∧ d.set_.ticket = t.ticket
      ∧ d.set_.rows = m.m ∧ d.set_.cols = m.n ∧ ∀ i < m.m, ∀ j < m.n, nth 0 d.set_.vals (i * m.n + j) = m.cell S H i j) := by
  obtain ⟨sets, drains⟩ := one.blockTile h0 hk b t S H rfl
  obtain ⟨sets', drains'⟩ := one.tile_plz held []
  refine ⟨fun i hi j hj => ?_, fun d => ?_⟩
  · rw [Block.accSet, sets', sets, sget_sset_self]
    exact sget_storeCells one.n_le _ _ hi hj
  · rw [drains', drains, if_pos d]
    exact ⟨_, List.mem_append.mpr (.inr (List.mem_singleton.mpr rfl)), rfl, rfl, rfl, rfl, rfl, fun i hi j hj => nth_grid _ _ hj hi⟩

end OneBlock

/-- One tile whose set is free and whose elements its feeds hold is computed. -/
theorem Block.tilesRun_single {b c : Block} {t : Task} {m : MM} {v : (Nat × Nat) × Nat} (free : b.setDrains t m v.2 = false)
    (fine : b.takeFault (b.tileWants t m v.1) = none) (taken : (b.tileWants t m v.1).foldl (fun b u => b.takeInto t.ticket u) b = c)
    (all : ∀ u ∈ c.tileWants t m v.1, u.2.2 = 0) (sel : List Nat) : b.tilesRun t m sel [v] = (c.tile t m sel v.2 v.1, none) := by
  unfold Block.tilesRun
  dsimp only
  rw [free, fine, taken]
  have enough : (c.tileWants t m v.1).all (fun u => u.2.2 == 0) = true := by simpa using all
  simp only [Bool.false_eq_true, if_false, enough, if_true]
  split <;> rfl

/-- The feeds give the tile what it wants (R36): the tile is computed from the first elements of the two queues. -/
theorem MM.OneBlock.tilesRun {m : MM} (one : m.OneBlock) (h0 : m.init = 0) {b : Block} {t : Task} {S H : List Elem}
    (empty : b.intake t.ticket = Intake.empty t.ticket) (free : b.setDrains t m 0 = false)
    (hS : S = (portElems (b.queue ⟨t.unit, kindS, m.sPort⟩)).take (m.m * m.k)) (hH : H = (portElems (b.queue ⟨t.unit, kindH, m.hPort⟩)).take (m.n * m.k))
    (lS : S.length = m.m * m.k) (lH : H.length = m.n * m.k) (clean : ∀ v ∈ S ++ H, v.poison = false) :
    ∃ c : Block, (c.intake t.ticket).bufs = [S, H, []] ∧ b.tilesRun t m [] (b.tilesLeft t m) = (c.tile t m [] 0 (0, 0), none) := by
  have left : b.tilesLeft t m = [((0, 0), 0)] := by
    unfold Block.tilesLeft
    rw [empty, one.visit]
    rfl
  have wants : b.tileWants t m (0, 0) = [(⟨t.unit, kindS, m.sPort⟩, 0, m.m * m.k), (⟨t.unit, kindH, m.hPort⟩, 1, m.n * m.k)] := by
    rw [one.tileWants h0, empty]
    rfl
  have fine : b.takeFault (b.tileWants t m (0, 0)) = none := by
    have atLeast : ∀ {l r : List Elem} {n : Nat}, r = l.take n → r.length = n → n ≤ l.length := fun h q => by
      rw [h, List.length_take] at q; omega
    rw [wants]
    refine Block.takeFault_eq_none ?_ ?_
    · simp only [List.forall_mem_cons, List.not_mem_nil, false_implies, implies_true, and_true]
      exact ⟨atLeast hS lS, atLeast hH lH⟩
    · simp only [List.forall_mem_cons, List.not_mem_nil, false_implies, implies_true, and_true, ← hS, ← hH]
      exact ⟨fun e h => clean e (List.mem_append_left _ h), fun e h => clean e (List.mem_append_right _ h)⟩
  generalize hc : (b.tileWants t m (0, 0)).foldl (fun b u => b.takeInto t.ticket u) b = c
  have bufs : (c.intake t.ticket).bufs = [S, H, []] := by
    rw [← hc, wants]
    simp only [List.foldl_cons, List.foldl_nil]
    rw [Block.bufs_takeInto, Block.queue_takeInto (show kindH ≠ kindOP by decide) _ _ (by simp [kindS, kindH]), Block.bufs_takeInto, empty, ← hS, ← hH]
    rfl
  refine ⟨c, bufs, ?_⟩
  rw [left]
  refine Block.tilesRun_single (v := ((0, 0), 0)) free fine hc ?_ []
  rw [one.tileWants h0, bufs]
  simp [nth, lS, lH]

/-- A run that no feed stops leaves the sets and drains that its tiles have left. -/
theorem Block.plazaRun_plz {b : Block} {x : Task} {sel : List Nat} {r : Block × Option Nat}
    (h : (b.intake x.ticket).tile ≠ 0 ∨ b.keepFault x (mmOf x.desc) = false)
    (hr : r = b.tilesRun x (mmOf x.desc) sel (b.tilesLeft x (mmOf x.desc))) (hst : r.2 = none) :
    (b.plazaRun x sel).plz.sets = r.1.plz.sets ∧ (b.plazaRun x sel).plz.drains = r.1.plz.drains := by
  obtain ⟨-, -, -, -, -, sets, drains⟩ := r.1.plazaDone_frame x (mmOf x.desc)
  rw [Block.plazaRun_runs h hr, hst, Block.bumpFree_plz]
  dsimp only
  split
  · exact ⟨sets, drains⟩
  · exact ⟨rfl, rfl⟩

/-- Settles O24: the feeds fill the intake of the one tile, and its cells are the grid of the mode's accumulations. -/
theorem blockCells : Obligations.BlockCells := by
  unfold Obligations.BlockCells
  intro s k x m S H e he hx hm mode hs h0 h1 w1 mp ml np nl kp empty free hS hH lS lH clean
  have ticket := Block.task?_ticket (Block.starting_eq_some hx).1
  subst ticket
  subst hm
  have one : (mmOf x.desc).OneBlock := ⟨h1, w1, mp, ml, np, nl⟩
  obtain ⟨c, bufs, run⟩ := one.tilesRun h0 empty free hS hH lS lH clean
  obtain ⟨cells, drained⟩ := one.tile h0 kp bufs
  obtain ⟨sets, drains⟩ := Block.plazaRun_plz (b := s.toBlock) (x := x) (.inr (by simp [Block.keepFault, h0])) run.symm rfl
  refine goes_plazaRun he hx mode hs rfl ⟨?_, ?_⟩
  · unfold Block.accSet at cells ⊢
    rw [settle_plz, sets]
    exact cells
  · rw [settle_plz, drains]
    exact drained

end Sys2Proof.Machine
end

section
/-! PROOFS. VECTOR tasks run: what detections and the taking of inputs leave as they were, and how a command ends (R92 to R112, R211, R212, R231). -/

namespace Sys2Proof.Machine

/-! ### Steps of a VECTOR task -/

/-- The number entries that a VECTOR task which takes its inputs and tests its values can write. -/
def vectorIdx : List Nat := Od.wvuNfDetectCount :: transferIdx

/-- What a step of the VECTOR task of ticket `k` leaves before its outputs stand: memory, DT, the outputs that wait, every entry but those
of `vectorIdx`, and the task itself where no port queues its ticket. -/
structure VectorStep (k : Nat) (b c : Block) : Prop where
  mem : c.mem = b.mem
  slow : c.slow = b.slow
  dt : c.dt = b.dt
  outs : c.plz.outs = b.plz.outs
  regs : IdxKept vectorIdx b c
  unported : (∀ f ∈ b.plz.ports, f.ticket ≠ k) → ∀ f ∈ c.plz.ports, f.ticket ≠ k
  task : (∀ f ∈ b.plz.ports, f.ticket ≠ k) → c.task? k = b.task? k

namespace VectorStep
variable {k : Nat} {a b c : Block}

theorem refl (b : Block) : VectorStep k b b := ⟨rfl, rfl, rfl, rfl, IdxKept.refl _ b, id, fun _ => rfl⟩

theorem trans (h : VectorStep k a b) (q : VectorStep k b c) : VectorStep k a c :=
  ⟨q.mem.trans h.mem, q.slow.trans h.slow, q.dt.trans h.dt, q.outs.trans h.outs, h.regs.trans q.regs, q.unported ∘ h.unported,
    fun free => (q.task (h.unported free)).trans (h.task free)⟩

theorem foldl {α : Type} {f : Block → α → Block} (h : ∀ b x, VectorStep k b (f b x)) (l : List α) (b : Block) : VectorStep k b (l.foldl f b) :=
  foldl_has (VectorStep k b) (fun _ x q => q.trans (h _ x)) l (refl b)

/-- Transfers move, none of them under the ticket of the task. -/
theorem of_transfer (h : (∀ f ∈ b.plz.ports, f.ticket ≠ k) → TransferStep (· ≠ k) b c) (g : TransferStep (fun _ => True) b c) : VectorStep k b c :=
  ⟨g.mem, g.slow, g.dt, by rw [g.frame], g.regs.mono (fun _ => List.mem_cons_of_mem _), g.unported, fun free => (h free).others (fun q => q rfl)⟩

theorem of_mark (h : MarkStep b c) : VectorStep k b c := of_transfer (fun _ => TransferStep.of_mark h) (TransferStep.of_mark h)

/-- The parts of the WVUs other than the port queues and the outputs change. -/
theorem setPlz (b : Block) {v : Plz} (hp : v.ports = b.plz.ports) (ho : v.outs = b.plz.outs) : VectorStep k b { b with plz := v } :=
  ⟨rfl, rfl, rfl, ho, IdxKept.of_od rfl, fun free => by rwa [hp], fun _ => rfl⟩

/-- A detection writes entries, logs and the gate of its context (R109). -/
theorem detect (b : Block) (t : Task) (op : Nat) (d : Nat × Nat × Nat) : VectorStep k b (b.detect t op d) := by
  have counted : VectorStep k b (b.bump Od.wvuNfDetectCount (t.unit + 1) 1) :=
    ⟨rfl, rfl, rfl, rfl, IdxKept.bump _ _ _ _ (by decide) (by decide), id, fun _ => rfl⟩
  have flagged := counted.trans (of_mark (MarkStep.nonfinite _ t.ctx t.step))
  have told : ∀ (c : Block) g v, VectorStep k c ((c.setGate t.ctx g).setOct Od.ctxNfFirst (t.ctx + 1) v) :=
    fun _ _ _ => ⟨rfl, rfl, rfl, rfl, IdxKept.of_od rfl, id, fun _ => rfl⟩
  unfold Block.detect
  dsimp only
  split
  · exact flagged
  · exact (flagged.trans (told ..)).trans (of_mark (MarkStep.raise ..))

/-- The sets of a product leave the input queue for the task (R38, R93). -/
theorem gather (b : Block) (t : Task) (v : Vec) : VectorStep k b (b.gather t v) := by
  unfold Block.gather
  split
  · exact refl b
  · refine VectorStep.trans ?_ (foldl (fun b d => detect b t v.op d) _ _)
    exact setPlz b rfl rfl

theorem takeInto (b : Block) (u : PortId × Nat × Nat) : VectorStep k b (b.takeInto k u) := by
  unfold Block.takeInto
  dsimp only
  split
  · exact refl b
  · exact (of_transfer (fun free => TransferStep.takeElems b free _ _) (TransferStep.takeElems b (fun _ _ => trivial) _ _)).trans
      (setPlz _ rfl rfl)

theorem takeStream (b : Block) (t : Task) (v : Vec) (u : PortId × Nat × Nat) : VectorStep t.ticket b (b.takeStream t v u) :=
  (takeInto b u).trans (foldl (fun b d => detect b t v.op d) _ _)

/-- Rounding draws from entries that the steps of a task leave alone (R85). -/
theorem vectorY (h : VectorStep k b c) (t : Task) (v : Vec) (o : VecOut) : c.vectorY t v o = b.vectorY t v o := by
  unfold Block.vectorY Block.roundKey
  rw [h.regs _ _ (by decide) (by decide), h.regs Od.deviceIndex _ (by decide) (by decide)]

end VectorStep

/-- A task whose X comes from drained sets gathers them first (R93). -/
theorem VectorStep.inputs (s : Block) (x : Task) (v : Vec) : VectorStep x.ticket s (if v.srcX = 0 then s.gather x v else s) := by
  split
  · exact gather ..
  · exact refl s

/-- Then it takes what its streams hold. -/
theorem VectorStep.streams (a : Block) (x : Task) (v : Vec) :
    VectorStep x.ticket a ((a.vectorWants x v).foldl (fun b u => b.takeStream x v u) a) :=
  foldl (fun b u => takeStream b x v u) _ a

/-! ### The early end of a task (R111, R231) -/

theorem endedWith_failVector {b : Block} {x y : Task} (h : b.task? x.ticket = some y) (hy : y.phase = .running) (st : Nat) :
    EndedWith (b.failVector x st) x.ticket st (vectorUnit x) := by
  unfold Block.failVector Block.taintOuts
  dsimp only
  refine (foldl_has (TransferStep (fun _ => True) _) (fun _ p q => q.trans (TransferStep.dropPort _ _ p.1 p.2)) _ (TransferStep.refl _)).ends ?_
  refine (foldl_has (TransferStep (fun _ => True) _) (fun _ e q => q.trans (TransferStep.endXfer _ trivial ..)) _ (TransferStep.refl _)).ends ?_
  exact endedWith_of_disp rfl (endedWith_endTask h hy st (vectorUnit x))

theorem endedWith_vectorFail {b : Block} {x y : Task} (h : b.task? x.ticket = some y) (hy : y.phase = .running) (st : Nat) :
    EndedWith (b.vectorFail x st) x.ticket st (vectorUnit x) := by
  unfold Block.vectorFail
  refine endedWith_failVector ?_ hy st
  split
  · rwa [Block.task?_of_disp (Block.consumePoison_disp ..)]
  · exact h

/-! ### The outputs of a task (R212) -/

/-- What a task offers: Y in its output format, and Y2 where the operation has one. -/
def Block.vectorOffer (b : Block) (x : Task) (v : Vec) (o : VecOut) : List OutEntry :=
  ⟨x.unit, v.yPort, x.ticket, (b.vectorY x v o).1⟩ ::
    if v.y2En then [⟨x.unit, v.y2Port, x.ticket, o.y2.map (fun w => ⟨w.toNat, 127, false⟩)⟩] else []

theorem Block.vectorOut_frame (b : Block) (x : Task) (v : Vec) (o : VecOut) :
    (b.vectorOut x v o).mem = b.mem ∧ (b.vectorOut x v o).slow = b.slow ∧ (b.vectorOut x v o).dt = b.dt
    ∧ (b.vectorOut x v o).plz.outs = b.plz.outs ++ b.vectorOffer x v o := by
  unfold Block.vectorOut
  generalize hy : b.vectorY x v o = y
  refine ⟨rfl, rfl, rfl, ?_⟩
  rw [Block.vectorOffer, hy]
  rfl

/-- What a task offers goes behind the outputs that wait. -/
theorem VectorStep.outs_vectorOut {s c : Block} {x : Task} (h : VectorStep x.ticket s c) (v : Vec) (o : VecOut) :
    (c.vectorOut x v o).plz.outs = s.plz.outs ++ s.vectorOffer x v o := by
  obtain ⟨-, -, -, outs⟩ := c.vectorOut_frame x v o
  rw [outs, h.outs, Block.vectorOffer, h.vectorY]
  rfl

/-- The task runs on until its outputs have been drained. -/
theorem Block.task?_vectorOut {b : Block} {x : Task} (h : b.task? x.ticket = some x) (v : Vec) (o : VecOut) :
    (b.vectorOut x v o).task? x.ticket = some { x with stage := 1 } := by
  have staged := b.task?_setTask x.ticket x.ticket (f := fun y => { y with stage := 1 }) (fun _ => rfl)
  rw [if_pos rfl, h] at staged
  unfold Block.vectorOut
  exact (Block.task?_of_disp rfl _).trans staged

/-! ### How a command ends -/

theorem Block.vectorCmd_starting {b : Block} {op k : Nat} {x : Task} (hx : b.starting k opVector = some x) (ho : (vecOf x.desc).op = op)
    (hs : b.gov.shed = false) : b.vectorCmd op k = b.vectorRun x := by
  unfold Block.vectorCmd
  simp only [hx]
  exact if_pos ⟨ho, by simp [hs]⟩

section Runs
variable {s a b : Block} {x : Task} {v : Vec} (hv : v = vecOf x.desc) (ha : a = if v.srcX = 0 then s.gather x v else s)
include hv ha

/-- An input failed: the task ends with that failure (R111, R112, R231). -/
theorem Block.vectorRun_faults {st : Nat} (hf : a.vectorFault x v = some st) : s.vectorRun x = a.vectorFail x st := by
  subst hv ha
  unfold Block.vectorRun
  dsimp only
  rw [hf]

variable (hb : b = (a.vectorWants x v).foldl (fun b u => b.takeStream x v u) a) (hf : a.vectorFault x v = none)
include hb hf

/-- Inputs are missing: the task keeps what it has taken. -/
theorem Block.vectorRun_waits (hw : (∃ u ∈ b.vectorWants x v, u.2.2 ≠ 0) ∨ b.xValues x v = none) : s.vectorRun x = b := by
  unfold Block.vectorRun
  dsimp only
  rw [← hv, ← ha, hf]
  dsimp only
  rw [← hb]
  split
  · rfl
  · rename_i enough
    rw [hw.resolve_left (by simpa using enough)]

variable {xs : List (F32 × Bool)} {o : VecOut} (all : ∀ u ∈ b.vectorWants x v, u.2.2 = 0) (hx : b.xValues x v = some xs)
  (ho : o = v.compute (xs.map (·.1)) ((nth [] (b.intake x.ticket).bufs 1).map (streamValue v.fmtZ))
    ((nth [] (b.intake x.ticket).bufs 2).map (streamValue 7)) ((nth [] (b.intake x.ticket).bufs 2).map (·.v)))
include all hx ho

/-- All inputs are there: the operation runs on them. -/
theorem Block.vectorRun_computes : s.vectorRun x = if o.fault then b.vectorFail x sAddrFault
    else (((v.detections xs o (b.vectorY x v o).1).foldl (fun b d => b.detect x v.op d) b).vectorOut x v o).bumpFree Od.wvuBusyCycles (x.unit + 1) := by
  have enough : (!(b.vectorWants x v).all (fun u => u.2.2 == 0)) = false := by simpa using all
  unfold Block.vectorRun
  dsimp only
  rw [← hv, ← ha, hf]
  dsimp only
  rw [← hb, enough, hx]
  dsimp only
  rw [← ho]
  rfl

/-- A result without an address fault is offered, once its values have been tested (R108, R212). -/
theorem Block.vectorRun_offers (sound : o.fault = false) :
    ∃ c, VectorStep x.ticket s c ∧ s.vectorRun x = (c.vectorOut x v o).bumpFree Od.wvuBusyCycles (x.unit + 1) := by
  have run := Block.vectorRun_computes hv ha hb hf all hx ho
  rw [sound, if_neg Bool.false_ne_true] at run
  have taken : VectorStep x.ticket s b := by
    rw [hb, ha]
    exact (VectorStep.inputs s x v).trans (VectorStep.streams _ x v)
  exact ⟨_, taken.trans (VectorStep.foldl (fun b d => VectorStep.detect b x v.op d) _ b), run⟩

end Runs

/-! ### The fifteen operations -/

/-- The VECTOR commands with their OP (R99). -/
def vectorCommands (k : Nat) : List (Instr × Nat) :=
  [(.axpby k, 0x01), (.mul k, 0x02), (.act k, 0x03), (.actBwd k, 0x04), (.cast k, 0x05), (.softmax k, 0x08), (.softmaxBwd k, 0x09),
   (.layernorm k, 0x0A), (.layernormBwd k, 0x0B), (.rmsnorm k, 0x0C), (.rmsnormBwd k, 0x0D), (.xent k, 0x10), (.sum k, 0x11), (.ortho k, 0x18),
   (.topk k, 0x1C)]

/-- A VECTOR command whose task has its OP runs that task. -/
theorem goes_vectorRun {s : State} {k : Nat} {x : Task} {e : Instr × Nat} {c : Block} {P : State → Prop} (he : e ∈ vectorCommands k)
    (hx : s.toBlock.starting k opVector = some x) (ho : (vecOf x.desc).op = e.2) (hs : s.gov.shed = false)
    (hc : s.toBlock.vectorRun x = c) (hp : P { s with toBlock := settle c }) : Goes (exec e.1 s) P := by
  have arm : exec e.1 s = .next (s.run (fun b => b.vectorCmd e.2 k)) := by
    simp only [vectorCommands, List.mem_cons, List.not_mem_nil, or_false] at he
    rcases he with rfl | rfl | rfl | rfl | rfl | rfl | rfl | rfl | rfl | rfl | rfl | rfl | rfl | rfl | rfl <;> rfl
  rw [arm]
  exact goes_run_eq ((Block.vectorCmd_starting hx ho hs).trans hc) hp

/-- Settles O26: the taking of the inputs leaves the task where it was, and then each way in which the command can end is one equation for it. -/
theorem vectorTasks : Obligations.VectorTasks := by
  unfold Obligations.VectorTasks
  intro s k x v a b e he hx hv hop hs free ha hb
  obtain ⟨task, running, -⟩ := Block.starting_eq_some hx
  have ticket := Block.task?_ticket task
  subst ticket
  have op : (vecOf x.desc).op = e.2 := hv ▸ hop
  have gathered : VectorStep x.ticket s.toBlock a := ha ▸ VectorStep.inputs s.toBlock x v
  have taken : VectorStep x.ticket s.toBlock b := gathered.trans (hb ▸ VectorStep.streams a x v)
  have still := (taken.task free).trans task
  refine ⟨fun xs z cs o fine all held hz hcs ho => ?_, fun fine waits => ?_, fun st failed => ?_⟩
  · subst hz hcs
    refine ⟨fun sound => ?_, fun outside => ?_⟩
    · obtain ⟨c, tested, run⟩ := Block.vectorRun_offers hv ha hb fine all held ho sound
      have offered := tested.outs_vectorOut v o
      have staged := Block.task?_vectorOut ((tested.task free).trans task) v o
      obtain ⟨mem, slow, dt, -⟩ := c.vectorOut_frame x v o
      generalize c.vectorOut x v o = d at *
      refine goes_vectorRun he hx op hs run ⟨⟨_, staged, running, rfl⟩, ?_, fun y2 => ?_, mem.trans tested.mem, slow.trans tested.slow,
        dt.trans tested.dt⟩
      · rw [settle_plz, Block.bumpFree_plz, offered]
        exact List.mem_append_right _ (List.mem_cons_self ..)
      · rw [settle_plz, Block.bumpFree_plz, offered, Block.vectorOffer, if_pos y2]
        exact List.mem_append_right _ (List.mem_cons_of_mem _ (List.mem_singleton.mpr rfl))
    · have run := Block.vectorRun_computes hv ha hb fine all held ho
      rw [outside, if_pos rfl] at run
      exact goes_vectorRun he hx op hs run (endedWith_of_disp rfl (endedWith_vectorFail still running _))
  · exact goes_vectorRun he hx op hs (Block.vectorRun_waits hv ha hb fine waits) ⟨still, rfl, taken.outs, taken.mem, taken.slow, taken.dt⟩
  · exact goes_vectorRun he hx op hs (Block.vectorRun_faults hv ha failed)
      (endedWith_of_disp rfl (endedWith_vectorFail ((gathered.task free).trans task) running st))

end Sys2Proof.Machine
end

section
/-! PROOFS. Elementwise VECTOR operations: what a task takes of its streams, what the operation makes of each element and what leaves (R93, R98, R99, R211). -/

namespace Sys2Proof.Machine

/-! ### What a task takes of its streams -/

/-- A detection leaves the WVUs and their ports as they are (R109). -/
@[simp] theorem Block.detect_plz (b : Block) (t : Task) (op : Nat) (d : Nat × Nat × Nat) : (b.detect t op d).plz = b.plz := by
  have flagged : (((b.bump Od.wvuNfDetectCount (t.unit + 1) 1).nonfinite t.ctx t.step).2).plz = b.plz := (MarkStep.nonfinite ..).plz
  unfold Block.detect
  dsimp only
  split
  · exact flagged
  · rw [Block.raise_plz]
    exact flagged

theorem Block.takeStream_plz (b : Block) (t : Task) (v : Vec) (u : PortId × Nat × Nat) : (b.takeStream t v u).plz = (b.takeInto t.ticket u).plz :=
  foldl_keep Block.plz (fun b d => Block.detect_plz b t v.op d) _ _

theorem Block.intake_takeStream (b : Block) (t : Task) (v : Vec) (u : PortId × Nat × Nat) (k : Nat) :
    (b.takeStream t v u).intake k = (b.takeInto t.ticket u).intake k := by
  unfold Block.intake
  rw [Block.takeStream_plz]

theorem Block.queue_takeStream {q : PortId} (hq : q.kind ≠ kindOP) (b : Block) (t : Task) (v : Vec) {u : PortId × Nat × Nat} (h : u.1 ≠ q) :
    (b.takeStream t v u).queue q = b.queue q := by
  rw [Block.queue, Block.takeStream_plz]
  exact Block.queue_takeInto hq b t.ticket h

/-- A task counts what it takes. -/
theorem Block.got_takeInto (b : Block) (k : Nat) (u : PortId × Nat × Nat) :
    ((b.takeInto k u).intake k).got = (b.intake k).got.modify u.2.1 (· + ((portElems (b.queue u.1)).take u.2.2).length) := by
  unfold Block.takeInto
  dsimp only
  split
  · rename_i none
    rw [List.isEmpty_iff.mp none]
    exact (List.modify_id ..).symm
  · rw [Block.intake_setIntake]
    exact b.intake_ticket k

/-- From ports of their own, each stream gives what its queue held at the start (R211). -/
theorem Block.intake_takeStreams (t : Task) (v : Vec) (l : List (PortId × Nat × Nat)) :
    ∀ b : Block, (l.map (·.1)).Nodup → (∀ u ∈ l, u.1.kind ≠ kindOP) →
      ((l.foldl (fun b u => b.takeStream t v u) b).intake t.ticket).bufs
        = l.foldl (fun bufs u => bufs.modify u.2.1 (· ++ (portElems (b.queue u.1)).take u.2.2)) (b.intake t.ticket).bufs
      ∧ ((l.foldl (fun b u => b.takeStream t v u) b).intake t.ticket).got
        = l.foldl (fun got u => got.modify u.2.1 (· + ((portElems (b.queue u.1)).take u.2.2).length)) (b.intake t.ticket).got := by
  induction l with
  | nil => exact fun _ _ _ => ⟨rfl, rfl⟩
  | cons u r ih =>
    intro b apart inputs
    obtain ⟨first, rest⟩ := List.nodup_cons.mp apart
    obtain ⟨bufs, got⟩ := ih (b.takeStream t v u) rest (fun w hw => inputs w (List.mem_cons_of_mem _ hw))
    have queues : ∀ w ∈ r, (b.takeStream t v u).queue w.1 = b.queue w.1 := fun w hw =>
      Block.queue_takeStream (inputs w (List.mem_cons_of_mem _ hw)) b t v (fun same => first (List.mem_map.mpr ⟨w, hw, same.symm⟩))
    refine ⟨bufs.trans ?_, got.trans ?_⟩
    · rw [List.foldl_cons, Block.intake_takeStream, Block.bufs_takeInto]
      exact List.foldl_ext _ _ _ (fun _ w hw => by rw [queues w hw])
    · rw [List.foldl_cons, Block.intake_takeStream, Block.got_takeInto]
      exact List.foldl_ext _ _ _ (fun _ w hw => by rw [queues w hw])

/-! ### Lists by their elements -/

/-- The first elements of a list, mapped, are the values by place. -/
theorem map_take_eq_map_range {α β : Type} (f : α → β) (d : α) {l : List α} {n : Nat} (h : n ≤ l.length) :
    (l.take n).map f = (List.range n).map (fun i => f (nth d l i)) := by
  refine List.ext_getElem (by simpa using h) (fun i hi _ => ?_)
  have within : i < l.length := by simp at hi; omega
  simp [nth, List.getD_eq_getElem?_getD, List.getElem?_eq_getElem within]

theorem map_zipIdx_map_range {α β : Type} (g : α × Nat → β) (f : Nat → α) (n : Nat) :
    (((List.range n).map f).zipIdx).map g = (List.range n).map (fun i => g (f i, i)) :=
  List.ext_getElem (by simp) (fun i _ _ => by simp)

/-! ### The streams of a task whose X is a stream (R93) -/

/-- The value of element `i` that a stream port of a task's WVU holds (R75). -/
def Block.streamAt (b : Block) (x : Task) (fmt port i : Nat) : F32 :=
  streamValue fmt (nth ⟨0, 127, false⟩ (portElems (b.queue ⟨x.unit, kindSP, port⟩)) i)

/-- The first `n` elements that a stream port of a task's WVU holds. -/
def Block.streamHead (b : Block) (x : Task) (port n : Nat) : List Elem := (portElems (b.queue ⟨x.unit, kindSP, port⟩)).take n

/-- The stream input ports of a task by number, in the order X, Z, C (R93). -/
def Vec.streamPorts (v : Vec) : List Nat :=
  (if v.srcX = 1 then [v.xPort] else []) ++ (if v.zEn then [v.zPort] else []) ++ (if v.cEn then [v.cPort] else [])

theorem Vec.ports_takes (v : Vec) (p : Nat) : (v.takes p).map (·.1) = v.streamPorts.map (fun n => ⟨p, kindSP, n⟩) := by
  unfold Vec.takes Vec.streamPorts
  simp only [List.map_append, apply_ite (List.map _), List.map_cons, List.map_nil]

theorem Vec.kind_takes {v : Vec} {p : Nat} {u : PortId × Nat × Nat} (h : u ∈ v.takes p) : u.1.kind ≠ kindOP := by
  have listed := List.mem_map_of_mem (f := (·.1)) h
  rw [Vec.ports_takes] at listed
  obtain ⟨n, -, port⟩ := List.mem_map.mp listed
  rw [← port]
  exact show kindSP ≠ kindOP by decide

/-- The ports of a well-formed task are ports of their own (R107). -/
theorem nodup_takes {d : Desc} (h : badVector d = false) (p : Nat) : (((vecOf d).takes p).map (·.1)).Nodup := by
  have apart : (vecOf d).streamPorts.Nodup := by
    unfold badVector at h
    simp only [Bool.or_eq_false_iff, Bool.not_eq_false', decide_eq_true_eq] at h
    exact h.2
  rw [Vec.ports_takes]
  exact apart.map (fun _ _ same => (PortId.mk.inj same).2.2)

/-- A well-formed task whose operation needs Z has it (R98, R107). -/
theorem zEn_of_needsZ {d : Desc} (h : badVector d = false) (needs : needsZ (vecOf d).op = true) : (vecOf d).zEn = true := by
  cases hz : (vecOf d).zEn with
  | true => rfl
  | false => simp [badVector, needs, hz] at h

section Streams
variable {s b : Block} {x : Task} {v : Vec} (hX : v.srcX = 1) (apart : ((v.takes x.unit).map (·.1)).Nodup)
  (empty : s.intake x.ticket = Intake.empty x.ticket) (held : ∀ u ∈ v.takes x.unit, u.2.2 ≤ (portElems (s.queue u.1)).length)
  (hb : b = (s.vectorWants x v).foldl (fun b u => b.takeStream x v u) s)
include hX apart empty held hb

/-- A task that has taken nothing takes of each stream what it wants of it. -/
theorem Block.intake_streams : (b.intake x.ticket).bufs = [s.streamHead x v.xPort (v.rows * v.len),
      if v.zEn then s.streamHead x v.zPort (v.rows * v.len) else [], if v.cEn then s.streamHead x v.cPort v.cCount else []]
    ∧ (b.intake x.ticket).got = [v.rows * v.len, if v.zEn then v.rows * v.len else 0, if v.cEn then v.cCount else 0] := by
  have wants : s.vectorWants x v = v.takes x.unit := by
    unfold Block.vectorWants Vec.takes
    rw [empty, if_pos hX]
    cases v.zEn <;> cases v.cEn <;> rfl
  have enough : ∀ u ∈ v.takes x.unit, ((portElems (s.queue u.1)).take u.2.2).length = u.2.2 := fun u hu => by
    rw [List.length_take, Nat.min_eq_left (held u hu)]
  obtain ⟨bufs, got⟩ := Block.intake_takeStreams x v (v.takes x.unit) s apart (fun _ => Vec.kind_takes)
  have counted : ∀ got : List Nat, (v.takes x.unit).foldl (fun got u => got.modify u.2.1 (· + ((portElems (s.queue u.1)).take u.2.2).length)) got
      = (v.takes x.unit).foldl (fun got u => got.modify u.2.1 (· + u.2.2)) got := fun _ => List.foldl_ext _ _ _ (fun _ u hu => by rw [enough u hu])
  rw [hb, wants, bufs, got, counted, empty]
  unfold Vec.takes
  rw [if_pos hX]
  cases v.zEn <;> cases v.cEn <;> simp [Intake.empty, Block.streamHead]

/-- Nothing is left to take. -/
theorem Block.vectorWants_streams : ∀ u ∈ b.vectorWants x v, u.2.2 = 0 := by
  obtain ⟨-, got⟩ := Block.intake_streams hX apart empty held hb
  unfold Block.vectorWants Vec.takes
  rw [got, if_pos hX]
  cases v.zEn <;> cases v.cEn <;> simp [nth]

/-- Its inputs are the values of the streams by place. -/
theorem Block.values_streams :
    (nth [] (b.intake x.ticket).bufs 0).map (streamValue v.fmtX) = (List.range (v.rows * v.len)).map (s.streamAt x v.fmtX v.xPort)
    ∧ (v.zEn = true → (nth [] (b.intake x.ticket).bufs 1).map (streamValue v.fmtZ) = (List.range (v.rows * v.len)).map (s.streamAt x v.fmtZ v.zPort))
    ∧ (v.cEn = true → (nth [] (b.intake x.ticket).bufs 2).map (streamValue 7) = (List.range v.cCount).map (s.streamAt x 7 v.cPort)) := by
  obtain ⟨bufs, -⟩ := Block.intake_streams hX apart empty held hb
  have head : ∀ fmt port place n, ((⟨x.unit, kindSP, port⟩, place, n) : PortId × Nat × Nat) ∈ v.takes x.unit →
      (s.streamHead x port n).map (streamValue fmt) = (List.range n).map (s.streamAt x fmt port) :=
    fun _ _ _ _ listed => map_take_eq_map_range _ _ (held _ listed)
  rw [bufs]
  refine ⟨head _ _ 0 _ (by simp [Vec.takes, hX]), fun en => ?_, fun en => ?_⟩
  · rw [if_pos en]
    exact head _ _ 1 _ (by simp [Vec.takes, en])
  · rw [if_pos en]
    exact head _ _ 2 _ (by simp [Vec.takes, en])

end Streams

/-! ### Element by element (R98, R99) -/

/-- The elementwise commands: OP, and what becomes of element `i`. -/
def elementCommands (k : Nat) (v : Vec) (X Z C : Nat → F32) : List (Instr × Nat × (Nat → F32)) :=
  [(.axpby k, 0x01, fun i => ffma v.alpha (X i) (ffma v.beta (if v.zEn then Z i else 0) (if v.cEn then C (i % v.len) else 0))),
   (.mul k, 0x02, fun i => fmul (fmul (X i) (Z i)) v.alpha), (.act k, 0x03, fun i => actFn v.fn (fadd (X i) (if v.cEn then C (i % v.len) else 0))),
   (.actBwd k, 0x04, fun i => fmul (Z i) (actDeriv v.fn (X i))), (.cast k, 0x05, X)]

/-- The elementwise commands are VECTOR commands. -/
theorem mem_vectorCommands {k : Nat} {v : Vec} {X Z C : Nat → F32} {e : Instr × Nat × (Nat → F32)} (he : e ∈ elementCommands k v X Z C) :
    (e.1, e.2.1) ∈ vectorCommands k :=
  List.mem_of_mem_take (i := 5) (List.mem_map_of_mem (f := fun e => (e.1, e.2.1)) he)

/-- They take one element of C for each column (R98). -/
theorem cCount_elements {k : Nat} {v : Vec} {X Z C : Nat → F32} {e : Instr × Nat × (Nat → F32)} (he : e ∈ elementCommands k v X Z C)
    (op : v.op = e.2.1) (hc : v.cEn = true) : v.cCount = v.len := by
  have low : ∀ e ∈ elementCommands k v X Z C, e.2.1 ≤ 5 := by simp [elementCommands]
  have := low e he
  unfold Vec.cCount
  rw [hc, if_neg (by decide), if_neg (by omega), if_neg (by omega)]

/-- An elementwise operation makes of each place what its formula says (R99). -/
theorem Vec.compute_elements {v : Vec} {k : Nat} {X Z C : Nat → F32} {e : Instr × Nat × (Nat → F32)} (he : e ∈ elementCommands k v X Z C)
    (op : v.op = e.2.1) {z c : List F32} (needs : needsZ v.op = true → v.zEn = true)
    (hz : v.zEn = true → z = (List.range (v.rows * v.len)).map Z) (hc : v.cEn = true → c = (List.range v.len).map C) (targets : List Nat) :
    (v.compute ((List.range (v.rows * v.len)).map X) z c targets).y = (List.range (v.rows * v.len)).map e.2.2
    ∧ (v.compute ((List.range (v.rows * v.len)).map X) z c targets).fault = false := by
  have zAt : ∀ i < v.rows * v.len, (if v.zEn then nth 0 z i else 0) = if v.zEn then Z i else 0 := fun i hi => by
    split
    · rename_i en
      rw [hz en, nth_map_range _ _ hi]
    · rfl
  have cAt : ∀ i < v.rows * v.len, (if v.cEn then nth 0 c (i % v.len) else 0) = if v.cEn then C (i % v.len) else 0 := fun i hi => by
    split
    · rename_i en
      have row : 0 < v.len := Nat.pos_of_ne_zero (fun none => by simp [none] at hi)
      rw [hc en, nth_map_range _ _ (Nat.mod_lt _ row)]
    · rfl
  simp only [elementCommands, List.mem_cons, List.not_mem_nil, or_false] at he
  unfold Vec.compute
  rcases he with rfl | rfl | rfl | rfl | rfl
  · have op : v.op = 0x01 := op
    rw [op]
    refine ⟨(map_zipIdx_map_range ..).trans (List.map_congr_left (fun i hi => ?_)), rfl⟩
    rw [List.mem_range] at hi
    dsimp only
    rw [zAt i hi, cAt i hi]
  · have op : v.op = 0x02 := op
    rw [op] at needs ⊢
    rw [hz (needs rfl), List.zip_map']
    exact ⟨List.map_map .., rfl⟩
  · have op : v.op = 0x03 := op
    rw [op]
    refine ⟨(map_zipIdx_map_range ..).trans (List.map_congr_left (fun i hi => ?_)), rfl⟩
    rw [List.mem_range] at hi
    dsimp only
    rw [cAt i hi]
  · have op : v.op = 0x04 := op
    rw [op] at needs ⊢
    rw [hz (needs rfl), List.zip_map']
    exact ⟨List.map_map .., rfl⟩
  · have op : v.op = 0x05 := op
    rw [op]
    exact ⟨rfl, rfl⟩

/-- Of FP32 results the words leave, in order (R75). -/
theorem Vec.outElems_fp32 {v : Vec} (hf : v.outFmt = 7) (key : RoundKey) (width : Nat) (y : List F32) :
    (v.outElems key width y).1 = y.map (fun f => ⟨(narrow 7 f).1, 127, false⟩) := by
  have elem : ∀ e f, (v.outElem key e f).1 = (narrow 7 f).1 := fun e f => by
    unfold Vec.outElem
    rw [hf]
    simp
  unfold Vec.outElems
  rw [hf, if_neg (by decide)]
  simp only [List.map_map]
  refine List.ext_getElem (by simp) (fun i _ _ => ?_)
  simp [elem]

theorem Vec.outFmt_fp32 {v : Vec} (h : v.fmtY = 7) : v.outFmt = 7 := by
  unfold Vec.outFmt
  split
  · rfl
  · exact h

/-- A task that has taken nothing and whose streams hold its inputs offers the elementwise results. -/
theorem Block.vectorRun_elements {s : Block} {x : Task} {v : Vec} {X Z C : Nat → F32} {e : Instr × Nat × (Nat → F32)}
    (he : e ∈ elementCommands x.ticket v X Z C) (hv : v = vecOf x.desc) (good : badVector x.desc = false) (op : v.op = e.2.1) (hX : v.srcX = 1)
    (empty : s.intake x.ticket = Intake.empty x.ticket) (fine : s.vectorFault x v = none)
    (held : ∀ u ∈ v.takes x.unit, u.2.2 ≤ (portElems (s.queue u.1)).length)
    (atX : X = s.streamAt x v.fmtX v.xPort) (atZ : Z = s.streamAt x v.fmtZ v.zPort) (atC : C = s.streamAt x 7 v.cPort) :
    ∃ c o, VectorStep x.ticket s c ∧ s.vectorRun x = (c.vectorOut x v o).bumpFree Od.wvuBusyCycles (x.unit + 1)
      ∧ o.y = (List.range (v.rows * v.len)).map e.2.2 := by
  have apart := nodup_takes good x.unit
  have needs := fun n => zEn_of_needsZ good n
  rw [← hv] at apart needs
  generalize hb : (s.vectorWants x v).foldl (fun b u => b.takeStream x v u) s = b
  have all := Block.vectorWants_streams hX apart empty held hb.symm
  obtain ⟨valX, valZ, valC⟩ := Block.values_streams hX apart empty held hb.symm
  have xs : b.xValues x v = some ((nth [] (b.intake x.ticket).bufs 0).map (fun e => (streamValue v.fmtX e, false))) := if_pos hX
  have firsts : ((nth [] (b.intake x.ticket).bufs 0).map (fun e => (streamValue v.fmtX e, false))).map (·.1) = (List.range (v.rows * v.len)).map X := by
    rw [List.map_map, atX, ← valX]
    rfl
  obtain ⟨y, sound⟩ := Vec.compute_elements he op needs (fun en => atZ ▸ valZ en) (fun en => atC ▸ cCount_elements he op en ▸ valC en)
    ((nth [] (b.intake x.ticket).bufs 2).map (·.v))
  rw [← firsts] at y sound
  have own : s = if v.srcX = 0 then s.gather x v else s := (if_neg (by omega)).symm
  obtain ⟨c, tested, run⟩ := Block.vectorRun_offers hv own hb.symm fine all xs rfl sound
  exact ⟨c, _, tested, run, y⟩

/-- Settles O27: the streams give the task X, Z and C by place, its operation makes of them what its formula says, and the words leave. -/
theorem elementResults : Obligations.ElementResults := by
  unfold Obligations.ElementResults
  intro s k x v X Z C e he hx hv good hop hs hX hY empty fine held atX atZ atC
  have ticket := Block.task?_ticket (Block.starting_eq_some hx).1
  subst ticket
  obtain ⟨c, o, tested, run, y⟩ := Block.vectorRun_elements he hv good hop hX empty fine held atX atZ atC
  have words : (s.toBlock.vectorY x v o).1 = (List.range (v.rows * v.len)).map (fun i => ⟨(narrow 7 (e.2.2 i)).1, 127, false⟩) := by
    rw [Block.vectorY, Vec.outElems_fp32 (Vec.outFmt_fp32 hY), y, List.map_map]
    rfl
  refine goes_vectorRun (mem_vectorCommands he) hx (hv ▸ hop) hs run
    ⟨⟨x.unit, v.yPort, x.ticket, (s.toBlock.vectorY x v o).1⟩, ?_, rfl, rfl, rfl, by simp [words], fun i hi => ?_⟩
  · rw [settle_plz, Block.bumpFree_plz, tested.outs_vectorOut]
    exact List.mem_append_right _ (List.mem_cons_self ..)
  · dsimp only
    rw [words, nth_map_range _ _ hi]

end Sys2Proof.Machine
end

section
/-! PROOFS. Fences: tasks that the Dispatcher runs itself, and what they leave as it was (R123, R125, R265). -/

namespace Sys2Proof.Machine

/-! ### Widths of entries -/

/-- An entry is as wide as the rows of its index say, at every subindex (R526). -/
theorem odWidth_pos {i : Nat} (rows : ∀ e ∈ odTable, e.idx = i → 0 < e.ty.width) (k : Nat) : 0 < odWidth i k := by
  unfold odWidth
  cases found : odFind i k with
  | none => decide
  | some e =>
    have here := List.find?_some found
    simp only [Bool.and_eq_true, beq_iff_eq] at here
    exact rows e (List.mem_of_find?_eq_some found) here.1.1

/-- CTX_STEP_PHASE holds a 1. -/
theorem wrap_ctxStepPhase (k : Nat) : wrap (odWidth Od.ctxStepPhase k) 1 = 1 :=
  Nat.one_mod_two_pow (odWidth_pos (by decide +kernel) k)

/-! ### Tasks that the Dispatcher runs -/

theorem Block.task?_of_tasks {b c : Block} (h : c.disp.tasks = b.disp.tasks) (k : Nat) : c.task? k = b.task? k := by
  unfold Block.task?
  rw [h]

theorem endedWith_of_tasks {b c : Block} (h : c.disp.tasks = b.disp.tasks) {k st u : Nat} (e : EndedWith b k st u) : EndedWith c k st u := by
  unfold EndedWith at *
  rwa [Block.task?_of_tasks h]

/-- Noting which heads are ready moves no task (R260, R264). -/
@[simp] theorem Block.noteReady_tasks (b : Block) : b.noteReady.disp.tasks = b.disp.tasks := rfl
@[simp] theorem Block.noteReady_od (b : Block) : b.noteReady.od = b.od := rfl

section Commands
variable {s : State} {k op : Nat} {x : Task} {ok : Task → Bool} {f : Task → Block → Block} (hx : s.toBlock.starting k op = some x)
include hx

/-- A Dispatcher command runs the task that it admits. -/
theorem goes_dispCmd {P : State → Prop} (admits : ok x = true) (hs : s.gov.shed = false) (hp : P { s with toBlock := settle (f x s.toBlock) }) :
    Goes (.next (s.run (fun b => b.dispCmd k op ok f))) P := by
  refine goes_run_eq ?_ hp
  unfold Block.dispCmd
  simp only [hx]
  exact if_pos (by simp [admits, hs])

/-- A task that is to wait leaves the block alone, admitted or not. -/
theorem goes_dispCmd_waits (waits : f x s.toBlock = s.toBlock) :
    Goes (.next (s.run (fun b => b.dispCmd k op ok f))) fun t => t.toBlock = settle s.toBlock := by
  refine goes_run_eq (c := s.toBlock) ?_ rfl
  unfold Block.dispCmd
  simp only [hx]
  rw [waits, ite_self]

/-- The task of a Dispatcher command ends OK, and the block with its end settled keeps its entries and tokens. -/
theorem Block.endTask_starting_ends : EndedWith (settle (s.toBlock.endTask k sOK 0)) k sOK 0 ∧ (settle (s.toBlock.endTask k sOK 0)).disp.tokens = s.disp.tokens
    ∧ RegsKept [] s.toBlock (settle (s.toBlock.endTask k sOK 0)) := by
  obtain ⟨task, running, -⟩ := Block.starting_eq_some hx
  exact ⟨endedWith_of_disp (settle_disp _) (endedWith_endTask task running _ _), rfl, RegsKept.of_od rfl⟩

end Commands

theorem fenceIs_of {x : Task} {scope : Nat} (pass : passOf x.desc = passNone) (hs : fenceScope x.desc = scope) : fenceIs scope x = true := by
  simp [fenceIs, pass, hs]

/-! ### The clauses of O21, one for each fence -/

section Fences
variable (s : State) (k : Nat) (x : Task) (hx : s.toBlock.starting k opFence = some x)
include hx

/-- Scope TOKENS ends at once (R265). -/
theorem fenceTokens_goes (pass : passOf x.desc = passNone) (scope : fenceScope x.desc = 0) (hs : s.gov.shed = false) :
    Goes (exec (.fenceTokens k) s) fun t => EndedWith t.toBlock k sOK 0 ∧ t.disp.tokens = s.disp.tokens ∧ RegsKept [] s.toBlock t.toBlock :=
  goes_dispCmd hx (fenceIs_of pass scope) hs (Block.endTask_starting_ends hx)

/-- Scope RING ends once no task of its ring stands before it (R265). -/
theorem fenceRing_goes (pass : passOf x.desc = passNone) (scope : fenceScope x.desc = 1) (hs : s.gov.shed = false)
    (first : s.toBlock.earlierDone x = true) :
    Goes (exec (.fenceRing k) s) fun t => EndedWith t.toBlock k sOK 0 ∧ RegsKept [] s.toBlock t.toBlock := by
  obtain ⟨ended, -, regs⟩ := Block.endTask_starting_ends hx
  refine goes_dispCmd hx (fenceIs_of pass scope) hs ?_
  rw [if_pos first]
  exact ⟨ended, regs⟩

theorem fenceRing_waits (behind : s.toBlock.earlierDone x = false) : Goes (exec (.fenceRing k) s) fun t => t.toBlock = settle s.toBlock :=
  goes_dispCmd_waits hx (if_neg (by simp [behind]))

/-- Scope CONTEXT ends once no ticket that it waits for is held (R265). -/
theorem fenceContext_goes (pass : passOf x.desc = passNone) (scope : fenceScope x.desc = 2) (hs : s.gov.shed = false)
    (free : ∀ w ∈ x.waits, s.toBlock.task? w = none) :
    Goes (exec (.fenceContext k) s) fun t => EndedWith t.toBlock k sOK 0 ∧ RegsKept [] s.toBlock t.toBlock := by
  obtain ⟨ended, -, regs⟩ := Block.endTask_starting_ends hx
  refine goes_dispCmd hx (fenceIs_of pass scope) hs ?_
  rw [if_neg (by simpa using free)]
  exact ⟨ended, regs⟩

theorem fenceContext_waits (held : ∃ w ∈ x.waits, s.toBlock.task? w ≠ none) :
    Goes (exec (.fenceContext k) s) fun t => t.toBlock = settle s.toBlock :=
  goes_dispCmd_waits hx (if_pos (by simpa [Option.isSome_iff_ne_none] using held))

/-- The first fence of a step makes the turn once its count of forward tasks is reached (R123, R125). -/
theorem turnFence_goes (pass : passOf x.desc = passBwd) (hs : s.gov.shed = false) (first : ∃ y ∈ s.disp.turns, y.2.2 = k)
    (count : fwdCountOf x.desc ≤ s.reg Od.ctxFwdDone (x.ctx + 1)) :
    Goes (exec (.turnFence k) s) fun t => EndedWith t.toBlock k sOK 0 ∧ t.reg Od.ctxStepPhase (x.ctx + 1) = 1
      ∧ RegsKept [odKey Od.ctxStepPhase (x.ctx + 1)] s.toBlock t.toBlock := by
  obtain ⟨ended, -, -⟩ := Block.endTask_starting_ends hx
  refine goes_dispCmd hx (by simp [pass]) hs ?_
  rw [if_pos (by simpa using first), if_pos count]
  refine ⟨endedWith_of_tasks rfl ended, ?_, RegsKept.setReg (s.toBlock.endTask k sOK 0) _ _ _ (List.mem_singleton.mpr rfl)⟩
  exact (Block.reg_setReg_self (s.toBlock.endTask k sOK 0) ..).trans (wrap_ctxStepPhase _)

theorem turnFence_waits (first : ∃ y ∈ s.disp.turns, y.2.2 = k) (count : s.reg Od.ctxFwdDone (x.ctx + 1) < fwdCountOf x.desc) :
    Goes (exec (.turnFence k) s) fun t => t.toBlock = settle s.toBlock := by
  refine goes_dispCmd_waits hx ?_
  rw [if_pos (by simpa using first), if_neg (Nat.not_le.mpr count)]

/-- A later fence of the step ends at once, with event 0x8322 (R125). -/
theorem turnFence_late_goes (pass : passOf x.desc = passBwd) (hs : s.gov.shed = false) (late : ∀ y ∈ s.disp.turns, y.2.2 ≠ k) :
    Goes (exec (.turnFence k) s) fun t => EndedWith t.toBlock k sOK 0 ∧ LastEvent t.toBlock 0x8322 x.ctx []
      ∧ RegsKept [odKey Od.eventNextSeq 0] s.toBlock t.toBlock := by
  obtain ⟨ended, -, -⟩ := Block.endTask_starting_ends hx
  refine goes_dispCmd hx (by simp [pass]) hs ?_
  rw [if_neg (by simpa only [List.any_eq_true, beq_iff_eq, not_exists, not_and] using late)]
  exact ⟨endedWith_of_disp ((settle_disp _).trans (Block.raise_disp ..)) ended, lastEvent_of_log rfl rfl (lastEvent_raise ..),
    RegsKept.raise (s.toBlock.endTask k sOK 0) _ _ _ (List.mem_singleton.mpr rfl)⟩

end Fences

/-- Settles O21, fence by fence. -/
theorem fences : Obligations.Fences := by
  unfold Obligations.Fences
  exact ⟨fenceTokens_goes, fenceRing_goes, fenceRing_waits, fenceContext_goes, fenceContext_waits, turnFence_goes, turnFence_waits,
    turnFence_late_goes⟩

end Sys2Proof.Machine
end

section
/-! PROOFS. UPDATE under its decision: what a skip, a hold and a block outside its region leave as they were (R136, R351, R362, R364, R365, R369). -/

namespace Sys2Proof.Machine

/-! ### Waiting for the memories (R154, R171, R177) -/

/-- `c` differs from `b` in number entries and drawn values only. -/
def DrawOnly (b c : Block) : Prop := c = { b with od := c.od, freeCount := c.freeCount }

namespace DrawOnly
variable {b c d : Block}

theorem trans (h : DrawOnly b c) (k : DrawOnly c d) : DrawOnly b d := by unfold DrawOnly at *; rw [k, h]

theorem disp (h : DrawOnly b c) : c.disp = b.disp := by rw [h]
theorem mem (h : DrawOnly b c) : c.mem = b.mem := by rw [h]
theorem slow (h : DrawOnly b c) : c.slow = b.slow := by rw [h]

theorem foldl {α : Type} {f : Block → α → Block} (h : ∀ b x, DrawOnly b (f b x)) (l : List α) (b : Block) : DrawOnly b (l.foldl f b) :=
  foldl_has (DrawOnly b) (fun _ x k => k.trans (h _ x)) l rfl

theorem contention (b now was : Block) : DrawOnly b (b.contention now was) := by
  unfold Block.contention
  dsimp only
  refine trans (foldl (fun c k => ?_) _ b) (foldl (fun c k => ?_) _ _)
  all_goals split <;> rfl

/-- A command that waits for memories does what it does without waiting, and counts. -/
theorem contended {b c : Block} {f : Block → Block} (h : f b = c) : DrawOnly c (b.contended f) := h ▸ contention ..

end DrawOnly

/-- Nothing waits where no counter of bytes has moved. -/
theorem Block.contention_self (b c : Block) : b.contention c c = b := by
  unfold Block.contention Block.moved
  simp only [bne_self_eq_false, Bool.or_self, Bool.false_eq_true, if_false]
  rw [List.foldl_fixed, List.foldl_fixed]

theorem Block.contended_of_eq {b : Block} {f : Block → Block} (h : f b = b) : b.contended f = b := by
  unfold Block.contended
  rw [h]
  exact Block.contention_self ..

/-! ### The stage list (R351, R384, R386) -/

theorem Block.inRegion_of_odb {b c : Block} (h : c.odb = b.odb) (ctx off n : Nat) : c.inRegion ctx off n = b.inRegion ctx off n := by
  unfold Block.inRegion Block.region
  rw [Block.oct_eq_of_odb h]

theorem Block.stageOut_of_odb {b c : Block} (h : c.odb = b.odb) (x : Task) : c.stageOut x = b.stageOut x := by
  unfold Block.stageOut
  rw [Block.inRegion_of_odb h]

/-- `c` differs from `b` in number entries, the slow tier and what Hazel holds only. -/
def SlowOnly (b c : Block) : Prop := c = { b with od := c.od, slow := c.slow, hazel := c.hazel }

namespace SlowOnly
variable {a b c : Block}

theorem trans (h : SlowOnly a b) (k : SlowOnly b c) : SlowOnly a c := by unfold SlowOnly at *; rw [k, h]

theorem disp (h : SlowOnly b c) : c.disp = b.disp := by rw [h]
theorem mem (h : SlowOnly b c) : c.mem = b.mem := by rw [h]
theorem odb (h : SlowOnly b c) : c.odb = b.odb := by rw [h]

theorem slowWrite (b : Block) (at_ : Nat) (v : List Byte) : SlowOnly b (b.slowWrite at_ v) := by
  unfold Block.slowWrite
  dsimp only
  split <;> rfl

end SlowOnly

/-- A write to the slow tier counts its bytes (R388). -/
theorem RegsKept.slowWrite (b : Block) (a : Nat) (v : List Byte) : RegsKept [odKey Od.slowWriteBytes 0] b (b.slowWrite a v) := by
  have counted : RegsKept [odKey Od.slowWriteBytes 0] b (b.bump Od.slowWriteBytes 0 v.length) := RegsKept.setReg _ _ _ _ (List.mem_singleton.mpr rfl)
  unfold Block.slowWrite
  dsimp only
  split
  · exact counted
  · exact counted.trans (RegsKept.of_od rfl)

-- `requeueRoot` and `commitUpdate` match on a header that they read. Their bodies are put in for the function itself (`generalize`, `delta`,
-- `subst`), and the header is rewritten at once: `unfold` compares an application with its body, for which the kernel evaluates the header
-- and runs out of depth.

/-- No root is pending of a block that the region does not hold. -/
theorem Block.requeueRoot_of_header_none {b : Block} {x : Task} (h : b.header x.ctx (updState x.desc) = none) : b.requeueRoot x = b := by
  generalize hf : Block.requeueRoot = f
  delta Block.requeueRoot at hf
  subst hf
  simp only [h]

/-- Queueing a cancelled root computation changes Hazel's queue alone (R373). -/
theorem Block.requeueRoot_eq (b : Block) (x : Task) : ∃ z, b.requeueRoot x = { b with hazel := z } := by
  cases hh : b.header x.ctx (updState x.desc) with
  | none => exact ⟨_, Block.requeueRoot_of_header_none hh⟩
  | some r =>
    obtain ⟨h, poison⟩ := r
    generalize hf : Block.requeueRoot = f
    delta Block.requeueRoot at hf
    subst hf
    cases poison with
    | true => simp only [hh]; exact ⟨_, rfl⟩
    | false =>
      simp only [hh]
      split <;> exact ⟨_, rfl⟩

theorem SlowOnly.requeueRoot (b : Block) (x : Task) : SlowOnly b (b.requeueRoot x) := by
  obtain ⟨z, hz⟩ := b.requeueRoot_eq x
  rw [hz]
  rfl

/-- The block under a skip before the token: the stage list of kind ROWS is emptied where the region holds it (R351, R384). -/
def Block.emptied (b : Block) (x : Task) : Block :=
  if updKind x.desc = 0 then b.requeueRoot x else (b.requeueRoot x).clearStage x.ctx (updStage x.desc)

theorem SlowOnly.emptied (b : Block) (x : Task) : SlowOnly b (b.emptied x) := by
  have queued := SlowOnly.requeueRoot b x
  unfold Block.emptied Block.clearStage
  split
  · exact queued
  · split
    · exact queued.trans (SlowOnly.slowWrite ..)
    · exact queued

theorem Block.emptied_slow {b : Block} {x : Task} (dense : updKind x.desc = 0) : (b.emptied x).slow = b.slow := by
  obtain ⟨z, hz⟩ := b.requeueRoot_eq x
  rw [Block.emptied, if_pos dense, hz]

theorem RegsKept.emptied (b : Block) (x : Task) : RegsKept [odKey Od.slowWriteBytes 0] b (b.emptied x) := by
  obtain ⟨z, hz⟩ := b.requeueRoot_eq x
  have queued : RegsKept [odKey Od.slowWriteBytes 0] b (b.requeueRoot x) := RegsKept.of_od (by rw [hz])
  unfold Block.emptied Block.clearStage
  split
  · exact queued
  · split
    · exact queued.trans (RegsKept.slowWrite _ _ _)
    · exact queued

theorem Block.moduleToken_emptied (b : Block) (x : Task) (c n : Nat) : (b.emptied x).moduleToken c n = b.moduleToken c n := by
  unfold Block.moduleToken
  rw [RegsKept.emptied b x _ _ (by simpa using odKey_ne (by decide) (by decide) (by decide) (c + 1) 0)]

/-! ### The token of an UPDATE (R257) and its end (R378) -/

/-- `c` differs from `b` in tasks and tokens only. -/
def TaskOnly (b c : Block) : Prop := c = { b with disp := { b.disp with tasks := c.disp.tasks, tokens := c.disp.tokens } }

theorem TaskOnly.mem {b c : Block} (h : TaskOnly b c) : c.mem = b.mem := by rw [h]
theorem TaskOnly.slow {b c : Block} (h : TaskOnly b c) : c.slow = b.slow := by rw [h]

theorem TaskOnly.trans {a b c : Block} (h : TaskOnly a b) (k : TaskOnly b c) : TaskOnly a c := by
  unfold TaskOnly at *; rw [k, h]

theorem TaskOnly.signal (b : Block) (c t n : Nat) : TaskOnly b (b.signal c t n) := by
  unfold Block.signal
  split <;> rfl

theorem TaskOnly.signalUpdate (b : Block) (k : Nat) : TaskOnly b (b.signalUpdate k) := by
  unfold Block.signalUpdate
  split
  · split
    · rfl
    · exact TaskOnly.trans (b := b.setTask k (fun y => { y with signalled := true })) rfl (TaskOnly.signal ..)
  · rfl

theorem TaskOnly.endUpdate (b : Block) (x : Task) (st : Nat) (o : UpdOut) (late : Bool) : TaskOnly b (b.endUpdate x st o late) := by
  cases late <;> rfl

@[simp] theorem Block.endUpdate_tokens (b : Block) (x : Task) (st : Nat) (o : UpdOut) (late : Bool) :
    (b.endUpdate x st o late).disp.tokens = b.disp.tokens := by
  cases late <;> rfl

/-- Tokens move no task. -/
@[simp] theorem Block.signal_tasks (b : Block) (c t n : Nat) : (b.signal c t n).disp.tasks = b.disp.tasks := by
  unfold Block.signal
  split <;> rfl

theorem Block.token_signal_self (b : Block) {c t : Nat} (ht : t ≠ 0) (n : Nat) :
    (b.signal c t n).token (b.moduleToken c t) = wrap 32 (b.token (b.moduleToken c t) + n) := by
  unfold Block.signal
  rw [if_neg ht]
  exact sget_sset_self ..

section Task
variable {b : Block} {x : Task} (hx : b.task? x.ticket = some x)
include hx

/-- An UPDATE that has not signalled adds one to its token. -/
theorem Block.token_signalUpdate (fresh : x.signalled = false) (sig : sigOf x.desc ≠ 0) :
    (b.signalUpdate x.ticket).token (b.moduleToken x.ctx (sigOf x.desc)) = wrap 32 (b.token (b.moduleToken x.ctx (sigOf x.desc)) + 1) := by
  unfold Block.signalUpdate
  simp only [hx]
  rw [if_neg (by simp [fresh])]
  exact Block.token_signal_self (b.setTask x.ticket _) sig 1

/-- An UPDATE that signals runs on. -/
theorem Block.task?_signalUpdate (hp : x.phase = .running) :
    ∃ y, (b.signalUpdate x.ticket).task? x.ticket = some y ∧ y.phase = .running := by
  unfold Block.signalUpdate
  simp only [hx]
  split
  · exact ⟨x, hx, hp⟩
  · have marked := b.task?_setTask x.ticket x.ticket (f := fun y => { y with signalled := true }) (fun _ => rfl)
    rw [if_pos rfl, hx] at marked
    exact ⟨{ x with signalled := true }, (Block.task?_of_tasks (Block.signal_tasks ..) _).trans marked, hp⟩

end Task

theorem endedWith_endUpdate {b : Block} {x y : Task} (h : b.task? x.ticket = some y) (hy : y.phase = .running) (st : Nat) (o : UpdOut) (late : Bool) :
    EndedWith (b.endUpdate x st o late) x.ticket st o.num := by
  cases late
  · exact endedWith_endTask h hy st o.num
  · have noted := b.task?_setTask x.ticket x.ticket (f := fun y => { y with stage := 2 }) (fun _ => rfl)
    rw [if_pos rfl, h] at noted
    exact endedWith_endTask (b := b.setTask x.ticket _) (x := { y with stage := 2 }) noted hy st o.num

/-- What an UPDATE leaves when it ends, with the waiting for memories counted. -/
theorem DrawOnly.endUpdate {b c : Block} {x y : Task} (h : b.task? x.ticket = some y) (hy : y.phase = .running) {st : Nat} {o : UpdOut} {late : Bool}
    (drawn : DrawOnly (b.endUpdate x st o late) c) :
    (∃ u, EndedWith c x.ticket st u) ∧ c.mem = b.mem ∧ c.slow = b.slow ∧ c.disp.tokens = b.disp.tokens :=
  ⟨⟨_, endedWith_of_disp drawn.disp (endedWith_endUpdate h hy st o late)⟩, drawn.mem.trans (TaskOnly.endUpdate ..).mem,
    drawn.slow.trans (TaskOnly.endUpdate ..).slow, (congrArg Disp.tokens drawn.disp).trans (Block.endUpdate_tokens ..)⟩

/-! ### What an UPDATE does with its decision (R360, R364, R365) -/

/-- The decisions under which an UPDATE leaves its weights, with its status (R142, R365, R404). -/
def skipCodes : List (Nat × Nat) := [(decNonfinite, sNonfiniteSkip), (decDispute, sShadowDispute), (decDiscard, sStepSkew)]

/-- A skip empties the stage list, signals, and ends the UPDATE. -/
theorem Block.runUpdate_skips (b : Block) (x : Task) {d : DecisionRec} {c : Nat × Nat} (hc : c ∈ skipCodes) (hd : d.code = c.1) :
    ∃ o, b.runUpdate x d = ((b.emptied x).signalUpdate x.ticket).endUpdate x (if b.stageOut x then sAddrFault else c.2) o false := by
  have ends : ∀ o₁ o₂, ∃ o, (if (b.emptied x).stageOut x then ((b.emptied x).signalUpdate x.ticket).endUpdate x sAddrFault o₁ false
      else ((b.emptied x).signalUpdate x.ticket).endUpdate x c.2 o₂ false)
      = ((b.emptied x).signalUpdate x.ticket).endUpdate x (if b.stageOut x then sAddrFault else c.2) o false := by
    intro o₁ o₂
    rw [Block.stageOut_of_odb (SlowOnly.emptied b x).odb]
    split <;> exact ⟨_, rfl⟩
  unfold Block.runUpdate
  dsimp only
  rw [hd]
  simp only [skipCodes, List.mem_cons, List.not_mem_nil, or_false] at hc
  rcases hc with rfl | rfl | rfl
  · rw [if_pos rfl]
    exact ends _ _
  · rw [if_neg (by decide), if_pos rfl]
    exact ends _ _
  · rw [if_neg (by decide), if_neg (by decide), if_pos rfl]
    exact ends _ _

/-- A hold ends the UPDATE STEP_SKEW. -/
theorem Block.runUpdate_holds (b : Block) (x : Task) {d : DecisionRec} (hd : d.code = decHold) :
    ∃ o, b.runUpdate x d = (b.requeueRoot x).endUpdate x sStepSkew o false := by
  unfold Block.runUpdate
  simp only [hd]
  exact ⟨_, rfl⟩

/-- A commit into a block that the region does not hold ends the UPDATE ADDR_FAULT. -/
theorem Block.runUpdate_outside {b : Block} {x : Task} {d : DecisionRec} (hd : d.code = decCommit ∨ d.code = decAdopted)
    (h : b.header x.ctx (updState x.desc) = none) : ∃ o, b.runUpdate x d = b.endUpdate x sAddrFault o true := by
  have commits : b.runUpdate x d = b.commitUpdate x d := by
    unfold Block.runUpdate
    dsimp only
    rw [Block.requeueRoot_of_header_none h]
    rcases hd with hd | hd
    all_goals rw [hd, if_neg (by decide), if_neg (by decide), if_neg (by decide), if_neg (by decide)]
  rw [commits]
  generalize hf : Block.commitUpdate = f
  delta Block.commitUpdate at hf
  subst hf
  simp only [h]
  exact ⟨_, rfl⟩

/-! ### The two kinds of UPDATE -/

/-- The two UPDATE commands with their kinds. -/
def updateCommands (k : Nat) : List (Instr × Nat) := [(.updateDense k, 0), (.updateRows k, 1)]

theorem exec_updateCommand {k : Nat} {e : Instr × Nat} (he : e ∈ updateCommands k) (s : State) : exec e.1 s = .next (s.run (xUpdate e.2 k)) := by
  rcases List.mem_pair.mp he with rfl | rfl <;> rfl

/-- An UPDATE command whose task has its kind, comes first and has its decision applies it. -/
theorem goes_runUpdate {s : State} {k : Nat} {x : Task} {d : DecisionRec} {e : Instr × Nat} {P : State → Prop} (he : e ∈ updateCommands k)
    (hx : s.toBlock.starting k opUpdate = some x) (kind : updKind x.desc = e.2) (runs : s.toBlock.hazelRuns = true) (hs : s.gov.shed = false)
    (first : s.toBlock.firstUpdate x = true) (hd : decisionOf x.decided = some d)
    (hp : ∀ c, DrawOnly (s.toBlock.runUpdate x d) c → P { s with toBlock := settle c }) : Goes (exec e.1 s) P := by
  rw [exec_updateCommand he]
  refine goes_run_eq rfl (hp _ (DrawOnly.contended ?_))
  simp only [hx, hd]
  exact if_neg (by simp [kind, runs, hs, first])

/-- An UPDATE without a decision waits for it (R362). -/
theorem goes_update_waits {s : State} {k : Nat} {x : Task} {e : Instr × Nat} (he : e ∈ updateCommands k)
    (hx : s.toBlock.starting k opUpdate = some x) (hd : decisionOf x.decided = none) :
    Goes (exec e.1 s) fun t => t.toBlock = settle s.toBlock := by
  rw [exec_updateCommand he]
  refine goes_run_eq (Block.contended_of_eq ?_) rfl
  simp only [hx, hd, ite_self]

/-- Settles O33: what each decision does is one equation for the run, and the end, the token and the memories are read off it. -/
theorem updateDecisions : Obligations.UpdateDecisions := by
  unfold Obligations.UpdateDecisions
  refine ⟨fun s k x d e he hx kind runs hs first decided => ?_, fun s k x e he hx undecided => ?_⟩
  · obtain ⟨task, running, -⟩ := Block.starting_eq_some hx
    have ticket := Block.task?_ticket task
    subst ticket
    refine ⟨fun c hc code => goes_runUpdate he hx kind runs hs first decided fun t drawn => ?_,
      fun code => goes_runUpdate he hx kind runs hs first decided fun t drawn => ?_,
      fun code outside => goes_runUpdate he hx kind runs hs first decided fun t drawn => ?_⟩
    · obtain ⟨o, run⟩ := s.toBlock.runUpdate_skips x hc code
      rw [run] at drawn
      have cleared := SlowOnly.emptied s.toBlock x
      have here : (s.toBlock.emptied x).task? x.ticket = some x := (Block.task?_of_disp cleared.disp _).trans task
      obtain ⟨y, still, unended⟩ := Block.task?_signalUpdate here running
      obtain ⟨ended, mem, slow, tokens⟩ := drawn.endUpdate still unended
      have step := TaskOnly.signalUpdate (s.toBlock.emptied x) x.ticket
      refine ⟨ended, mem.trans (step.mem.trans cleared.mem),
        fun dense => slow.trans (step.slow.trans (Block.emptied_slow (kind.trans dense))), fun fresh sig => ?_⟩
      have signalled := Block.token_signalUpdate here fresh sig
      rw [Block.moduleToken_emptied] at signalled
      unfold Block.token at *
      rw [settle_disp, tokens, signalled, cleared.disp]
    · obtain ⟨o, run⟩ := s.toBlock.runUpdate_holds x code
      obtain ⟨z, queued⟩ := s.toBlock.requeueRoot_eq x
      rw [run, queued] at drawn
      exact drawn.endUpdate (b := { s.toBlock with hazel := z }) task running
    · obtain ⟨o, run⟩ := Block.runUpdate_outside code outside
      rw [run] at drawn
      exact drawn.endUpdate task running
  · rcases List.mem_pair.mp he with rfl | rfl
    · exact goes_update_waits (e := (.updateDense k, 0)) (List.mem_cons_self ..) hx undecided
    · exact goes_update_waits (e := (.updateRows k, 1)) (List.mem_cons_of_mem _ (List.mem_cons_self ..)) hx undecided

end Sys2Proof.Machine
end

section
/-! PROOFS. Scrubbing: what a memory makes of a word it reads, and what that leaves as it was (R173, R349, R391 to R393). -/

namespace Sys2Proof.Machine

/-! ### Bytes and numbers (R9) -/

theorem length_leBytes (n x : Nat) : (leBytes n x).length = n := by
  induction n generalizing x with
  | zero => rfl
  | succ n ih => simp [leBytes, ih]

theorem leBytes_ofLE (l : List Byte) : leBytes l.length (ofLE l) = l := by
  induction l with
  | nil => rfl
  | cons v r ih =>
    have low : BitVec.ofNat 8 (v.toNat + 256 * ofLE r) = v := by
      apply BitVec.eq_of_toNat_eq
      rw [BitVec.toNat_ofNat]
      omega
    have rest : (v.toNat + 256 * ofLE r) / 256 = ofLE r := by omega
    rw [List.length_cons, ofLE, leBytes, low, rest, ih]

/-! ### The code on words without an upset (R390, R391) -/

theorem decodeWord_checkBits (d : Nat) : decodeWord d (checkBits d) = .clean d := by
  have weight : weight8 255 = 8 := by decide +kernel
  have column : dataColumns.findIdx? (· == 255) = none := by decide +kernel
  simp [decodeWord, decodeWord.decodeRest, weight, column]

theorem decodeWord_poisonWord : decodeWord poisonWord (checkBits poisonWord ^^^ 0xFF) = .poison false := by decide +kernel

/-! ### Poison -/

theorem Mem.poisoned_poisonAt (m : Mem) (w y : Nat) : (m.poisonAt w).poisoned y = if y = w then true else m.poisoned y := by
  rw [← Mem.poisoned_setPoison]
  exact List.foldlRecOn (motive := fun c : Mem => c.poisoned y = (m.setPoison w true).poisoned y) _ _ rfl (fun _ h _ _ => h)

theorem Mem.byte_poisonAt_ne (m : Mem) {w x : Nat} (h : x / 8 ≠ w) : (m.poisonAt w).byte x = m.byte x := by
  refine List.foldlRecOn (motive := fun c : Mem => c.byte x = m.byte x) _ _ (m.byte_setPoison_ne w true h) (fun c ih i hi => ?_)
  rw [Mem.byte_setByte, if_neg, ih]
  have := List.mem_range.mp hi
  omega

/-- Marking a word that is poisoned changes no byte: all its bytes are those of P. -/
theorem Mem.byte_poisonAt_of_poisoned {m : Mem} {w : Nat} (h : m.poisoned w = true) (x : Nat) : (m.poisonAt w).byte x = m.byte x := by
  by_cases e : x / 8 = w
  · unfold Mem.byte
    rw [Mem.poisoned_poisonAt, if_pos e, e, h]
    rfl
  · exact m.byte_poisonAt_ne e

theorem Mem.byte_setPoison_of_eq {m : Mem} {w : Nat} {p : Bool} (h : m.poisoned w = p) (x : Nat) : (m.setPoison w p).byte x = m.byte x := by
  by_cases e : x / 8 = w
  · unfold Mem.byte
    rw [Mem.poisoned_setPoison, if_pos e, e, h]
    rfl
  · exact m.byte_setPoison_ne w p e

/-! ### Writes of a word, and of a unit of the slow tier -/

theorem Mem.clearFull_word (m : Mem) (w : Nat) : m.clearFull 8 (8 * w) 8 = m.setPoison w false := by
  have one : wordsOf (8 * w) 8 = [w] := by
    have n : (8 * w + 8 - 1) / 8 - 8 * w / 8 + 1 = 1 := by omega
    rw [wordsOf, if_neg (by decide), n, Nat.mul_div_cancel_left w (by decide)]
    rfl
  have whole : 8 * w ≤ 8 * w / 8 * 8 ∧ 8 * w / 8 * 8 + 8 ≤ 8 * w + 8 := by omega
  rw [Mem.clearFull, one, List.foldl_cons, List.foldl_nil]
  exact if_pos whole

theorem Mem.length_bytes (m : Mem) (a n : Nat) : (m.bytes a n).length = n := by simp [Mem.bytes]

/-- Writing back what a word reads as changes no byte. -/
theorem Mem.byte_write_back (m : Mem) (w x : Nat) :
    (m.write 8 (8 * w) (m.bytes (8 * w) 8)).byte x = m.byte x := by
  have len := m.length_bytes (8 * w) 8
  by_cases out : x < 8 * w ∨ 8 * w + 8 ≤ x
  · exact m.byte_write_outside _ _ (by rwa [len])
  · obtain ⟨i, rfl⟩ : ∃ i, x = 8 * w + i := ⟨x - 8 * w, by omega⟩
    have word : (8 * w + i) / 8 = w := by omega
    have clear : (m.setPoison w false).poisoned ((8 * w + i) / 8) = false := by rw [Mem.poisoned_setPoison, if_pos word]
    rw [Mem.write, len, Mem.clearFull_word, Mem.byte_putBytes_in _ _ _ (by omega) clear]
    simp [Mem.bytes]

/-- A write of a unit of 16 bytes leaves the bytes of every other unit (R349). -/
theorem Mem.byte_write_unit_outside (m : Mem) {k : Nat} {v : List Byte} (hv : v.length = 16) {x : Nat} (h : x / 16 ≠ k) :
    (m.write 16 (16 * k) v).byte x = m.byte x := by
  have cleared : (m.clearFull 16 (16 * k) 16).byte x = m.byte x := by
    refine List.foldlRecOn (motive := fun c : Mem => c.byte x = m.byte x) _ _ rfl (fun c ih w _ => ?_)
    dsimp only
    split
    · rw [Mem.byte_setPoison_ne _ _ _ (by omega), ih]
    · exact ih
  rw [Mem.write, hv]
  rcases Nat.lt_or_ge x (16 * k) with lt | ge
  · rw [Mem.byte_putBytes_before _ _ _ lt, cleared]
  · rw [Mem.byte_putBytes_after _ _ _ (by omega), cleared]

/-! ### A word that a memory reads (R391, R392) -/

theorem scrubWord_poisoned {m : Mem} {w : Nat} (h : m.poisoned w = true) (n : Nat) :
    scrubWord m w ⟨0, 0, 0, 0⟩ n = (m.poisonAt w, .poison false) := by
  simp [scrubWord, Mem.stored, h, decodeWord_poisonWord]

theorem scrubWord_clean {m : Mem} {w : Nat} (h : m.poisoned w = false) (n : Nat) :
    scrubWord m w ⟨0, 0, 0, 0⟩ n = (m.write 8 (8 * w) (m.bytes (8 * w) 8), .clean (ofLE (m.bytes (8 * w) 8))) := by
  have back := leBytes_ofLE (m.bytes (8 * w) 8)
  rw [Mem.length_bytes] at back
  simp [scrubWord, Mem.stored, h, decodeWord_checkBits, back]

theorem scrubWord_bad {m : Mem} {w y : Nat} {u : Upset}
    (h : decodeWord ((m.stored w).1 ^^^ u.dataXor.toNat) ((m.stored w).2 ^^^ u.checkXor.toNat) = .bad y) :
    scrubWord m w u 1 = (m.poisonAt w, .bad y) := by
  simp [scrubWord, h]

/-- Whatever a read finds, bytes outside the words poisoned together stay. -/
theorem scrubWord_byte_outside (m : Mem) (w : Nat) (u : Upset) (n : Nat) {x : Nat} (h : x / 8 / n ≠ w / n) :
    (scrubWord m w u n).1.byte x = m.byte x := by
  have other : x / 8 ≠ w := fun e => h (by rw [e])
  have delivered : ∀ d, (if m.poisoned w then m else m.write 8 (8 * w) (leBytes 8 d)).byte x = m.byte x := by
    intro d
    split
    · rfl
    · exact m.byte_write_outside _ _ (by rw [length_leBytes]; omega)
  unfold scrubWord
  dsimp only
  split
  case h_1 =>
    refine List.foldlRecOn (motive := fun c : Mem => c.byte x = m.byte x) _ _ rfl (fun c ih i hi => ?_)
    have less := List.mem_range.mp hi
    have unit : (w / n * n + i) / n = w / n := by
      rw [Nat.mul_comm, Nat.mul_add_div (by omega), Nat.div_eq_of_lt less, Nat.add_zero]
    rw [Mem.byte_poisonAt_ne _ (fun e => h (by rw [e, unit])), ih]
  case h_2 => exact delivered _
  case h_3 => exact delivered _
  case h_4 => exact delivered _
  case h_5 => exact m.byte_poisonAt_ne other

/-! ### What a word found counts (R392) -/

/-- `c` differs from `b` in entries, logs, drawn values and what the reliability subsystem holds only. -/
def CountOnly (b c : Block) : Prop :=
  c = { b with od := c.od, odb := c.odb, log := c.log, fatal := c.fatal, ras := c.ras, freeCount := c.freeCount }

namespace CountOnly
variable {a b c : Block}

theorem trans (h : CountOnly a b) (k : CountOnly b c) : CountOnly a c := by unfold CountOnly at *; rw [k, h]
theorem of_regLog (h : RegLog b c) : CountOnly b c := by unfold CountOnly; unfold RegLog at h; rw [h]

theorem dt (h : CountOnly b c) : c.dt = b.dt := by rw [h]
theorem mem (h : CountOnly b c) : c.mem = b.mem := by rw [h]
theorem slow (h : CountOnly b c) : c.slow = b.slow := by rw [h]
theorem disp (h : CountOnly b c) : c.disp = b.disp := by rw [h]

theorem bump (b : Block) (i k n : Nat) : CountOnly b (b.bump i k n) := rfl
theorem bumpFree (b : Block) (i k : Nat) : CountOnly b (b.bumpFree i k) := rfl

theorem uncorrectable (b : Block) (cls addr syn : Nat) : CountOnly b (b.uncorrectable cls addr syn) := by
  have limited : ∀ d : Block, CountOnly d (if d.limitUE.1 then d.limitUE.2.raise 0x43A0 noCtx [] else d.limitUE.2) := by
    intro d
    have counted : CountOnly d d.limitUE.2 := rfl
    split
    · exact counted.trans (of_regLog (RegLog.raise ..))
    · exact counted
  exact (of_regLog ((RegOnly.bump b Od.rasUeCount cls 1).regLog.trans (RegLog.setOct ..))).trans (limited _)

theorem countScrub (b : Block) (cls addr : Nat) (r : Decoded) : CountOnly b (b.countScrub cls addr r) := by
  cases r with
  | clean => rfl
  | checkBit => rfl
  | corrected => rfl
  | poison one => cases one <;> rfl
  | bad syn => exact uncorrectable ..

/-- What counting keeps and the mending of the word keeps, the word found keeps. -/
theorem foundWord {P : Block → Prop} (counts : ∀ c d, CountOnly c d → P c → P d) {mend : Block → Block} (mends : ∀ c, P c → P (mend c))
    (hb : P b) (u : Upset) (cls addr : Nat) (r : Decoded) : P (b.foundWord u cls addr r mend) := by
  have poisons : ∀ c n m syn, P c → P ((mend c).uncorrectable n m syn) := fun c n m syn h => counts _ _ (uncorrectable ..) (mends c h)
  unfold Block.foundWord
  split
  · exact counts _ _ (countScrub ..) (mends b hb)
  · split
    · dsimp only
      split
      · exact poisons _ _ _ _ hb
      · have replayed := counts _ _ (bump b Od.rasLinkReplays 0 (min replayMax (max 1 u.replays))) hb
        split
        · exact replayed
        · exact poisons _ _ _ _ replayed
    · exact counts _ _ (countScrub ..) hb

end CountOnly

/-- An uncorrectable word counts one (R392). -/
theorem Block.uncorrectable_counts (b : Block) (cls addr syn : Nat) :
    (b.uncorrectable cls addr syn).reg Od.rasUeCount cls = wrap (odWidth Od.rasUeCount cls) (b.reg Od.rasUeCount cls + 1) := by
  rw [← Block.reg_bump_self]
  unfold Block.uncorrectable
  dsimp only
  split
  · exact Block.reg_raise_ne _ _ _ _ (odKey_ne (by decide) (by decide) (by decide) _ _)
  · rfl

/-- A stored word without an upset is mended, and counts nothing. -/
theorem Block.foundWord_sound {u : Upset} {r : Decoded} (stored : u.link = 0) (sound : r = .poison false ∨ ∃ d, r = .clean d)
    (b : Block) (cls addr : Nat) (mend : Block → Block) : b.foundWord u cls addr r mend = mend b := by
  unfold Block.foundWord
  rw [if_pos stored]
  obtain rfl | ⟨d, rfl⟩ := sound <;> rfl

/-- An uncorrectable word that an external link replays within its limit counts its replays alone. -/
theorem Block.foundWord_replayed {u : Upset} {syn : Nat} (link : u.link = 4 ∨ u.link = 5) (within : u.replays ≤ replayMax)
    (b : Block) (cls addr : Nat) (mend : Block → Block) :
    b.foundWord u cls addr (.bad syn) mend = b.bump Od.rasLinkReplays 0 (min replayMax (max 1 u.replays)) := by
  unfold Block.foundWord
  rw [if_neg (by omega)]
  dsimp only
  rw [if_neg (by omega), if_pos within]

/-! ### What a scrub leaves as it was -/

/-- `c` has the bytes of `b` but in one word of memory, and its slow tier, Dispatcher and DT (R391). -/
def WordOnly (w : Nat) (b c : Block) : Prop :=
  (∀ x, x / 8 ≠ w → c.mem.byte x = b.mem.byte x) ∧ c.slow = b.slow ∧ c.disp = b.disp ∧ c.dt = b.dt

/-- `c` has the bytes of `b` but in one XTS unit of the slow tier, and its memory, Dispatcher and DT (R349). -/
def UnitOnly (k : Nat) (b c : Block) : Prop :=
  (∀ x, x / 16 ≠ k → c.slow.byte x = b.slow.byte x) ∧ c.mem = b.mem ∧ c.disp = b.disp ∧ c.dt = b.dt

theorem WordOnly.refl (w : Nat) (b : Block) : WordOnly w b b := ⟨fun _ _ => rfl, rfl, rfl, rfl⟩
theorem UnitOnly.refl (k : Nat) (b : Block) : UnitOnly k b b := ⟨fun _ _ => rfl, rfl, rfl, rfl⟩

theorem WordOnly.count {w : Nat} {b : Block} (c d : Block) (k : CountOnly c d) (h : WordOnly w b c) : WordOnly w b d := by
  unfold WordOnly at *
  rwa [k.mem, k.slow, k.disp, k.dt]

theorem UnitOnly.count {w : Nat} {b : Block} (c d : Block) (k : CountOnly c d) (h : UnitOnly w b c) : UnitOnly w b d := by
  unfold UnitOnly at *
  rwa [k.mem, k.slow, k.disp, k.dt]

theorem WordOnly.setMem {w : Nat} {b c : Block} (h : WordOnly w b c) {m : Mem} (hm : ∀ x, x / 8 ≠ w → m.byte x = b.mem.byte x) :
    WordOnly w b { c with mem := m } := ⟨hm, h.2⟩

theorem UnitOnly.setSlow {w : Nat} {b c : Block} (h : UnitOnly w b c) {m : Mem} (hm : ∀ x, x / 16 ≠ w → m.byte x = b.slow.byte x) :
    UnitOnly w b { c with slow := m } := ⟨hm, h.2⟩

/-! ### A Terrace (R392) -/

theorem xTerraceScrub_serves {b : Block} {a k : Nat} (u : Upset) (awake : b.awake = true) (ht : terraceOf a = some k) (up : b.boroughDown k = false) :
    xTerraceScrub a u b = b.foundWord u 1 a (scrubWord b.mem (a / 8) u 1).2 (fun c => { c with mem := (scrubWord b.mem (a / 8) u 1).1 }) := by
  simp [xTerraceScrub, ht, awake, up]

theorem xTerraceScrub_wordOnly (a : Nat) (u : Upset) (b : Block) : WordOnly (a / 8) b (xTerraceScrub a u b) := by
  unfold xTerraceScrub
  split
  · exact WordOnly.refl ..
  · split
    · exact WordOnly.refl ..
    · exact CountOnly.foundWord WordOnly.count (fun c h => h.setMem (fun x hx => scrubWord_byte_outside _ _ _ 1 (by simpa using hx))) (WordOnly.refl ..) _ _ _ _

/-- A Terrace word without an upset is written back as it was read. -/
theorem xTerraceScrub_sound {b : Block} {a k : Nat} (awake : b.awake = true) (ht : terraceOf a = some k) (up : b.boroughDown k = false) :
    ∃ m : Mem, (∀ x, m.byte x = b.mem.byte x) ∧ xTerraceScrub a ⟨0, 0, 0, 0⟩ b = { b with mem := m } := by
  rw [xTerraceScrub_serves _ awake ht up]
  cases h : b.mem.poisoned (a / 8) with
  | true => exact ⟨_, Mem.byte_poisonAt_of_poisoned h, by rw [scrubWord_poisoned h, Block.foundWord_sound rfl (.inl rfl)]⟩
  | false => exact ⟨_, Mem.byte_write_back _ _, by rw [scrubWord_clean h, Block.foundWord_sound rfl (.inr ⟨_, rfl⟩)]⟩

/-- An uncorrectable word of a Terrace is poisoned and counted (R391, R392). -/
theorem xTerraceScrub_bad {b : Block} {a k y : Nat} {u : Upset} (awake : b.awake = true) (ht : terraceOf a = some k) (up : b.boroughDown k = false)
    (stored : u.link = 0) (bad : decodeWord ((b.mem.stored (a / 8)).1 ^^^ u.dataXor.toNat) ((b.mem.stored (a / 8)).2 ^^^ u.checkXor.toNat) = .bad y) :
    xTerraceScrub a u b = ({ b with mem := b.mem.poisonAt (a / 8) }).uncorrectable 1 a y := by
  rw [xTerraceScrub_serves u awake ht up, scrubWord_bad bad, Block.foundWord, if_pos stored]
  rfl

/-! ### HBM (R173) -/

/-- A byte that neither marking the word nor mending it changes, scrubbed HBM holds as it was. -/
theorem Block.scrubbedHbm_byte (b : Block) {w : Nat} {r : Mem × Decoded} {x : Nat} (mended : r.1.byte x = b.mem.byte x)
    (marked : (b.mem.setPoison w true).byte x = b.mem.byte x ∨ ∃ d, r.2 = .clean d) : (b.scrubbedHbm w r).byte x = b.mem.byte x := by
  have kept : ∀ (p : Prop) [Decidable p] (m : Mem), m.byte x = b.mem.byte x → (if p then b.mem else m).byte x = b.mem.byte x := by
    intro p _ m h
    split
    · rfl
    · exact h
  unfold Block.scrubbedHbm
  split
  case h_1 bad =>
    obtain h | ⟨d, h⟩ := marked
    · exact kept _ _ h
    · simp [h] at bad
  case h_2 poison =>
    obtain h | ⟨d, h⟩ := marked
    · exact kept _ _ h
    · simp [h] at poison
  case h_3 => exact kept _ _ mended
  case h_4 => exact mended

/-- What a scrub makes of the word of HBM that it read, before the free count of on-die reports. -/
def Block.hbmRead (b : Block) (a : Nat) (u : Upset) : Block :=
  b.foundWord u 2 a (scrubWord b.mem (a / 8) u 1).2 (fun c => { c with mem := c.scrubbedHbm (a / 8) (scrubWord b.mem (a / 8) u 1) })

theorem xHbmScrub_serves {b : Block} {a : Nat} (u : Upset) (awake : b.awake = true) (inside : a < hbmSize) (serves : b.stackState (stackOf a) = stInService) :
    xHbmScrub a u b = (b.hbmRead a u).bumpFree Od.hbmOndieSeverityCount (stackOf a + 1) := by
  simp [xHbmScrub, Block.hbmRead, awake, inside, serves]

theorem Block.hbmRead_wordOnly (b : Block) (a : Nat) (u : Upset) : WordOnly (a / 8) b (b.hbmRead a u) := by
  refine CountOnly.foundWord WordOnly.count (fun c h => h.setMem (fun x hx => ?_)) (WordOnly.refl ..) _ _ _ _
  have mended := scrubWord_byte_outside b.mem (a / 8) u 1 (x := x) (by simpa using hx)
  rw [c.scrubbedHbm_byte (mended.trans (h.1 x hx).symm) (.inl (Mem.byte_setPoison_ne _ _ _ hx)), h.1 x hx]

theorem xHbmScrub_wordOnly (a : Nat) (u : Upset) (b : Block) : WordOnly (a / 8) b (xHbmScrub a u b) := by
  by_cases idle : (!b.awake || decide (a ≥ hbmSize) || b.stackState (stackOf a) != stInService) = true
  · rw [xHbmScrub, if_pos idle]
    exact WordOnly.refl ..
  · obtain ⟨⟨awake, inside⟩, serves⟩ : (b.awake = true ∧ a < hbmSize) ∧ b.stackState (stackOf a) = stInService := by simpa using idle
    rw [xHbmScrub_serves u awake inside serves]
    exact WordOnly.count _ _ (CountOnly.bumpFree ..) (b.hbmRead_wordOnly a u)

/-- A word of HBM without an upset keeps its bytes, buffered or not. -/
theorem Block.hbmRead_sound (b : Block) (a : Nat) :
    ∃ m : Mem, (∀ x, m.byte x = b.mem.byte x) ∧ b.hbmRead a ⟨0, 0, 0, 0⟩ = { b with mem := m } := by
  unfold Block.hbmRead
  cases h : b.mem.poisoned (a / 8) with
  | true =>
    rw [scrubWord_poisoned h, Block.foundWord_sound rfl (.inl rfl)]
    exact ⟨_, fun x => b.scrubbedHbm_byte (Mem.byte_poisonAt_of_poisoned h x) (.inl (Mem.byte_setPoison_of_eq h x)), rfl⟩
  | false =>
    rw [scrubWord_clean h, Block.foundWord_sound rfl (.inr ⟨_, rfl⟩)]
    refine ⟨_, fun x => b.scrubbedHbm_byte ?_ (.inr ⟨_, rfl⟩), rfl⟩
    dsimp only
    exact b.mem.byte_write_back (a / 8) x

/-! ### The slow tier (R349, R493) -/

theorem length_xtsUnit (l : List Byte) : (xtsUnit l).length = 16 := by
  simp only [xtsUnit, padTo, List.length_take, List.length_append, List.length_replicate]
  omega

/-- Putting back the stored word that a unit holds changes nothing. -/
theorem Block.slowStored_back (b : Block) (w : Nat) : b.slowStored w (ofLE (((b.cipher (w / 2)).drop (8 * (w % 2))).take 8)) = b.slow := by
  have len := length_xtsUnit (Config.xtsSeal b.hazel.key (w / 2) (b.slow.bytes (16 * (w / 2)) 16))
  have word : (((b.cipher (w / 2)).drop (8 * (w % 2))).take 8).length = 8 := by
    rw [List.length_take, List.length_drop, Block.cipher, len]
    omega
  have back := leBytes_ofLE (((b.cipher (w / 2)).drop (8 * (w % 2))).take 8)
  rw [word] at back
  have whole : (b.cipher (w / 2)).take (8 * (w % 2)) ++ ((b.cipher (w / 2)).drop (8 * (w % 2))).take 8 ++ (b.cipher (w / 2)).drop (8 * (w % 2) + 8)
      = b.cipher (w / 2) := by
    rw [List.append_assoc, ← List.drop_drop, List.take_append_drop, List.take_append_drop]
  unfold Block.slowStored
  dsimp only
  rw [back, if_pos whole]

theorem Block.slowStored_byte (b : Block) (w d : Nat) {x : Nat} (h : x / 16 ≠ w / 2) : (b.slowStored w d).byte x = b.slow.byte x := by
  unfold Block.slowStored
  dsimp only
  split
  · rfl
  · exact Mem.byte_write_unit_outside _ (length_xtsUnit _) h

theorem Mem.byte_poisonUnit_outside (m : Mem) {k x : Nat} (h : x / 16 ≠ k) : ((m.poisonAt (2 * k)).poisonAt (2 * k + 1)).byte x = m.byte x := by
  rw [Mem.byte_poisonAt_ne _ (by omega), Mem.byte_poisonAt_ne _ (by omega)]

theorem xSlowScrub_unitOnly (a : Nat) (u : Upset) (b : Block) : UnitOnly (a / 16) b (xSlowScrub a u b) := by
  have unit : a / 8 / 2 = a / 16 := by omega
  have stores : ∀ c, UnitOnly (a / 16) b c → ∀ d, UnitOnly (a / 16) b { c with slow := c.slowStored (a / 8) d } := fun c h d =>
    h.setSlow (fun x hx => (c.slowStored_byte _ _ (by omega)).trans (h.1 x hx))
  have poisons : ∀ c, UnitOnly (a / 16) b c →
      UnitOnly (a / 16) b { c with slow := (c.slow.poisonAt (2 * (a / 8 / 2))).poisonAt (2 * (a / 8 / 2) + 1) } := fun c h =>
    h.setSlow (fun x hx => (Mem.byte_poisonUnit_outside _ (by omega)).trans (h.1 x hx))
  unfold xSlowScrub
  split
  · exact UnitOnly.refl ..
  · dsimp only
    split
    · exact CountOnly.foundWord UnitOnly.count (fun c h => h.setSlow (fun x hx => scrubWord_byte_outside _ _ _ 2 (by omega))) (UnitOnly.refl ..) _ _ _ _
    · refine CountOnly.foundWord UnitOnly.count (fun c h => ?_) (UnitOnly.refl ..) _ _ _ _
      split
      · exact stores c h _
      · exact stores c h _
      · exact stores c h _
      · exact poisons c h
      · exact poisons c h

/-- A word of the slow tier without an upset keeps its bytes. -/
theorem xSlowScrub_sound {b : Block} {a : Nat} (awake : b.awake = true) (inside : a < b.slowCapacity) (serves : b.slowTier = slInService) :
    ∃ m : Mem, (∀ x, m.byte x = b.slow.byte x) ∧ xSlowScrub a ⟨0, 0, 0, 0⟩ b = { b with slow := m } := by
  unfold xSlowScrub
  rw [if_neg (by simp [awake, inside, serves])]
  dsimp only
  cases h : b.slow.poisoned (a / 8) with
  | true =>
    rw [if_pos rfl, scrubWord_poisoned h, Block.foundWord_sound rfl (.inl rfl)]
    exact ⟨_, Mem.byte_poisonAt_of_poisoned h, rfl⟩
  | false =>
    rw [if_neg Bool.false_ne_true]
    simp only [BitVec.ofNat_eq_ofNat, BitVec.toNat_ofNat, Nat.zero_mod, Nat.xor_zero, decodeWord_checkBits]
    rw [Block.foundWord_sound rfl (.inr ⟨_, rfl⟩)]
    exact ⟨b.slow, fun _ => rfl, by rw [Block.slowStored_back]⟩

/-! ### The statement -/

/-- Settles O41: a word without an upset decodes to itself and is written back; what a scrub mends lies in its word or unit, and the rest of it counts. -/
theorem scrubs : Obligations.Scrubs := by
  unfold Obligations.Scrubs
  refine ⟨fun s a awake => ⟨fun inside serves => ?_, fun k ht up => ?_, fun inside serves => ?_⟩,
    fun s a u => goes_run (xHbmScrub_wordOnly a u s.toBlock), fun s a u => goes_run (xTerraceScrub_wordOnly a u s.toBlock),
    fun s a u => goes_run (xSlowScrub_unitOnly a u s.toBlock), fun s a k y u awake ht up stored bad => ?_, fun s a k y u awake ht up link within bad => ?_⟩
  · obtain ⟨m, bytes, read⟩ := s.toBlock.hbmRead_sound a
    refine goes_run_eq (xHbmScrub_serves _ awake inside serves) ?_
    rw [read]
    exact ⟨bytes, RegsKept.bumpFree { s.toBlock with mem := m } _ _⟩
  · obtain ⟨m, bytes, read⟩ := xTerraceScrub_sound awake ht up
    exact goes_run_eq read ⟨bytes, RegsKept.of_od rfl⟩
  · obtain ⟨m, bytes, read⟩ := xSlowScrub_sound awake inside serves
    exact goes_run_eq read ⟨bytes, RegsKept.of_od rfl⟩
  · refine goes_run_eq (xTerraceScrub_bad awake ht up stored bad) ⟨?_, Block.uncorrectable_counts ..⟩
    have mem := (CountOnly.uncorrectable { s.toBlock with mem := s.mem.poisonAt (a / 8) } 1 a y).mem
    rw [settle_mem, mem, Mem.poisoned_poisonAt, if_pos rfl]
  · have replayed : xTerraceScrub a u s.toBlock = s.toBlock.bump Od.rasLinkReplays 0 (min replayMax (max 1 u.replays)) := by
      rw [xTerraceScrub_serves u awake ht up, scrubWord_bad bad, Block.foundWord_replayed link within]
    refine goes_run_eq replayed ⟨?_, ?_, Block.reg_bump_self ..⟩
    · rfl
    · exact RegsKept.setReg _ _ _ _ (List.mem_singleton.mpr rfl)

end Sys2Proof.Machine
end

section
/-! PROOFS. Entry to Retired: what a module that retires has stopped, and which states of its memories stay on record (R196, R387, R538). -/

namespace Sys2Proof.Machine

/-! ### Entries that accesses to memory write (R168, R200) -/

/-- The counters of bytes that memories move and of lines that leave their buffers. -/
def accessIdx : List Nat :=
  [Od.hbmReadBytes, Od.terraceReadBytes, Od.terraceRemoteBytes, Od.hbmWriteBytes, Od.terraceWriteBytes, Od.hbmWcbRmwCount]

theorem IdxKept.countRead (b : Block) (a n : Nat) : IdxKept accessIdx b (b.countRead a n) := by
  unfold Block.countRead
  split
  · exact IdxKept.bump _ _ _ _ (by decide) (by decide)
  · exact IdxKept.foldl (fun _ _ => IdxKept.bump _ _ _ _ (by decide) (by decide)) _ _

theorem IdxKept.countRemote (b : Block) (k a n : Nat) : IdxKept accessIdx b (b.countRemote k a n) := by
  unfold Block.countRemote
  split
  · exact IdxKept.ite (IdxKept.refl _ _) (IdxKept.bump _ _ _ _ (by decide) (by decide))
  · exact IdxKept.refl _ _

theorem IdxKept.countAcross (b : Block) (k : Option Nat) (a n : Nat) : IdxKept accessIdx b (b.countAcross k a n) := by
  cases k with
  | none => exact IdxKept.refl _ _
  | some k => exact IdxKept.countRemote _ _ _ _

theorem IdxKept.countWalk (b : Block) (k : Option Nat) (c va : Nat) : IdxKept accessIdx b (b.countWalk k c va) :=
  IdxKept.foldl (fun _ _ => (IdxKept.countRead _ _ _).trans (IdxKept.countAcross _ _ _ _)) _ _

theorem IdxKept.countWrite (b : Block) (a n : Nat) : IdxKept accessIdx b (b.countWrite a n) := by
  unfold Block.countWrite
  split
  · exact IdxKept.bump _ _ _ _ (by decide) (by decide)
  · exact IdxKept.foldl (fun _ _ => IdxKept.bump _ _ _ _ (by decide) (by decide)) _ _

theorem IdxKept.evictOldest (b : Block) (pc : Nat) : IdxKept accessIdx b (b.evictOldest pc) := by
  unfold Block.evictOldest
  split
  · exact IdxKept.refl _ _
  · exact (IdxKept.of_od rfl).trans (IdxKept.bump _ _ _ _ (by decide) (by decide))

theorem IdxKept.enterLine (b : Block) (a n : Nat) : IdxKept accessIdx b (b.enterLine a n) := by
  unfold Block.enterLine
  dsimp only
  split
  · exact IdxKept.of_od rfl
  · exact (IdxKept.ite (IdxKept.evictOldest b (pcOf a)) (IdxKept.refl _ b)).trans (IdxKept.of_od rfl)

theorem IdxKept.writeHbm (n : Nat) : ∀ (b : Block) (a : Nat) (v : List Byte), IdxKept accessIdx b (b.writeHbm a v n) := by
  induction n with
  | zero => exact fun b _ _ => IdxKept.refl _ b
  | succ n ih =>
    intro b a v
    unfold Block.writeHbm
    refine IdxKept.ite (IdxKept.refl _ _) (IdxKept.trans (IdxKept.ite (IdxKept.refl _ _) ?_) (ih _ _ _))
    exact (IdxKept.of_od rfl).trans (IdxKept.enterLine { b with mem := b.mem.putRaw a (v.take (lineCount a v.length)) } _ _)

theorem IdxKept.writePhys (b : Block) (a : Nat) (v : List Byte) : IdxKept accessIdx b (b.writePhys a v) := by
  refine (IdxKept.countWrite b a v.length).trans ?_
  unfold Block.writePhys Block.storePhys
  split
  · exact IdxKept.of_od rfl
  · exact IdxKept.writeHbm _ _ _ _

/-! ### A context stops (R270) -/

theorem IdxKept.abortRb (b : Block) (c : Nat) : IdxKept endIdx b (b.abortRb c) := by
  unfold Block.abortRb
  dsimp only
  refine IdxKept.trans (IdxKept.trans (IdxKept.foldl (fun d w => ?_) _ b) (IdxKept.foldl (fun d (k : Close) => IdxKept.endTask _ d k.ticket sAborted 0) _ _)) (IdxKept.of_od rfl)
  have ended : IdxKept endIdx d (((d.endTask w.k.ticket sAborted w.unit).dropSends w).addTaint c w.k.ticket w.dstExtent) :=
    IdxKept.trans (b := (d.endTask w.k.ticket sAborted w.unit).dropSends w) (IdxKept.of_od rfl) (IdxKept.addTaint _ _ _ _)
  exact IdxKept.ite (ended.trans (IdxKept.stageFault _ _ _)) ended

theorem IdxKept.abortRest (b : Block) (t : Task) : IdxKept endIdx b (b.abortRest t) := by
  have ended := IdxKept.endTask endIdx b t.ticket sAborted (b.abortUnit t)
  exact IdxKept.ite (ended.trans (IdxKept.nonfinite _ _ _)) (IdxKept.ite (ended.trans (IdxKept.stageFault _ _ _)) ended)

theorem IdxKept.abortTasks (b : Block) (c : Nat) : IdxKept endIdx b (b.abortTasks c) := by
  unfold Block.abortTasks
  dsimp only
  refine IdxKept.trans ?_ (IdxKept.foldl IdxKept.abortRest _ _)
  refine IdxKept.trans ?_ (IdxKept.abortRb _ _)
  refine IdxKept.trans ?_ (IdxKept.foldl (fun d t => IdxKept.abortPlaza d t sAborted) _ _)
  exact (IdxKept.foldl IdxKept.abortXfer _ _).trans (IdxKept.foldl (fun d t => IdxKept.failVector d t sAborted) _ _)

theorem IdxKept.stopCtx (b : Block) (c : Nat) : IdxKept (Od.ctxState :: endIdx) b (b.stopCtx c) := by
  have rings : ∀ d : Block, (d.stopRings c).od = d.od := fun _ => rfl
  have dropped : ∀ d : Block, (d.dropWork c).od = d.od := fun _ => rfl
  unfold Block.stopCtx
  refine IdxKept.trans ?_ (IdxKept.of_od (dropped _))
  refine IdxKept.trans ?_ ((IdxKept.abortTasks _ c).mono (fun _ => List.mem_cons_of_mem _))
  exact (IdxKept.setReg b _ _ _ (List.mem_cons_self ..) (by decide)).trans (IdxKept.of_od (rings _))

/-! ### Records that a reset writes (R243, R270) -/

theorem IdxKept.writeRecord {b c : Block} {k index record : Nat} {cfg : BitVec 256} (h : b.writeRecord k cfg index record = some c) :
    IdxKept accessIdx b c := by
  obtain ⟨pa, _, rfl⟩ := Option.map_eq_some_iff.mp h
  exact ((IdxKept.countWalk _ _ _ _).trans (IdxKept.countRemote _ _ _ _)).trans (IdxKept.writePhys _ _ _)

theorem IdxKept.abortRecord (b : Block) (t : Task) : IdxKept (Od.dispTasksCompleted :: accessIdx) b (b.abortRecord t) := by
  unfold Block.abortRecord
  dsimp only
  split
  · rename_i written
    exact ((IdxKept.writeRecord written).mono (fun _ => List.mem_cons_of_mem _)).trans (IdxKept.bump _ _ _ _ (List.mem_cons_self ..) (by decide))
  · exact IdxKept.refl _ _

/-! ### The PTP port (R425) -/

/-- `c` differs from `b` in entries, events and the calibration of time only. -/
def PtpOnly (b c : Block) : Prop := c = { b with od := c.od, odb := c.odb, log := c.log, fatal := c.fatal, cal := c.cal }

theorem PtpOnly.trans {a b c : Block} (h : PtpOnly a b) (k : PtpOnly b c) : PtpOnly a c := by unfold PtpOnly at *; rw [k, h]
theorem PtpOnly.dt {b c : Block} (h : PtpOnly b c) : c.dt = b.dt := by rw [h]
theorem PtpOnly.odp {b c : Block} (h : PtpOnly b c) : c.odp = b.odp := by rw [h]
theorem PtpOnly.mem {b c : Block} (h : PtpOnly b c) : c.mem = b.mem := by rw [h]
theorem PtpOnly.slow {b c : Block} (h : PtpOnly b c) : c.slow = b.slow := by rw [h]
theorem PtpOnly.disp {b c : Block} (h : PtpOnly b c) : c.disp = b.disp := by rw [h]
theorem PtpOnly.emith {b c : Block} (h : PtpOnly b c) : c.emith = b.emith := by rw [h]
theorem PtpOnly.wal {b c : Block} (h : PtpOnly b c) : c.wal = b.wal := by rw [h]
theorem PtpOnly.of_regLog {b c : Block} (h : RegLog b c) : PtpOnly b c := by unfold PtpOnly; unfold RegLog at h; rw [h]
theorem PtpOnly.raise (b : Block) (c x : Nat) (a : List Byte) : PtpOnly b (b.raise c x a) := of_regLog (RegLog.raise ..)

theorem PtpOnly.setTimeState (b : Block) (st : Nat) : PtpOnly b (b.setTimeState st) := by
  have entered : PtpOnly b (b.setReg Od.timeState 0 st) := rfl
  unfold Block.setTimeState
  split
  · rfl
  · dsimp only
    split
    · exact entered.trans (PtpOnly.raise ..)
    · split
      · exact entered.trans (PtpOnly.raise ..)
      · split
        · exact entered.trans (PtpOnly.raise ..)
        · exact entered

theorem PtpOnly.ptpCheck (b : Block) : PtpOnly b b.ptpCheck := by
  unfold Block.ptpCheck
  split
  · rfl
  · dsimp only
    split
    · exact PtpOnly.trans (b := b.ptpTo (b.reg Od.ptpPortAlt 0)) rfl (PtpOnly.raise ..)
    · split
      · exact PtpOnly.setTimeState ..
      · rfl

theorem IdxKept.setTimeState (b : Block) (st : Nat) : IdxKept [Od.timeState, Od.eventNextSeq] b (b.setTimeState st) := by
  have entered : IdxKept [Od.timeState, Od.eventNextSeq] b (b.setReg Od.timeState 0 st) := IdxKept.setReg _ _ _ _ (by decide) (by decide)
  have told : ∀ code, IdxKept [Od.timeState, Od.eventNextSeq] b ((b.setReg Od.timeState 0 st).raise code noCtx []) :=
    fun _ => entered.trans (IdxKept.raise _ _ _ _ (by decide))
  exact IdxKept.ite (IdxKept.refl _ _) (IdxKept.ite (told _) (IdxKept.ite (told _) (IdxKept.ite (told _) entered)))

theorem IdxKept.ptpCheck (b : Block) : IdxKept [Od.timeState, Od.eventNextSeq] b b.ptpCheck := by
  refine IdxKept.ite (IdxKept.refl _ _) (IdxKept.ite ?_ (IdxKept.ite (IdxKept.setTimeState _ _) (IdxKept.refl _ _)))
  exact IdxKept.trans (b := b.ptpTo (b.reg Od.ptpPortAlt 0)) (IdxKept.of_od rfl) (IdxKept.raise _ _ _ _ (by decide))

/-! ### Retired (R538) -/

/-- The entries that stopping every context and writing its records can write. -/
def stoppingIdx : List Nat := Od.ctxState :: Od.dispTasksCompleted :: (accessIdx ++ endIdx)

/-- Every context stops. -/
def Block.stopContexts (b : Block) : Block := (List.range 64).foldl (fun b c => b.stopCtx c) b

/-- The records that can be written are written. -/
def Block.writeRecords (b : Block) : Block := b.disp.tasks.foldl (fun b t => b.abortRecord t) b

/-- Every context stops, records are written, and Hazel starts nothing more. -/
def Block.stopAll (b : Block) : Block :=
  { b.stopContexts.writeRecords with hazel := { b.stopContexts.writeRecords.hazel with stopped := true } }

theorem IdxKept.stopAll (b : Block) : IdxKept stoppingIdx b b.stopAll := by
  have contexts : IdxKept stoppingIdx b b.stopContexts := IdxKept.foldl (fun d c => (IdxKept.stopCtx d c).mono (by decide +kernel)) _ _
  have records : ∀ d : Block, IdxKept stoppingIdx d d.writeRecords := fun d =>
    IdxKept.foldl (fun d t => (IdxKept.abortRecord d t).mono (by decide +kernel)) _ _
  have hazel : b.stopAll.od = b.stopContexts.writeRecords.od := by simp only [Block.stopAll]
  exact (contexts.trans (records _)).trans (IdxKept.of_od hazel)

theorem IdxKept.enterPower (b : Block) (st : Nat) : IdxKept [Od.pwrState, Od.eventNextSeq] b (b.enterPower st) :=
  (IdxKept.setReg _ _ _ _ (by decide) (by decide)).trans (IdxKept.raise _ _ _ _ (by decide))

theorem Block.enterPower_power (b : Block) {st : Nat} (h : st < 256) : (b.enterPower st).power = st := by
  have width : odWidth Od.pwrState 0 = 8 := by decide +kernel
  rw [Block.power, Block.enterPower, reg_raise_of_idx_ne _ _ _ _ _ (by decide) (by decide), Block.reg_setReg_self, width]
  exact Nat.mod_eq_of_lt h

/-- RETIRE_CAUSE as entry to Retired writes it (R538). -/
def Block.retireRecord (b : Block) (cause unit : Nat) : List Byte := beBytes 8 b.dt ++ beBytes 1 cause ++ beBytes 1 unit ++ List.replicate 6 0

theorem Block.enterRetired_eq {b : Block} (h : b.power ≠ pwrRetired) (cause unit : Nat) : b.enterRetired cause unit =
    (((b.stopAll.unpower.ptpCheck.setOct Od.retireCause 0 (b.stopAll.unpower.ptpCheck.retireRecord cause unit)).setReg Od.moduleService 0
      svcRetired).enterPower pwrRetired).raise 0xC115 noCtx [] := by
  rw [Block.enterRetired, if_neg h]
  simp only [Block.stopAll, Block.stopContexts, Block.writeRecords, Block.retireRecord]

/-- No state replaces that of a slow tier that is lost (R387). -/
theorem Block.slowState_memoryState {b : Block} (h : b.reg Od.slowState 0 = slLost) (x y : Nat) : (b.memoryState x y).reg Od.slowState 0 = slLost := by
  have hbm := reg_foldl_others (f := fun (b : Block) k => if b.stackState k = stLost then b else b.setReg Od.hbmStackState (k + 1) x)
    (ks := subKeys Od.hbmStackState 1 8) (List.range 8) (fun d m _ _ hm free => by
      split
      · rfl
      · exact Block.reg_setReg_ne _ _ (not_mem_subKeys free (by omega) (by have := List.mem_range.mp hm; omega)))
    b Od.slowState 0 (fun q => absurd (odKey_mem_subKeys q (by decide) (by decide)) (by decide))
  unfold Block.memoryState
  dsimp only
  rw [if_pos (hbm.trans h)]
  exact hbm.trans h

/-- A slow tier on record as lost stays lost without power. -/
theorem Block.slowState_unpower {b : Block} (h : b.reg Od.slowState 0 = slLost) : b.unpower.reg Od.slowState 0 = slLost := by
  have away : ∀ j hi, Od.slowState ≠ j → j < 65536 → odKey Od.slowState 0 ∉ subKeys j 1 hi := fun j hi ne lt q =>
    ne (odKey_mem_subKeys q (by decide) lt)
  have units : b.dropUnits.reg Od.slowState 0 = b.reg Od.slowState 0 := rfl
  have ports : b.dropUnits.portsDown.reg Od.slowState 0 = b.dropUnits.portRegs.reg Od.slowState 0 :=
    Block.reg_eq_of_od (by simp only [Block.portsDown]) _ _
  have regs := (portRegs_reg b.dropUnits).2.2 Od.slowState 0
    (fun q => (List.mem_append.mp q).elim (away _ _ (by decide) (by decide)) (away _ _ (by decide) (by decide)))
  have plazas := regsKept_plazasOff b.dropUnits.portsDown Od.slowState 0 (away _ _ (by decide) (by decide))
  have memories : b.unpower.reg Od.slowState 0 = (b.dropUnits.portsDown.plazasOff.memoryState stOff slOff).reg Od.slowState 0 :=
    Block.reg_eq_of_od (by simp only [Block.unpower]) _ _
  rw [memories]
  exact Block.slowState_memoryState (by rw [plazas, ports, regs, units, h]) _ _

/-- Loss of power turns every stack off that is not on record as lost. -/
theorem stackState_unpower (b : Block) {k : Nat} (hk : k < 8) : b.unpower.stackState k = if b.stackState k = stLost then stLost else stOff := by
  obtain ⟨-, -, -, -, -, -, -, -, -, -, -, -, each, -⟩ := unpower_unpowered b
  exact each k hk

/-- `c` is Retired, entered from `b`: memory is lost, and what was on record as lost still is. -/
structure RetiredFrom (b c : Block) : Prop where
  service : c.service = svcRetired
  power : c.power = pwrRetired
  event : LastEvent c 0xC115 noCtx []
  mem : c.mem = Mem.reset
  hbm : ∀ k < 8, b.reg Od.hbmStackState (k + 1) = stLost → c.reg Od.hbmStackState (k + 1) = stLost
  slow : b.reg Od.slowState 0 = slLost → c.reg Od.slowState 0 = slLost

theorem RetiredFrom.enterRetired {b : Block} (h : b.power ≠ pwrRetired) (cause unit : Nat) : RetiredFrom b (b.enterRetired cause unit) := by
  have eq := Block.enterRetired_eq h cause unit
  have entered : IdxKept [Od.timeState, Od.eventNextSeq, Od.moduleService, Od.pwrState] b.stopAll.unpower (b.enterRetired cause unit) := by
    rw [eq]
    refine IdxKept.trans ?_ (IdxKept.raise _ _ _ _ (by decide))
    refine IdxKept.trans ?_ ((IdxKept.enterPower _ _).mono (by decide))
    refine IdxKept.trans ?_ (IdxKept.setReg _ _ _ _ (by decide) (by decide))
    exact ((IdxKept.ptpCheck _).mono (by decide)).trans (IdxKept.of_od (Block.setOct_od ..))
  refine ⟨?_, ?_, eq ▸ lastEvent_raise .., ?_, fun k hk lost => ?_, fun lost => ?_⟩
  · have width : wrap (odWidth Od.moduleService 0) svcRetired = svcRetired := by decide +kernel
    rw [eq, Block.service, reg_raise_of_idx_ne _ _ _ _ _ (by decide) (by decide), IdxKept.enterPower _ _ _ _ (by decide) (by decide), Block.reg_setReg_self, width]
  · rw [eq, Block.power, reg_raise_of_idx_ne _ _ _ _ _ (by decide) (by decide)]
    exact Block.enterPower_power _ (by decide)
  · have ptp := PtpOnly.ptpCheck b.stopAll.unpower
    rw [eq, Block.raise_mem, Block.enterPower_mem, Block.setReg_mem, Block.setOct_mem, ptp.mem]
    exact (unpower_unpowered _).1
  · have stays : b.stopAll.stackState k = stLost := by rw [stackState_lost, IdxKept.stopAll b _ _ (by decide) (by decide), lost]
    rw [entered _ _ (by decide) (by decide), ← stackState_lost, stackState_unpower _ hk, if_pos stays]
  · rw [entered _ _ (by decide) (by decide)]
    exact Block.slowState_unpower ((IdxKept.stopAll b _ _ (by decide) (by decide)).trans lost)

end Sys2Proof.Machine
end

section
/-! PROOFS. Upkeep of HBM and the slow tier: retraining, lane repair, temperatures, ageing and loss (R183, R187 to R197, R345, R346, R387). -/

namespace Sys2Proof.Machine

/-! ### Power states in which upkeep runs -/

theorem Block.power_of_live {b : Block} (h : b.live = true) : b.power ≠ pwrRetired := by
  unfold Block.live at h
  simp only [Bool.and_eq_true, bne_iff_ne] at h
  exact h.1.2

theorem Block.live_of_awake {b : Block} (h : b.awake = true) : b.live = true := (Bool.and_eq_true_iff.mp h).1

/-! ### Events alone (R516) -/

/-- `c` differs from `b` in events only: the logs and EVENT_NEXT_SEQ. -/
def EventOnly (b c : Block) : Prop := RegLog b c ∧ RegsKept [odKey Od.eventNextSeq 0] b c

theorem EventOnly.refl (b : Block) : EventOnly b b := ⟨RegLog.refl b, RegsKept.refl _ b⟩
theorem EventOnly.raise (b : Block) (c x : Nat) (a : List Byte) : EventOnly b (b.raise c x a) :=
  ⟨RegLog.raise .., RegsKept.raise _ _ _ _ (List.mem_singleton.mpr rfl)⟩
theorem EventOnly.ite {b c d : Block} {p : Prop} [Decidable p] (h : EventOnly b c) (k : EventOnly b d) : EventOnly b (if p then c else d) := by
  split
  · exact h
  · exact k
theorem EventOnly.reg {b c : Block} (h : EventOnly b c) {i : Nat} (k : Nat) (ne : i ≠ Od.eventNextSeq) (lt : i < 65536) : c.reg i k = b.reg i k :=
  h.2 _ _ (fun m => odKey_ne ne lt (by decide) k 0 (List.mem_singleton.mp m))

/-- An event, where it is due. -/
def Block.tell (b : Block) (due : Bool) (code : Nat) : Block := if due then b.raise code noCtx [] else b

theorem EventOnly.tell (b : Block) (due : Bool) (code : Nat) : EventOnly b (b.tell due code) := EventOnly.ite (EventOnly.raise ..) (EventOnly.refl b)
theorem Block.lastEvent_tell {b : Block} {due : Bool} {code : Nat} (h : due = true) : LastEvent (b.tell due code) code noCtx [] := by
  rw [Block.tell, if_pos h]
  exact lastEvent_raise ..

/-! ### Retraining (R190, R433) -/

theorem xRetrainWindow_opens {b : Block} {t : Nat} (awake : b.awake = true) (serves : b.stackState (b.hbm.nextPc / 32) = stInService)
    (ht : t = retrainAt (b.reg Od.hbmRetrainPeriodMs 0) (max b.dt b.hbm.nextAt)) (order : b.inOrder t 4 = true) :
    xRetrainWindow b = { (b.reach (max t b.hbm.openUntil)).bump Od.hbmRetrainCount (b.hbm.nextPc / 32 + 1) 1 with
      hbm := { b.hbm with nextPc := (b.hbm.nextPc + 1) % 256, nextAt := t + 1, openUntil := max t b.hbm.openUntil + windowNs } } := by
  subst ht
  simp [xRetrainWindow, awake, serves, order]

theorem retrainWindow_goes (s : State) (awake : s.toBlock.awake = true) (serves : s.toBlock.stackState (s.hbm.nextPc / 32) = stInService)
    (order : s.toBlock.inOrder (retrainAt (s.reg Od.hbmRetrainPeriodMs 0) (max s.dt s.hbm.nextAt)) 4 = true) :
    Goes (exec .hbmRetrainWindow s) fun t =>
      t.dt = max s.dt (max (retrainAt (s.reg Od.hbmRetrainPeriodMs 0) (max s.dt s.hbm.nextAt)) s.hbm.openUntil)
      ∧ t.hbm.nextPc = (s.hbm.nextPc + 1) % 256 ∧ t.mem = s.mem
      ∧ RegsKept [odKey Od.hbmRetrainCount (s.hbm.nextPc / 32 + 1)] s.toBlock t.toBlock := by
  refine goes_run_eq (xRetrainWindow_opens awake serves rfl order) ⟨rfl, rfl, rfl, ?_⟩
  exact RegsKept.setReg (s.toBlock.reach _) _ _ _ (List.mem_singleton.mpr rfl)

/-! ### Lane faults (R193 to R196) -/

/-- The repair window of a lane fault, behind one that is open (R193). -/
def Block.openRepair (b : Block) (k : Nat) : Block :=
  { b.bump Od.hbmRetrainCount (k + 1) 1 with hbm := { b.hbm with openUntil := max b.dt b.hbm.openUntil + windowNs } }

theorem xLaneFault_eq {b : Block} {pc : Nat} (awake : b.awake = true) (serves : b.stackState (pc / 32) = stInService) (half lane : Nat) (passes : Bool) :
    xLaneFault pc half lane passes b = if b.spareUsed (2 * pc + half) then (b.openRepair (pc / 32)).loseStack (pc / 32) pc 1
      else if !passes then (b.openRepair (pc / 32)).loseStack (pc / 32) pc 2 else (b.openRepair (pc / 32)).remapLane (2 * pc + half) lane := by
  rw [xLaneFault, if_neg (by simp [awake, serves])]
  rfl

theorem xLaneFault_loses {b : Block} {pc half : Nat} {passes : Bool} (awake : b.awake = true) (serves : b.stackState (pc / 32) = stInService)
    (fails : b.spareUsed (2 * pc + half) = true ∨ passes = false) (lane : Nat) :
    ∃ cause, xLaneFault pc half lane passes b = (b.openRepair (pc / 32)).loseStack (pc / 32) pc cause := by
  rw [xLaneFault_eq awake serves]
  by_cases used : b.spareUsed (2 * pc + half) = true
  · exact ⟨1, if_pos used⟩
  · obtain rfl := fails.resolve_left used
    exact ⟨2, by rw [if_neg used]; rfl⟩

theorem mem_sput_self (l : List (Nat × Nat)) (n x : Nat) : (n, x) ∈ sput l n x := by
  induction l with
  | nil => exact List.mem_singleton.mpr rfl
  | cons e r ih =>
    unfold sput
    split
    · exact List.mem_cons_self ..
    · split
      · exact List.mem_cons_self ..
      · exact List.mem_cons_of_mem _ ih

/-- A lane goes to the spare of its half, with its count and event (R194). -/
theorem Block.remapLane_repairs (b : Block) (h lane : Nat) : (h, lane) ∈ (b.remapLane h lane).hbm.spares
    ∧ (b.remapLane h lane).reg Od.hbmLanesRepaired (h / 64 + 1) = wrap (odWidth Od.hbmLanesRepaired (h / 64 + 1)) (b.reg Od.hbmLanesRepaired (h / 64 + 1) + 1)
    ∧ LastEvent (b.remapLane h lane) 0x4340 noCtx [] ∧ (b.remapLane h lane).mem = b.mem ∧ (b.remapLane h lane).hbm.wcb = b.hbm.wcb
    ∧ RegsKept [odKey Od.hbmLanesRepaired (h / 64 + 1), odKey Od.eventNextSeq 0] b (b.remapLane h lane) := by
  unfold Block.remapLane
  refine ⟨?_, ?_, lastEvent_raise .., ?_, ?_, ?_⟩
  · rw [Block.raise_hbm]
    exact mem_sput_self ..
  · rw [reg_raise_of_idx_ne _ _ _ _ _ (by decide) (by decide), Block.reg_bump_self]
    rfl
  · rw [Block.raise_mem]
    rfl
  · rw [Block.raise_hbm]
    rfl
  · refine RegsKept.trans ?_ (RegsKept.raise _ _ _ _ (by simp))
    exact RegsKept.setReg { b with hbm := { b.hbm with spares := sput b.hbm.spares h lane } } _ _ _ (List.mem_cons_self ..)

theorem laneRepair_goes (s : State) {pc half : Nat} (lane : Nat) (hh : half < 2) (awake : s.toBlock.awake = true)
    (serves : s.toBlock.stackState (pc / 32) = stInService) (free : s.toBlock.spareUsed (2 * pc + half) = false) :
    Goes (exec (.hbmLaneFault pc ⟨half, lane⟩ true) s) fun t => (2 * pc + half, lane) ∈ t.hbm.spares
      ∧ t.reg Od.hbmLanesRepaired (pc / 32 + 1) = wrap (odWidth Od.hbmLanesRepaired (pc / 32 + 1)) (s.reg Od.hbmLanesRepaired (pc / 32 + 1) + 1)
      ∧ LastEvent t.toBlock 0x4340 noCtx [] ∧ t.mem = s.mem ∧ t.hbm.wcb = s.hbm.wcb
      ∧ RegsKept [odKey Od.hbmRetrainCount (pc / 32 + 1), odKey Od.hbmLanesRepaired (pc / 32 + 1), odKey Od.eventNextSeq 0] s.toBlock t.toBlock := by
  have stack : (2 * pc + half) / 64 = pc / 32 := by omega
  have run : xLaneFault pc half lane true s.toBlock = (s.toBlock.openRepair (pc / 32)).remapLane (2 * pc + half) lane := by
    rw [xLaneFault_eq awake serves, free]
    rfl
  obtain ⟨spare, repaired, event, mem, wcb, regs⟩ := (s.toBlock.openRepair (pc / 32)).remapLane_repairs (2 * pc + half) lane
  rw [stack] at repaired regs
  have untouched : (s.toBlock.openRepair (pc / 32)).reg Od.hbmLanesRepaired (pc / 32 + 1) = s.reg Od.hbmLanesRepaired (pc / 32 + 1) :=
    reg_setReg_of_idx_ne _ _ _ _ (by decide) (by decide) (by decide)
  rw [untouched] at repaired
  refine goes_run_eq run ⟨spare, repaired, event, mem, wcb, ?_⟩
  refine RegsKept.trans (b := s.toBlock.openRepair (pc / 32)) (RegsKept.setReg _ _ _ _ (List.mem_cons_self ..)) (regs.mono ?_)
  exact fun _ => List.mem_cons_of_mem _

theorem Block.markLost_frame (b : Block) {k : Nat} (hk : k < 8) (pc cause : Nat) :
    (b.markLost k pc cause).reg Od.hbmStackState (k + 1) = stLost ∧ (b.markLost k pc cause).power = b.power := by
  constructor
  · rw [Block.markLost, Block.reg_setOct, reg_raise_of_idx_ne _ _ _ _ _ (by decide) (by decide), Block.reg_setReg_self, width_hbmStackState k hk]
    rfl
  · rw [Block.markLost, Block.power, Block.reg_setOct, reg_raise_of_idx_ne _ _ _ _ _ (by decide) (by decide),
      reg_setReg_of_idx_ne _ _ _ _ (by decide) (by decide) (by decide)]
    rfl

theorem stackLoss_goes (s : State) {pc half : Nat} {passes : Bool} (lane : Nat) (hpc : pc < 256) (awake : s.toBlock.awake = true)
    (serves : s.toBlock.stackState (pc / 32) = stInService) (fails : s.toBlock.spareUsed (2 * pc + half) = true ∨ passes = false) :
    Goes (exec (.hbmLaneFault pc ⟨half, lane⟩ passes) s) fun t =>
      t.toBlock.stackState (pc / 32) = stLost ∧ t.service = svcRetired ∧ t.power = pwrRetired ∧ LastEvent t.toBlock 0xC115 noCtx [] := by
  obtain ⟨cause, run⟩ := xLaneFault_loses awake serves fails lane
  have stack : pc / 32 < 8 := by omega
  obtain ⟨lost, power⟩ := (s.toBlock.openRepair (pc / 32)).markLost_frame stack pc cause
  have opened : (s.toBlock.openRepair (pc / 32)).power = s.power := reg_setReg_of_idx_ne _ _ _ _ (by decide) (by decide) (by decide)
  have retired := RetiredFrom.enterRetired (by rw [power, opened]; exact Block.power_of_live (Block.live_of_awake awake)) 1 (pc / 32)
  exact goes_run_eq run ⟨(stackState_lost _ _).mpr (retired.hbm _ stack lost), retired.service, retired.power, retired.event⟩

/-! ### Temperatures (R187, R188, R346) -/

theorem width_hbmTempC : ∀ k < 8, odWidth Od.hbmTempC (k + 1) = 32 := by decide +kernel
theorem width_hbmRefreshMult : ∀ k < 8, odWidth Od.hbmRefreshMult (k + 1) = 8 := by decide +kernel

theorem ofSigned_lt (n : Nat) (i : Int) : ofSigned n i < 2 ^ n := by
  have pos : (0 : Int) < ((2 ^ n : Nat) : Int) := by exact_mod_cast Nat.two_pow_pos n
  unfold ofSigned
  have := Int.emod_lt_of_pos i pos
  omega

theorem bandMult_lt (band : Nat) : bandMult band < 256 := by
  unfold bandMult
  split
  · decide
  · split <;> decide

/-- A reading and the refresh multiplier of its band (R187, R188). -/
def Block.setBand (b : Block) (k : Nat) (t : Int) : Block :=
  (b.setReg Od.hbmTempC (k + 1) (ofSigned 32 t)).setReg Od.hbmRefreshMult (k + 1) (bandMult (bandOf (multBand (b.reg Od.hbmRefreshMult (k + 1))) t))

/-- The note of a stack that has reached 105 °C. -/
def Block.setHot (b : Block) (k : Nat) (t : Int) : Block := { b with gov := { b.gov with hbmHot := b.gov.hbmHot.set k (decide (t ≥ 105)) } }

/-- A reading sets the band, raises 0x0340 where the band changes, and 0x4341 from 105 °C on (R187, R188). -/
theorem xHbmTempRead_eq {b : Block} {k : Nat} (live : b.live = true) (powered : b.stackState k = stInService ∨ b.stackState k = stSelfRefresh) (t : Int) :
    ∃ c, EventOnly (b.setBand k t) c ∧ xHbmTempRead k t b = (c.setHot k t).tell (decide (t ≥ 105)) 0x4341 := by
  have powers : (!b.live || !(b.stackState k == stInService || b.stackState k == stSelfRefresh)) = false := by
    rcases powered with h | h <;> simp [live, h]
  have banded := EventOnly.ite (p := bandOf (multBand (b.reg Od.hbmRefreshMult (k + 1))) t = multBand (b.reg Od.hbmRefreshMult (k + 1)))
    (EventOnly.refl (b.setBand k t)) (EventOnly.raise (b.setBand k t) 0x0340 noCtx [])
  refine ⟨_, banded, ?_⟩
  rw [xHbmTempRead, if_neg (Bool.eq_false_iff.mp powers)]
  rfl

theorem hbmTemp_goes (s : State) {k : Nat} (t : Int) (hk : k < 8) (live : s.toBlock.live = true)
    (powered : s.toBlock.stackState k = stInService ∨ s.toBlock.stackState k = stSelfRefresh) :
    Goes (exec (.hbmTempRead k t) s) fun u => u.reg Od.hbmTempC (k + 1) = ofSigned 32 t
      ∧ u.reg Od.hbmRefreshMult (k + 1) = bandMult (bandOf (multBand (s.reg Od.hbmRefreshMult (k + 1))) t)
      ∧ (105 ≤ t → LastEvent u.toBlock 0x4341 noCtx []) ∧ u.mem = s.mem
      ∧ RegsKept [odKey Od.hbmTempC (k + 1), odKey Od.hbmRefreshMult (k + 1), odKey Od.eventNextSeq 0] s.toBlock u.toBlock := by
  obtain ⟨c, banded, run⟩ := xHbmTempRead_eq live powered t
  have told := EventOnly.tell (c.setHot k t) (decide (t ≥ 105)) 0x4341
  have regs : RegsKept [odKey Od.eventNextSeq 0] (s.toBlock.setBand k t) ((c.setHot k t).tell (decide (t ≥ 105)) 0x4341) :=
    banded.2.trans (RegsKept.trans (RegsKept.of_od rfl) told.2)
  have free : ∀ i n, i ≠ Od.eventNextSeq → i < 65536 → odKey i n ∉ [odKey Od.eventNextSeq 0] := fun i n ne lt m =>
    odKey_ne ne lt (by decide) n 0 (List.mem_singleton.mp m)
  refine goes_run_eq run ⟨?_, ?_, fun hot => Block.lastEvent_tell (decide_eq_true hot), told.1.mem.trans banded.1.mem, ?_⟩
  · rw [reg_settle, regs _ _ (free _ _ (by decide) (by decide)), Block.setBand, reg_setReg_of_idx_ne _ _ _ _ (by decide) (by decide) (by decide),
      Block.reg_setReg_self, width_hbmTempC k hk]
    exact Nat.mod_eq_of_lt (ofSigned_lt 32 t)
  · rw [reg_settle, regs _ _ (free _ _ (by decide) (by decide)), Block.setBand, Block.reg_setReg_self, width_hbmRefreshMult k hk]
    exact Nat.mod_eq_of_lt (bandMult_lt _)
  · have written : RegsKept [odKey Od.hbmTempC (k + 1), odKey Od.hbmRefreshMult (k + 1)] s.toBlock (s.toBlock.setBand k t) :=
      (RegsKept.setReg _ _ _ _ (by simp)).trans (RegsKept.setReg _ _ _ _ (by simp))
    exact (written.mono (by simp)).trans (regs.mono (by simp))

/-- What a package reports at a reading (R346). -/
def Block.slowReport (b : Block) (n rate : Nat) (t : Int) : Block :=
  { b.setReg Od.slowTempC (n + 1) (ofSigned 32 t) with
    gov := { b.gov with slowHot := b.gov.slowHot.set n (decide (t ≥ 105)) }, hazel := { b.hazel with refresh := sset 0 b.hazel.refresh n rate } }

theorem xSlowTempRead_eq {b : Block} (powered : b.slowPowered = true) (n rate : Nat) (t : Int) :
    xSlowTempRead n t rate b = (b.slowReport n rate t).tell (decide (t ≥ 105) && !nth false b.gov.slowHot n) 0x4397 := by
  rw [xSlowTempRead, if_neg (by simp [powered])]
  rfl

theorem slowTemp_goes (s : State) (n rate : Nat) (c : Int) (powered : s.toBlock.slowPowered = true) :
    Goes (exec (.slowTempRead n ⟨c, rate⟩) s) fun t => t.reg Od.slowTempC (n + 1) = wrap (odWidth Od.slowTempC (n + 1)) (ofSigned 32 c)
      ∧ (105 ≤ c → nth false s.gov.slowHot n = false → LastEvent t.toBlock 0x4397 noCtx [])
      ∧ ((c < 105 ∨ nth false s.gov.slowHot n = true) → t.log = s.log) ∧ sget 0 t.hazel.refresh n = rate ∧ t.slow = s.slow
      ∧ RegsKept [odKey Od.slowTempC (n + 1), odKey Od.eventNextSeq 0] s.toBlock t.toBlock := by
  have told := EventOnly.tell (s.toBlock.slowReport n rate c) (decide (c ≥ 105) && !nth false s.gov.slowHot n) 0x4397
  refine goes_run_eq (xSlowTempRead_eq powered n rate c) ⟨?_, fun hot was => Block.lastEvent_tell (by simp [hot, was]), fun cool => ?_, ?_, told.1.slow, ?_⟩
  · rw [reg_settle, told.reg _ (by decide) (by decide)]
    exact Block.reg_setReg_self ..
  · have quiet : (decide (c ≥ 105) && !nth false s.gov.slowHot n) = false := by
      rcases cool with h | h <;> simp [h]
    rw [settle_log, quiet]
    rfl
  · rw [settle_hazel, told.1.hazel]
    exact sget_sset_self ..
  · have reported : RegsKept [odKey Od.slowTempC (n + 1)] s.toBlock (s.toBlock.slowReport n rate c) :=
      RegsKept.setReg s.toBlock _ _ _ (List.mem_singleton.mpr rfl)
    exact (reported.mono (by simp)).trans (told.2.mono (by simp))

/-! ### The interval oscillator, ageing and loss (R183, R345, R387) -/

theorem oscRead_goes (s : State) (c n : Nat) (awake : s.toBlock.awake = true) (serves : s.toBlock.slowTier = slInService) :
    Goes (exec (.wck2dqOscRead c n) s) fun t =>
      sget 0 t.hazel.osc c = n ∧ (∀ d, d ≠ c → sget 0 t.hazel.osc d = sget 0 s.hazel.osc d) ∧ t.slow = s.slow ∧ RegsKept [] s.toBlock t.toBlock := by
  have run : xOscRead c n s.toBlock = { s.toBlock with hazel := { s.hazel with osc := sset 0 s.hazel.osc c n } } := by
    simp [xOscRead, awake, serves]
  exact goes_run_eq run ⟨sget_sset_self .., fun d ne => sget_sset_ne _ _ _ _ ne, rfl, RegsKept.of_od rfl⟩

/-- The oldest line of a pseudo-channel that has one leaves, and is counted (R182, R183). -/
theorem Block.evictOldest_evicts {b : Block} {pc : Nat} {l : WcbLine} (h : b.hbm.wcb.find? (fun l => l.pc == pc) = some l) :
    ∃ w : List WcbLine, w.length + 1 = b.hbm.wcb.length
      ∧ b.evictOldest pc = ({ b with hbm := { b.hbm with wcb := w } } : Block).bump Od.hbmWcbRmwCount (pc / 32 + 1) 1 := by
  unfold Block.evictOldest
  cases found : b.hbm.wcb.findIdx? (fun l => l.pc == pc) with
  | none =>
    have absent := List.findIdx?_eq_none_iff.mp found l (List.mem_of_find?_eq_some h)
    exact absurd (List.find?_some h) (by simp [absent])
  | some i =>
    obtain ⟨inside, -⟩ := List.findIdx?_eq_some_iff_getElem.mp found
    exact ⟨_, by rw [List.length_eraseIdx_of_lt inside]; omega, rfl⟩

theorem wcbAge_goes (s : State) {pc : Nat} {l : WcbLine} (found : s.hbm.wcb.find? (fun l => l.pc == pc) = some l) (awake : s.toBlock.awake = true) :
    Goes (exec (.wcbAgeExpiry pc) s) fun t => t.dt = max s.dt (l.at_ + s.reg Od.hbmWcbAgeNs 0) ∧ t.hbm.wcb.length + 1 = s.hbm.wcb.length
      ∧ t.mem = s.mem ∧ RegsKept [odKey Od.hbmWcbRmwCount (pc / 32 + 1)] s.toBlock t.toBlock := by
  obtain ⟨w, shorter, evicts⟩ := Block.evictOldest_evicts (b := s.toBlock.reach (l.at_ + s.reg Od.hbmWcbAgeNs 0)) found
  have run : xWcbAge pc s.toBlock = (s.toBlock.reach (l.at_ + s.reg Od.hbmWcbAgeNs 0)).evictOldest pc := by
    simp [xWcbAge, found, awake]
  refine goes_run_eq (run.trans evicts) ⟨rfl, shorter, rfl, ?_⟩
  exact RegsKept.trans (RegsKept.of_od rfl) (RegsKept.setReg _ _ _ _ (List.mem_singleton.mpr rfl))

theorem slowLoss_goes (s : State) (c : Nat) (live : s.toBlock.live = true)
    (powered : s.toBlock.slowTier = slInService ∨ s.toBlock.slowTier = slTraining ∨ s.toBlock.slowTier = slSelfRefresh) :
    Goes (exec (.slowTierLost c) s) fun t =>
      t.reg Od.slowState 0 = slLost ∧ t.service = svcRetired ∧ t.power = pwrRetired ∧ LastEvent t.toBlock 0xC115 noCtx [] ∧ t.mem = Mem.reset := by
  have powers : (!s.toBlock.live || !(s.toBlock.slowTier == slInService || s.toBlock.slowTier == slTraining || s.toBlock.slowTier == slSelfRefresh)) = false := by
    rcases powered with h | h | h <;> simp [live, h]
  have run : xSlowLost c s.toBlock = s.toBlock.loseSlow c := if_neg (Bool.eq_false_iff.mp powers)
  have width : wrap (odWidth Od.slowState 0) slLost = slLost := by decide +kernel
  have lost : ((s.toBlock.setReg Od.slowState 0 slLost).raise 0xC398 noCtx []).reg Od.slowState 0 = slLost := by
    rw [reg_raise_of_idx_ne _ _ _ _ _ (by decide) (by decide), Block.reg_setReg_self, width]
  have power : ((s.toBlock.setReg Od.slowState 0 slLost).raise 0xC398 noCtx []).power = s.power := by
    rw [Block.power, reg_raise_of_idx_ne _ _ _ _ _ (by decide) (by decide), reg_setReg_of_idx_ne _ _ _ _ (by decide) (by decide) (by decide)]
    rfl
  have retired := RetiredFrom.enterRetired (by rw [power]; exact Block.power_of_live live) 2 c
  exact goes_run_eq run ⟨retired.slow lost, retired.service, retired.power, retired.event, retired.mem⟩

/-! ### The statement -/

/-- Settles O40: each command by what it writes; the losses by what entry to Retired keeps on record. -/
theorem memoryUpkeep : Obligations.MemoryUpkeep := by
  unfold Obligations.MemoryUpkeep
  exact ⟨⟨retrainWindow_goes, fun s _ _ lane _ hh awake serves free => laneRepair_goes s lane hh awake serves free,
      fun s _ _ lane _ hpc awake serves fails => stackLoss_goes s lane hpc awake serves fails,
      fun s _ c hk live powered => hbmTemp_goes s c hk live powered, fun s _ _ found awake => wcbAge_goes s found awake⟩,
    fun s n rate c _ powered => slowTemp_goes s n rate c powered, oscRead_goes, slowLoss_goes⟩

end Sys2Proof.Machine
end

section
/-! PROOFS. Shedding and in-field tests: what the operations that the power states call leave as it was (R410 to R413, R460, R461). -/

namespace Sys2Proof.Machine

/-! ### Shedding itself (R460, R461) -/

/-- `c` differs from `b` in events, the Governor and drawn values only. -/
structure ShedOnly (b c : Block) : Prop where
  eq : c = { b with od := c.od, log := c.log, fatal := c.fatal, gov := c.gov, freeCount := c.freeCount }
  regs : RegsKept [odKey Od.eventNextSeq 0] b c

namespace ShedOnly
variable {a b c : Block}

theorem refl (b : Block) : ShedOnly b b := ⟨rfl, RegsKept.refl _ b⟩
theorem trans (h : ShedOnly a b) (k : ShedOnly b c) : ShedOnly a c := ⟨by rw [k.eq, h.eq], h.regs.trans k.regs⟩

theorem raise (b : Block) (c x : Nat) (l : List Byte) : ShedOnly b (b.raise c x l) :=
  ⟨by rw [b.raise_eq c x l], RegsKept.raise _ _ _ _ (List.mem_singleton.mpr rfl)⟩

theorem setGov (b : Block) (g : Gov) : ShedOnly b { b with gov := g } := ⟨rfl, RegsKept.of_od rfl⟩
theorem drawGrid (b : Block) : ShedOnly b b.drawGrid.2 := ⟨rfl, RegsKept.of_od rfl⟩

theorem foldl {α : Type} {f : Block → α → Block} (h : ∀ b x, ShedOnly b (f b x)) (l : List α) (b : Block) : ShedOnly b (l.foldl f b) :=
  foldl_has (ShedOnly b) (fun _ x k => k.trans (h _ x)) l (refl b)

theorem reg (h : ShedOnly b c) {i : Nat} (k : Nat) (ne : i ≠ Od.eventNextSeq) (lt : i < 65536) : c.reg i k = b.reg i k :=
  h.regs _ _ (fun m => odKey_ne ne lt (by decide) k 0 (List.mem_singleton.mp m))

theorem dt (h : ShedOnly b c) : c.dt = b.dt := by rw [h.eq]
theorem odp (h : ShedOnly b c) : c.odp = b.odp := by rw [h.eq]
theorem mem (h : ShedOnly b c) : c.mem = b.mem := by rw [h.eq]
theorem slow (h : ShedOnly b c) : c.slow = b.slow := by rw [h.eq]
theorem disp (h : ShedOnly b c) : c.disp = b.disp := by rw [h.eq]
theorem hbm (h : ShedOnly b c) : c.hbm = b.hbm := by rw [h.eq]
theorem sys (h : ShedOnly b c) : c.sys = b.sys := by rw [h.eq]
theorem wal (h : ShedOnly b c) : c.wal = b.wal := by rw [h.eq]
theorem power (h : ShedOnly b c) : c.power = b.power := h.reg 0 (by decide) (by decide)
theorem service (h : ShedOnly b c) : c.service = b.service := h.reg 0 (by decide) (by decide)
theorem plaza (h : ShedOnly b c) (p : Nat) : c.plaza p = b.plaza p := h.reg (p + 1) (by decide) (by decide)

theorem shedStart (b : Block) : ShedOnly b b.shedStart := by
  unfold Block.shedStart
  split
  · exact refl b
  · exact (setGov b _).trans (raise ..)

theorem shedStop (b : Block) : ShedOnly b b.shedStop := by
  unfold Block.shedStop
  split
  · exact refl b
  · refine ((setGov b _).trans (raise ..)).trans (foldl (fun d p => ?_) _ _)
    exact (drawGrid d).trans (setGov d.drawGrid.2 _)

end ShedOnly

/-! ### In-field tests (R410 to R413) -/

/-- The entries that tests of Plazas, started or abandoned, can write. -/
def testIdx : List Nat := [Od.plazaState, Od.dispPlazaMap, Od.pgovHopsDeferred, Od.iftNextDue, Od.eventNextSeq]

/-- What starting and abandoning tests leave: everything but the Governor, the reliability subsystem, the map of the Dispatcher, drawn values, logs and the entries of `testIdx`. -/
structure TestStep (b c : Block) : Prop where
  eq : c = { b with od := c.od, odb := c.odb, log := c.log, fatal := c.fatal, gov := c.gov, ras := c.ras, disp := c.disp, freeCount := c.freeCount }
  regs : IdxKept testIdx b c

namespace TestStep
variable {a b c : Block}

theorem refl (b : Block) : TestStep b b := ⟨rfl, IdxKept.refl _ b⟩
theorem trans (h : TestStep a b) (k : TestStep b c) : TestStep a c := ⟨by rw [k.eq, h.eq], h.regs.trans k.regs⟩

theorem of_shedOnly (h : ShedOnly b c) : TestStep b c :=
  ⟨by rw [h.eq], fun i k lt free => h.reg k (fun e => free (by rw [e]; decide)) lt⟩

theorem ite {d : Block} {p : Prop} [Decidable p] (h : TestStep b c) (k : TestStep b d) : TestStep b (if p then c else d) := by
  split
  · exact h
  · exact k

theorem foldl {α : Type} {f : Block → α → Block} (h : ∀ b x, TestStep b (f b x)) (l : List α) (b : Block) : TestStep b (l.foldl f b) :=
  foldl_has (TestStep b) (fun _ x k => k.trans (h _ x)) l (refl b)

theorem odp (h : TestStep b c) : c.odp = b.odp := by rw [h.eq]
theorem mem (h : TestStep b c) : c.mem = b.mem := by rw [h.eq]
theorem slow (h : TestStep b c) : c.slow = b.slow := by rw [h.eq]
theorem hbm (h : TestStep b c) : c.hbm = b.hbm := by rw [h.eq]
theorem power (h : TestStep b c) : c.power = b.power := h.regs _ _ (by decide) (by decide)

theorem setReg (b : Block) {i : Nat} (k v : Nat) (hi : i ∈ testIdx) (lt : i < 65536) : TestStep b (b.setReg i k v) :=
  ⟨rfl, IdxKept.setReg _ _ _ _ hi lt⟩
theorem setPlaza (b : Block) (p v : Nat) : TestStep b (b.setPlaza p v) := setReg b _ _ (by decide) (by decide)
theorem setRas (b : Block) (r : Ras) : TestStep b { b with ras := r } := ⟨rfl, IdxKept.of_od rfl⟩
theorem setGov (b : Block) (g : Gov) : TestStep b { b with gov := g } := of_shedOnly (ShedOnly.setGov b g)

theorem setClock (b : Block) (p f : Nat) : TestStep b (b.setClock p f) := setGov b _

theorem setMap (b : Block) (m : List Nat) : TestStep b (b.setMap m) := by
  unfold Block.setMap
  split
  · exact refl b
  · refine trans ?_ (foldl (fun d v => setReg d _ _ (by decide) (by decide)) _ _)
    exact ⟨rfl, IdxKept.of_od rfl⟩

theorem remapAway (b : Block) (q : Nat) : TestStep b (b.remapAway q) := by
  unfold Block.remapAway
  split
  · exact refl b
  · exact setMap ..

theorem leaveService (b : Block) (q st : Nat) : TestStep b (b.leaveService q st) := (setPlaza b q st).trans (remapAway ..)

theorem returnService (b : Block) (q : Nat) : TestStep b (b.returnService q) := by
  unfold Block.returnService
  exact ite (setPlaza ..) ((setPlaza b q plInService).trans (setMap ..))

theorem replan (b : Block) (p : Nat) : TestStep b (b.replan p) := by
  unfold Block.replan
  exact ite (refl b) (ite (refl b) (ite (setReg b _ _ (by decide) (by decide)) (setGov b _)))

theorem drainForTest (b : Block) (q : Nat) : TestStep b (b.drainForTest q) := by
  unfold Block.drainForTest
  exact ite (refl b) ((setRas b _).trans (leaveService ..))

/-- Outside Idle a test starts where the module is. -/
theorem startTest (h : b.power ≠ pwrIdle) (p : Nat) : TestStep b (b.startTest p) := by
  have stays : b.leaveIdle = b := if_neg h
  unfold Block.startTest
  rw [stays]
  refine ite (refl b) (trans ?_ (replan _ p))
  exact ((setRas b _).trans (setPlaza _ p plTesting)).trans (setClock _ p _)

theorem tryTest (h : b.power ≠ pwrIdle) (p : Nat) : TestStep b (b.tryTest p) := by
  unfold Block.tryTest
  exact ite (refl b) (ite (startTest h p) (ite (refl b) (drainForTest b p)))

theorem nextTest (h : b.power ≠ pwrIdle) : TestStep b b.nextTest := by
  unfold Block.nextTest
  split
  · exact refl b
  · split
    · exact tryTest h _
    · exact refl b

theorem then_nextTest (k : TestStep b c) (h : b.power ≠ pwrIdle) : TestStep b c.nextTest := k.trans (nextTest (by rw [k.power]; exact h))

theorem leaveTest (h : b.power ≠ pwrIdle) (p : Nat) : TestStep b (b.leaveTest p) := by
  have left : ∀ d : Block, TestStep d (if d.ras.leaving.contains p then d else if d.reg Od.plazaHold (p + 1) != 0 then d.setPlaza p plOffline else d.returnService p) :=
    fun d => ite (refl d) (ite (setPlaza ..) (returnService ..))
  unfold Block.leaveTest
  refine then_nextTest (trans ?_ (replan _ p)) h
  exact ((setGov b _).trans (left _)).trans (setClock _ p _)

theorem then_leaveTest (k : TestStep b c) (h : b.power ≠ pwrIdle) (p : Nat) : TestStep b (c.leaveTest p) :=
  k.trans (leaveTest (by rw [k.power]; exact h) p)

theorem recordTest (b : Block) (p result : Nat) (observation : Bool) (t : Int) : TestStep b (b.recordTest p result observation t) :=
  ⟨rfl, IdxKept.of_od rfl⟩

theorem abandonTest (h : b.power ≠ pwrIdle) (p : Nat) : TestStep b (b.abandonTest p) := by
  unfold Block.abandonTest
  split
  · exact refl b
  · rename_i x _
    have due : ∀ (d : Block) (v : Nat), TestStep d (if x.observation then d else d.setReg Od.iftNextDue (p + 1) v) := fun d _ =>
      ite (refl d) (setReg d _ _ (by decide) (by decide))
    have told : ∀ (d : Block) (l : Int), TestStep d ((d.recordTest p 3 x.observation l).raise 0x43A8 noCtx []) := fun d l =>
      (recordTest d ..).trans (of_shedOnly (ShedOnly.raise ..))
    refine then_leaveTest (trans ?_ (told _ _)) h p
    exact (setRas b _).trans (due _ _)

/-- Following SHED_N and PWR_SHED_CMD, outside Idle (R460, R461). -/
theorem shedCheck (h : b.power ≠ pwrIdle) : TestStep b b.shedCheck := by
  have abandons : ∀ (l : List Nat) (d : Block), d.power ≠ pwrIdle →
      TestStep d (l.foldl (fun b p => if b.plaza p = plTesting then b.abandonTest p else b) d) := by
    intro l d hd
    refine List.foldlRecOn (motive := TestStep d) _ _ (refl d) (fun c step p _ => ?_)
    exact step.trans (ite (abandonTest (by rw [step.power]; exact hd) p) (refl c))
  have started := of_shedOnly (ShedOnly.shedStart b)
  have stopped := of_shedOnly (ShedOnly.shedStop b)
  unfold Block.shedCheck
  refine ite (ite (refl b) (started.trans (abandons _ _ ?_))) (ite (stopped.trans (nextTest ?_)) (refl b))
  · rw [started.power]
    exact h
  · rw [stopped.power]
    exact h

end TestStep

/-- No test starts in Park or below full service (R410, R532). -/
theorem Block.nextTest_waits {b : Block} (h : b.power = pwrPark ∨ b.service ≠ svcFull) : b.nextTest = b := by
  have waits : ∀ p, b.tryTest p = b := by
    intro p
    rw [Block.tryTest, if_pos]
    rcases h with h | h <;> simp [h]
  unfold Block.nextTest
  split
  · rfl
  · split
    · exact waits _
    · rfl

/-- Where no test may start and none is abandoned, SHED_N and PWR_SHED_CMD move shedding alone. -/
theorem ShedOnly.shedCheck {b : Block} (h : b.power = pwrPark ∨ (b.service ≠ svcFull ∧ ∀ p < 8, b.plaza p ≠ plTesting)) : ShedOnly b b.shedCheck := by
  have stopped := ShedOnly.shedStop b
  have waits : b.shedStop.nextTest = b.shedStop := Block.nextTest_waits (by
    rw [stopped.power, stopped.service]
    exact h.imp id And.left)
  unfold Block.shedCheck
  rw [waits]
  split
  · rename_i asked
    split
    · exact refl b
    · obtain ⟨-, idle⟩ := h.resolve_left (fun e => by simp [e, pwrPark, pwrRun] at asked)
      have started := ShedOnly.shedStart b
      refine List.foldlRecOn (motive := ShedOnly b) _ _ started (fun c step p hp => ?_)
      rw [if_neg (by rw [step.plaza]; exact idle p (List.mem_range.mp hp))]
      exact step
  · split
    · exact stopped
    · exact refl b

end Sys2Proof.Machine
end

section
/-! PROOFS. Run, Idle, Park and Standby: what each power command writes (R198, R350, R535 to R537, R542). -/

namespace Sys2Proof.Machine

/-! ### Stacks on record as lost (R196) -/

/-- A state of the memories that later steps keep: every stack that was not lost is in it. -/
theorem stackState_kept {a b c : Block} {x y k : Nat} (hk : k < 8) (hx : x < 256) (trained : x ≠ stTraining)
    (before : b.reg Od.hbmStackState (k + 1) = a.reg Od.hbmStackState (k + 1))
    (after : c.reg Od.hbmStackState (k + 1) = (b.memoryState x y).reg Od.hbmStackState (k + 1)) :
    c.stackState k = if a.stackState k = stLost then stLost else x := by
  have reg : c.reg Od.hbmStackState (k + 1) = if a.stackState k = stLost then stLost else x := by
    rw [after, reg_memoryState b x y k hk hx]
    simp only [stackState_lost, before]
  rw [stackState_of_reg, reg]
  rw [reg]
  split
  · decide
  · exact trained

theorem IdxKept.memoryState (b : Block) (x y : Nat) : IdxKept [Od.hbmStackState, Od.slowState] b (b.memoryState x y) := by
  have each : ∀ (d : Block) (k : Nat), IdxKept [Od.hbmStackState, Od.slowState] d (if d.stackState k = stLost then d else d.setReg Od.hbmStackState (k + 1) x) :=
    fun d k => IdxKept.ite (IdxKept.refl _ d) (IdxKept.setReg _ _ _ _ (by decide) (by decide))
  unfold Block.memoryState
  exact IdxKept.ite (IdxKept.foldl each _ b) ((IdxKept.foldl each _ b).trans (IdxKept.setReg _ _ _ _ (by decide) (by decide)))

theorem wrap_svcManagement : wrap (odWidth Od.moduleService 0) svcManagement = svcManagement := by decide +kernel

/-! ### Park (R198, R536, R542) -/

/-- The machine that leaves Park, before the memories are in service again: tests whose window has passed fall due now, and retraining starts afresh. -/
def Block.unparked (b : Block) : Block :=
  { b with
    ras := { b.ras with tests := b.ras.tests.map (fun x => if !x.draining && decide (x.due + b.windowOf x < b.dt) then { x with due := b.dt } else x) },
    hbm := { b.hbm with nextAt := b.dt + 1 } }

theorem Block.leavePark_eq (b : Block) : b.leavePark = (((b.unparked.memoryState stInService slInService).enterPower pwrRun).nextTest).shedCheck := rfl

theorem runFromPark_goes (s : State) (boot : BootInputs) (open_ : Writable s.toBlock) (park : s.power = pwrPark) :
    Goes (exec (.runRequest boot) s) fun t => t.odp.status = stOK ∧ t.power = pwrRun ∧ t.mem = s.mem ∧ t.slow = s.slow ∧ t.hbm.nextAt = s.dt + 1
      ∧ ∀ k < 8, t.toBlock.stackState k = if s.toBlock.stackState k = stLost then stLost else stInService := by
  have run : xRun boot s.toBlock = (s.toBlock.answer stOK).leavePark := by
    rw [xRun, Block.onWrite_open open_, if_pos park]
  rw [Block.leavePark_eq] at run
  have entered := Block.enterPower_power ((s.toBlock.answer stOK).unparked.memoryState stInService slInService) (st := pwrRun) (by decide)
  have awake : (((s.toBlock.answer stOK).unparked.memoryState stInService slInService).enterPower pwrRun).power ≠ pwrIdle := by
    rw [entered]
    decide
  have tested := TestStep.nextTest awake
  have step := tested.trans (TestStep.shedCheck (by rw [tested.power]; exact awake))
  refine goes_run_eq run ⟨?_, ?_, ?_, ?_, ?_, fun k hk => ?_⟩
  · rw [settle_odp, step.odp, Block.enterPower_odp, Block.memoryState_odp]
    rfl
  · exact step.power.trans entered
  · rw [settle_mem, step.mem, Block.enterPower_mem, Block.memoryState_mem]
    rfl
  · rw [settle_slow, step.slow, Block.enterPower_slow, Block.memoryState_slow]
    rfl
  · rw [settle_hbm, step.hbm, Block.enterPower_hbm, Block.memoryState_hbm]
    rfl
  · have kept := (step.regs Od.hbmStackState (k + 1) (by decide) (by decide)).trans (IdxKept.enterPower _ _ Od.hbmStackState (k + 1) (by decide) (by decide))
    have same : (s.toBlock.answer stOK).unparked.od = s.od := rfl
    exact stackState_kept (a := s.toBlock) (b := (s.toBlock.answer stOK).unparked) hk (by decide) (by decide) (Block.reg_eq_of_od same _ _) kept

/-- The buffers are empty, and each line that left is counted (R198). -/
theorem Block.flushWcb_eq (b : Block) : b.flushWcb = { b with od := b.flushWcb.od, hbm := { b.hbm with wcb := [] } } := by
  have counted := RegOnly.foldl (f := fun (b : Block) (l : WcbLine) => b.bump Od.hbmWcbRmwCount (l.pc / 32 + 1) 1) (fun _ _ => RegOnly.bump ..) b.hbm.wcb b
  unfold RegOnly at counted
  unfold Block.flushWcb
  dsimp only
  rw [counted]

theorem IdxKept.flushWcb (b : Block) : IdxKept [Od.hbmWcbRmwCount] b b.flushWcb :=
  IdxKept.foldl (f := fun (b : Block) (l : WcbLine) => b.bump Od.hbmWcbRmwCount (l.pc / 32 + 1) 1)
    (fun _ _ => IdxKept.bump _ _ _ _ (by decide) (by decide)) b.hbm.wcb b

theorem park_goes (s : State) (open_ : Writable s.toBlock) (may : s.toBlock.mayPark = true) : Goes (exec .parkRequest s) fun t =>
    t.odp.status = stOK ∧ t.power = pwrPark ∧ t.hbm.wcb = [] ∧ t.mem = s.mem ∧ t.slow = s.slow ∧ t.disp = s.disp
    ∧ ∀ k < 8, t.toBlock.stackState k = if s.toBlock.stackState k = stLost then stLost else stSelfRefresh := by
  have run : xPark s.toBlock = (((s.toBlock.answer stOK).flushWcb.memoryState stSelfRefresh slSelfRefresh).enterPower pwrPark).shedCheck := by
    rw [xPark, Block.onWrite_open open_, if_neg (by simp [may])]
  have flush := (s.toBlock.answer stOK).flushWcb_eq
  have flushed := IdxKept.flushWcb (s.toBlock.answer stOK)
  generalize (s.toBlock.answer stOK).flushWcb = f at run flush flushed
  have entered := Block.enterPower_power (f.memoryState stSelfRefresh slSelfRefresh) (st := pwrPark) (by decide)
  have shed := ShedOnly.shedCheck (.inl entered)
  refine goes_run_eq run ⟨?_, shed.power.trans entered, ?_, ?_, ?_, ?_, fun k hk => ?_⟩
  · rw [settle_odp, shed.odp, Block.enterPower_odp, Block.memoryState_odp, flush]
    rfl
  · rw [settle_hbm, shed.hbm, Block.enterPower_hbm, Block.memoryState_hbm, flush]
  · rw [settle_mem, shed.mem, Block.enterPower_mem, Block.memoryState_mem, flush]
    rfl
  · rw [settle_slow, shed.slow, Block.enterPower_slow, Block.memoryState_slow, flush]
    rfl
  · rw [settle_disp, shed.disp, Block.enterPower_disp, Block.memoryState_disp, flush]
    rfl
  · have kept := (shed.reg (k + 1) (by decide) (by decide)).trans (IdxKept.enterPower _ _ Od.hbmStackState (k + 1) (by decide) (by decide))
    exact stackState_kept hk (by decide) (by decide) (flushed _ _ (by decide) (by decide)) kept

theorem park_refused (s : State) (open_ : Writable s.toBlock) (may : s.toBlock.mayPark = false) :
    Goes (exec .parkRequest s) fun t => t.toBlock = settle (s.toBlock.answer stWriteRefused) := by
  refine goes_run_eq ?_ rfl
  rw [xPark, Block.onWrite_open open_, if_pos (by simp [may])]

/-! ### Standby (R350, R537) -/

/-- Entry to Standby adds to the loss of power entries, events and the calibration of time only. -/
theorem PtpOnly.enterStandby (b : Block) : PtpOnly b.unpower b.enterStandby := by
  have retired : ∀ d : Block, RegLog d ((List.range 8).foldl (fun b p => if b.ras.out.any (fun u => u / 256 == p) then b.setPlaza p plRetired else b) d) :=
    fun d => (RegOnly.foldl (fun d p => by split; exacts [RegOnly.setPlaza .., RegOnly.refl d]) _ d).regLog
  have entries : ∀ d : Block, PtpOnly d (d.keepRegs keepStandby) := fun _ => rfl
  have service : ∀ d : Block, RegLog d ((d.setReg Od.moduleService 0 svcManagement).enterPower pwrStandby) := fun d =>
    (RegLog.setReg d ..).trans (RegLog.enterPower ..)
  exact ((PtpOnly.ptpCheck _).trans (entries _)).trans (PtpOnly.of_regLog ((retired _).trans (service _)))

theorem standby_goes (s : State) (open_ : Writable s.toBlock) (may : s.toBlock.mayPark = true ∨ s.power = pwrPark) : Goes (exec .standbyRequest s) fun t =>
    t.odp.status = stOK ∧ t.power = pwrStandby ∧ t.service = svcManagement ∧ t.mem = Mem.reset ∧ t.slow = Mem.reset ∧ t.disp = Disp.reset
    ∧ t.emith.tx = [] ∧ t.emith.rx = [] ∧ t.emith.sessions = [] ∧ t.dt = s.dt ∧ t.wal = s.wal ∧ LastEvent t.toBlock 0x0112 noCtx [] := by
  have run : xStandby s.toBlock = (s.toBlock.answer stOK).shedStop.enterStandby := by
    rw [xStandby, Block.onWrite_open open_, if_neg (by rcases may with h | h <;> simp [h])]
  have shed := ShedOnly.shedStop (s.toBlock.answer stOK)
  generalize (s.toBlock.answer stOK).shedStop = b at run shed
  obtain ⟨mem, slow, disp, -, -, -, tx, rx, sessions, -, -, -, -, -, -, -, -, dt, odp, -, wal⟩ := unpower_unpowered b
  have frame := PtpOnly.enterStandby b
  refine goes_run_eq run ⟨?_, Block.enterPower_power _ (by decide), ?_, ?_, ?_, ?_, ?_, ?_, ?_, ?_, ?_, lastEvent_raise ..⟩
  · rw [settle_odp, frame.odp, odp, shed.odp]
    rfl
  · exact (IdxKept.enterPower _ _ Od.moduleService 0 (by decide) (by decide)).trans ((Block.reg_setReg_self ..).trans wrap_svcManagement)
  · rw [settle_mem, frame.mem, mem]
  · rw [settle_slow, frame.slow, slow]
  · rw [settle_disp, frame.disp, disp]
  · rw [settle_emith, frame.emith, tx]
  · rw [settle_emith, frame.emith, rx]
  · rw [settle_emith, frame.emith, sessions]
  · rw [settle_dt, frame.dt, dt, shed.dt]
    rfl
  · rw [settle_wal, frame.wal, wal, shed.wal]
    rfl

/-! ### Exit from Standby (R350, R528, R537) -/

/-- A Plaza that a bring-up has yet to check, or that is out for good (R529). -/
def Block.Waiting (b : Block) (p : Nat) : Prop := b.plaza p = plRetired ∨ b.plaza p = plOffline

theorem Block.waiting_plazasOff (b : Block) {p : Nat} (hp : p < 8) : b.plazasOff.Waiting p := by
  unfold Block.Waiting
  rw [plaza_plazasOff b p hp]
  split
  · exact .inl rfl
  · exact .inr rfl

theorem Block.waiting_markRetired {b : Block} {p : Nat} (h : b.Waiting p) : b.markRetired.Waiting p := by
  unfold Block.markRetired
  refine List.foldlRecOn (motive := fun c : Block => c.Waiting p) _ _ h (fun c ih q hq => ?_)
  split
  · unfold Block.Waiting
    rw [Block.plaza_setPlaza _ _ _ _ (List.mem_range.mp hq) (by decide)]
    split
    · exact .inl rfl
    · exact ih
  · exact ih

/-- The block of a bring-up before the checks of its Plazas are noted. -/
def Block.bringupUnits (b : Block) (boot : BootInputs) (kind cause : Nat) : Block :=
  (((b.bringupSys boot kind cause).setReg Od.moduleService 0 svcManagement).plazasOff.markRetired).memoryState stTraining slTraining

theorem RegOnly.bringupUnits (b : Block) (boot : BootInputs) (kind cause : Nat) : RegOnly (b.bringupSys boot kind cause) (b.bringupUnits boot kind cause) :=
  (((RegOnly.setReg ..).trans (RegOnly.plazasOff _)).trans (RegOnly.markRetired _)).trans (RegOnly.memoryState ..)

theorem IdxKept.bringupUnits (b : Block) (boot : BootInputs) (kind cause : Nat) :
    IdxKept [Od.plazaState, Od.hbmStackState, Od.slowState] ((b.bringupSys boot kind cause).setReg Od.moduleService 0 svcManagement) (b.bringupUnits boot kind cause) := by
  have off : ∀ d : Block, IdxKept [Od.plazaState, Od.hbmStackState, Od.slowState] d d.plazasOff := fun d =>
    IdxKept.foldl (fun d _ => IdxKept.ite (IdxKept.refl _ d) (IdxKept.setReg _ _ _ _ (by decide) (by decide))) _ d
  have marked : ∀ d : Block, IdxKept [Od.plazaState, Od.hbmStackState, Od.slowState] d d.markRetired := fun d =>
    IdxKept.foldl (fun d _ => IdxKept.ite (IdxKept.setReg _ _ _ _ (by decide) (by decide)) (IdxKept.refl _ d)) _ d
  exact ((off _).trans (marked _)).trans ((IdxKept.memoryState _ _ _).mono (by decide))

/-- No Plaza serves while a bring-up goes on (R529). -/
theorem Block.waiting_bringupUnits (b : Block) (boot : BootInputs) (kind cause : Nat) {p : Nat} (hp : p < 8) : (b.bringupUnits boot kind cause).Waiting p := by
  unfold Block.Waiting Block.plaza
  rw [show (b.bringupUnits boot kind cause).reg Od.plazaState (p + 1) = _ from IdxKept.memoryState _ _ _ _ _ (by decide) (by decide)]
  exact Block.waiting_markRetired (Block.waiting_plazasOff _ hp)

theorem Block.checkAll_checks (b : Block) :
    b.checkAll.sys.checks = ((List.range 8).filter (fun p => b.plaza p != plRetired)).map (fun p => (p, .bringup)) := rfl

theorem Block.checkAll_kind (b : Block) : b.checkAll.sys.kind = b.sys.kind := rfl

theorem Block.bringupSys_kind (b : Block) (boot : BootInputs) (kind cause : Nat) : (b.bringupSys boot kind cause).sys.kind = kind := rfl

/-- The machine that leaves Standby, with the key of the sealed slow tier drawn afresh. -/
def Block.rekeyed (b : Block) : Block :=
  { b with hazel := { b.hazel with key := bytesOf 64 (Config.drbg b.wal.draws) }, wal := { b.wal with draws := b.wal.draws + 1 } }

@[simp] theorem Block.rekeyed_odp (b : Block) : b.rekeyed.odp = b.odp := rfl

/-- The bring-up of the exit from Standby, before SHED_N is looked at. -/
def Block.wakening (b : Block) (boot : BootInputs) : Block := (((b.rekeyed.enterPower pwrRun).bringupUnits boot 5 0).checkAll).milestone 0 b.dt

theorem Block.leaveStandby_eq (b : Block) (boot : BootInputs) : b.leaveStandby boot = (b.wakening boot).shedCheck := by
  have dt : (((b.rekeyed.enterPower pwrRun).bringupUnits boot 5 0).checkAll).dt = b.dt :=
    ((Block.checkAll_dt _).trans (RegOnly.bringupUnits _ boot 5 0).regLog.dt).trans ((Block.bringupSys_dt ..).trans (Block.enterPower_dt ..))
  rw [Block.wakening, ← dt]
  rfl

theorem Block.wakening_reg (b : Block) (boot : BootInputs) (i k : Nat) :
    (b.wakening boot).reg i k = ((b.rekeyed.enterPower pwrRun).bringupUnits boot 5 0).reg i k :=
  Block.reg_eq_of_od (by rw [Block.wakening, Block.milestone, Block.setOct_od, Block.checkAll_od]) i k

theorem Block.wakening_power (b : Block) (boot : BootInputs) : (b.wakening boot).power = pwrRun := by
  have units := (IdxKept.bringupUnits (b.rekeyed.enterPower pwrRun) boot 5 0) Od.pwrState 0 (by decide) (by decide)
  have service := reg_setReg_of_idx_ne ((b.rekeyed.enterPower pwrRun).bringupSys boot 5 0) (i := Od.pwrState) (j := Od.moduleService) 0 0 svcManagement (by decide) (by decide) (by decide)
  exact (b.wakening_reg boot _ _).trans (units.trans (service.trans (Block.enterPower_power _ (by decide))))

theorem Block.wakening_service (b : Block) (boot : BootInputs) : (b.wakening boot).service = svcManagement := by
  have units := (IdxKept.bringupUnits (b.rekeyed.enterPower pwrRun) boot 5 0) Od.moduleService 0 (by decide) (by decide)
  exact (b.wakening_reg boot _ _).trans (units.trans ((Block.reg_setReg_self ..).trans wrap_svcManagement))

theorem Block.waiting_wakening (b : Block) (boot : BootInputs) {p : Nat} (hp : p < 8) : (b.wakening boot).Waiting p := by
  have waits := Block.waiting_bringupUnits (b.rekeyed.enterPower pwrRun) boot 5 0 hp
  unfold Block.Waiting Block.plaza at *
  rw [b.wakening_reg boot]
  exact waits

theorem Block.wakening_sys (b : Block) (boot : BootInputs) : (b.wakening boot).sys.kind = 5 ∧
    (b.wakening boot).sys.checks = ((List.range 8).filter (fun p => (b.wakening boot).plaza p != plRetired)).map (fun p => (p, .bringup)) := by
  have units := (RegOnly.bringupUnits (b.rekeyed.enterPower pwrRun) boot 5 0).regLog
  have plazas : ∀ p, (b.wakening boot).plaza p = ((b.rekeyed.enterPower pwrRun).bringupUnits boot 5 0).plaza p := fun p => b.wakening_reg boot _ _
  simp only [plazas]
  rw [Block.wakening, Block.milestone_sys, Block.checkAll_kind, units.sys, Block.bringupSys_kind]
  exact ⟨rfl, Block.checkAll_checks _⟩

theorem Block.wakening_odp (b : Block) (boot : BootInputs) : (b.wakening boot).odp = b.odp := by
  rw [Block.wakening, Block.milestone_odp, Block.checkAll_odp, (RegOnly.bringupUnits _ boot 5 0).regLog.odp, Block.bringupSys_odp,
    Block.enterPower_odp, Block.rekeyed_odp]

theorem runFromStandby_goes (s : State) (boot : BootInputs) (open_ : Writable s.toBlock) (standby : s.power = pwrStandby) :
    Goes (exec (.runRequest boot) s) fun t => t.odp.status = stOK ∧ t.power = pwrRun ∧ t.service = svcManagement ∧ t.sys.kind = 5
      ∧ (∀ p < 8, t.plaza p = plRetired ∨ t.plaza p = plOffline)
      ∧ t.sys.checks = ((List.range 8).filter (fun p => t.plaza p != plRetired)).map (fun p => (p, .bringup)) := by
  have run : xRun boot s.toBlock = ((s.toBlock.answer stOK).wakening boot).shedCheck := by
    rw [xRun, Block.onWrite_open open_, if_neg (by rw [standby]; decide), if_pos standby, Block.leaveStandby_eq]
  have power := (s.toBlock.answer stOK).wakening_power boot
  have service := (s.toBlock.answer stOK).wakening_service boot
  have waits : ∀ p < 8, ((s.toBlock.answer stOK).wakening boot).Waiting p := fun p hp => Block.waiting_wakening _ boot hp
  obtain ⟨kind, checks⟩ := (s.toBlock.answer stOK).wakening_sys boot
  have odp := (s.toBlock.answer stOK).wakening_odp boot
  generalize (s.toBlock.answer stOK).wakening boot = b at *
  have shed : ShedOnly b b.shedCheck := ShedOnly.shedCheck (.inr ⟨by rw [service]; decide, fun p hp => by
    rcases waits p hp with h | h <;> rw [h] <;> decide⟩)
  have plazas : ∀ p, (settle b.shedCheck).plaza p = b.plaza p := shed.plaza
  refine goes_run_eq run ⟨?_, shed.power.trans power, shed.service.trans service, ?_, fun p hp => ?_, ?_⟩
  · rw [settle_odp, shed.odp, odp]
    rfl
  · rw [settle_sys, shed.sys]
    exact kind
  · rw [plazas]
    exact waits p hp
  · simp only [plazas]
    rw [settle_sys, shed.sys]
    exact checks

/-! ### Run and Idle (R535, R542) -/

theorem runInRun_goes (s : State) (boot : BootInputs) (open_ : Writable s.toBlock) (park : s.power ≠ pwrPark) (standby : s.power ≠ pwrStandby) :
    Goes (exec (.runRequest boot) s) fun t => t.toBlock = settle (s.toBlock.answer (if s.toBlock.exitingStandby then stWriteRefused else stOK)) := by
  refine goes_run_eq ?_ rfl
  rw [xRun, Block.onWrite_open open_, if_neg park, if_neg standby]

theorem idle_goes (s : State) (live : s.toBlock.live = true) (power : s.power = pwrRun) (service : s.service = svcFull) (shed : s.gov.shed = false)
    (busy : s.toBlock.busy = false) : Goes (exec .idleEntry s) fun t =>
      t.power = pwrIdle ∧ t.dt = max s.dt (s.sys.busyAt + s.reg Od.pwrIdleMs 0 * 10 ^ 6) ∧ LastEvent t.toBlock 0x0112 noCtx []
      ∧ RegsKept [odKey Od.pwrState 0, odKey Od.eventNextSeq 0] s.toBlock t.toBlock ∧ t.mem = s.mem ∧ t.disp = s.disp ∧ t.gov = s.gov := by
  have run : xIdle s.toBlock = (s.toBlock.reach (s.sys.busyAt + s.reg Od.pwrIdleMs 0 * 10 ^ 6)).enterPower pwrIdle := by
    rw [xIdle, if_neg (by simp [live, power, service, shed, busy])]
  have reached : RegsKept [odKey Od.pwrState 0, odKey Od.eventNextSeq 0] s.toBlock (s.toBlock.reach (s.sys.busyAt + s.reg Od.pwrIdleMs 0 * 10 ^ 6)) :=
    RegsKept.of_od rfl
  refine goes_run_eq run ⟨Block.enterPower_power _ (by decide), Block.enterPower_dt .., lastEvent_raise ..,
    (reached.trans (RegsKept.setReg _ _ _ _ (by simp))).trans (RegsKept.raise _ _ _ _ (by simp)), ?_, ?_, ?_⟩
  · exact Block.enterPower_mem ..
  · exact Block.enterPower_disp ..
  · exact Block.enterPower_gov ..

/-- Settles O15: each power command is its stated transition, and the shedding that follows PWR_SHED_CMD changes none of what it set. -/
theorem powerStates : Obligations.PowerStates := by
  unfold Obligations.PowerStates
  exact ⟨⟨runFromPark_goes, runFromStandby_goes, runInRun_goes⟩, ⟨park_goes, park_refused⟩, standby_goes, idle_goes⟩

end Sys2Proof.Machine
end

section
/-! PROOFS. The elements of a transfer move: what each access leaves as it was, and the transfer's task on the way to its end (R206 to R231). -/

namespace Sys2Proof.Machine

/-! ### What a transfer reads -/

theorem EngineOnly.readElem (b : Block) (engine c fmt : Nat) (na : Int) : EngineOnly b (b.readElem engine c fmt na).1 := by
  unfold Block.readElem
  split
  · rfl
  · dsimp only
    split
    · exact EngineOnly.translate ..
    · exact (EngineOnly.translate ..).trans ((RegOnly.countReadFrom ..).trans (RegOnly.bump ..)).engineOnly

theorem EngineOnly.readSlowElem (b : Block) (t : Task) (fmt : Nat) (na : Int) : EngineOnly b (b.readSlowElem t fmt na).1 := by
  unfold Block.readSlowElem
  dsimp only
  split
  · rfl
  · split
    · rfl
    · exact ((RegOnly.bump ..).trans (RegOnly.bump ..)).engineOnly

/-- What every round of a fold over a run has, the fold has. -/
theorem Run.foldl_has {α : Type} {f : Run → α → Run} (p : Run → Prop) (h : ∀ r x, p r → p (f r x)) (l : List α) {r : Run} (hr : p r) :
    p (l.foldl f r) := List.foldlRecOn l f hr (fun q hq x _ => h q x hq)

theorem EngineOnly.scales (r : Run) (t : Task) (i : List Nat) (l : List (Nat × Nat)) : EngineOnly r.b (r.scales t i l).b := by
  refine Run.foldl_has (fun q => EngineOnly r.b q.b) (fun q k kept => ?_) l rfl
  dsimp only
  split
  · exact kept
  · split
    · exact kept.trans (EngineOnly.readElem ..)
    · exact kept.trans (EngineOnly.readElem ..)

theorem EngineOnly.source (r : Run) (t : Task) (x : Xfer) (s : Shape) (i : List Nat) : EngineOnly r.b (r.source t x s i).1.b := by
  unfold Run.source
  dsimp only
  split
  · rfl
  · split
    · split
      · exact EngineOnly.readElem ..
      · exact EngineOnly.readElem ..
    · split
      · split <;> rfl
      · split
        · exact EngineOnly.readSlowElem ..
        · exact EngineOnly.readSlowElem ..

/-! ### What a transfer writes leaves every task as it was -/

@[simp] theorem Block.putNibbles_disp (b : Block) (pa half z v : Nat) : (b.putNibbles pa half z v).disp = b.disp := by
  have stored : ∀ w, (b.storePhys pa w).disp = b.disp := by
    intro w
    unfold Block.storePhys
    split
    · rfl
    · exact (StoreOnly.writeHbm ..).disp
  unfold Block.putNibbles
  split
  · exact stored _
  · exact stored _

@[simp] theorem Block.poisonPhys_disp (b : Block) (pa n : Nat) : (b.poisonPhys pa n).disp = b.disp := by
  unfold Block.poisonPhys
  split <;> rfl

@[simp] theorem Block.replaceWord_disp (b : Block) (word v : Nat) : (b.replaceWord word v).disp = b.disp := by
  unfold Block.replaceWord
  generalize Mem.putBytes _ _ _ = m
  rfl

@[simp] theorem Block.putElem_disp (b : Block) (f : Flow) (fmt pa half v : Nat) (poison : Bool) : (b.putElem f fmt pa half v poison).1.disp = b.disp := by
  have counted := (StoreOnly.countWrite b pa (countedBytes fmt half)).disp
  unfold Block.putElem
  dsimp only
  generalize b.countWrite pa (countedBytes fmt half) = c at *
  split
  · rw [Block.poisonPhys_disp, Block.putNibbles_disp, counted]
  · split
    · split
      · rw [Block.replaceWord_disp, counted]
      · exact counted
    · rw [Block.putNibbles_disp, counted]

@[simp] theorem Block.accTest_disp (b : Block) (t : Task) (bf16 : Bool) (terr v : Nat) : (b.accTest t bf16 terr v).disp = b.disp := by
  unfold Block.accTest
  generalize (if bf16 = true then (fmtBF16.decode v).isFinite else (fmt32.decode v).isFinite) = finite
  split
  · rfl
  · dsimp only
    split
    · rw [Block.raise_disp, Block.bump_disp, (MarkStep.nonfinite ..).disp]
    · rw [Block.bump_disp, (MarkStep.nonfinite ..).disp]

@[simp] theorem Block.accElem_disp (b : Block) (f : Flow) (t : Task) (x : Xfer) (pa e v : Nat) (poison : Bool) :
    (b.accElem f t x pa e v poison).1.disp = b.disp := by
  have consumed : ∀ (p : Bool) (terr : Nat), (if p then (b.bump Od.terraceAddElements terr 1).consumePoison t.ctx t.ticket
      else b.bump Od.terraceAddElements terr 1).disp = b.disp := by
    intro p terr
    split
    · rw [Block.consumePoison_disp, Block.bump_disp]
    · exact Block.bump_disp ..
  have saturated : ∀ (p : Bool) (c : Block), (if p then c.bump Od.srSaturateCount 2 1 else c).disp = c.disp := by
    intro p c
    split <;> rfl
  unfold Block.accElem
  dsimp only
  generalize accResult (x.dmode == 1) _ _ _ _ _ = r
  split
  · rw [Block.poisonPhys_disp, consumed]
  · split
    · exact consumed ..
    · split
      · split
        · rw [foldl_keep Block.disp (fun c _ => Block.accTest_disp c ..), Block.replaceWord_disp, saturated, consumed]
        · exact (saturated ..).trans (consumed ..)
      · rw [Block.accTest_disp]
        generalize Mem.putBytes _ _ _ = m
        exact (saturated ..).trans (consumed ..)

theorem Run.toMemory_disp (r : Run) (t : Task) (x : Xfer) (s : Shape) (j i : List Nat) (v : Nat × Bool) :
    (r.toMemory t x s j i v).b.disp = r.b.disp := by
  have translated : ∀ va write adding, (r.b.translate t.unit t.ctx va write adding).1.disp = r.b.disp := by
    intro va write adding
    rw [EngineOnly.translate]
  unfold Run.toMemory
  dsimp only
  split
  · rfl
  · split
    · rfl
    · split
      · exact translated ..
      · have remote := fun c k n => (RegOnly.countRemote c (t.unit / 4) k n).regLog.disp
        unfold Run.advance
        dsimp only
        split
        · rw [Block.putElem_disp, remote, translated]
        · rw [Block.accElem_disp, remote, translated]

/-! ### The walk over a transfer's elements -/

@[simp] theorem Run.give_b (r : Run) (e : Elem) : (r.give e).b = r.b := rfl

@[simp] theorem Run.toPort_b (r : Run) (t : Task) (x : Xfer) (s : Shape) (m : Move) (v : Nat × Bool) : (r.toPort t x s m v).b = r.b := by
  unfold Run.toPort
  simp only [Run.give_b]

@[simp] theorem Run.toSlow_b (r : Run) (t : Task) (x : Xfer) (i : List Nat) (v : Nat × Bool) : (r.toSlow t x i v).b = r.b := by
  rw [Run.toSlow]
  generalize Block.inRegion _ _ _ _ = inside
  cases inside <;> rfl

theorem Run.move_disp (r : Run) (t : Task) (x : Xfer) (s : Shape) (m : Move) : (r.move t x s m).b.disp = r.b.disp := by
  have scaled : ∀ i, (r.scales t i m.scales).b.disp = r.b.disp := fun i => by rw [EngineOnly.scales]
  have taken : ∀ i, ((r.scales t i m.scales).source t x s i).1.b.disp = r.b.disp := fun i => by rw [EngineOnly.source, scaled]
  unfold Run.move
  dsimp only
  split
  · rfl
  · split
    · rfl
    · split
      · exact scaled _
      · split
        · exact taken _
        · split
          · rw [Run.toMemory_disp, taken]
          · split
            · rw [Run.toSlow_b, taken]
            · rw [Run.toPort_b, taken]

/-- A transfer to ports only reads (R211, R227). -/
theorem EngineOnly.move {x : Xfer} (ports : x.toPorts = true) (r : Run) (t : Task) (s : Shape) (m : Move) : EngineOnly r.b (r.move t x s m).b := by
  -- `split` settles the tests of the destination from these two.
  have memory : x.dst ≠ 0 := fun h => by simp [Xfer.toPorts, Xfer.isFeed, h] at ports
  have slow : x.dst ≠ 5 := fun h => by simp [Xfer.toPorts, Xfer.isFeed, h] at ports
  have taken : ∀ i, EngineOnly r.b ((r.scales t i m.scales).source t x s i).1.b := fun i => (EngineOnly.scales ..).trans (EngineOnly.source ..)
  unfold Run.move
  dsimp only
  split
  · rfl
  · split
    · rfl
    · split
      · exact EngineOnly.scales ..
      · split
        · exact taken _
        · rw [Run.toPort_b]
          exact taken _

theorem Block.walkMoves_disp (b : Block) (t : Task) (x : Xfer) (s : Shape) (outs : List Elem) (ms : List Move) :
    (b.walkMoves t x s outs ms).b.disp = b.disp :=
  Run.foldl_has (fun r => r.b.disp = b.disp) (fun r m kept => (r.move_disp t x s m).trans kept) ms rfl

theorem EngineOnly.walkMoves {x : Xfer} (ports : x.toPorts = true) (b : Block) (t : Task) (s : Shape) (outs : List Elem) (ms : List Move) :
    EngineOnly b (b.walkMoves t x s outs ms).b :=
  Run.foldl_has (fun r => EngineOnly b r.b) (fun r m kept => kept.trans (EngineOnly.move ports r t s m)) ms rfl

/-! ### What the memories saw of a transfer (R154, R161, R216) -/

/-- `c` differs from `b` in entries, logs, drawn values and what the Stream Engines hold only. -/
def SawOnly (b c : Block) : Prop :=
  c = { b with od := c.od, odb := c.odb, log := c.log, fatal := c.fatal, se := c.se, freeCount := c.freeCount }

namespace SawOnly
variable {a b c : Block}

theorem trans (h : SawOnly a b) (k : SawOnly b c) : SawOnly a c := by unfold SawOnly at *; rw [k, h]
theorem of_regLog (h : RegLog b c) : SawOnly b c := by unfold SawOnly; unfold RegLog at h; rw [h]
theorem of_drawOnly (h : DrawOnly b c) : SawOnly b c := by unfold SawOnly; unfold DrawOnly at h; rw [h]

theorem disp (h : SawOnly b c) : c.disp = b.disp := by rw [h]
theorem plz (h : SawOnly b c) : c.plz = b.plz := by rw [h]
theorem mem (h : SawOnly b c) : c.mem = b.mem := by rw [h]
theorem slow (h : SawOnly b c) : c.slow = b.slow := by rw [h]

theorem raiseUnordered (b : Block) (ctx step : Nat) : SawOnly b (b.raiseUnordered ctx step) := by
  unfold Block.raiseUnordered
  split
  · rfl
  · exact trans (b := { b with se := { b.se with unordEvt := b.se.unordEvt ++ [(ctx, step)] } }) rfl (of_regLog (RegLog.raise ..))

theorem sawUnordered (b was : Block) (t : Task) (ext : List (Nat × Nat)) : SawOnly b (b.sawUnordered was t ext) := by
  unfold Block.sawUnordered
  split
  · rfl
  · refine foldl_has (SawOnly b) (fun c k kept => kept.trans ?_) _ rfl
    dsimp only
    split
    · rfl
    · split
      · rfl
      · exact trans (b := c.draw.2.bump Od.terraceAccUnordered (k + 1) c.draw.1) rfl (raiseUnordered ..)

theorem engineContention (b was : Block) (engine : Nat) : SawOnly b (b.engineContention was engine) :=
  trans (b := b.bumpFree Od.seAgedGrants (engine + 1)) rfl (of_drawOnly (DrawOnly.contention ..))

end SawOnly

/-! ### A transfer under way -/

/-- The task `x` stands in the table, its flow at element `n`. -/
def Block.flowsAt (b : Block) (x : Task) (n : Nat) : Prop := ∃ f : Flow, b.task? x.ticket = some { x with flow := f } ∧ f.pos = n

theorem Block.flowsAt_self {b : Block} {x : Task} (h : b.task? x.ticket = some x) : b.flowsAt x x.flow.pos := ⟨x.flow, h, rfl⟩

theorem Block.flowsAt_of_disp {b c : Block} {x : Task} {n : Nat} (h : b.flowsAt x n) (same : c.disp = b.disp) : c.flowsAt x n := by
  unfold Block.flowsAt at *
  rwa [Block.task?_of_disp same]

/-- What a run has moved becomes the progress of its task. -/
theorem Block.flowsAt_setTask {b : Block} {x : Task} {n : Nat} (h : b.flowsAt x n) (f : Flow) :
    (b.setTask x.ticket (fun y => { y with flow := { f with begun := y.flow.begun } })).flowsAt x f.pos := by
  obtain ⟨g, task, -⟩ := h
  refine ⟨{ f with begun := g.begun }, ?_, rfl⟩
  rw [Block.task?_setTask _ _ _ (f := fun y : Task => { y with flow := { f with begun := y.flow.begun } }) (fun _ => rfl), if_pos rfl, task]
  rfl

/-- A COPY that reads its shape record stays where it is (R205). -/
theorem Block.flowsAt_readsShape {b : Block} {x : Task} {n : Nat} (h : b.flowsAt x n) : (b.readsShape x).flowsAt x n := by
  unfold Block.readsShape
  split
  · obtain ⟨f, task, pos⟩ := h
    refine ⟨{ f with begun := true }, ?_, pos⟩
    have read : (b.countShape x.unit x.ctx (xferOf x.desc).shape).disp = b.disp := by rw [EngineOnly.countShape]
    rw [Block.task?_setTask _ _ _ (f := fun y : Task => { y with flow := { y.flow with begun := true } }) (fun _ => rfl), if_pos rfl,
      Block.task?_of_disp read, task]
    rfl
  · exact h

/-- The end of VECTOR tasks that have drained moves the task table alone. -/
theorem Block.vectorDrained_eq (b : Block) (k : Nat) : b.vectorDrained k = { b with disp := (b.vectorDrained k).disp } := by
  unfold Block.vectorDrained
  split
  · split <;> rfl
  · rfl

/-- A task whose unit has not worked is none of the VECTOR tasks that end with their outputs (R212). -/
theorem Block.flowsAt_vectorDrained {b : Block} {x : Task} {n : Nat} (fresh : x.stage = 0) (h : b.flowsAt x n) (k : Nat) :
    (b.vectorDrained k).flowsAt x n := by
  unfold Block.vectorDrained
  split
  · rename_i y hy
    split
    · rename_i drained
      obtain ⟨f, task, pos⟩ := h
      have other : x.ticket ≠ k := by
        intro same
        rw [← same, task] at hy
        cases hy
        simp [fresh] at drained
      refine ⟨f, ?_, pos⟩
      rw [Block.endTask, Block.task?_setTask _ _ _ (fun y => by split <;> rfl), if_neg other, task]
    · exact h
  · exact h

theorem Block.flowsAt_drainOuts {b : Block} {x : Task} {n : Nat} (fresh : x.stage = 0) (h : b.flowsAt x n) (u port m : Nat) :
    (b.drainOuts u port m).flowsAt x n :=
  foldl_has (fun c => c.flowsAt x n) (fun _ k kept => Block.flowsAt_vectorDrained fresh kept k) _ (Block.flowsAt_of_disp h rfl)

/-- A drain changes tasks and what waits on the output ports only (R212). -/
theorem Block.drainOuts_eq (b : Block) (u port n : Nat) :
    b.drainOuts u port n = { b with disp := (b.drainOuts u port n).disp, plz := { b.plz with outs := takeOuts u port n b.plz.outs } } := by
  refine foldl_has (fun c => c = { b with disp := c.disp, plz := { b.plz with outs := takeOuts u port n b.plz.outs } }) (fun c k kept => ?_) _ rfl
  rw [Block.vectorDrained_eq, kept]

/-! ### The end of a transfer -/

/-- What is delivered follows from the ports and the place of the flow (R227). -/
theorem Block.delivered_of_ports {b c : Block} (same : c.plz = b.plz) (x : Task) {f : Flow} (pos : f.pos = x.flow.pos) :
    c.delivered { x with flow := f } = b.delivered x := by
  unfold Block.delivered Block.feeding
  rw [same, pos]
  rfl

/-- A transfer to memory or the slow tier has delivered what it has written (R227). -/
theorem Block.delivered_of_not_toPorts (b : Block) {x : Task} (memory : x.xfer.toPorts = false) (f : Flow) : b.delivered { x with flow := f } = f.pos :=
  if_pos (by rw [Bool.not_eq_true']; exact memory)

/-- The unit part of the record of a transfer that ends with `st` (R227, R228). -/
def xferReport (st : Nat) (coords : List Nat) (cause va origin done : Nat) : Nat :=
  if st = sOK then wrap 48 done else reportBits coords cause va origin done

theorem endedWith_endXfer {b : Block} {k : Nat} {x : Task} (h : b.task? k = some x) (hx : x.phase = .running) (st : Nat) (cs : List Nat)
    (cause va o : Nat) : EndedWith (b.endXfer k st cs cause va o) k st (xferReport st cs cause va o (b.delivered x)) := by
  unfold Block.endXfer
  simp only [h]
  rw [if_neg (by simp [Task.isRunning, hx])]
  have still : ((b.bump Od.sePrefetchDiscardBytes (x.unit + 1) (b.ahead x)).leavePorts x st).disp = b.disp :=
    b.bump_disp Od.sePrefetchDiscardBytes (x.unit + 1) (b.ahead x)
  exact endedWith_of_disp ((MarkStep.arm ..).trans (MarkStep.xferMark ..)).disp
    (endedWith_endTask ((Block.task?_of_disp still k).trans h) hx _ _)

/-- A VECTOR task that fails leaves ended what has ended (R111, R231). -/
theorem endedWith_of_failVector {b : Block} {k st u : Nat} (h : EndedWith b k st u) (v : Task) (w : Nat) : EndedWith (b.failVector v w) k st u := by
  unfold Block.failVector Block.taintOuts
  dsimp only
  refine (foldl_has (TransferStep (fun _ => True) _) (fun _ p q => q.trans (TransferStep.dropPort _ _ p.1 p.2)) _ (TransferStep.refl _)).ends ?_
  refine (foldl_has (TransferStep (fun _ => True) _) (fun _ e q => q.trans (TransferStep.endXfer _ trivial ..)) _ (TransferStep.refl _)).ends ?_
  exact endedWith_of_disp (b := b.endTask v.ticket w (vectorUnit v)) rfl ((TransferStep.endTask b (T := fun _ => True) trivial _ _).ends h)

/-- The status with which what stops a transfer ends it (R226, R393). -/
def Stop.status : Stop → Nat
  | .fault cause _ => causeStatus cause
  | .poison _ => sPoisoned

/-- The report of a transfer `k` that is stopped at the coordinates `i` after `done` elements (R227, R228). -/
def Stop.report (i : List Nat) (k done : Nat) : Stop → Nat
  | .fault cause va => reportBits i cause va k done
  | .poison va => reportBits i 0 va k done

/-- A transfer that a fault or poison stops (R227, R393). -/
def Block.halted (b : Block) (k : Nat) (i : List Nat) : Stop → Block
  | .fault cause va => b.faultXfer k i cause va
  | .poison va => b.poisonXfer k i va

section Moves
variable {b : Block} {x : Task} {n : Nat} (h : b.flowsAt x n) (running : x.phase = .running) (memory : x.xfer.toPorts = false)
include h running memory

/-- A transfer to memory that ends has delivered the elements before its place. -/
theorem Block.flowsAt_ends (st : Nat) (cs : List Nat) (cause va o : Nat) :
    EndedWith (b.endXfer x.ticket st cs cause va o) x.ticket st (xferReport st cs cause va o n) := by
  obtain ⟨f, task, pos⟩ := h
  rw [← pos, ← b.delivered_of_not_toPorts memory f]
  exact endedWith_endXfer task running ..

/-- What stops a transfer to memory ends it with its cause and place (R227, R393). -/
theorem Block.flowsAt_halts (st : Stop) (i : List Nat) : EndedWith (b.halted x.ticket i st) x.ticket st.status (st.report i x.ticket n) := by
  have ⟨f, task, _⟩ := h
  cases st with
  | fault cause va =>
    have failed : causeStatus cause ≠ sOK := by unfold causeStatus; split <;> decide
    unfold Block.halted Block.faultXfer
    simp only [task]
    generalize hc : Block.raise _ 0x8350 _ _ = c
    have here : c.flowsAt x n := Block.flowsAt_of_disp h (by rw [← hc, Block.raise_disp, Block.setOct_disp])
    have ended := Block.flowsAt_ends here running memory (causeStatus cause) i cause va x.ticket
    rwa [xferReport, if_neg failed] at ended
  | poison va =>
    unfold Block.halted Block.poisonXfer
    simp only [task]
    exact Block.flowsAt_ends (Block.flowsAt_of_disp h (Block.consumePoison_disp ..)) running memory sPoisoned i 0 va x.ticket

/-- So it does where the transfer is a drain, whose VECTOR task ends with it (R231). -/
theorem Block.flowsAt_stopped {t : Task} (ticket : t.ticket = x.ticket) (y : Xfer) (st : Stop) (i : List Nat) :
    EndedWith (b.xferStopped t y st i) x.ticket st.status (st.report i x.ticket n) := by
  have halts := Block.flowsAt_halts h running memory st i
  unfold Block.halted at halts
  unfold Block.xferStopped
  dsimp only
  rw [ticket]
  split
  · split
    · exact endedWith_of_failVector halts _ _
    · exact halts
  · exact halts

end Moves

end Sys2Proof.Machine
end

section
/-! PROOFS. COPY, REARM, RELEASE and INVAL: the parts of a run, and how each command of a Stream Engine waits and ends (R206 to R231). -/

namespace Sys2Proof.Machine

/-! ### The parts of a COPY's run -/

/-- Giving up what is staged moves nothing of the task but its staging (log entry 53). -/
theorem Block.yieldStaging_eq (b : Block) (t : Task) : ∃ g l, b.yieldStaging t = { t with flow := { t.flow with group := g, staged := l } } := by
  unfold Block.yieldStaging
  split
  · exact ⟨_, _, rfl⟩
  · exact ⟨_, _, rfl⟩

@[simp] theorem Block.yieldStaging_ticket (b : Block) (t : Task) : (b.yieldStaging t).ticket = t.ticket := by
  obtain ⟨g, l, h⟩ := b.yieldStaging_eq t
  rw [h]

@[simp] theorem Block.yieldStaging_pos (b : Block) (t : Task) : (b.yieldStaging t).flow.pos = t.flow.pos := by
  obtain ⟨g, l, h⟩ := b.yieldStaging_eq t
  rw [h]

/-- The run over the elements that a transfer may move now (R212, R217). -/
def Block.copyWalk (b : Block) (t : Task) (x : Xfer) (s : Shape) : Run :=
  b.walkMoves (b.yieldStaging t) x s (if x.src = 1 then b.portOuts (b.drainUnit t.ticket) x.port else [])
    (if x.toPorts then fitting x (2 * b.room (b.yieldStaging t)) ((x.moves s).drop t.flow.pos) else (x.moves s).drop t.flow.pos)

/-- Have all elements moved? -/
def Block.copyAll (b : Block) (t : Task) (x : Xfer) (s : Shape) : Bool := decide ((b.copyWalk t x s).flow.pos = (x.moves s).length)

/-- The block once the run stands in the task, the ports and the slow tier, and is counted (R211, R235, R358). -/
def Block.copyLanded (b : Block) (t : Task) (x : Xfer) (s : Shape) : Block :=
  let r := b.copyWalk t x s
  let b' := r.b.setTask t.ticket (fun y => { y with flow := { r.flow with begun := y.flow.begun } })
  let b' := if x.dst = 5 then (b'.deliver (b.yieldStaging t).ctx (x.dstBase + 2 * t.flow.pos) r.hz).2 else b'
  if x.toPorts then b'.fillPorts t.ticket r.new (b.copyAll t x s)
  else b'.bump Od.seBytesDelivered ((b.yieldStaging t).unit + 1) (elemBytes x.fmt r.flow.pos - elemBytes x.fmt t.flow.pos)

/-- The block once what a drain has moved has also left its output port (R212). -/
def Block.copyDrained (b : Block) (t : Task) (x : Xfer) (s : Shape) : Block :=
  let outs := if x.src = 1 then b.portOuts (b.drainUnit t.ticket) x.port else []
  if x.src = 1 then (b.copyLanded t x s).drainOuts (b.drainUnit t.ticket) x.port (outs.length - (b.copyWalk t x s).outs.length) else b.copyLanded t x s

section Parts
variable (b : Block) (t : Task) (x : Xfer) (s : Shape)

/-- An access that stops the run ends the transfer. -/
theorem Block.copyMoves_stopped {st : Stop} {i : List Nat} (h : (b.copyWalk t x s).stop = some (st, i)) :
    SawOnly ((b.copyLanded t x s).xferStopped (b.yieldStaging t) x st i) (b.copyMoves t x s) := by
  unfold Block.copyMoves
  dsimp only
  refine SawOnly.trans ?_ (SawOnly.engineContention ..)
  rw [Block.yieldStaging_ticket, Block.yieldStaging_pos, ← Block.copyWalk, h]
  exact SawOnly.sawUnordered ..

/-- A run that nothing stops ends the transfer where it was to memory or the slow tier and all has moved. -/
theorem Block.copyMoves_unstopped (h : (b.copyWalk t x s).stop = none) :
    SawOnly (if b.copyAll t x s && !x.toPorts then (b.copyDrained t x s).endXfer t.ticket sOK [] 0 0 0 else b.copyDrained t x s) (b.copyMoves t x s) := by
  unfold Block.copyMoves
  dsimp only
  refine SawOnly.trans ?_ (SawOnly.engineContention ..)
  rw [Block.yieldStaging_ticket, Block.yieldStaging_pos, ← Block.copyWalk, h]
  exact SawOnly.sawUnordered ..

end Parts

/-! ### The task and the ports after a run -/

theorem SlowOnly.slowMark (b : Block) (a n : Nat) : SlowOnly b (b.slowMark a n) := by
  unfold Block.slowMark
  dsimp only
  split <;> rfl

theorem SlowOnly.deliver (b : Block) (ctx off : Nat) (vs : List (Nat × Bool)) : SlowOnly b (b.deliver ctx off vs).2 := by
  unfold Block.deliver Block.storeRun
  dsimp only
  split
  · rfl
  · exact foldl_has (SlowOnly b) (fun _ w kept => kept.trans (slowMark ..)) _ (slowWrite ..)

@[simp] theorem Block.fillPorts_disp (b : Block) (k : Nat) (l : List Elem) (all : Bool) : (b.fillPorts k l all).disp = b.disp := rfl

theorem Block.flowsAt_copyLanded {b : Block} {x : Task} {n : Nat} (h : b.flowsAt x n) (y : Xfer) (s : Shape) :
    (b.copyLanded x y s).flowsAt x (b.copyWalk x y s).flow.pos := by
  have walked : (b.copyWalk x y s).b.flowsAt x n := Block.flowsAt_of_disp h (Block.walkMoves_disp ..)
  have moved := Block.flowsAt_setTask walked (b.copyWalk x y s).flow
  unfold Block.copyLanded
  dsimp only
  have delivered : ∀ c : Block, (if y.dst = 5 then (c.deliver (b.yieldStaging x).ctx (y.dstBase + 2 * x.flow.pos) (b.copyWalk x y s).hz).2 else c).disp
      = c.disp := by
    intro c
    split
    · exact (SlowOnly.deliver ..).disp
    · rfl
  refine Block.flowsAt_of_disp moved ?_
  split
  · rw [Block.fillPorts_disp, delivered]
  · rw [Block.bump_disp, delivered]

theorem Block.flowsAt_copyDrained {b : Block} {x : Task} {n : Nat} (fresh : x.stage = 0) (h : b.flowsAt x n) (y : Xfer) (s : Shape) :
    (b.copyDrained x y s).flowsAt x (b.copyWalk x y s).flow.pos := by
  have landed := Block.flowsAt_copyLanded h y s
  unfold Block.copyDrained
  dsimp only
  split
  · exact Block.flowsAt_drainOuts fresh landed ..
  · exact landed

/-- A feed leaves the memories, and of the ports it fills its own (R211, R214). -/
theorem Block.copyDrained_feeds {y : Xfer} (ports : y.toPorts = true) (b : Block) (x : Task) (s : Shape) :
    (b.copyDrained x y s).mem = b.mem ∧ (b.copyDrained x y s).slow = b.slow
    ∧ (b.copyDrained x y s).plz.ports = (b.fillPorts x.ticket (b.copyWalk x y s).new (b.copyAll x y s)).plz.ports := by
  have memory : y.dst ≠ 5 := fun h => by simp [Xfer.toPorts, Xfer.isFeed, h] at ports
  have walked : EngineOnly b (b.copyWalk x y s).b := EngineOnly.walkMoves ports ..
  have landed : (b.copyLanded x y s).mem = b.mem ∧ (b.copyLanded x y s).slow = b.slow
      ∧ (b.copyLanded x y s).plz.ports = (b.fillPorts x.ticket (b.copyWalk x y s).new (b.copyAll x y s)).plz.ports := by
    unfold Block.copyLanded
    dsimp only
    rw [if_neg memory, if_pos ports, walked]
    exact ⟨rfl, rfl, rfl⟩
  unfold Block.copyDrained
  dsimp only
  split
  · rw [Block.drainOuts_eq]
    exact landed
  · exact landed

/-- A port on which a feed is queued gets what the feed has read (R211, R214). -/
theorem Block.mem_fillPorts {b : Block} {k : Nat} {f : PortEntry} (h : f ∈ b.plz.ports) (mine : f.ticket = k) (feed : f.port.kind ≠ kindOP)
    (open_ : f.status = 0) (l : List Elem) (all : Bool) :
    ∃ g ∈ (b.fillPorts k l all).plz.ports, g.port = f.port ∧ g.ticket = k ∧ g.taken = f.taken ∧ g.elems = f.elems ++ l ∧ g.done = all := by
  refine ⟨_, List.mem_map.mpr ⟨f, h, rfl⟩, ?_⟩
  rw [if_pos (by simp [mine, feed, open_])]
  exact ⟨rfl, mine, rfl, rfl, rfl⟩

/-! ### The commands -/

/-- A Stream Engine command whose task has its XOP runs that task. -/
theorem Block.xferCmd_starting {b : Block} {xop k : Nat} {x : Task} (hx : b.starting k opXfer = some x) (ho : (xferOf x.desc).xop = xop)
    (hs : b.gov.shed = false) (f : Task → Xfer → Block) : b.xferCmd xop k f = f x (xferOf x.desc) := by
  unfold Block.xferCmd
  simp only [hx]
  exact if_pos ⟨ho, by simp [hs]⟩

/-- A COPY, or a REARM of a stream as it found it at its issue, runs (R220, R221). -/
theorem goes_copyRun {s : State} {k : Nat} {x : Task} {raw : BitVec 512} {e : Instr × Nat} {P : State → Prop}
    (he : e ∈ [(Instr.copy k, 0), (.rearm k, 1)]) (hx : s.toBlock.starting k opXfer = some x) (ho : (xferOf x.desc).xop = e.2)
    (hs : s.gov.shed = false) (shape : x.shape = some (.ok raw))
    (free : (xferOf x.desc).persist = true ∨ e.2 = 1 → s.toBlock.streamFree x (xferOf x.desc) = true)
    (armed : e.2 = 1 → ∃ p, s.toBlock.stream? x.unit (xferOf x.desc).stream = some p ∧ p.ctx = x.ctx ∧ p.desc = x.opts ∧ p.shape = raw)
    (hp : ∀ c, s.toBlock.copyRun x = c → P { s with toBlock := settle c }) : Goes (exec e.1 s) P := by
  rcases List.mem_pair.mp he with rfl | rfl
  · refine goes_run_eq (f := xCopy k) ((Block.xferCmd_starting hx ho hs _).trans (if_neg ?_)) (hp _ rfl)
    intro held
    simp only [Bool.and_eq_true, Bool.not_eq_true'] at held
    rw [free (.inl held.1)] at held
    exact absurd held.2 (by decide)
  · obtain ⟨p, stream, ctx, desc, contents⟩ := armed rfl
    refine goes_run_eq (f := xRearm k) ((Block.xferCmd_starting hx ho hs _).trans ?_) (hp _ rfl)
    have same : s.toBlock.rearm x p = (s.toBlock, x) := if_pos ⟨desc.symm, by rw [shape, contents]⟩
    rw [if_neg (by simp [free (.inr rfl)]), stream]
    simp only [ctx, if_true, same]

section Runs
variable {s b : Block} {x : Task} (hb : b = s.contended (fun b => b.readsShape x))
include hb

/-- A source that is tainted ends the run before an element moves (R230). -/
theorem Block.copyRun_tainted {cause origin : Nat} (h : b.xferTaint x = some (cause, origin)) :
    s.copyRun x = b.endXfer x.ticket sTainted [] cause 0 origin := by
  subst hb
  unfold Block.copyRun
  dsimp only
  rw [h]

theorem Block.copyRun_moves (h : b.xferTaint x = none) {raw : BitVec 512} (shape : x.shape = some (.ok raw)) :
    s.copyRun x = if b.outTurn x x.xfer then b.copyMoves x x.xfer (shapeOf raw) else b := by
  subst hb
  unfold Block.copyRun
  dsimp only
  rw [h, shape]

/-- The read of the shape record leaves the task in its place, and the memories and ports. -/
theorem Block.contended_readsShape (task : s.task? x.ticket = some x) :
    b.flowsAt x x.flow.pos ∧ b.mem = s.mem ∧ b.slow = s.slow ∧ b.plz = s.plz := by
  have drawn : DrawOnly (s.readsShape x) b := hb ▸ DrawOnly.contended rfl
  have read := Block.readsShape_eq s x
  refine ⟨Block.flowsAt_of_disp (Block.flowsAt_readsShape (Block.flowsAt_self task)) drawn.disp, drawn.mem.trans ?_, drawn.slow.trans ?_,
    (show b.plz = (s.readsShape x).plz by rw [drawn]).trans ?_⟩
  all_goals rw [read]

end Runs

/-- The end of a transfer leaves the memories (R227). -/
theorem Block.endXfer_memories (b : Block) (k st : Nat) (cs : List Nat) (cause va o : Nat) :
    (b.endXfer k st cs cause va o).mem = b.mem ∧ (b.endXfer k st cs cause va o).slow = b.slow :=
  have step := TransferStep.endXfer b (T := fun _ => True) (t := k) trivial st cs cause va o
  ⟨step.mem, step.slow⟩

/-- An XFER that is no COPY and ends OK counts what it discards, and keeps the streams and translations (R219, R220). -/
theorem Block.endXfer_ok {b : Block} {k : Nat} {x : Task} (h : b.task? k = some x) (noCopy : (xferOf x.desc).xop ≠ 0) :
    (b.endXfer k sOK [] 0 0 0).se.streams = b.se.streams ∧ (b.endXfer k sOK [] 0 0 0).se.tlb = b.se.tlb
    ∧ RegsKept [odKey Od.sePrefetchDiscardBytes (x.unit + 1)] b (b.endXfer k sOK [] 0 0 0) := by
  have unarmed : ∀ c : Block, c.arm x sOK = c := by
    intro c
    unfold Block.arm
    dsimp only
    split
    · exact if_neg (fun q => noCopy q.1)
    · rfl
  have marked : ∀ c : Block, (c.xferMark x sOK 0).se.streams = c.se.streams ∧ (c.xferMark x sOK 0).se.tlb = c.se.tlb
      ∧ (c.xferMark x sOK 0).od = c.od := by
    intro c
    unfold Block.xferMark
    rw [if_pos rfl]
    split
    · exact ⟨rfl, rfl, rfl⟩
    · exact ⟨rfl, rfl, rfl⟩
  unfold Block.endXfer
  simp only [h, unarmed]
  split
  · exact ⟨rfl, rfl, RegsKept.refl _ b⟩
  · obtain ⟨streams, tlb, od⟩ := marked (((b.bump Od.sePrefetchDiscardBytes (x.unit + 1) (b.ahead x)).leavePorts x sOK).endTask k sOK
      (if sOK = sOK then wrap 48 (b.delivered x) else reportBits [] 0 0 0 (b.delivered x)))
    exact ⟨streams, tlb, (RegsKept.setReg b _ _ _ (List.mem_singleton.mpr rfl)).trans (RegsKept.of_od od)⟩

/-- Nothing has been delivered by a task at its start that is queued on no feed. -/
theorem Block.delivered_none {b : Block} {x : Task} (start : x.flow.pos = 0) (none : b.feeding x.ticket = []) : b.delivered x = 0 := by
  unfold Block.delivered
  rw [none, start, ite_self]

/-! ### REARM of a free stream, RELEASE and INVAL (R221, R225) -/

theorem rearm_unarmed (s : State) (k : Nat) (x : Task) (hx : s.toBlock.starting k opXfer = some x) (ho : (xferOf x.desc).xop = 1)
    (hs : s.gov.shed = false) (free : s.toBlock.streamFree x (xferOf x.desc) = true)
    (unarmed : s.toBlock.stream? x.unit (xferOf x.desc).stream = none) : Goes (exec (.rearm k) s) fun t =>
      EndedWith t.toBlock k sAddrFault (reportBits [] 0 0 k (s.toBlock.delivered x)) ∧ t.mem = s.mem := by
  obtain ⟨task, running, -⟩ := Block.starting_eq_some hx
  have run : xRearm k s.toBlock = s.toBlock.endXfer k sAddrFault [] 0 0 k := by
    refine (Block.xferCmd_starting hx ho hs _).trans ?_
    rw [if_neg (by simp [free]), unarmed]
  exact goes_run_eq run ⟨endedWith_of_disp rfl (endedWith_endXfer task running ..), (Block.endXfer_memories ..).1⟩

theorem release_goes (s : State) (k : Nat) (x : Task) (hx : s.toBlock.starting k opXfer = some x) (ho : (xferOf x.desc).xop = 2)
    (hs : s.gov.shed = false) (free : s.toBlock.streamFree x (xferOf x.desc) = true) (start : x.flow.pos = 0) (none : s.toBlock.feeding k = []) :
    Goes (exec (.release k) s) fun t =>
      EndedWith t.toBlock k sOK 0 ∧ (∀ p ∈ t.se.streams, ¬(p.engine = x.unit ∧ p.num = (xferOf x.desc).stream ∧ p.ctx = x.ctx))
      ∧ t.se.tlb = s.se.tlb ∧ t.mem = s.mem := by
  obtain ⟨task, running, -⟩ := Block.starting_eq_some hx
  obtain rfl := Block.task?_ticket task
  refine goes_run_eq (f := xRelease x.ticket) ((Block.xferCmd_starting hx ho hs _).trans (if_neg (by simp [free]))) ?_
  generalize hc : ({ s.toBlock with se := _ } : Block) = c
  have here : c.task? x.ticket = some x := hc ▸ task
  have ended := endedWith_endXfer here running sOK [] 0 0 0
  rw [Block.delivered_none start (b := c) (hc ▸ none)] at ended
  obtain ⟨streams, tlb, -⟩ := Block.endXfer_ok here (by rw [ho]; decide)
  obtain ⟨mem, -⟩ := c.endXfer_memories x.ticket sOK [] 0 0 0
  refine ⟨endedWith_of_disp rfl ended, ?_, tlb.trans (hc ▸ rfl), mem.trans (hc ▸ rfl)⟩
  rw [settle_se, streams, ← hc]
  exact fun p hp hit => by simpa [hit] using (List.mem_filter.mp hp).2

theorem inval_goes (s : State) (k : Nat) (x : Task) (hx : s.toBlock.starting k opXfer = some x) (ho : (xferOf x.desc).xop = 3)
    (hs : s.gov.shed = false) (start : x.flow.pos = 0) (none : s.toBlock.feeding k = []) : Goes (exec (.inval k) s) fun t =>
      EndedWith t.toBlock k sOK 0 ∧ (∀ p ∈ t.se.tlb, p.ctx ≠ x.ctx) ∧ t.se.streams = s.se.streams ∧ t.mem = s.mem
      ∧ RegsKept [odKey Od.sePrefetchDiscardBytes (x.unit + 1)] s.toBlock t.toBlock := by
  obtain ⟨task, running, -⟩ := Block.starting_eq_some hx
  obtain rfl := Block.task?_ticket task
  refine goes_run_eq (f := xInval x.ticket) (Block.xferCmd_starting hx ho hs _) ?_
  generalize hc : ({ s.toBlock with se := _ } : Block) = c
  have here : c.task? x.ticket = some x := hc ▸ task
  have ended := endedWith_endXfer here running sOK [] 0 0 0
  rw [Block.delivered_none start (b := c) (hc ▸ none)] at ended
  obtain ⟨streams, tlb, regs⟩ := Block.endXfer_ok here (by rw [ho]; decide)
  obtain ⟨mem, -⟩ := c.endXfer_memories x.ticket sOK [] 0 0 0
  refine ⟨endedWith_of_disp rfl ended, ?_, streams.trans (hc ▸ rfl), mem.trans (hc ▸ rfl), ?_⟩
  · rw [settle_se, tlb, ← hc]
    exact fun p hp => by simpa using (List.mem_filter.mp hp).2
  · exact (RegsKept.of_od (hc ▸ rfl)).trans regs

/-! ### COPY and REARM -/

section Copies
variable {b : Block} {x : Task} {n : Nat} {s : Shape} (at_ : b.flowsAt x n) (running : x.phase = .running) (fresh : x.stage = 0)
include at_ running

/-- An access that stops a transfer to memory ends it with its cause and place (R227, R393). -/
theorem Block.copyMoves_ends_stopped (memory : x.xfer.toPorts = false) {st : Stop} {i : List Nat} (h : (b.copyWalk x x.xfer s).stop = some (st, i)) :
    EndedWith (b.copyMoves x x.xfer s) x.ticket st.status (st.report i x.ticket (b.copyWalk x x.xfer s).flow.pos) :=
  endedWith_of_disp (b.copyMoves_stopped x x.xfer s h).disp
    (Block.flowsAt_stopped (Block.flowsAt_copyLanded at_ x.xfer s) running memory (b.yieldStaging_ticket x) x.xfer st i)

include fresh

/-- A transfer to memory whose elements have all moved ends OK with their count (R227). -/
theorem Block.copyMoves_ends_all (memory : x.xfer.toPorts = false) (h : (b.copyWalk x x.xfer s).stop = none)
    (all : (b.copyWalk x x.xfer s).flow.pos = (x.xfer.moves s).length) :
    EndedWith (b.copyMoves x x.xfer s) x.ticket sOK (wrap 48 (x.xfer.moves s).length) := by
  have saw := b.copyMoves_unstopped x x.xfer s h
  rw [if_pos (by simp [Block.copyAll, all, memory])] at saw
  rw [← all]
  exact endedWith_of_disp saw.disp (Block.flowsAt_ends (Block.flowsAt_copyDrained fresh at_ x.xfer s) running memory sOK [] 0 0 0)

end Copies

/-- A feed, or a transfer of which not all has moved, waits with what has moved (R211, R227). -/
theorem Block.copyMoves_waits {b : Block} {x : Task} {s : Shape} (h : (b.copyWalk x x.xfer s).stop = none)
    (more : x.xfer.toPorts = true ∨ (b.copyWalk x x.xfer s).flow.pos ≠ (x.xfer.moves s).length) :
    SawOnly (b.copyDrained x x.xfer s) (b.copyMoves x x.xfer s) := by
  have saw := b.copyMoves_unstopped x x.xfer s h
  rwa [if_neg (by rcases more with more | more <;> simp [Block.copyAll, more])] at saw

/-- Settles O28: each way in which a COPY or REARM can end or wait is read off the run of its elements, and RELEASE and INVAL are one equation each. -/
theorem transfers : Obligations.Transfers := by
  unfold Obligations.Transfers
  refine ⟨?_, rearm_unarmed, release_goes, inval_goes⟩
  intro s k x y raw ms b r e he hx ho hs hy shape free armed hb hms
  obtain ⟨task, running, fresh⟩ := Block.starting_eq_some hx
  obtain rfl := Block.task?_ticket task
  subst hy hms
  obtain ⟨at_, mem, slow, plz⟩ := Block.contended_readsShape hb task
  refine ⟨fun cause origin tainted => ?_, fun sound turn => ?_, fun sound turn hr => ?_⟩
  · obtain ⟨f, here, pos⟩ := at_
    have ended := endedWith_endXfer here running sTainted [] cause 0 origin
    rw [Block.delivered_of_ports plz x pos] at ended
    obtain ⟨mem', slow'⟩ := b.endXfer_memories x.ticket sTainted [] cause 0 origin
    refine goes_copyRun he hx ho hs shape free armed fun c hc => ?_
    rw [Block.copyRun_tainted hb tainted] at hc
    rw [hc] at ended mem' slow'
    exact ⟨endedWith_of_disp rfl ended, mem'.trans mem, slow'.trans slow⟩
  · refine goes_copyRun he hx ho hs shape free armed fun c hc => ?_
    rw [Block.copyRun_moves hb sound shape, turn, if_neg Bool.false_ne_true] at hc
    subst hc
    obtain ⟨f, here, pos⟩ := at_
    exact ⟨⟨_, here, running, pos⟩, mem⟩
  · have walk : r = b.copyWalk x x.xfer (shapeOf raw) := hr
    subst walk
    have go : ∀ {P : State → Prop}, (∀ c, b.copyMoves x x.xfer (shapeOf raw) = c → P { s with toBlock := settle c }) → Goes (exec e.1 s) P := by
      intro P hp
      refine goes_copyRun he hx ho hs shape free armed fun c hc => hp c ?_
      rwa [Block.copyRun_moves hb sound shape, turn, if_pos rfl] at hc
    refine ⟨fun fine memory all => go fun c hc => ?_, fun fine more => go fun c hc => ?_, fun fine ports => go fun c hc => ?_,
      fun cause va i stopped memory => go fun c hc => ?_, fun va i stopped memory => go fun c hc => ?_⟩
    · exact endedWith_of_disp rfl (hc ▸ Block.copyMoves_ends_all at_ running fresh memory fine all)
    · have waits := hc ▸ Block.copyMoves_waits fine more
      obtain ⟨f, here, pos⟩ := Block.flowsAt_of_disp (Block.flowsAt_copyDrained fresh at_ x.xfer (shapeOf raw)) waits.disp
      exact ⟨_, here, running, rfl, pos⟩
    · have waits := hc ▸ Block.copyMoves_waits fine (.inl ports)
      obtain ⟨mem', slow', ports'⟩ := Block.copyDrained_feeds ports b x (shapeOf raw)
      refine ⟨waits.mem.trans (mem'.trans mem), waits.slow.trans (slow'.trans slow), fun f hf mine feed open_ => ?_⟩
      rw [settle_plz, waits.plz, ports']
      exact Block.mem_fillPorts (by rwa [plz]) mine feed open_ ..
    · exact endedWith_of_disp rfl (hc ▸ Block.copyMoves_ends_stopped at_ running memory stopped)
    · exact endedWith_of_disp rfl (hc ▸ Block.copyMoves_ends_stopped at_ running memory stopped)

end Sys2Proof.Machine
end

section
/-! PROOFS. Rings, tokens and holds: what writes, doorbells and the Dispatcher's own tasks make of them (R238, R241, R251, R264 to R267, R272, R434). -/

namespace Sys2Proof.Machine

/-! ### What a ring, a token and a hold read as -/

theorem Block.ring_setRing (b : Block) (k : Nat) (r : Ring) (j : Nat) : (b.setRing k r).ring j = if j = k then r else b.ring j := sget_sset ..

@[simp] theorem Block.ring_setRing_self (b : Block) (k : Nat) (r : Ring) : (b.setRing k r).ring k = r := sget_sset_self ..

theorem Block.ring_setRing_ne (b : Block) {j k : Nat} (r : Ring) (h : j ≠ k) : (b.setRing k r).ring j = b.ring j := sget_sset_ne _ _ _ _ h

@[simp] theorem Block.token_setToken_self (b : Block) (n v : Nat) : (b.setToken n v).token n = wrap 32 v := sget_sset_self ..

theorem Block.token_setToken_ne (b : Block) {m n : Nat} (v : Nat) (h : m ≠ n) : (b.setToken n v).token m = b.token m := sget_sset_ne _ _ _ _ h

@[simp] theorem Block.holdOf_setHold_self (b : Block) (k : Nat) (h : Hold) : (b.setHold k h).holdOf k = h := sget_sset_self ..

theorem Block.holdOf_setHold_ne (b : Block) {j k : Nat} (h : Hold) (ne : j ≠ k) : (b.setHold k h).holdOf j = b.holdOf j := sget_sset_ne _ _ _ _ ne

theorem Block.ring_of_disp {b c : Block} (h : c.disp = b.disp) (k : Nat) : c.ring k = b.ring k := by unfold Block.ring; rw [h]

theorem Block.holdOf_of_disp {b c : Block} (h : c.disp = b.disp) (k : Nat) : c.holdOf k = b.holdOf k := by unfold Block.holdOf; rw [h]

@[simp] theorem ring_settle (b : Block) (k : Nat) : (settle b).ring k = b.ring k := rfl
@[simp] theorem token_settle (b : Block) (n : Nat) : (settle b).token n = b.token n := rfl
@[simp] theorem Block.token_endTask (b : Block) (t st u n : Nat) : (b.endTask t st u).token n = b.token n := rfl
@[simp] theorem Block.noteReady_token (b : Block) (n : Nat) : b.noteReady.token n = b.token n := rfl
@[simp] theorem Block.noteReady_release (b : Block) : b.noteReady.disp.release = b.disp.release := rfl
@[simp] theorem Block.ring_endTask (b : Block) (t st u k : Nat) : (b.endTask t st u).ring k = b.ring k := rfl

/-! ### Writes of DISP_RING_CONFIG, DISP_RING_RESUME and DISP_TOKEN_VALUE (R238, R251, R272) -/

section Writes
variable {b : Block} (open_ : Writable b)
include open_

/-- A good record with ENABLE = 1 starts its ring afresh. -/
theorem xRingConfig_enables {r : BitVec 256} (service : b.service ≠ svcManagement) (ctx : b.resetting (cfgCtx r) = false)
    (ring : b.ringResetting (cfgRing r) = false) (off : (b.ring (cfgRing r)).state = .disabled) (enable : cfgEnable r = true)
    (free : ∀ x ∈ b.disp.tasks, x.ring ≠ cfgRing r) (good : badRing r = false) :
    xRingConfig r b = ((b.setRing (cfgRing r) { Ring.empty with cfg := r, state := .active }).setHold (cfgRing r) Hold.none).answer stOK := by
  unfold xRingConfig
  rw [Block.onWrite_open open_]
  dsimp only
  rw [if_neg (by simp [service, ring]), if_neg (by simp [enable]), if_neg (by simpa [ctx, off, good] using free)]

/-- ENABLE = 0 disables the ring, whatever else the record says; its indices stand. -/
theorem xRingConfig_disables {r : BitVec 256} (service : b.service ≠ svcManagement) (ring : b.ringResetting (cfgRing r) = false)
    (disable : cfgEnable r = false) : xRingConfig r b =
      ((b.setRing (cfgRing r) { b.ring (cfgRing r) with state := .disabled, cfg := cfgKept r, workAt := 0 }).setHold (cfgRing r)
        (if (b.heldTasks (cfgRing r)).isEmpty then Hold.none else b.holdOf (cfgRing r))).answer stOK := by
  unfold xRingConfig
  rw [Block.onWrite_open open_]
  dsimp only
  rw [if_neg (by simp [service, ring]), if_pos (by simp [disable])]

theorem xRingConfig_refuses {r : BitVec 256} (no : b.service = svcManagement ∨ b.ringResetting (cfgRing r) = true
      ∨ (cfgEnable r = true ∧ (b.resetting (cfgCtx r) = true ∨ (b.ring (cfgRing r)).state ≠ .disabled ∨ (∃ x ∈ b.disp.tasks, x.ring = cfgRing r) ∨ badRing r = true))) :
    xRingConfig r b = b.answer stWriteRefused := by
  unfold xRingConfig
  rw [Block.onWrite_open open_]
  dsimp only
  by_cases early : b.service = svcManagement ∨ b.ringResetting (cfgRing r) = true
  · rw [if_pos (by simpa using early)]
  · obtain ⟨enable, fault⟩ := (or_assoc.mpr no).resolve_left early
    rw [if_neg (by simpa using early), if_neg (by simp [enable]), if_pos (by simpa [or_assoc] using fault)]

/-- A HALTED ring becomes ACTIVE again, but for one whose record could not be written. -/
theorem xRingResume_resumes {k : Nat} (halted : (b.ring k).state = .halted) (reason : (b.ring k).reason ≠ 7) :
    xRingResume k b = (b.setRing k { b.ring k with state := .active, reason := 0, failVA := 0 }).answer stOK := by
  unfold xRingResume
  rw [Block.onWrite_open open_]
  exact if_pos (by simp [halted, reason])

theorem xRingResume_refuses {k : Nat} (no : (b.ring k).state ≠ .halted ∨ (b.ring k).reason = 7) : xRingResume k b = b.answer stWriteRefused := by
  unfold xRingResume
  rw [Block.onWrite_open open_]
  refine if_neg ?_
  rcases no with no | no <;> simp [no]

theorem xTokenValue_sets (c : Client) (v : Nat) : xTokenValue c v b = ((b.setToken (b.tokenSel c) v).noteReady).answer stOK := by
  unfold xTokenValue
  rw [Block.onWrite_open open_]

end Writes

/-- A command that sets one ring, and the hold of its head, leaves every other ring, the tasks, memory and entries. -/
theorem goes_setRing {s : State} {f : Block → Block} {k : Nat} {r : Ring} {h : Hold} (eq : f s.toBlock = ((s.toBlock.setRing k r).setHold k h).answer stOK) :
    Goes (.next (s.run f)) fun t => t.odp.status = stOK ∧ t.toBlock.ring k = r ∧ (∀ j, j ≠ k → t.toBlock.ring j = s.toBlock.ring j)
      ∧ t.disp.tasks = s.disp.tasks ∧ t.mem = s.mem ∧ RegsKept [] s.toBlock t.toBlock :=
  goes_run_eq eq ⟨rfl, Block.ring_setRing_self .., fun _ ne => Block.ring_setRing_ne _ _ ne, rfl, rfl, RegsKept.of_od rfl⟩

/-- Settles O17: each write, where it is accepted and where it is not, is one equation for its command. -/
theorem ringWrites : Obligations.RingWrites := by
  unfold Obligations.RingWrites
  refine ⟨fun s r open_ service ctx ring off enable free good => ?_, fun s r open_ service free disable => ?_, fun s r open_ no => ?_,
    fun s k open_ halted reason => ?_, fun s k open_ no => ?_, fun s c v open_ hv => ?_⟩
  · exact goes_setRing (xRingConfig_enables open_ service ctx ring off enable free good)
  · obtain ⟨t, ran, status, ring, others, tasks, -, regs⟩ := goes_setRing (xRingConfig_disables open_ service free disable)
    exact ⟨t, ran, status, by rw [ring], by rw [ring], by rw [ring], by rw [ring], tasks, others, regs⟩
  · exact goes_run_eq (xRingConfig_refuses open_ no) rfl
  · exact goes_run_eq (xRingResume_resumes open_ halted reason) ⟨rfl, Block.ring_setRing_self .., fun _ ne => Block.ring_setRing_ne _ _ ne⟩
  · exact goes_run_eq (xRingResume_refuses open_ no) rfl
  · exact goes_run_eq (xTokenValue_sets open_ c v) ⟨rfl, (Block.token_setToken_self ..).trans (Nat.mod_eq_of_lt hv), fun _ ne => Block.token_setToken_ne _ _ ne, rfl, rfl, RegsKept.of_od rfl⟩

/-! ### Doorbells (R240, R241, R266) -/

/-- A ring accepts a producer index: it is ACTIVE, its context is not resetting, and no more than its slots are published (R241). -/
def Block.takesDoorbell (b : Block) (k producer : Nat) : Prop :=
  (b.ring k).state = .active ∧ b.resetting (cfgCtx (b.ring k).cfg) = false
    ∧ (producer + 2 ^ 16 - (b.ring k).fetch) % 2 ^ 16 ≤ 2 ^ cfgLog (b.ring k).cfg

/-- An accepted doorbell replaces the producer index, and the DT since which work waits. -/
theorem Block.ringDoorbell_accepted {b : Block} {k producer : Nat} (h : b.takesDoorbell k producer) :
    ∃ since, b.ringDoorbell k producer false = b.setRing k { b.ring k with producer := producer, workAt := since } := by
  obtain ⟨active, ctx, room⟩ := h
  refine ⟨if (b.ring k).workAt = 0 ∧ producer ≠ (b.ring k).fetch then b.dt + 1 else (b.ring k).workAt, ?_⟩
  unfold Block.ringDoorbell
  exact if_neg (by simpa [active, ctx] using room)

/-- Any other doorbell is counted and raises 0x4362. -/
theorem Block.ringDoorbell_discarded {b : Block} {k producer : Nat} {reserved : Bool} (h : reserved = true ∨ ¬ b.takesDoorbell k producer) :
    b.ringDoorbell k producer reserved
      = (b.bump Od.dispDoorbellRejects 0 1).raise 0x4362 (if (b.ring k).state == .disabled then noCtx else cfgCtx (b.ring k).cfg) [] := by
  unfold Block.ringDoorbell
  refine if_pos ?_
  simpa [Block.takesDoorbell, or_assoc, ← not_and_or, imp_iff_not_or] using h

/-- The doorbell word, where the module is live (R240). -/
theorem xDoorbell_live {b : Block} (live : b.live = true) (w : BitVec 64) :
    xDoorbell w b = b.ringDoorbell (bits w.toNat 63 50) (bits w.toNat 15 0) (bits w.toNat 49 16 != 0) := if_pos live

/-- A discarded doorbell counts, and changes no ring and no memory (R241). -/
theorem doorbell_discarded_goes (s : State) (w : BitVec 64) (live : s.toBlock.live = true)
    (no : bits w.toNat 49 16 ≠ 0 ∨ ¬ s.toBlock.takesDoorbell (bits w.toNat 63 50) (bits w.toNat 15 0)) : Goes (exec (.doorbell w) s) fun t =>
      t.disp = s.disp ∧ t.mem = s.mem
      ∧ (∃ c, LastEvent t.toBlock 0x4362 c [] ∧ ((s.toBlock.ring (bits w.toNat 63 50)).state ≠ .disabled → c = cfgCtx (s.toBlock.ring (bits w.toNat 63 50)).cfg))
      ∧ t.reg Od.dispDoorbellRejects 0 = wrap (odWidth Od.dispDoorbellRejects 0) (s.reg Od.dispDoorbellRejects 0 + 1)
      ∧ RegsKept [odKey Od.dispDoorbellRejects 0, odKey Od.eventNextSeq 0] s.toBlock t.toBlock := by
  refine goes_run_eq ((xDoorbell_live live w).trans (Block.ringDoorbell_discarded (no.imp_left (by simp)))) ?_
  refine ⟨(Block.raise_disp ..).trans rfl, (Block.raise_mem ..).trans rfl, ⟨_, lastEvent_of_log rfl rfl (lastEvent_raise ..), fun up => if_neg (by simpa using up)⟩, ?_, ?_⟩
  · exact (reg_raise_of_idx_ne _ _ _ _ _ (by decide) (by decide)).trans (Block.reg_bump_self ..)
  · exact (RegsKept.setReg s.toBlock Od.dispDoorbellRejects 0 _ (by simp)).trans (RegsKept.raise _ _ _ _ (by simp))

/-- Settles O18: a doorbell is the replacement of a producer index or the count of a discard, whichever way it came. -/
theorem doorbells : Obligations.Doorbells := by
  unfold Obligations.Doorbells
  refine ⟨?_, ?_, ?_, ?_⟩
  · rintro s w r live rfl reserved active ctx room
    obtain ⟨since, eq⟩ := Block.ringDoorbell_accepted (b := s.toBlock) ⟨active, ctx, room⟩
    have word := xDoorbell_live live w
    rw [reserved, show (0 != 0) = false from rfl, eq] at word
    refine goes_run_eq word ⟨?_, fun _ ne => Block.ring_setRing_ne _ _ ne, rfl, rfl, RegsKept.of_od rfl⟩
    rw [ring_settle, Block.ring_setRing_self]
  · rintro s w r live rfl no
    refine doorbell_discarded_goes s w live ?_
    refine no.imp_right (fun no taken => ?_)
    obtain ⟨active, ctx, room⟩ := taken
    rcases no with no | no | no
    · exact no active
    · exact absurd (ctx.symm.trans no) (by decide)
    · exact absurd room (Nat.not_le.mpr no)
  · rintro s k x r hx kind hs rfl mine active ctx room
    obtain ⟨since, eq⟩ := Block.ringDoorbell_accepted (b := s.toBlock) ⟨active, mine ▸ ctx, room⟩
    obtain ⟨task, running, -⟩ := Block.starting_eq_some hx
    refine goes_dispCmd hx (by simp [eventIs, kind]) hs ?_
    rw [if_neg (by simpa using mine), eq]
    exact ⟨endedWith_of_disp (settle_disp _) (endedWith_endTask (b := s.toBlock.setRing _ _) task running _ _), by simp only [ring_settle, Block.ring_endTask, Block.ring_setRing_self]⟩
  · intro s k x hx kind hs other
    obtain ⟨task, running, -⟩ := Block.starting_eq_some hx
    refine goes_dispCmd hx (by simp [eventIs, kind]) hs ?_
    rw [if_pos (by simpa using other)]
    exact ⟨endedWith_of_disp (settle_disp _) (endedWith_endTask task running _ _), rfl⟩

/-! ### Events, token additions and time waits (R266, R267) -/

/-- An addition to a context token that is none of token 0 sets its module token (R255, R257). -/
theorem Block.signal_token (b : Block) (c n : Nat) {t : Nat} (h : t ≠ 0) :
    b.signal c t n = b.setToken (b.moduleToken c t) (b.token (b.moduleToken c t) + n) := if_neg h

section Events
variable (s : State) (k : Nat) (x : Task) (hx : s.toBlock.starting k opEvent = some x)
include hx

/-- NOTIFY ends, and its event names the context and carries the argument. -/
theorem notify_goes (kind : eventKind x.desc = 0) (hs : s.gov.shed = false) : Goes (exec (.notify k) s) fun t =>
    EndedWith t.toBlock k sOK 0 ∧ LastEvent t.toBlock (0x0F00 + eventCode x.desc) x.ctx (beBytes 8 (eventArg x.desc)) ∧ t.disp.rings = s.disp.rings
    ∧ t.disp.tokens = s.disp.tokens ∧ t.mem = s.mem ∧ RegsKept [odKey Od.eventNextSeq 0] s.toBlock t.toBlock := by
  obtain ⟨ended, tokens, -⟩ := Block.endTask_starting_ends hx
  have disp := Block.raise_disp (s.toBlock.endTask k sOK 0) (0x0F00 + eventCode x.desc) x.ctx (beBytes 8 (eventArg x.desc))
  refine goes_dispCmd hx (by simp [eventIs, kind]) hs ⟨endedWith_of_disp ((settle_disp _).trans disp) ended, lastEvent_of_log rfl rfl (lastEvent_raise ..),
    by rw [settle_disp, disp]; rfl, by rw [settle_disp, disp]; exact tokens, Block.raise_mem .., ?_⟩
  exact RegsKept.raise (s.toBlock.endTask k sOK 0) _ _ _ (List.mem_singleton.mpr rfl)

theorem tokenAdd_goes (kind : eventKind x.desc = 2) (hs : s.gov.shed = false) (token : eventToken x.desc ≠ 0) {n : Nat}
    (hn : n = s.toBlock.moduleToken x.ctx (eventToken x.desc)) : Goes (exec (.tokenAdd k) s) fun t =>
      EndedWith t.toBlock k sOK 0 ∧ t.toBlock.token n = (s.toBlock.token n + eventAdd x.desc) % 2 ^ 32 ∧ (∀ m, m ≠ n → t.toBlock.token m = s.toBlock.token m)
      ∧ t.log = s.log ∧ RegsKept [] s.toBlock t.toBlock := by
  obtain ⟨ended, -, -⟩ := Block.endTask_starting_ends hx
  refine goes_dispCmd hx (by simp [eventIs, kind]) hs ?_
  rw [Block.signal_token _ _ _ token, ← hn]
  refine ⟨endedWith_of_tasks (by rw [settle_disp, Block.noteReady_tasks]; rfl) ended, ?_, fun m ne => ?_, rfl, RegsKept.of_od (Block.noteReady_od _)⟩
  · rw [token_settle, Block.noteReady_token, Block.token_endTask, Block.token_setToken_self]
    rfl
  · rw [token_settle, Block.noteReady_token, Block.token_endTask, Block.token_setToken_ne _ _ ne]

end Events

section Waits
variable (s : State) (k : Nat) (x : Task)

/-- A target already passed ends the task at once, at the present DT; a late one is counted (R267, R432). -/
theorem timeWait_passed_goes (hx : s.toBlock.starting k opTimeWait = some x) (hs : s.gov.shed = false) (passed : timeTarget x.desc ≤ s.dt) :
    Goes (exec (.timeWait k) s) fun t => EndedWith t.toBlock k sOK s.dt ∧ t.dt = s.dt := by
  obtain ⟨task, running, -⟩ := Block.starting_eq_some hx
  refine goes_dispCmd hx rfl hs ?_
  rw [if_pos passed]
  split
  · exact ⟨endedWith_of_disp (settle_disp _) (endedWith_endTask task running _ _), rfl⟩
  · exact ⟨endedWith_of_disp (settle_disp _) (endedWith_endTask (b := s.toBlock.bump Od.calLate 0 1) task running _ _), rfl⟩

theorem timeWait_waits_goes (hx : s.toBlock.starting k opTimeWait = some x) (hs : s.gov.shed = false) (ahead : s.dt < timeTarget x.desc) :
    Goes (exec (.timeWait k) s) fun t => t.toBlock.task? k = some { x with stage := 1 } ∧ t.dt = s.dt := by
  obtain ⟨task, -, -⟩ := Block.starting_eq_some hx
  refine goes_dispCmd hx rfl hs ?_
  rw [if_neg (Nat.not_le.mpr ahead)]
  refine ⟨?_, rfl⟩
  rw [Block.task?_of_disp (settle_disp _), Block.task?_setTask _ _ _ (f := fun y => { y with stage := 1 }) (fun _ => rfl), if_pos rfl, task, Option.map_some]

/-- DT comes to the target of a waiting task, which ends (R267). -/
theorem timeWaitCompletion_goes (task : s.toBlock.task? k = some x) (running : x.phase = .running) (waits : x.stage = 1)
    (op : opcodeOf x.desc = opTimeWait) (hs : s.gov.shed = false) : Goes (exec (.timeWaitCompletion k) s) fun t =>
      t.dt = max s.dt (timeTarget x.desc) ∧ EndedWith t.toBlock k sOK t.dt ∧ RegsKept [] s.toBlock t.toBlock := by
  have completes : xTimeWaitCompletion k s.toBlock
      = Block.endTask { s.toBlock with dt := max s.dt (timeTarget x.desc) } k sOK (max s.dt (timeTarget x.desc)) := by
    unfold xTimeWaitCompletion
    simp only [task]
    exact if_pos (by simp [Task.isRunning, running, waits, op, hs])
  exact goes_run_eq completes ⟨rfl, endedWith_of_disp (settle_disp _)
    (endedWith_endTask (b := { s.toBlock with dt := max s.dt (timeTarget x.desc) }) task running _ _), RegsKept.of_od rfl⟩

end Waits

/-! ### Long holds and step releases (R264, R433, R434) -/

/-- A hold that has lasted DISP_HOLD_ALERT_MS is told once. -/
theorem dispHoldLong_goes (s : State) (k : Nat) (held : s.toBlock.isHeld k = true) (first : (s.toBlock.holdOf k).alerted = false)
    (ms : s.reg Od.dispHoldAlertMs 0 ≠ 0) (long : (s.toBlock.holdOf k).since + s.reg Od.dispHoldAlertMs 0 * 10 ^ 6 < s.dt) :
    Goes (exec (.dispHoldLong k) s) fun t =>
      t.toBlock.holdOf k = { s.toBlock.holdOf k with alerted := true } ∧ (∀ j, j ≠ k → t.toBlock.holdOf j = s.toBlock.holdOf j)
      ∧ LastEvent t.toBlock 0x4363 (cfgCtx (s.toBlock.ring k).cfg) [] ∧ t.disp.tasks = s.disp.tasks ∧ t.disp.rings = s.disp.rings
      ∧ RegsKept [odKey Od.eventNextSeq 0] s.toBlock t.toBlock := by
  have told : xHoldLong k s.toBlock
      = (s.toBlock.setHold k { s.toBlock.holdOf k with alerted := true }).raise 0x4363 (cfgCtx (s.toBlock.ring k).cfg) [] := by
    unfold xHoldLong
    exact if_pos (by simpa [held, first, ms] using long)
  have disp := Block.raise_disp (s.toBlock.setHold k { s.toBlock.holdOf k with alerted := true }) 0x4363 (cfgCtx (s.toBlock.ring k).cfg) []
  refine goes_run_eq told ⟨(Block.holdOf_of_disp disp k).trans (Block.holdOf_setHold_self ..),
    fun j ne => (Block.holdOf_of_disp disp j).trans (Block.holdOf_setHold_ne _ _ ne), lastEvent_of_log rfl rfl (lastEvent_raise ..),
    by rw [settle_disp, disp]; rfl, by rw [settle_disp, disp]; rfl, ?_⟩
  exact RegsKept.raise (s.toBlock.setHold k { s.toBlock.holdOf k with alerted := true }) _ _ _ (List.mem_singleton.mpr rfl)

/-- A release that the calendar's order allows brings DT to its instant and frees its context alone. -/
theorem stepRelease_goes (s : State) (c r : Nat) (due : sget 0 s.disp.release c = r + 1) (order : s.toBlock.inOrder r 3 = true) :
    Goes (exec (.stepRelease c) s) fun t =>
      t.dt = max s.dt r ∧ sget 0 t.disp.release c = 0 ∧ (∀ d, d ≠ c → sget 0 t.disp.release d = sget 0 s.disp.release d) ∧ t.disp.tasks = s.disp.tasks
      ∧ RegsKept [] s.toBlock t.toBlock := by
  have released : xStepRelease c s.toBlock
      = Block.noteReady { s.toBlock with dt := max s.dt r, disp := { s.disp with release := sset 0 s.disp.release c 0 } } := by
    unfold xStepRelease
    rw [due]
    exact if_neg (by simp [order])
  refine goes_run_eq released ⟨rfl, ?_, fun d ne => ?_, Block.noteReady_tasks _, RegsKept.of_od (Block.noteReady_od _)⟩
  · rw [settle_disp, Block.noteReady_release]
    exact sget_sset_self 0 s.disp.release c 0
  · rw [settle_disp, Block.noteReady_release]
    exact sget_sset_ne 0 0 s.disp.release 0 ne

/-- Settles O22, command by command. -/
theorem dispatcherTasks : Obligations.DispatcherTasks := by
  unfold Obligations.DispatcherTasks
  exact ⟨notify_goes, fun s k n x hx kind hs token hn => tokenAdd_goes s k x hx kind hs token hn, timeWait_passed_goes, timeWait_waits_goes,
    timeWaitCompletion_goes, dispHoldLong_goes, stepRelease_goes⟩

end Sys2Proof.Machine
end

section
/-! PROOFS. Completion: what a write of one line leaves in memory, and what a completed task leaves in the Dispatcher (R163, R182 to R185, R243, R245, R252, R253, R257). -/

namespace Sys2Proof.Machine

/-! ### Poison that a write clears (R163, R185, R393) -/

/-- What clearing the poison of some words leaves: their stored bytes show, and every other byte reads as before. -/
theorem Mem.byte_clearWords (ws : List Nat) (m : Mem) (x : Nat) :
    (ws.foldl (fun c w => c.setPoison w false) m).byte x = if x / 8 ∈ ws then sget 0#8 m.data x else m.byte x := by
  induction ws generalizing m with
  | nil => rfl
  | cons w r ih =>
    rw [List.foldl_cons, ih]
    by_cases later : x / 8 ∈ r
    · rw [if_pos later, if_pos (List.mem_cons_of_mem _ later)]
      rfl
    · rw [if_neg later]
      by_cases here : x / 8 = w
      · rw [if_pos (by simp [here]), Mem.byte, Mem.poisoned_setPoison, if_pos here]
        rfl
      · rw [if_neg (by simp [here, later]), Mem.byte_setPoison_ne _ _ _ here]

theorem Mem.putRaw_poison (v : List Byte) (m : Mem) (a : Nat) : (m.putRaw a v).poison = m.poison := by
  induction v generalizing m a with
  | nil => rfl
  | cons y r ih => exact ih ..

theorem Mem.putRaw_before (v : List Byte) (m : Mem) {a x : Nat} (h : x < a) : sget 0#8 (m.putRaw a v).data x = sget 0#8 m.data x := by
  induction v generalizing m a with
  | nil => rfl
  | cons y r ih => exact (ih _ (by omega)).trans (sget_sset_ne _ _ _ _ (by omega))

theorem Mem.putRaw_after (v : List Byte) (m : Mem) {a x : Nat} (h : a + v.length ≤ x) : sget 0#8 (m.putRaw a v).data x = sget 0#8 m.data x := by
  induction v generalizing m a with
  | nil => rfl
  | cons y r ih =>
    rw [List.length_cons] at h
    exact (ih _ (by omega)).trans (sget_sset_ne _ _ _ _ (by omega))

theorem Mem.putRaw_in (v : List Byte) (m : Mem) (a : Nat) {i : Nat} (h : i < v.length) : sget 0#8 (m.putRaw a v).data (a + i) = v[i] := by
  induction v generalizing m a i with
  | nil => exact absurd h (Nat.not_lt_zero _)
  | cons y r ih =>
    cases i with
    | zero => exact (Mem.putRaw_before r _ (Nat.lt_succ_self a)).trans (sget_sset_self ..)
    | succ i =>
      have next : a + (i + 1) = a + 1 + i := by omega
      rw [next]
      exact ih _ _ _

theorem Mem.byte_putRaw_outside (m : Mem) (v : List Byte) {a x : Nat} (h : x < a ∨ a + v.length ≤ x) : (m.putRaw a v).byte x = m.byte x := by
  have data : sget 0#8 (m.putRaw a v).data x = sget 0#8 m.data x := h.elim (Mem.putRaw_before v m) (Mem.putRaw_after v m)
  unfold Mem.byte Mem.poisoned
  rw [Mem.putRaw_poison, data]

/-- A write clears the poison of a word that it covers whole. -/
theorem Mem.poisoned_clearFull (m : Mem) {a n w : Nat} (low : a ≤ 8 * w) (high : 8 * w + 8 ≤ a + n) : (m.clearFull 8 a n).poisoned w = false := by
  have stays : ∀ (l : List Nat) (m : Mem), (m.poisoned w = false ∨ w ∈ l) → (l.foldl (fun m w =>
      let lo := 8 * w / 8 * 8
      if a ≤ lo ∧ lo + 8 ≤ a + n then m.setPoison w false else m) m).poisoned w = false := by
    intro l
    induction l with
    | nil => exact fun m h => h.resolve_right List.not_mem_nil
    | cons y r ih =>
      intro m h
      refine ih _ ?_
      dsimp only
      by_cases here : y = w
      · rw [here, if_pos (by omega), Mem.poisoned_setPoison, if_pos rfl]
        exact .inl rfl
      · refine h.imp (fun clear => ?_) (fun mem => (List.mem_cons.mp mem).resolve_left (Ne.symm here))
        split
        · rw [Mem.poisoned_setPoison, if_neg (Ne.symm here), clear]
        · exact clear
  refine stays _ m (.inr ?_)
  rw [wordsOf, if_neg (by omega)]
  exact List.mem_map.mpr ⟨w - a / 8, List.mem_range.mpr (by omega), by omega⟩

/-! ### A line of 64 bytes -/

/-- `m'` is `m` with the 64 bytes `v` at `a`. -/
def LineWritten (a : Nat) (v : List Byte) (m m' : Mem) : Prop :=
  m'.bytes a 64 = v ∧ ∀ x, x < a ∨ a + 64 ≤ x → m'.byte x = m.byte x

theorem Mem.bytes_eq {m : Mem} {a : Nat} {v : List Byte} (h : ∀ i (hi : i < v.length), m.byte (a + i) = v[i]) : m.bytes a v.length = v :=
  List.ext_getElem (by simp [Mem.bytes]) (fun i _ hi => by simpa [Mem.bytes] using h i hi)

section Lines
variable {a : Nat} {v : List Byte} (aligned : a % 64 = 0) (len : v.length = 64)
include aligned len

/-- A whole line in a Terrace (R163). -/
theorem Mem.lineWritten_write (m : Mem) : LineWritten a v m (m.write 8 a v) := by
  refine ⟨?_, fun x out => m.byte_write_outside a v (by rwa [len])⟩
  rw [← len]
  exact Mem.bytes_eq (fun i hi => Mem.byte_putBytes_in _ _ _ hi (Mem.poisoned_clearFull m (by omega) (by omega)))

/-- A whole line stored in HBM with the poison of its words cleared (R185). -/
theorem Mem.lineWritten_putRaw (m : Mem) {ws : List Nat} (words : ∀ w, w ∈ ws ↔ w / 8 = a / 64) :
    LineWritten a v m (ws.foldl (fun c w => c.setPoison w false) (m.putRaw a v)) := by
  refine ⟨?_, fun x out => ?_⟩
  · rw [← len]
    refine Mem.bytes_eq (fun i hi => ?_)
    rw [Mem.byte_clearWords, if_pos ((words _).mpr (by omega)), Mem.putRaw_in]
  · rw [Mem.byte_clearWords, if_neg (fun h => by have := (words _).mp h; omega), Mem.byte_putRaw_outside m v (by omega)]

end Lines

/-- The mask of a whole line. -/
theorem lineMask_line {a : Nat} (h : a % 64 = 0) : lineMask a 64 = 2 ^ 64 - 1 := by
  have first : lineMask a 64 = lineMask 0 64 := by
    have place : ∀ i, (a + i) % 64 = (0 + i) % 64 := fun i => by omega
    unfold lineMask
    simp only [place]
  rw [first]
  decide +kernel

/-- A mask with every bit of a line covers each of its words. -/
theorem mem_coveredWords_line (line c w : Nat) : w ∈ coveredWords line (c ||| (2 ^ 64 - 1)) ↔ w / 8 = line := by
  have whole : ∀ i < 8, bits (c ||| (2 ^ 64 - 1)) (8 * i + 7) (8 * i) = 255 := by
    intro i hi
    have width : 8 * i + 7 + 1 - 8 * i = 8 := by omega
    rw [bits, width, show (255 : Nat) = 2 ^ 8 - 1 from rfl]
    refine Nat.eq_of_testBit_eq (fun j => ?_)
    rw [Nat.testBit_mod_two_pow, Nat.testBit_shiftRight, Nat.testBit_or, Nat.testBit_two_pow_sub_one, Nat.testBit_two_pow_sub_one]
    by_cases hj : j < 8
    · simp [hj, show 8 * i + j < 64 by omega]
    · simp [hj]
  unfold coveredWords
  rw [List.mem_map]
  constructor
  · rintro ⟨i, hi, rfl⟩
    have := List.mem_range.mp (List.mem_of_mem_filter hi)
    omega
  · rintro rfl
    exact ⟨w % 8, List.mem_filter.mpr ⟨List.mem_range.mpr (by omega), beq_iff_eq.mpr (whole _ (Nat.mod_lt _ (by decide)))⟩, by omega⟩

/-- A whole line that enters the write-combining buffers clears the poison of its words. -/
theorem Block.enterLine_mem (b : Block) {a : Nat} (aligned : a % 64 = 0) :
    ∃ c, (b.enterLine a 64).mem = (coveredWords (a / 64) (c ||| (2 ^ 64 - 1))).foldl (fun x w => x.setPoison w false) b.mem := by
  have evict : ∀ pc, (b.evictOldest pc).mem = b.mem := by
    intro pc
    unfold Block.evictOldest
    split <;> rfl
  unfold Block.enterLine
  dsimp only
  rw [lineMask_line aligned]
  split
  · exact ⟨_, rfl⟩
  · refine ⟨0, ?_⟩
    rw [Nat.zero_or]
    dsimp only
    split
    · rw [evict]
    · rfl

theorem Block.lostAt_of_idxKept {l : List Nat} {b c : Block} (h : IdxKept l b c) (away : Od.hbmStackState ∉ l) (a : Nat) : c.lostAt a = b.lostAt a := by
  have same : (c.stackState (stackOf a) == stLost) = (b.stackState (stackOf a) == stLost) := by
    rw [Bool.eq_iff_iff, beq_iff_eq, beq_iff_eq, stackState_lost, stackState_lost, h _ _ (by decide) away]
  unfold Block.lostAt
  rw [same]

/-- A plain write of a whole line where no stack is lost (R152, R178, R182). -/
theorem Block.lineWritten_writePhys (b : Block) {a : Nat} {v : List Byte} (aligned : a % 64 = 0) (len : v.length = 64) (kept : b.lostAt a = false) :
    LineWritten a v b.mem (b.writePhys a v).mem := by
  rw [← Block.countWrite_mem b a v.length]
  have here : (b.countWrite a v.length).lostAt a = false := (Block.lostAt_of_idxKept (IdxKept.countWrite b a v.length) (by decide +kernel) a).trans kept
  unfold Block.writePhys Block.storePhys
  generalize b.countWrite a v.length = c at here ⊢
  split
  · exact Mem.lineWritten_write aligned len c.mem
  · have count : lineCount a v.length = 64 := by rw [lineCount]; omega
    have all : v.take 64 = v := List.take_of_length_le (by omega)
    have rest : v.drop 64 = [] := List.drop_of_length_le (by omega)
    obtain ⟨m, eq⟩ := Block.enterLine_mem { c with mem := c.mem.putRaw a v } aligned
    have written : c.writeHbm a v (v.length / 64 + 2) = Block.enterLine { c with mem := c.mem.putRaw a v } a 64 := by
      have full : v.isEmpty = false := by cases v with
        | nil => cases len
        | cons _ _ => rfl
      rw [len, Block.writeHbm, full, if_neg Bool.false_ne_true, count]
      dsimp only
      rw [all, rest, here]
      rfl
    rw [written, eq]
    exact Mem.lineWritten_putRaw aligned len c.mem (mem_coveredWords_line _ m)

theorem Block.token_of_disp {b c : Block} (h : c.disp = b.disp) (n : Nat) : c.token n = b.token n := by unfold Block.token; rw [h]

@[simp] theorem Block.noteReady_mem (b : Block) : b.noteReady.mem = b.mem := rfl

/-! ### The record and the ticket of a completed task (R243, R252, R253, R257) -/

/-- The counters of waiting that accesses to memory can advance (R154, R171, R177). -/
def waitIdx : List Nat := [Od.terraceBankStallCycles, Od.hbmQueueFullCycles, Od.hbmOndieSeverityCount]

theorem IdxKept.contention (b now was : Block) : IdxKept waitIdx b (b.contention now was) := by
  unfold Block.contention
  dsimp only
  refine IdxKept.trans (IdxKept.foldl (fun c k => IdxKept.ite ?_ (IdxKept.refl _ c)) _ b) (IdxKept.foldl (fun c k => IdxKept.ite ?_ (IdxKept.refl _ c)) _ _)
  · exact IdxKept.bumpFree _ _ _ (by decide) (by decide)
  · exact (IdxKept.bumpFree _ _ _ (by decide) (by decide)).trans (IdxKept.bumpFree _ _ _ (by decide) (by decide))

theorem StoreOnly.writeRecord {b c : Block} {k index record : Nat} {cfg : BitVec 256} (h : b.writeRecord k cfg index record = some c) : StoreOnly b c := by
  obtain ⟨pa, _, rfl⟩ := Option.map_eq_some_iff.mp h
  exact (StoreOnly.of_regOnly ((RegOnly.countWalk ..).trans (RegOnly.countRemote ..))).trans (StoreOnly.writePhys ..)

/-- A record whose address translates is written there, as a whole line; what its way there counts changes no byte. -/
theorem Block.writeRecord_written {b : Block} {k index record pa : Nat} {cfg : BitVec 256}
    (at_ : b.slotAddr (cfgCtx cfg) (recordAt cfg index) true = some pa) (aligned : pa % 64 = 0) (kept : b.lostAt pa = false) :
    ∃ c, b.writeRecord k cfg index record = some c ∧ LineWritten pa (leBytes 64 record) b.mem c.mem := by
  have counts : RegOnly b ((b.countWalk (some (homeOf k)) (cfgCtx cfg) (recordAt cfg index)).countRemote (homeOf k) pa 64) :=
    (RegOnly.countWalk ..).trans (RegOnly.countRemote ..)
  have entries : IdxKept accessIdx b ((b.countWalk (some (homeOf k)) (cfgCtx cfg) (recordAt cfg index)).countRemote (homeOf k) pa 64) :=
    (IdxKept.countWalk _ _ _ _).trans (IdxKept.countRemote _ _ _ _)
  have written : b.writeRecord k cfg index record
      = some (((b.countWalk (some (homeOf k)) (cfgCtx cfg) (recordAt cfg index)).countRemote (homeOf k) pa 64).writePhys pa (leBytes 64 record)) := by
    unfold Block.writeRecord
    dsimp only
    rw [at_, Option.map_some]
  generalize (b.countWalk (some (homeOf k)) (cfgCtx cfg) (recordAt cfg index)).countRemote (homeOf k) pa 64 = d at counts entries written
  have line := Block.lineWritten_writePhys d aligned (length_leBytes 64 record) ((Block.lostAt_of_idxKept entries (by decide +kernel) pa).trans kept)
  rw [counts.regLog.mem] at line
  exact ⟨_, written, line⟩

/-- What a completion counts: the task, and one of the forward pass of the step (R121, R253). -/
def Block.counted (b : Block) (t : Task) : Block :=
  let b := b.bump Od.dispTasksCompleted (homeOf t.ring + 1) 1
  if passOf t.desc = passFwd ∧ b.currentStep t.ctx t.desc then b.bump Od.ctxFwdDone (t.ctx + 1) 1 else b

theorem RegOnly.counted (b : Block) (t : Task) : RegOnly b (b.counted t) := by
  have once : RegOnly b (b.bump Od.dispTasksCompleted (homeOf t.ring + 1) 1) := RegOnly.bump ..
  unfold Block.counted
  dsimp only
  split
  · exact once.trans (RegOnly.bump ..)
  · exact once

theorem Block.counted_tasksCompleted (b : Block) (t : Task) : (b.counted t).reg Od.dispTasksCompleted (homeOf t.ring + 1)
    = wrap (odWidth Od.dispTasksCompleted (homeOf t.ring + 1)) (b.reg Od.dispTasksCompleted (homeOf t.ring + 1) + 1) := by
  unfold Block.counted
  dsimp only
  split
  · rw [Block.reg_bump_ne _ _ (odKey_ne (by decide) (by decide) (by decide) _ _), Block.reg_bump_self]
  · rw [Block.reg_bump_self]

theorem IdxKept.counted (b : Block) (t : Task) : IdxKept [Od.dispTasksCompleted, Od.ctxFwdDone] b (b.counted t) := by
  have once : IdxKept [Od.dispTasksCompleted, Od.ctxFwdDone] b (b.bump Od.dispTasksCompleted (homeOf t.ring + 1) 1) :=
    IdxKept.bump _ _ _ _ (by decide) (by decide)
  exact IdxKept.ite (once.trans (IdxKept.bump _ _ _ _ (by decide) (by decide))) once

/-- The SIG token of a completion: nothing where it has been signalled before, or an UPDATE ends without its rows (R257). -/
def Block.sigDone (b : Block) (t : Task) : Block :=
  if t.signalled ∨ (opcodeOf t.desc = opUpdate ∧ t.stage ≠ 2) then b else b.signal t.ctx (sigOf t.desc) 1

/-- A completion that closes no step counts, signals and frees the ticket. -/
theorem Block.retire_eq (b : Block) {t : Task} (open_ : opcodeOf t.desc ≠ opNormClose) (st : Nat) :
    b.retire t st = { (b.counted t).sigDone t with disp := { ((b.counted t).sigDone t).disp with
      tasks := ((b.counted t).sigDone t).disp.tasks.filter (fun x => x.ticket != t.ticket),
      gens := sset 0 ((b.counted t).sigDone t).disp.gens (homeOf t.ring * 16384 + entryOf t.ticket) ((bits t.ticket 15 0 + 1) % 2 ^ 16) } } := by
  unfold Block.retire
  dsimp only
  rw [if_neg (fun h => open_ h.1)]
  rfl

theorem Block.sigDone_frame (b : Block) (t : Task) : (b.sigDone t).od = b.od ∧ (b.sigDone t).mem = b.mem := by
  unfold Block.sigDone
  split
  · exact ⟨rfl, rfl⟩
  · unfold Block.signal
    split
    · exact ⟨rfl, rfl⟩
    · exact ⟨rfl, rfl⟩

theorem Block.task?_free (b : Block) (k : Nat) {c : Block} (h : c.disp.tasks = b.disp.tasks.filter (fun x => x.ticket != k)) : c.task? k = none := by
  unfold Block.task?
  rw [h]
  exact List.find?_eq_none.mpr (fun x hx => by simpa using (List.mem_filter.mp hx).2)

/-- A completed task's record stands, its ticket is free, it is counted, and its SIG token has advanced (R243, R253, R257). -/
theorem taskComplete_goes (s : State) (k st u pa : Nat) (x : Task) (task : s.toBlock.task? k = some x) (ended : x.phase = .ended st u)
    (live : s.toBlock.live = true) (hs : s.gov.shed = false) (ctx : s.toBlock.resetting x.ctx = false) (free : (x.ring, k) ∉ s.disp.stuck)
    (open_ : opcodeOf x.desc ≠ opNormClose) (at_ : s.toBlock.slotAddr (cfgCtx x.cfg) (recordAt x.cfg x.index) true = some pa)
    (aligned : pa % 64 = 0) (kept : s.toBlock.lostAt pa = false) : Goes (exec (.taskComplete k) s) fun t =>
      t.toBlock.task? k = none ∧ t.mem.bytes pa 64 = leBytes 64 (s.toBlock.recordOf x st u)
      ∧ (∀ a, a < pa ∨ pa + 64 ≤ a → t.mem.byte a = s.mem.byte a)
      ∧ t.reg Od.dispTasksCompleted (homeOf x.ring + 1) = wrap (odWidth Od.dispTasksCompleted (homeOf x.ring + 1)) (s.reg Od.dispTasksCompleted (homeOf x.ring + 1) + 1)
      ∧ (x.signalled = false → opcodeOf x.desc ≠ opUpdate → sigOf x.desc ≠ 0 →
          t.toBlock.token (s.toBlock.moduleToken x.ctx (sigOf x.desc)) = wrap 32 (s.toBlock.token (s.toBlock.moduleToken x.ctx (sigOf x.desc)) + 1)) := by
  obtain rfl := Block.task?_ticket task
  obtain ⟨c, written, record, others⟩ := Block.writeRecord_written (k := x.ring) (record := s.toBlock.recordOf x st u) at_ aligned kept
  have completes : xComplete x.ticket s.toBlock = ((c.retire x st).contention c s.toBlock).noteReady := by
    unfold xComplete
    simp only [task, ended, written]
    exact if_neg (by simp [live, hs, ctx, free])
  have waits := DrawOnly.contention (c.retire x st) c s.toBlock
  have entries := IdxKept.contention (c.retire x st) c s.toBlock
  generalize (c.retire x st).contention c s.toBlock = d at completes waits entries
  rw [Block.retire_eq c open_] at waits entries
  have mem : d.mem = c.mem := waits.mem.trans ((Block.sigDone_frame ..).2.trans (RegOnly.counted c x).regLog.mem)
  refine goes_run_eq completes ⟨?_, ?_, fun a out => ?_, ?_, fun unsignalled op sig => ?_⟩
  · exact Block.task?_free ((c.counted x).sigDone x) x.ticket (by rw [settle_disp, Block.noteReady_tasks, waits.disp])
  · rw [settle_mem, Block.noteReady_mem, mem, record]
  · rw [settle_mem, Block.noteReady_mem, mem, others a out]
  · rw [reg_settle, Block.reg_eq_of_od (Block.noteReady_od d), entries _ _ (by decide) (by decide)]
    refine (Block.reg_eq_of_od (Block.sigDone_frame ..).1 _ _).trans ?_
    rw [Block.counted_tasksCompleted, IdxKept.writeRecord written _ _ (by decide) (by decide)]
  · have base : (c.counted x).moduleToken x.ctx (sigOf x.desc) = s.toBlock.moduleToken x.ctx (sigOf x.desc) := by
      unfold Block.moduleToken
      rw [IdxKept.counted c x _ _ (by decide) (by decide), IdxKept.writeRecord written _ _ (by decide) (by decide)]
    have signals : (c.counted x).sigDone x
        = (c.counted x).setToken (s.toBlock.moduleToken x.ctx (sigOf x.desc)) (s.toBlock.token (s.toBlock.moduleToken x.ctx (sigOf x.desc)) + 1) := by
      unfold Block.sigDone
      rw [if_neg (by simp [unsignalled, op]), Block.signal_token _ _ _ sig, base, Block.token_of_disp ((RegOnly.counted c x).regLog.disp.trans (StoreOnly.writeRecord written).disp)]
    rw [token_settle, Block.noteReady_token, Block.token_of_disp waits.disp]
    refine Eq.trans (b := ((c.counted x).sigDone x).token (s.toBlock.moduleToken x.ctx (sigOf x.desc))) rfl ?_
    rw [signals, Block.token_setToken_self]

/-- A record that cannot be written halts its ring with REASON 7, and moves no task and no byte (R252). -/
theorem Block.recordFailed_halts (b : Block) (k index : Nat) (cfg : BitVec 256) : let c := b.recordFailed k cfg index
    (c.ring k).state = .halted ∧ (c.ring k).reason = 7 ∧ c.disp.tasks = b.disp.tasks ∧ c.mem = b.mem := by
  have disp := Block.raise_disp (b.setRing k { b.ring k with state := .halted, reason := 7, failVA := recordAt cfg index }) 0x8361 (cfgCtx cfg) []
  have ring := (Block.ring_of_disp disp k).trans (Block.ring_setRing_self ..)
  have tasks := congrArg Disp.tasks disp
  exact ⟨congrArg Ring.state ring, congrArg Ring.reason ring, tasks, Block.raise_mem ..⟩

/-- A task whose record cannot be written keeps its ticket. -/
theorem taskComplete_stuck_goes (s : State) (k st u : Nat) (x : Task) (task : s.toBlock.task? k = some x) (ended : x.phase = .ended st u)
    (live : s.toBlock.live = true) (hs : s.gov.shed = false) (ctx : s.toBlock.resetting x.ctx = false) (free : (x.ring, k) ∉ s.disp.stuck)
    (nowhere : s.toBlock.slotAddr (cfgCtx x.cfg) (recordAt x.cfg x.index) true = none) : Goes (exec (.taskComplete k) s) fun t =>
      (t.toBlock.ring x.ring).state = .halted ∧ (t.toBlock.ring x.ring).reason = 7 ∧ t.disp.tasks = s.disp.tasks ∧ t.mem = s.mem ∧ (x.ring, k) ∈ t.disp.stuck := by
  have unwritten : s.toBlock.writeRecord x.ring x.cfg x.index (s.toBlock.recordOf x st u) = none := by
    unfold Block.writeRecord
    dsimp only
    rw [nowhere, Option.map_none]
  obtain ⟨halted, reason, tasks, mem⟩ := Block.recordFailed_halts s.toBlock x.ring x.index x.cfg
  have sticks : xComplete k s.toBlock = { s.toBlock.recordFailed x.ring x.cfg x.index with
      disp := { (s.toBlock.recordFailed x.ring x.cfg x.index).disp with stuck := (s.toBlock.recordFailed x.ring x.cfg x.index).disp.stuck ++ [(x.ring, k)] } } := by
    unfold xComplete
    simp only [task, ended, unwritten]
    exact if_neg (by simp [live, hs, ctx, free])
  exact goes_run_eq sticks ⟨halted, reason, tasks, mem, List.mem_append_right _ (List.mem_singleton.mpr rfl)⟩

/-- Settles O20: the record is a line of memory, and what follows it moves entries, the ticket and a token only. -/
theorem complete : Obligations.Complete := by
  unfold Obligations.Complete
  exact ⟨taskComplete_goes, taskComplete_stuck_goes⟩

end Sys2Proof.Machine
end

section
/-! PROOFS. Context reset: what the Stop and Abort phases end and leave, and what stands when a context is READY again (R269 to R271). -/

namespace Sys2Proof.Machine

/-! ### Aborts (R270) -/

/-- `c` differs from `b` in entries, logs, the tasks, and what the Plazas, the Stream Engines, the slices and the reliability subsystem hold only. -/
def AbortOnly (b c : Block) : Prop :=
  c = { b with od := c.od, odb := c.odb, log := c.log, fatal := c.fatal, disp := { b.disp with tasks := c.disp.tasks }, plz := c.plz, se := c.se, ras := c.ras, rb := c.rb }

namespace AbortOnly
variable {a b c : Block}

theorem refl (b : Block) : AbortOnly b b := rfl

theorem trans (h : AbortOnly a b) (k : AbortOnly b c) : AbortOnly a c := by unfold AbortOnly at *; rw [k, h]

theorem foldl {α : Type} {f : Block → α → Block} (h : ∀ b x, AbortOnly b (f b x)) (l : List α) (b : Block) : AbortOnly b (l.foldl f b) :=
  foldl_has (AbortOnly b) (fun _ x k => k.trans (h _ x)) l (refl b)

theorem rings (h : AbortOnly b c) : c.disp.rings = b.disp.rings := by rw [h]
theorem holds (h : AbortOnly b c) : c.disp.holds = b.disp.holds := by rw [h]
theorem mem (h : AbortOnly b c) : c.mem = b.mem := by rw [h]
theorem slow (h : AbortOnly b c) : c.slow = b.slow := by rw [h]
theorem emith (h : AbortOnly b c) : c.emith = b.emith := by rw [h]
theorem dt (h : AbortOnly b c) : c.dt = b.dt := by rw [h]
theorem wal (h : AbortOnly b c) : c.wal = b.wal := by rw [h]
theorem gov (h : AbortOnly b c) : c.gov = b.gov := by rw [h]

theorem of_transfer {T : Nat → Prop} (h : TransferStep T b c) : AbortOnly b c := by unfold AbortOnly; rw [h.frame]

theorem of_mark (h : MarkStep b c) : AbortOnly b c := of_transfer (T := fun _ => True) (TransferStep.of_mark h)

theorem settleEnded (b : Block) (t : Nat) : AbortOnly b (b.settleEnded t) := by unfold AbortOnly; rw [Block.settleEnded_eq]

theorem abortXfer (b : Block) (t : Task) : AbortOnly b (b.abortXfer t) := of_transfer (T := fun _ => True) (TransferStep.endXfer _ trivial ..)

theorem dropPorts (t : Nat) (l : List (PortId × Nat)) (b : Block) : AbortOnly b (l.foldl (fun b p => b.dropPort t p.1 p.2) b) :=
  foldl (fun _ p => of_transfer (TransferStep.dropPort _ t p.1 p.2)) l b

theorem failVector (b : Block) (t : Task) (st : Nat) : AbortOnly b (b.failVector t st) := by
  have outs : ∀ d : Block, AbortOnly d (d.taintOuts t) := fun d =>
    foldl (fun _ _ => of_transfer (T := fun _ => True) (TransferStep.endXfer _ trivial ..)) _ d
  unfold Block.failVector
  dsimp only
  refine AbortOnly.trans ?_ (dropPorts t.ticket _ _)
  refine AbortOnly.trans ?_ (outs _)
  rfl

theorem abortPlaza (b : Block) (t : Task) (st : Nat) : AbortOnly b (b.abortPlaza t st) := by
  unfold Block.abortPlaza
  dsimp only
  refine AbortOnly.trans ?_ (dropPorts t.ticket _ _)
  refine AbortOnly.trans ?_ (settleEnded _ _)
  rfl

theorem abortRb (b : Block) (ctx : Nat) : AbortOnly b (b.abortRb ctx) := by
  have coll : ∀ (d : Block) (w : Work), AbortOnly d (((d.endTask w.k.ticket sAborted w.unit).dropSends w).addTaint ctx w.k.ticket w.dstExtent) :=
    fun d w => AbortOnly.trans (b := (d.endTask w.k.ticket sAborted w.unit).dropSends w) rfl (of_mark (MarkStep.addTaint ..))
  unfold Block.abortRb
  dsimp only
  refine AbortOnly.trans (AbortOnly.trans (foldl (fun d w => ?_) _ b) (foldl (fun d (k : Close) => (rfl : AbortOnly d (d.endTask k.ticket sAborted 0))) _ _)) rfl
  split
  · exact (coll d w).trans (of_mark (MarkStep.stageFault ..))
  · exact coll d w

end AbortOnly

/-- The abort of a task that no unit runs ends it, and marks what it was to deliver. -/
theorem MarkStep.abortRest (b : Block) (t : Task) : MarkStep (b.endTask t.ticket sAborted (b.abortUnit t)) (b.abortRest t) := by
  unfold Block.abortRest
  dsimp only
  split
  · exact MarkStep.nonfinite ..
  · split
    · exact MarkStep.stageFault ..
    · exact MarkStep.refl _

theorem AbortOnly.abortTasks (b : Block) (c : Nat) : AbortOnly b (b.abortTasks c) := by
  unfold Block.abortTasks
  dsimp only
  refine AbortOnly.trans ?_ (foldl (fun d t => AbortOnly.trans (b := d.endTask t.ticket sAborted (d.abortUnit t)) rfl (of_mark (MarkStep.abortRest d t))) _ _)
  refine AbortOnly.trans ?_ (abortRb _ c)
  refine AbortOnly.trans ?_ (foldl (fun d t => abortPlaza d t sAborted) _ _)
  exact (foldl abortXfer _ b).trans (foldl (fun d t => failVector d t sAborted) _ _)

/-- A task that still runs after the end of a ticket is of another ticket, and ran before. -/
theorem Block.running_endTask {b : Block} {k st u : Nat} {y : Task} (h : y ∈ (b.endTask k st u).disp.tasks) (runs : y.isRunning = true) :
    y ∈ b.disp.tasks ∧ y.ticket ≠ k := by
  obtain ⟨z, hz, rfl⟩ := List.mem_map.mp h
  by_cases mine : z.ticket = k
  · rw [if_pos (beq_iff_eq.mpr mine)] at runs
    dsimp only at runs
    split at runs
    · exact absurd runs (by simp [Task.isRunning])
    · contradiction
  · simpa [mine] using hz

/-- No ticket whose task has been aborted runs. -/
theorem Block.running_abortRest {y : Task} (l : List Task) {b : Block} (h : y ∈ (l.foldl (fun b t => b.abortRest t) b).disp.tasks)
    (runs : y.isRunning = true) : y ∈ b.disp.tasks ∧ ∀ t ∈ l, y.ticket ≠ t.ticket := by
  induction l generalizing b with
  | nil => exact ⟨h, fun _ ht => absurd ht List.not_mem_nil⟩
  | cons t r ih =>
    obtain ⟨here, others⟩ := ih h
    rw [(MarkStep.abortRest b t).disp] at here
    obtain ⟨before, mine⟩ := Block.running_endTask here runs
    exact ⟨before, fun x hx => (List.mem_cons.mp hx).elim (fun e => e ▸ mine) (others x)⟩

/-- After the Abort phase no task of the context runs. -/
theorem Block.abortTasks_stops (b : Block) (c : Nat) : ∀ x ∈ (b.abortTasks c).disp.tasks, x.ctx = c → x.isRunning = false := by
  intro x hx mine
  by_contra runs
  rw [Bool.not_eq_false] at runs
  unfold Block.abortTasks at hx
  dsimp only at hx
  obtain ⟨before, ended⟩ := Block.running_abortRest _ hx runs
  exact ended x (List.mem_filter.mpr ⟨before, by simp [mine, runs]⟩) rfl

/-! ### Rings that stop and start (R270) -/

theorem sget_map {α : Type} (d : α) {g : α → α} (hd : g d = d) (l : List (Nat × α)) (n : Nat) :
    sget d (l.map (fun e => (e.1, g e.2))) n = g (sget d l n) := by
  induction l with
  | nil => exact hd.symm
  | cons e r ih =>
    rw [List.map_cons, sget, sget, ih]
    split <;> rfl

/-- A ring of a context that stops has fetched all that is published. -/
def Ring.stopped (c : Nat) (r : Ring) : Ring := if cfgCtx r.cfg == c then { r with fetch := r.producer, workAt := 0 } else r

theorem Block.ring_stopRings (b : Block) (c k : Nat) : (b.stopRings c).ring k = (b.ring k).stopped c := by
  have each : (fun (e : Nat × Ring) => if cfgCtx e.2.cfg == c then (e.1, { e.2 with fetch := e.2.producer, workAt := 0 }) else e)
      = fun e => (e.1, e.2.stopped c) := by
    funext e
    unfold Ring.stopped
    split <;> rfl
  unfold Block.ring Block.stopRings
  rw [each]
  exact sget_map _ (by unfold Ring.stopped; split <;> rfl) _ _

theorem Block.holdOf_stopRings (b : Block) (c k : Nat) : (b.stopRings c).holdOf k = if !b.ringIs k c then b.holdOf k else Hold.none :=
  sget_filter_key Hold.none b.disp.holds (fun k => !b.ringIs k c) k

theorem Ring.cfg_stopped (c : Nat) (r : Ring) : (r.stopped c).cfg = r.cfg := by
  unfold Ring.stopped
  split <;> rfl

/-- The rings of a context that stops are empty, and nothing holds their heads. -/
theorem Block.stopRings_empties (b : Block) (c k : Nat) (mine : cfgCtx ((b.stopRings c).ring k).cfg = c) :
    ((b.stopRings c).ring k).fetch = ((b.stopRings c).ring k).producer ∧ (b.stopRings c).holdOf k = Hold.none := by
  rw [Block.ring_stopRings, Ring.cfg_stopped] at mine
  refine ⟨?_, ?_⟩
  · rw [Block.ring_stopRings, Ring.stopped, if_pos (by simpa using mine)]
  · rw [Block.holdOf_stopRings, Block.ringIs, mine, beq_self_eq_true, Bool.true_or, Bool.not_true, if_neg Bool.false_ne_true]

/-! ### The clauses of O12 -/

/-- CTX_STATE holds a 1. -/
theorem wrap_ctxState (k : Nat) : wrap (odWidth Od.ctxState k) 1 = 1 := Nat.one_mod_two_pow (odWidth_pos (by decide +kernel) k)

/-- The rings of a context as the Stop phase leaves them, before its tasks end. -/
def Block.ringsStopped (b : Block) (c : Nat) : Block := (b.setReg Od.ctxState (c + 1) 1).stopRings c

theorem Block.stopCtx_eq (b : Block) (c : Nat) : b.stopCtx c = ((b.ringsStopped c).abortTasks c).dropWork c := rfl

@[simp] theorem Block.dropWork_od (b : Block) (c : Nat) : (b.dropWork c).od = b.od := rfl

/-- A context that stops is RESETTING. -/
theorem Block.stopCtx_resetting (b : Block) (c : Nat) : (b.stopCtx c).resetting c = true := by
  have stays := IdxKept.abortTasks (b.ringsStopped c) c Od.ctxState (c + 1) (by decide) (by decide +kernel)
  have set : (b.ringsStopped c).reg Od.ctxState (c + 1) = 1 := (Block.reg_setReg_self b ..).trans (wrap_ctxState _)
  rw [Block.resetting, Block.stopCtx_eq, Block.reg_eq_of_od (Block.dropWork_od ..), stays, set]
  rfl

theorem ctxReset_goes (s : State) (c : Nat) (open_ : Writable s.toBlock) (service : s.service ≠ svcManagement) (ready : s.toBlock.resetting c = false) :
    Goes (exec (.ctxReset c 1) s) fun t =>
      t.odp.status = stOK ∧ t.toBlock.resetting c = true ∧ (∀ x ∈ t.disp.tasks, x.ctx = c → x.isRunning = false)
      ∧ (∀ k, cfgCtx (t.toBlock.ring k).cfg = c → (t.toBlock.ring k).fetch = (t.toBlock.ring k).producer ∧ t.toBlock.holdOf k = Hold.none)
      ∧ (∀ j ∈ t.plz.drains, j.set_.ctx ≠ c) ∧ (∀ q ∈ t.plz.queues, q.set_.ctx ≠ c) ∧ (∀ j ∈ t.hazel.roots, j.ctx ≠ c)
      ∧ IdxKept (Od.ctxState :: endIdx) s.toBlock t.toBlock
      ∧ t.mem = s.mem ∧ t.slow = s.slow ∧ t.emith = s.emith ∧ t.dt = s.dt ∧ t.wal = s.wal ∧ t.gov = s.gov := by
  have stops : xCtxReset c 1 s.toBlock = (s.toBlock.stopCtx c).answer stOK := by
    unfold xCtxReset
    rw [Block.onWrite_open open_, if_neg service, if_neg (by decide), if_neg (by simp [ready])]
  have resetting := s.toBlock.stopCtx_resetting c
  have entries := IdxKept.stopCtx s.toBlock c
  have stopped := Block.abortTasks_stops (s.toBlock.ringsStopped c) c
  have aborts := AbortOnly.abortTasks (s.toBlock.ringsStopped c) c
  rw [Block.stopCtx_eq] at stops resetting entries
  generalize (s.toBlock.ringsStopped c).abortTasks c = d at *
  have filtered : ∀ {α : Type} (l : List α) (f : α → Nat), ∀ x ∈ l.filter (fun x => f x != c), f x ≠ c :=
    fun l f x hx => by simpa using (List.mem_filter.mp hx).2
  refine goes_run_eq stops ⟨rfl, resetting, stopped, fun k mine => ?_, filtered d.plz.drains (·.set_.ctx), filtered d.plz.queues (·.set_.ctx), filtered d.hazel.roots (·.ctx),
    entries, aborts.mem, aborts.slow, aborts.emith, aborts.dt, aborts.wal, aborts.gov⟩
  have ring : d.ring k = (s.toBlock.ringsStopped c).ring k := congrArg (fun l => sget Ring.empty l k) aborts.rings
  have hold : d.holdOf k = (s.toBlock.ringsStopped c).holdOf k := congrArg (fun l => sget Hold.none l k) aborts.holds
  have empty := Block.stopRings_empties (s.toBlock.setReg Od.ctxState (c + 1) 1) c k (ring ▸ mine)
  exact ⟨(congrArg Ring.fetch ring).trans (empty.1.trans (congrArg Ring.producer ring).symm), hold.trans empty.2⟩

/-! ### Records, and the end of a reset -/

theorem StoreOnly.abortRecord (b : Block) (t : Task) : StoreOnly b (b.abortRecord t) := by
  unfold Block.abortRecord
  dsimp only
  split
  · rename_i written
    exact (StoreOnly.writeRecord written).trans (StoreOnly.of_regOnly (RegOnly.bump ..))
  · rfl

theorem StoreOnly.se {b c : Block} (h : StoreOnly b c) : c.se = b.se := by rw [h]

/-- The Clear phase leaves a context no taint, no translation and no armed stream (R219, R225, R232). -/
theorem Block.clearCtx_se (b : Block) (c : Nat) :
    (∀ x ∈ (b.clearCtx c).se.taints, x.ctx ≠ c) ∧ (∀ x ∈ (b.clearCtx c).se.tlb, x.ctx ≠ c) ∧ (∀ x ∈ (b.clearCtx c).se.streams, x.ctx ≠ c) := by
  unfold Block.clearCtx
  dsimp only
  exact ⟨fun x hx => by simpa using (List.mem_filter.mp hx).2, fun x hx => by simpa using (List.mem_filter.mp hx).2,
    fun x hx => by simpa using (List.mem_filter.mp hx).2⟩

/-- The block with the records of the context's tasks written (R270). -/
def Block.recorded (b : Block) (c : Nat) : Block := ((b.clearCtx c).ctxTasks c).foldl (fun b t => b.abortRecord t) (b.clearCtx c)

theorem Block.finishCtx_eq (b : Block) (c : Nat) :
    b.finishCtx c = ((((b.recorded c).freeTickets c).restartRings c).setReg Od.ctxState (c + 1) 0).raise 0x0364 c [] := rfl

theorem Block.ctxBusy_freeTickets (b : Block) (c : Nat) : (b.freeTickets c).ctxBusy c = false := by
  unfold Block.ctxBusy Block.freeTickets
  simp

/-- A ring of the context that restarts is ACTIVE and empty, unless it is disabled. -/
theorem Block.restartRings_active (b : Block) (c : Nat) : ∀ e ∈ (b.restartRings c).disp.rings, cfgCtx e.2.cfg = c → e.2.state ≠ .disabled →
    e.2.state = .active ∧ e.2.fetch = e.2.producer ∧ e.2.reason = 0 := by
  intro e he
  obtain ⟨y, -, rfl⟩ := List.mem_map.mp he
  dsimp only
  split
  · rename_i other
    exact fun mine => absurd mine (by simpa using other)
  · split
    · rename_i disabled
      exact fun _ enabled => absurd (by simpa using disabled) enabled
    · exact fun _ _ => ⟨rfl, rfl, rfl⟩

theorem ctxResetDone_goes (s : State) (c : Nat) (resets : s.toBlock.resetting c = true) (live : s.toBlock.live = true) : Goes (exec (.ctxResetDone c) s) fun t =>
    t.reg Od.ctxState (c + 1) = 0 ∧ t.toBlock.ctxBusy c = false ∧ LastEvent t.toBlock 0x0364 c []
    ∧ (∀ x ∈ t.se.taints, x.ctx ≠ c) ∧ (∀ x ∈ t.se.tlb, x.ctx ≠ c) ∧ (∀ x ∈ t.se.streams, x.ctx ≠ c)
    ∧ (∀ e ∈ t.disp.rings, cfgCtx e.2.cfg = c → e.2.state ≠ .disabled → e.2.state = .active ∧ e.2.fetch = e.2.producer ∧ e.2.reason = 0) := by
  have finishes : xCtxResetDone c s.toBlock = s.toBlock.finishCtx c := if_pos (by simp [resets, live])
  have records : StoreOnly (s.toBlock.clearCtx c) (s.toBlock.recorded c) := foldl_has (StoreOnly _) (fun _ t k => k.trans (StoreOnly.abortRecord _ t)) _ rfl
  obtain ⟨taints, tlb, streams⟩ := s.toBlock.clearCtx_se c
  rw [← records.se] at taints tlb streams
  rw [Block.finishCtx_eq] at finishes
  generalize s.toBlock.recorded c = d at *
  have disp : ((((d.freeTickets c).restartRings c).setReg Od.ctxState (c + 1) 0).raise 0x0364 c []).disp = ((d.freeTickets c).restartRings c).disp :=
    Block.raise_disp ..
  have se : ((((d.freeTickets c).restartRings c).setReg Od.ctxState (c + 1) 0).raise 0x0364 c []).se = d.se := Block.raise_se ..
  refine goes_run_eq finishes ⟨?_, ?_, lastEvent_of_log rfl rfl (lastEvent_raise ..), ?_, ?_, ?_, ?_⟩
  · rw [reg_settle, reg_raise_of_idx_ne _ _ _ _ _ (by decide) (by decide), Block.reg_setReg_self, wrap, Nat.zero_mod]
  · rw [← Block.ctxBusy_freeTickets d c]
    unfold Block.ctxBusy
    rw [settle_disp, disp]
    rfl
  · rw [settle_se, se]
    exact taints
  · rw [settle_se, se]
    exact tlb
  · rw [settle_se, se]
    exact streams
  · rw [settle_disp, disp]
    exact Block.restartRings_active _ c

/-- Settles O12: the Abort phase ends every task that still runs, and the Clear phase is a filter of what the context holds. -/
theorem contextResets : Obligations.ContextResets := by
  unfold Obligations.ContextResets
  exact ⟨fun s c _ => ctxReset_goes s c, fun s c _ => ctxResetDone_goes s c⟩

end Sys2Proof.Machine
end

section
/-! PROOFS. Issue under a poisoned ticket-table entry: what it ends where two tasks hold one ticket (R253, R393). -/

namespace Sys2Proof.Machine

/-- A task of ticket 7, ring 3 and context 1 with nothing but an opcode in its descriptor. -/
def bareTask (op : Nat) (phase : TaskPhase) : Task :=
  { ticket := 7, desc := BitVec.ofNat 512 (at' 124 op), ring := 3, ctx := 1, index := 0, phase := phase, issued := 0, step := 0, unit := 0, rect := (0, 0, 0, 0),
    signalled := false, waits := [], stage := 0, sel := 0, rule := 0, decided := [], counter := 0, order := 0, opts := 0, shape := none, flow := Flow.empty, cfg := 0 }

/-- A module in FULL whose Dispatcher runs an EVENT under the ticket of a FENCE that ring 3 holds: a state that R253 rules out and O19 does not. -/
def sharedTicket : State :=
  { State.reset with toBlock := { State.reset.toBlock.setReg Od.moduleService 0 svcFull with
      sys := { Sys.reset with phase := .up }, disp := { Disp.reset with tasks := [bareTask opEvent .running, bareTask opFence .held] } } }

/-- The held FENCE is the head of ring 3, and nothing keeps it from issuing. -/
theorem sharedTicket_head : (sharedTicket.toBlock.heldTasks 3).head? = some (bareTask opFence .held) ∧ sharedTicket.toBlock.dispRuns = true
    ∧ sharedTicket.toBlock.resetting (bareTask opFence .held).ctx = false := by
  decide +kernel

/-- After its issue with a poisoned entry, the task of ticket 7 is the EVENT. -/
theorem sharedTicket_issued : ((xIssue 3 true sharedTicket.toBlock).task? 7).map (·.desc) = some (bareTask opEvent .running).desc := by
  decide +kernel

/-- Refutes O19: its last clause does not say that the head alone holds its ticket. In `sharedTicket` a running task holds it too, and stands before
the head, so that the task of that ticket is not the head, as the clause wants, when the entry is found poisoned. -/
theorem not_fetchAndIssue : ¬ Obligations.FetchAndIssue := by
  unfold Obligations.FetchAndIssue
  rintro ⟨-, -, -, -, -, poisoned⟩
  obtain ⟨head, runs, ctx⟩ := sharedTicket_head
  obtain ⟨t, ran, ⟨y, task, desc, -⟩, -⟩ := poisoned sharedTicket 3 (bareTask opFence .held) head runs ctx
  cases ran
  have issued := sharedTicket_issued
  have found : (settle (xIssue 3 true sharedTicket.toBlock)).task? 7 = some y := task
  rw [← Block.task?_of_disp (settle_disp _), found, Option.map_some, desc] at issued
  exact absurd issued (by decide +kernel)

end Sys2Proof.Machine
end

section
/-! PROOFS. Cohort slots: what a write of RB_COHORT_CONFIG latches, keeps and refuses (R275, R276, R278). -/

namespace Sys2Proof.Machine

/-! ### The record of a slot (R275) -/

theorem Block.cohort_of_cfgs {b c : Block} (h : c.rb.cfgs = b.rb.cfgs) (k : Nat) : c.cohort k = b.cohort k := by
  unfold Block.cohort; rw [h]

/-- What a slot holds once one slot has been latched. -/
theorem Block.cohort_sset {b c : Block} {n : Nat} {r : BitVec 256} (h : c.rb.cfgs = sset 0 b.rb.cfgs n r) (k : Nat) :
    c.cohort k = if k = n then cohortOf r else b.cohort k := by
  unfold Block.cohort
  rw [h, sget_sset]
  split <;> rfl

/-- The enable of a record is its bit 241. -/
theorem cohortOf_enabled (r : BitVec 256) : (cohortOf r).enabled = decide (r.toNat / 2 ^ 241 % 2 = 1) := by
  rw [← Nat.shiftRight_eq_div_pow]
  rfl

/-- A record without its enable is of a disabled slot. -/
theorem cohortOf_disabled {r : BitVec 256} (h : (cohortOf r).enabled = true) : (cohortOf (BitVec.ofNat 256 (r.toNat - 2 ^ 241))).enabled = false := by
  rw [cohortOf_enabled, decide_eq_true_eq] at h
  have small : r.toNat - 2 ^ 241 < 2 ^ 256 := Nat.lt_of_le_of_lt (Nat.sub_le ..) r.isLt
  rw [cohortOf_enabled, decide_eq_false_iff_not, BitVec.toNat_ofNat, Nat.mod_eq_of_lt small]
  omega

/-! ### The member list (R276) -/

/-- The counters that reading the member list can move: those of the reads, and of the waiting that they saw (R154, R168, R171, R177, R200). -/
def memberIdx : List Nat := [Od.hbmReadBytes, Od.terraceReadBytes, Od.terraceBankStallCycles, Od.hbmQueueFullCycles, Od.hbmOndieSeverityCount]

/-- A unit on no Borough reads no other Borough's Terrace. -/
theorem IdxKept.countRead_member (b : Block) (a n : Nat) : IdxKept memberIdx b (b.countRead a n) := by
  unfold Block.countRead
  split
  · exact IdxKept.bump _ _ _ _ (by decide) (by decide)
  · exact IdxKept.foldl (fun _ _ => IdxKept.bump _ _ _ _ (by decide) (by decide)) _ _

theorem IdxKept.countEntry_member (b : Block) (h : Cohort) (pos : Nat) : IdxKept memberIdx b (b.countEntry none h pos) := by
  have walked : ∀ va, IdxKept memberIdx b (b.countWalk none h.ctx va) := fun va => IdxKept.foldl (fun _ _ => IdxKept.countRead_member _ _ _) _ _
  unfold Block.countEntry
  dsimp only
  split
  · exact IdxKept.refl _ b
  · split
    · exact (walked _).trans (IdxKept.countRead_member _ _ _)
    · exact walked _

/-- The block once the member list has been read for an enable. -/
def Block.membersRead (b : Block) (h : Cohort) : Block := b.contended (fun b => h.kept.foldl (fun b pos => b.countEntry none h pos) b)

theorem DrawOnly.membersRead (b : Block) (h : Cohort) : DrawOnly b (b.membersRead h) := by
  have counted : RegOnly b (h.kept.foldl (fun b pos => b.countEntry none h pos) b) := RegOnly.foldl (fun _ _ => RegOnly.countEntry ..) _ _
  refine DrawOnly.trans (c := h.kept.foldl (fun b pos => b.countEntry none h pos) b) ?_ (DrawOnly.contended rfl)
  unfold DrawOnly
  rw [counted]

theorem IdxKept.membersRead (b : Block) (h : Cohort) : IdxKept memberIdx b (b.membersRead h) := by
  unfold Block.membersRead Block.contended
  exact (IdxKept.foldl (fun _ _ => IdxKept.countEntry_member _ _ _) _ b).trans ((IdxKept.contention _ _ _).mono (by decide))

/-! ### Enable and disable (R276, R278) -/

section Config
variable {b : Block} {r : BitVec 256} (open_ : Writable b)
include open_

theorem xCohortConfig_disables (off : (cohortOf r).enabled = false) : xCohortConfig r b =
    if b.cohortBusy (cohortOf r).slot then b.answer stWriteRefused else (b.disableCohort (cohortOf r).slot).answer stOK := by
  unfold xCohortConfig
  rw [Block.onWrite_open open_]
  exact if_pos (by rw [off]; rfl)

theorem xCohortConfig_bad (on : (cohortOf r).enabled = true) (bad : b.badCohort (cohortOf r) = true) : xCohortConfig r b = b.answer stWriteRefused := by
  unfold xCohortConfig
  rw [Block.onWrite_open open_]
  dsimp only
  rw [if_neg (by rw [on]; decide), if_pos bad]

/-- An enable that R276 does not refuse reads the member list, and is refused where it cannot be read or does not name this device. -/
theorem xCohortConfig_reads (on : (cohortOf r).enabled = true) (fine : b.badCohort (cohortOf r) = false) : xCohortConfig r b =
    match b.readKept (cohortOf r) with
    | none => (b.membersRead (cohortOf r)).answer stWriteRefused
    | some l => if ((cohortOf r).slot * 2 ^ 18 + (cohortOf r).pos, b.reg Od.deviceIndex 0) ∈ l then
        Block.answer { b.membersRead (cohortOf r) with rb := { b.rb with cfgs := sset 0 b.rb.cfgs (cohortOf r).slot r, devs := b.rb.devs ++ l } } stOK
      else (b.membersRead (cohortOf r)).answer stWriteRefused := by
  have rb : (b.membersRead (cohortOf r)).rb = b.rb := by rw [DrawOnly.membersRead b (cohortOf r)]
  have names : ∀ (l : List (Nat × Nat)) x, (!l.any (fun e => e == x)) = true ↔ x ∉ l := fun l x => by
    rw [List.any_beq', Bool.not_eq_true', ← Bool.not_eq_true, List.contains_iff_mem]
  have device : (b.membersRead (cohortOf r)).reg Od.deviceIndex 0 = b.reg Od.deviceIndex 0 :=
    IdxKept.membersRead b (cohortOf r) _ _ (by decide) (by decide)
  unfold xCohortConfig
  rw [Block.onWrite_open open_]
  dsimp only
  rw [if_neg (by rw [on]; decide), if_neg (by rw [fine]; decide)]
  cases b.readKept (cohortOf r) with
  | none => rfl
  | some l =>
    change (if _ then (b.membersRead (cohortOf r)).answer stWriteRefused else _) = _
    rw [show b.contended (fun b => (cohortOf r).kept.foldl (fun b pos => b.countEntry none (cohortOf r) pos) b) = b.membersRead (cohortOf r) from rfl,
      device, rb]
    dsimp only
    by_cases mine : ((cohortOf r).slot * 2 ^ 18 + (cohortOf r).pos, b.reg Od.deviceIndex 0) ∈ l
    · rw [if_pos mine, if_neg (fun no => (names ..).mp no mine)]
    · rw [if_neg mine, if_pos ((names ..).mpr mine)]

end Config

/-- A slot that is disabled holds no parcel of what it served, and has sent nothing more (R276, R278). -/
theorem Block.disableCohort_disabled (b : Block) (k : Nat) : ((b.disableCohort k).cohort k).enabled = false ∧ (b.disableCohort k).rb.tx = b.rb.tx
    ∧ ((b.cohort k).enabled = true → ∀ p ∈ (b.disableCohort k).rb.rx, (b.cohort k).owns p = false) := by
  unfold Block.disableCohort
  dsimp only
  cases on : (b.cohort k).enabled with
  | false =>
    rw [if_pos (by rw [show cohortOf (sget 0 b.rb.cfgs k) = b.cohort k from rfl, on]; rfl)]
    exact ⟨on, rfl, fun h => absurd h (by decide)⟩
  | true =>
    rw [if_neg (by rw [show cohortOf (sget 0 b.rb.cfgs k) = b.cohort k from rfl, on]; decide)]
    obtain ⟨r, hr, off⟩ : ∃ r, BitVec.ofNat 256 ((sget 0 b.rb.cfgs k).toNat - 2 ^ 241) = r ∧ (cohortOf r).enabled = false :=
      ⟨_, rfl, cohortOf_disabled on⟩
    rw [hr]
    refine ⟨?_, rfl, fun _ p hp => Bool.not_eq_true' _ ▸ (List.mem_filter.mp hp).2⟩
    rw [Block.cohort_sset (b := b) (n := k) (r := r) rfl, if_pos rfl]
    exact off

/-! ### The statement -/

/-- A refused enable leaves the Roundabout and memory alone. -/
theorem cohortRefused_goes (s : State) (r : BitVec 256) (open_ : Writable s.toBlock) (on : (cohortOf r).enabled = true)
    (other : ∀ l, s.toBlock.readKept (cohortOf r) = some l → ((cohortOf r).slot * 2 ^ 18 + (cohortOf r).pos, s.reg Od.deviceIndex 0) ∉ l) :
    Goes (exec (.rbCohortConfig r) s) fun t =>
      t.odp.status = stWriteRefused ∧ t.rb = s.rb ∧ t.mem = s.mem ∧ IdxKept memberIdx s.toBlock t.toBlock := by
  have read : DrawOnly s.toBlock (s.toBlock.membersRead (cohortOf r)) := DrawOnly.membersRead ..
  have refused : xCohortConfig r s.toBlock = s.toBlock.answer stWriteRefused
      ∨ xCohortConfig r s.toBlock = (s.toBlock.membersRead (cohortOf r)).answer stWriteRefused := by
    cases fine : s.toBlock.badCohort (cohortOf r) with
    | true => exact .inl (xCohortConfig_bad open_ on fine)
    | false =>
      right
      rw [xCohortConfig_reads open_ on fine]
      split
      · rfl
      · exact if_neg (other _ ‹_›)
  rcases refused with eq | eq
  · exact goes_run_eq eq ⟨rfl, rfl, rfl, IdxKept.of_od rfl⟩
  · have regs := IdxKept.membersRead s.toBlock (cohortOf r)
    generalize s.toBlock.membersRead (cohortOf r) = c at eq read regs
    refine goes_run_eq eq ⟨rfl, ?_, read.mem, regs.trans (IdxKept.of_od rfl)⟩
    rw [read]
    rfl

/-- Settles O30, write by write. -/
theorem cohortConfig : Obligations.CohortConfig := by
  unfold Obligations.CohortConfig
  refine ⟨fun s r l open_ on fine list mine => ?_, fun s r open_ on bad => goes_run_eq (xCohortConfig_bad open_ on bad) rfl, cohortRefused_goes,
    fun s r open_ off busy => ?_, fun s r open_ off free => ?_⟩
  · have eq := xCohortConfig_reads open_ on fine
    have read := DrawOnly.membersRead s.toBlock (cohortOf r)
    have regs := IdxKept.membersRead s.toBlock (cohortOf r)
    rw [list] at eq
    generalize s.toBlock.membersRead (cohortOf r) = c at eq read regs
    refine goes_run_eq (eq.trans (if_pos mine)) ⟨rfl, ?_, rfl, read.mem, fun k hk => ?_, regs.trans (IdxKept.of_od rfl)⟩
    · exact (Block.cohort_sset (b := s.toBlock) (n := (cohortOf r).slot) rfl _).trans (if_pos rfl)
    · exact (Block.cohort_sset (b := s.toBlock) (n := (cohortOf r).slot) rfl _).trans (if_neg hk)
  · exact goes_run_eq ((xCohortConfig_disables open_ off).trans (if_pos busy)) rfl
  · exact goes_run_eq ((xCohortConfig_disables open_ off).trans (if_neg (by simp [free]))) ⟨rfl, Block.disableCohort_disabled ..⟩

end Sys2Proof.Machine
end

section
/-! PROOFS. Sending a DATA packet: what opening connections, awaiting credits and a packet leave as they were, and what the connection keeps of it
(R296, R313, R318, R319, R322, R331). -/

namespace Sys2Proof.Machine

/-! ### Before a packet: connections and credits (R296, R322) -/

/-- `c` differs from `b` in open connections, credits, marks of parcels that wait for a connection, drawn values and EMITH_TABLE_FULL only. -/
structure SendPrepared (b c : Block) : Prop where
  frame : c = { b with od := c.od, freeCount := c.freeCount, emith := { b.emith with tx := c.emith.tx, cgens := c.emith.cgens },
                       rb := { b.rb with tx := c.rb.tx, spent := c.rb.spent } }
  regs : RegsKept [odKey Od.emithTableFull 0] b c

namespace SendPrepared
variable {a b c : Block}

theorem refl (b : Block) : SendPrepared b b := ⟨rfl, RegsKept.refl _ b⟩

theorem trans (h : SendPrepared a b) (k : SendPrepared b c) : SendPrepared a c := ⟨by rw [k.frame, h.frame], h.regs.trans k.regs⟩

theorem foldl {α : Type} {f : Block → α → Block} (h : ∀ b x, SendPrepared b (f b x)) (l : List α) (b : Block) : SendPrepared b (l.foldl f b) :=
  foldl_has (SendPrepared b) (fun _ x k => k.trans (h _ x)) l (refl b)

theorem openTx (b : Block) (key : ConnKey) : SendPrepared b (b.openTx key) := ⟨rfl, RegsKept.of_od rfl⟩

theorem waitTable (b : Block) (p : Parcel) : SendPrepared b (b.waitTable p) := by
  unfold Block.waitTable
  split
  · exact refl b
  · exact ⟨rfl, RegsKept.setReg { b with rb := { b.rb with tx := b.rb.tx.replace p { p with at_ := 1 } } } _ _ _ (List.mem_singleton.mpr rfl)⟩

theorem openNeeded (b : Block) (slice : Nat) : SendPrepared b (b.openNeeded slice) := by
  refine foldl (fun b p => ?_) _ b
  split
  · exact refl b
  · split
    · exact waitTable ..
    · exact openTx ..

theorem awaitCredit (b : Block) (key : Nat) : SendPrepared b (b.awaitCredit key) := by
  unfold Block.awaitCredit
  dsimp only
  split
  · exact refl b
  · exact ⟨rfl, RegsKept.of_od rfl⟩

theorem awaitCredits (b : Block) (slice : Nat) : SendPrepared b (b.awaitCredits slice) := foldl (fun b k => awaitCredit b k) _ b

end SendPrepared

/-! ### The transmit counter (R319) -/

theorem TxcReserved.takeTxc (b : Block) (slot : Nat) : TxcReserved b (b.takeTxc slot).2 := by
  have counts : ∀ (c : Block) x, TxcReserved c (c.setTxc slot x) := fun c x => ⟨rfl, RegsKept.of_od rfl⟩
  have reserved := TxcReserved.reserveTxc b slot
  unfold Block.takeTxc
  dsimp only
  split
  · split
    · exact reserved.trans (counts ..)
    · exact reserved
  · split
    · exact counts ..
    · exact TxcReserved.refl b

theorem Block.txcOf_reserveTxc (b : Block) (slot : Nat) :
    (b.reserveTxc slot).txcOf slot = Txc.reserve slot ((b.txcOf slot).stop + txcBlock) 16 (b.txcOf slot) := by
  have set_ : ∀ x, (b.setTxc slot x).txcOf slot = x := fun x => sget_sset_self ..
  unfold Block.reserveTxc
  dsimp only
  split
  · rw [Block.txcOf, Block.raise_emith]
    exact set_ _
  · exact set_ _

/-- Which TXC a slot gives is a matter of its counter alone. -/
theorem Block.takeTxc_of_txc {b c : Block} (h : c.emith.txc = b.emith.txc) (slot : Nat) : (c.takeTxc slot).1 = (b.takeTxc slot).1 := by
  have same : c.txcOf slot = b.txcOf slot := by unfold Block.txcOf; rw [h]
  have fst : ∀ d : Block, (d.takeTxc slot).1 = (fun x : Txc => if x.usable then some x.next else none)
      (if (d.txcOf slot).usable && decide ((d.txcOf slot).stop ≤ (d.txcOf slot).next) then
        Txc.reserve slot ((d.txcOf slot).stop + txcBlock) 16 (d.txcOf slot) else d.txcOf slot) := by
    intro d
    unfold Block.takeTxc
    dsimp only
    split
    · rw [Block.txcOf_reserveTxc]
      split <;> rfl
    · split <;> rfl
  rw [fst c, fst b, same]

/-! ### A packet on an interface (R313, R318) -/

/-- `c` differs from `b` in transmit counters, frames put on interfaces and the events of a reservation only. -/
structure PacketOnly (b c : Block) : Prop where
  frame : c = { b with od := c.od, log := c.log, fatal := c.fatal, emith := { b.emith with txc := c.emith.txc, wire := c.emith.wire, txFree := c.emith.txFree } }
  regs : RegsKept [odKey Od.eventNextSeq 0] b c

/-- The tag of an interface is a matter of FAB_VLAN and HOST_VLAN. -/
theorem Block.tagOf_of_regs {b c : Block} (fab : c.reg Od.fabVlan 0 = b.reg Od.fabVlan 0) (host : c.reg Od.hostVlan 0 = b.reg Od.hostVlan 0) (code : Nat) :
    c.tagOf code = b.tagOf code := by
  unfold Block.tagOf Block.vlanOf
  rw [fab, host]

/-- A connection that can send puts its packet on the interface. -/
theorem Block.sendPacket_sends {b : Block} {key : ConnKey} (can : CanSend b key) (hd : EHead) (payload : List Byte) (iface dest : Nat) :
    ∃ c, b.sendPacket key hd payload iface dest = some c ∧ PacketOnly b c ∧ Sent b c iface key hd.type hd.cgen hd.psn payload.length := by
  obtain ⟨device, keyed, counted⟩ := can
  obtain ⟨n, taken⟩ := Option.ne_none_iff_exists'.mp counted
  have reserved := TxcReserved.takeTxc b (b.reg Od.emithTxKeySlot 0)
  have eq : b.takeTxc (b.reg Od.emithTxKeySlot 0) = (some n, (b.takeTxc (b.reg Od.emithTxKeySlot 0)).2) := Prod.ext taken rfl
  generalize (b.takeTxc (b.reg Od.emithTxKeySlot 0)).2 = c at reserved eq
  have tag : c.tagOf iface = b.tagOf iface := Block.tagOf_of_regs (reserved.regs _ _ (by decide)) (reserved.regs _ _ (by decide)) iface
  have leaves : c.departs iface = ({ b with dt := c.dt } : Block).departs iface := by rw [reserved.eq]; rfl
  have now : b.departs iface = c.departs iface := by rw [reserved.eq]; rfl
  unfold Block.sendPacket
  dsimp only
  rw [if_neg device, if_neg (by rwa [List.isEmpty_iff]), eq]
  refine ⟨_, rfl, ⟨?_, fun i k away => reserved.regs i k away⟩, ?_⟩
  · unfold Block.putFrame Block.occupy
    rw [reserved.eq]
  · refine ⟨_, _, congrArg (· ++ _) (by rw [reserved.eq]), rfl, tag, fun t => if_pos t, leaves, rfl, rfl, rfl, rfl, rfl, rfl, rfl, ?_⟩
    exact congrArg (· % 2 ^ 48) now

/-- A packet of a block that stands as `s` does, but for what is no matter of frames, is a packet of `s`. -/
theorem sent_of_frames {s b c t : Block} {iface : Nat} {key : ConnKey} {type cgen psn len : Nat} (sent : Sent b c iface key type cgen psn len)
    (wire : b.emith.wire = s.emith.wire) (tag : b.tagOf iface = s.tagOf iface) (paused : b.emith.paused = s.emith.paused)
    (free : b.emith.txFree = s.emith.txFree) (wire' : t.emith.wire = c.emith.wire) (dt : t.dt = c.dt) : Sent s t iface key type cgen psn len := by
  obtain ⟨f, h, put, on, tagged, ecn, leaves, rest⟩ := sent
  refine ⟨f, h, by rw [wire', put, wire], on, tagged.trans tag, ecn, leaves.trans ?_, rest⟩
  unfold Block.departs Block.pauseEnd
  rw [dt, paused, free]

/-! ### The sending connection (R322, R324, R331) -/

/-- Changing one sending connection changes no other. -/
theorem Block.tx?_setTx {b : Block} {key : ConnKey} {c : TxConn} (h : b.tx? key = some c) {f : TxConn → TxConn} (hf : ∀ x, (f x).key = x.key) :
    (b.setTx key f).tx? key = some (f c) := by
  have same : ((fun x : TxConn => x.key == key) ∘ fun x => if x.key == key then f x else x) = fun x => x.key == key := by
    funext x
    by_cases e : x.key = key <;> simp [e, hf]
  have mine : c.key = key := by simpa using List.find?_some h
  rw [Block.tx?, Block.setTx, List.find?_map, same]
  exact (congrArg (Option.map _) h).trans (by simp [mine])

theorem Block.tx?_of_tx {b c : Block} (h : c.emith.tx = b.emith.tx) (key : ConnKey) : c.tx? key = b.tx? key := by
  unfold Block.tx?; rw [h]

/-- The connection after a DATA packet on an interface, which had `half` of its two links last. -/
def TxConn.paced (x : TxConn) (iface half dt bytes : Nat) : TxConn :=
  { x with iface := iface, half := half, usedAt := dt, freeAt := max dt x.freeAt + paceNs (bytes + 48) x.rate }

/-- A DATA packet goes out on the interface that spraying picks, and pacing counts it (R329, R331). -/
theorem Block.sendData_sends {b : Block} {c : TxConn} (can : CanSend b c.key) {i : Nat} {prev : Option Nat} (pick : b.pickIface c.key c.iface prev = some i)
    (psn retx : Nat) (payload : List Byte) : ∃ d half, PacketOnly b d ∧ Sent b d i c.key etData c.cgen psn payload.length
      ∧ b.sendData c psn payload retx prev = some (i, d.setTx c.key (fun x => x.paced i half d.dt payload.length)) := by
  obtain ⟨d, packet, only, sent⟩ :=
    Block.sendPacket_sends can ⟨1, etData, retx, 0, 0, 0, 0, 0, 0, 0, c.cgen, 0, psn, 0, 0⟩ payload i (b.destIface c.key i c.half).1
  refine ⟨d, (b.destIface c.key i c.half).2, only, sent, ?_⟩
  unfold Block.sendData
  simp only [pick, packet]
  rfl

/-! ### The command (R296, R331) -/

/-- What a slice that sends leaves of its connection: the packet awaits its acknowledgement, and the next PSN follows. -/
def TxConn.awaiting (x : TxConn) (p : SentPkt) : TxConn := { x with next := wrap 32 (x.next + 1), unacked := x.unacked ++ [p] }

/-- The block once a packet of the connection in turn is out and counted, its parcel still in the queue. -/
def Block.packetOut (b : Block) (slice : Nat) (key : ConnKey) (pkt : SentPkt) : Block :=
  let b := b.setTx key (fun x => x.awaiting pkt)
  let b : Block := { b with emith := { b.emith with served := b.emith.served.filter (fun e => e.1 != slice) ++ [(slice, key)] } }
  b.bump Od.rbBytesSent (slice + 1) pkt.payload.length

section Send
variable {s b : Block} {slice i : Nat} {c : TxConn} {p : Parcel}

theorem Block.slice_of_nextParcelOf (device : slice < 4) (next : b.nextParcelOf slice c.key = some p) : p.slice = slice := by
  have mem := List.mem_of_find?_eq_some next
  unfold Block.outgoing at mem
  rw [if_neg (Nat.ne_of_lt device : slice ≠ hostSlice)] at mem
  simpa using (List.mem_filter.mp mem).2

theorem xSend_sends (prepared : b = (s.openNeeded slice).awaitCredits slice) (live : s.live = true) (device : slice < 4) (up : s.boroughDown slice = false)
    (turn : b.chooseTx slice = some c) (next : b.nextParcelOf slice c.key = some p) {d : Block}
    (data : (b.reach c.freeAt).sendData c c.next p.payload 0 none = some (i, d)) :
    xSend slice s = ((d.packetOut slice c.key ⟨c.next, p.payload, d.dt, 0, i⟩).spendCredit p).unqueue p := by
  unfold xSend
  dsimp only
  rw [if_neg (by simp [live, up]), ← prepared]
  simp only [turn, next, data, if_neg (Nat.ne_of_lt device : slice ≠ hostSlice)]
  rfl

theorem Block.flowOf_of_cfgs {b c : Block} (h : c.rb.cfgs = b.rb.cfgs) (p : Parcel) : c.flowOf p = b.flowOf p := by
  unfold Block.flowOf Block.cohortFor; rw [h]

/-- The credit of a parcel's flow is spent (R296). -/
theorem Block.spent_spendCredit (b : Block) (p : Parcel) {f : Nat} (flow : b.flowOf p = some f) :
    sget 0 (b.spendCredit p).rb.spent f = sget 0 b.rb.spent f + 1 := by
  unfold Block.spendCredit
  simp only [flow]
  exact sget_sset_self ..

theorem Block.spendCredit_eq (b : Block) (p : Parcel) : b.spendCredit p = { b with rb := { b.rb with spent := (b.spendCredit p).rb.spent } } := by
  unfold Block.spendCredit
  split <;> rfl

/-- A parcel whose packet is out leaves its queue, and besides that a credit is spent. -/
theorem Block.unqueue_spendCredit (b : Block) (device : slice < 4) (mine : p.slice = slice) :
    (b.spendCredit p).unqueue p = { b with rb := { b.rb with tx := b.rb.tx.erase p, spent := (b.spendCredit p).rb.spent } } := by
  rw [Block.unqueue, if_neg (mine ▸ Nat.ne_of_lt device : p.slice ≠ hostSlice)]
  conv_lhs => rw [Block.spendCredit_eq]

end Send

/-- Settles O42. -/
theorem emithSend : Obligations.EmithSend := by
  unfold Obligations.EmithSend
  intro s slice i c p b prepared live device up turn found next pick can
  have prep : SendPrepared s.toBlock b := prepared ▸ (SendPrepared.openNeeded ..).trans (SendPrepared.awaitCredits ..)
  have can' : CanSend (b.reach c.freeAt) c.key := ⟨can.1, can.2.1, fun none => can.2.2 ((Block.takeTxc_of_txc (by rfl) _).symm.trans none)⟩
  obtain ⟨d, half, only, sent, data⟩ := Block.sendData_sends can' pick c.next 0 p.payload
  have mine := Block.slice_of_nextParcelOf device next
  have eq := (xSend_sends prepared live device up turn next data).trans (Block.unqueue_spendCredit _ device mine)
  have whole : d = { s.toBlock with
      dt := d.dt, od := d.od, log := d.log, fatal := d.fatal, freeCount := d.freeCount, rb := { s.rb with tx := d.rb.tx, spent := d.rb.spent },
      emith := { s.emith with tx := d.emith.tx, cgens := d.emith.cgens, txc := d.emith.txc, wire := d.emith.wire, txFree := d.emith.txFree } } := by
    rw [only.frame, prep.frame]
    rfl
  have rx : d.emith.rx = s.emith.rx := by rw [whole]
  have parcels : d.rb.rx = s.rb.rx := by rw [whole]
  have mem : d.mem = s.mem := by rw [whole]
  have disp : d.disp = s.disp := by rw [whole]
  have now : d.dt = max s.dt c.freeAt := by rw [only.frame]; show max b.dt c.freeAt = _; rw [prep.frame]
  have conn : d.tx? c.key = some c := (Block.tx?_of_tx (by rw [only.frame]; rfl) _).trans found
  have tag : (b.reach c.freeAt).tagOf i = s.toBlock.tagOf i := Block.tagOf_of_regs (prep.regs _ _ (by decide)) (prep.regs _ _ (by decide)) i
  refine goes_run_eq eq ⟨now, ?_, ?_, fun f flow => ?_,
    ⟨(c.paced i half d.dt p.payload.length).awaiting ⟨c.next, p.payload, d.dt, 0, i⟩, ?_, rfl, rfl, rfl, rfl⟩, rx, parcels, mem, disp, ?_⟩
  · exact sent_of_frames sent (by rw [prep.frame]; rfl) tag (by rw [prep.frame]; rfl) (by rw [prep.frame]; rfl) rfl rfl
  · show d.rb.tx.erase p = _
    rw [only.frame]
    rfl
  · refine (Block.spent_spendCredit _ p ((Block.flowOf_of_cfgs ?_ p).trans flow)).trans (congrArg (fun r : Rb => sget 0 r.spent f + 1) ?_)
    · show d.rb.cfgs = _
      rw [only.frame]
      rfl
    · show d.rb = _
      rw [only.frame]
      rfl
  · have paced := Block.tx?_setTx conn (f := fun x => x.paced i half d.dt p.payload.length) (fun _ => rfl)
    have waits := Block.tx?_setTx paced (f := fun x => x.awaiting ⟨c.next, p.payload, d.dt, 0, i⟩) (fun _ => rfl)
    exact (Block.tx?_of_tx rfl _).trans waits
  · have counted : RegsKept [odKey Od.rbBytesSent (slice + 1)] d (d.bump Od.rbBytesSent (slice + 1) p.payload.length) :=
      RegsKept.setReg _ _ _ _ (List.mem_singleton.mpr rfl)
    refine ((prep.regs.mono ?_).trans (only.regs.mono ?_)).trans ((counted.mono ?_).trans (RegsKept.of_od rfl))
    all_goals simp

end Sys2Proof.Machine
end

section
/-! PROOFS. Parcels: what taking one from its slot and queueing one for Emith leave as they were (R295, R296). -/

namespace Sys2Proof.Machine

/-! ### A parcel leaves its slot (R296) -/

theorem Block.dropParcel_eq (b : Block) (p : Parcel) :
    b.dropParcel p = { b with rb := { b.rb with rx := b.rb.rx.erase p, granted := (b.dropParcel p).rb.granted } } := by
  unfold Block.dropParcel
  dsimp only
  split <;> rfl

/-- A parcel that does not fit is counted, and its event is the newest (R296). -/
theorem Block.mismatch_reports (b : Block) (c : Nat) : LastEvent (b.mismatch c) 0x4374 c [] ∧ RegLog b (b.mismatch c)
    ∧ (b.mismatch c).reg Od.rbParcelDiscards 0 = wrap (odWidth Od.rbParcelDiscards 0) (b.reg Od.rbParcelDiscards 0 + 1) := by
  refine ⟨lastEvent_raise .., (RegOnly.bump ..).regLog.trans (RegLog.raise ..), ?_⟩
  exact (reg_raise_of_idx_ne _ _ _ _ _ (by decide) (by decide)).trans (Block.reg_bump_self ..)

/-! ### Parcels queued for Emith (R295) -/

/-- `c` differs from `b` in parcels added to the queue for Emith only. -/
def Queued (b c : Block) : Prop := ∃ l, c = { b with rb := { b.rb with tx := b.rb.tx ++ l } }

namespace Queued
variable {a b c : Block}

theorem refl (b : Block) : Queued b b := ⟨[], by rw [List.append_nil]⟩

theorem trans (h : Queued a b) (k : Queued b c) : Queued a c := by
  obtain ⟨l, rfl⟩ := h
  obtain ⟨m, rfl⟩ := k
  exact ⟨l ++ m, by rw [List.append_assoc]⟩

theorem foldl {α : Type} {f : Block → α → Block} (h : ∀ b x, Queued b (f b x)) (l : List α) (b : Block) : Queued b (l.foldl f b) :=
  foldl_has (Queued b) (fun _ x k => k.trans (h _ x)) l (refl b)

theorem pushParcel (b : Block) (h : Cohort) (slice dev : Nat) (hd : PHead) (body : List Byte) : Queued b (b.pushParcel h slice dev hd body) := ⟨_, rfl⟩

theorem sendTo (b : Block) (h : Cohort) (slice pos : Nat) (hd : PHead) (body : List Byte) : Queued b (b.sendTo h slice pos hd body) := by
  unfold Block.sendTo
  split
  · exact pushParcel ..
  · exact refl b

theorem sendClose (b : Block) (k : Close) (h : Cohort) (kind : Nat) (body : List Byte) (pos : Nat) : Queued b (b.sendClose k h kind body pos) := sendTo ..

theorem sendCopy (b : Block) (w : Work) (dev kind fmt phase shard off : Nat) (vals : List Nat) : Queued b (b.sendCopy w dev kind fmt phase shard off vals) :=
  foldl (fun b _ => pushParcel b ..) _ b

theorem sendCopyTo (b : Block) (w : Work) (dest kind fmt phase shard off : Nat) (vals : List Nat) :
    Queued b (b.sendCopyTo w dest kind fmt phase shard off vals) := by
  unfold Block.sendCopyTo
  split
  · exact sendCopy ..
  · exact refl b

end Queued

end Sys2Proof.Machine
end

section
/-! PROOFS. The norm close: what a record that comes or goes leaves as it was, and how the close ends (R303 to R308, R406, R463). -/

namespace Sys2Proof.Machine

/-! ### The device at a position (R224, R276) -/

/-- Two blocks with the same translation tables, in the same service (R224, R226). -/
structure SameTables (b c : Block) : Prop where
  mem : c.mem = b.mem
  sys : c.sys = b.sys
  dt : c.dt = b.dt
  gov : c.gov = b.gov
  regs : ∀ i ∈ [Od.ctxTtRoot, Od.limitedCtx, Od.moduleService, Od.hbmStackState], ∀ k, c.reg i k = b.reg i k

namespace SameTables
variable {b c : Block}

theorem reg (h : SameTables b c) {i : Nat} (k : Nat) (hi : i ∈ [Od.ctxTtRoot, Od.limitedCtx, Od.moduleService, Od.hbmStackState]) : c.reg i k = b.reg i k :=
  h.regs i hi k

theorem refl (b : Block) : SameTables b b := ⟨rfl, rfl, rfl, rfl, fun _ _ _ => rfl⟩

theorem trans {a : Block} (h : SameTables a b) (k : SameTables b c) : SameTables a c :=
  ⟨k.mem.trans h.mem, k.sys.trans h.sys, k.dt.trans h.dt, k.gov.trans h.gov, fun i hi n => (k.regs i hi n).trans (h.regs i hi n)⟩

theorem trained (h : SameTables b c) (passes : Bool) (cold warm : Nat) : c.trained passes cold warm = b.trained passes cold warm := by
  unfold Block.trained Block.phaseAt
  rw [h.sys, h.dt, h.gov]

theorem stackState (h : SameTables b c) (k : Nat) : c.stackState k = b.stackState k := by
  unfold Block.stackState
  rw [h.reg _ (by decide), h.trained, h.trained, h.sys]

theorem boroughDown (h : SameTables b c) (k : Nat) : c.boroughDown k = b.boroughDown k := by
  unfold Block.boroughDown Block.boroughStarted Block.service
  rw [h.reg _ (by decide), h.trained, h.trained, h.sys]

theorem readPhys (h : SameTables b c) (a n : Nat) : c.readPhys a n = b.readPhys a n := by
  unfold Block.readPhys Block.lostAt
  rw [h.stackState, h.mem]

theorem unserved (h : SameTables b c) (a : Nat) : c.unserved a = b.unserved a := by
  unfold Block.unserved Block.hbmDown
  simp only [h.stackState, h.boroughDown]

theorem tableAt (h : SameTables b c) (ctx a n : Nat) : c.tableAt ctx a n = b.tableAt ctx a n := by
  unfold Block.tableAt Block.limitedCtx
  rw [h.reg _ (by decide)]

theorem useFrame (h : SameTables b c) (va frame : Nat) (may write adding : Bool) :
    c.useFrame va frame may write adding = b.useFrame va frame may write adding := by
  unfold Block.useFrame
  rw [h.unserved]

theorem walk2 (h : SameTables b c) (ctx va t : Nat) (write adding : Bool) : c.walk2 ctx va t write adding = b.walk2 ctx va t write adding := by
  unfold Block.walk2 Block.frameAt Block.limitedCtx
  simp only [h.unserved, h.readPhys, h.useFrame, h.reg (i := Od.limitedCtx) _ (by decide)]

theorem walk (h : SameTables b c) (ctx va : Nat) (write adding : Bool) : c.walk ctx va write adding = b.walk ctx va write adding := by
  unfold Block.walk
  simp only [h.reg (i := Od.ctxTtRoot) _ (by decide), h.unserved, h.readPhys, h.tableAt, h.walk2]

theorem deviceAt (h : SameTables b c) (devs : c.rb.devs = b.rb.devs) (k : Cohort) (pos : Nat) : c.deviceAt k pos = b.deviceAt k pos := by
  unfold Block.deviceAt Block.member
  simp only [devs, h.walk, h.readPhys]

end SameTables

/-! ### The decision (R360) -/

/-- `c` differs from `b` in entries, logs, tasks and tokens only. -/
def Decides (b c : Block) : Prop :=
  c = { b with od := c.od, odb := c.odb, log := c.log, fatal := c.fatal, disp := { b.disp with tasks := c.disp.tasks, tokens := c.disp.tokens } }

namespace Decides
variable {a b c : Block}

theorem trans (h : Decides a b) (k : Decides b c) : Decides a c := by unfold Decides at *; rw [k, h]

theorem of_regLog (h : RegLog b c) : Decides b c := by unfold Decides; unfold RegLog at h; rw [h]

theorem of_taskOnly (h : TaskOnly b c) : Decides b c := by unfold Decides; unfold TaskOnly at h; rw [h]

theorem rb (h : Decides b c) : c.rb = b.rb := by unfold Decides at h; rw [h]

theorem signalWaiting (b : Block) (ctx n : Nat) : Decides b (b.signalWaiting ctx n) :=
  foldl_has (Decides b) (fun _ t k => k.trans (of_taskOnly (TaskOnly.signalUpdate _ t))) _ rfl

/-- Every code of a decision. -/
theorem decide_ (b : Block) (ctx n : Nat) (nf dispute : Bool) (token : Nat) (clip : F32) : Decides b (b.decide_ ctx n nf dispute token clip).1 := by
  have commit : ∀ (b : Block) from_, RegLog b (b.commit ctx from_) := fun b _ => ((RegLog.setReg b ..).trans (RegLog.setReg ..)).trans (RegOnly.bump ..).regLog
  have skip : ∀ (b : Block) cause, RegLog b ((b.recordSkip ctx n cause).skipStep ctx) :=
    fun b _ => (RegLog.setOct b _ _ _).trans ((RegOnly.bump ..).regLog.trans (RegLog.raise ..))
  have decided : ∀ d, RegLog b (b.setDecision ctx d) := fun _ => RegLog.setOct ..
  unfold Block.decide_
  dsimp only
  split
  · exact of_regLog ((decided _).trans (commit ..))
  · split
    · exact of_regLog ((decided _).trans (commit ..))
    · split
      · exact of_regLog ((decided _).trans ((RegLog.setOct _ _ _ _).trans (RegLog.raise ..)))
      · exact (of_regLog ((decided _).trans (skip ..))).trans (signalWaiting ..)

theorem commitDecision (b : Block) (ctx n : Nat) (nf dispute : Bool) (token : Nat) (clip : F32) : Decides b (b.commitDecision ctx n nf dispute token clip) :=
  (decide_ b ctx n nf dispute token clip).trans rfl

theorem closeDone (b : Block) (k : Nat) : Decides b (b.closeDone k) := by
  unfold Block.closeDone
  split
  · split
    · split
      · rfl
      · exact (commitDecision ..).trans rfl
    · rfl
  · rfl

end Decides

/-- The task of a ticket is with its unit. -/
def TaskRuns (b : Block) (k : Nat) : Prop := ∃ y, b.task? k = some y ∧ y.phase = .running

namespace TaskRuns
variable {b c : Block} {k : Nat}

theorem of_disp (h : TaskRuns b k) (e : c.disp.tasks = b.disp.tasks) : TaskRuns c k := by
  obtain ⟨y, hy, runs⟩ := h
  exact ⟨y, (Block.task?_of_tasks e k).trans hy, runs⟩

/-- Changes that leave tickets and phases as they are. -/
theorem of_map (h : TaskRuns b k) {f : Task → Task} (e : c.disp.tasks = b.disp.tasks.map f) (ht : ∀ y, (f y).ticket = y.ticket)
    (hp : ∀ y, (f y).phase = y.phase) : TaskRuns c k := by
  obtain ⟨y, hy, runs⟩ := h
  have same : (fun y : Task => y.ticket == k) ∘ f = fun y => y.ticket == k := by
    funext y
    simp [ht]
  refine ⟨f y, ?_, (hp y).trans runs⟩
  rw [Block.task?, e, List.find?_map, same]
  exact congrArg (Option.map f) hy

theorem signalUpdate (h : TaskRuns b k) (t : Nat) : TaskRuns (b.signalUpdate t) k := by
  unfold Block.signalUpdate
  split
  · split
    · exact h
    · refine of_disp (b := b.setTask t _) ?_ (Block.signal_tasks ..)
      exact h.of_map rfl (fun y => by split <;> rfl) (fun y => by split <;> rfl)
  · exact h

theorem signalWaiting (h : TaskRuns b k) (ctx n : Nat) : TaskRuns (b.signalWaiting ctx n) k :=
  foldl_has (TaskRuns · k) (fun _ t r => r.signalUpdate t) _ h

theorem decide_ (h : TaskRuns b k) (ctx n : Nat) (nf dispute : Bool) (token : Nat) (clip : F32) : TaskRuns (b.decide_ ctx n nf dispute token clip).1 k := by
  have raised : ∀ {c : Block} code (arg : List Byte), TaskRuns c k → TaskRuns (c.raise code ctx arg) k :=
    fun _ _ r => r.of_disp (by rw [RegLog.disp (RegLog.raise ..)])
  unfold Block.decide_
  dsimp only
  split
  · exact h
  · split
    · exact h
    · split
      · exact raised _ _ (h.of_disp rfl)
      · refine signalWaiting ?_ ctx n
        exact raised _ _ (h.of_disp rfl)

theorem latchDecision (h : TaskRuns b k) (ctx : Nat) (d : DecisionRec) : TaskRuns (b.latchDecision ctx d) k :=
  h.of_map rfl (fun y => by split <;> rfl) (fun y => by split <;> rfl)

theorem commitDecision (h : TaskRuns b k) (ctx n : Nat) (nf dispute : Bool) (token : Nat) (clip : F32) :
    TaskRuns (b.commitDecision ctx n nf dispute token clip) k :=
  (h.decide_ ctx n nf dispute token clip).latchDecision ctx _

end TaskRuns

/-- A NORM_CLOSE that has both the result and the pace record ends OK with the result (R307, R463). -/
theorem endedWith_closeDone {b : Block} {k : Nat} {c : Close} {y : Task} {r : List Byte} {p : PaceRec} (hc : b.close? k = some c) (ht : b.task? k = some y)
    (runs : y.phase = .running) (hr : c.result = some r) (hp : c.pace = some p) :
    EndedWith (b.closeDone k) k sOK (ofBE r + at' 24 (if c.nf then 8 else 0)) := by
  unfold Block.closeDone
  simp only [hc, ht, hr, hp]
  rw [if_neg (by simp [Task.isRunning, runs])]
  obtain ⟨z, hz, still⟩ := TaskRuns.commitDecision ⟨y, ht, runs⟩ c.ctx c.step (bit (ofBE r) 24) (bit (ofBE r) 25) (bits (ofBE r) 95 32)
    (BitVec.ofNat 32 (bits (ofBE r) 127 96))
  exact endedWith_endTask (b := (b.commitDecision ..).setOct ..) hz still sOK _

/-! ### Records passed on (R305, R306, R463) -/

/-- A NORM_CLOSE without its marks of what it has passed on and received from above. -/
def Close.heard (k : Close) : Close := { k with upDone := false, paceDone := false, result := none, pace := none }

/-- `c` differs from `b` in entries, logs, drawn values, tasks, tokens, the queue for Emith and what the NORM_CLOSEs have passed on only. -/
structure Passes (b c : Block) : Prop where
  frame : c = { b with
    od := c.od, odb := c.odb, log := c.log, fatal := c.fatal, freeCount := c.freeCount, disp := { b.disp with tasks := c.disp.tasks, tokens := c.disp.tokens },
    rb := { b.rb with closes := c.rb.closes, tx := c.rb.tx } }
  closes : c.rb.closes.map Close.heard = b.rb.closes.map Close.heard

namespace Passes
variable {a b c : Block}

theorem refl (b : Block) : Passes b b := ⟨rfl, rfl⟩

theorem trans (h : Passes a b) (k : Passes b c) : Passes a c := ⟨by rw [k.frame, h.frame], k.closes.trans h.closes⟩

theorem of_queued (h : Queued b c) : Passes b c := by
  obtain ⟨l, rfl⟩ := h
  exact ⟨rfl, rfl⟩

theorem of_decides (h : Decides b c) : Passes b c := ⟨by unfold Decides at h; rw [h], by rw [h.rb]⟩

theorem of_drawOnly (h : DrawOnly b c) : Passes b c := ⟨by unfold DrawOnly at h; rw [h], by rw [h]⟩

theorem rx (h : Passes b c) : c.rb.rx = b.rb.rx := by rw [h.frame]
theorem dt (h : Passes b c) : c.dt = b.dt := by rw [h.frame]
theorem mem (h : Passes b c) : c.mem = b.mem := by rw [h.frame]
theorem ras (h : Passes b c) : c.ras = b.ras := by rw [h.frame]

/-- What holds of the NORM_CLOSEs but for what they pass on holds after. -/
theorem forall_closes (h : Passes b c) {p : Close → Prop} (hp : ∀ k : Close, p k.heard ↔ p k) (all : ∀ k ∈ b.rb.closes, p k) : ∀ k ∈ c.rb.closes, p k := by
  have heard : ∀ x ∈ c.rb.closes.map Close.heard, p x := by
    rw [h.closes]
    exact List.forall_mem_map.mpr (fun k hk => (hp k).mpr (all k hk))
  exact fun k hk => (hp k).mp (heard _ (List.mem_map_of_mem hk))

theorem setClose (b : Block) (t : Nat) {f : Close → Close} (hf : ∀ k, (f k).heard = k.heard) : Passes b (b.setClose t f) := by
  refine ⟨rfl, ?_⟩
  rw [Block.setClose, List.map_map]
  refine List.map_congr_left (fun k _ => ?_)
  rw [Function.comp_apply]
  split
  · exact hf k
  · rfl

/-- A result or record that goes to the members below, is kept and may end the task. -/
theorem sendBelow (b : Block) (k : Close) (h : Cohort) (kind : Nat) (body : List Byte) (t : Nat) {f : Close → Close} (hf : ∀ k, (f k).heard = k.heard) :
    Passes b (((h.below.foldl (fun b p => b.sendClose k h kind body p) b).setClose t f).closeDone t) :=
  ((of_queued (Queued.foldl (fun b p => Queued.sendClose b k h kind body p) _ b)).trans (setClose _ t hf)).trans (of_decides (Decides.closeDone ..))

theorem closeUpGo (b : Block) (t : Nat) : Passes b (b.closeUpGo t) := by
  unfold Block.closeUpGo
  split
  · dsimp only
    split
    · exact refl b
    · split
      · exact refl b
      · refine trans (setClose b t (f := fun k => { k with upDone := true }) (fun _ => rfl)) ?_
        split
        · exact of_queued (Queued.sendClose ..)
        · exact sendBelow _ _ _ _ _ _ (fun _ => rfl)
  · exact refl b

theorem paceUpGo (b : Block) (t : Nat) : Passes b (b.paceUpGo t) := by
  unfold Block.paceUpGo
  split
  · dsimp only
    split
    · exact refl b
    · split
      · exact refl b
      · refine trans (setClose b t (f := fun k => { k with paceDone := true }) (fun _ => rfl)) ?_
        split
        · exact of_queued (Queued.sendClose ..)
        · exact sendBelow _ _ _ _ _ _ (fun _ => rfl)
  · exact refl b

end Passes

/-! ### Records that come (R295, R305, R307, R463) -/

section Record
variable {b : Block} {slice kind : Nat} {p : Parcel} {k : Close} {h : Cohort} {f : Close → Cohort → Parcel → Block → Option Block}
  (shed : b.gov.shed = false) (next : nextClose b slice kind = some (p, k, h))
include shed next

theorem closeParcel_takes {c : Block} (hf : f k h p (b.dropParcel p) = some c) : ∃ d, xCloseParcel slice kind f b = d ∧ DrawOnly c d := by
  unfold nextClose at next
  refine ⟨_, rfl, ?_⟩
  unfold xCloseParcel
  rw [if_neg (by simp [shed])]
  simp only [next, hf]
  exact DrawOnly.trans (c := c.bump Od.terraceReadBytes (slice + 1) p.size) rfl (DrawOnly.contended rfl)

theorem closeParcel_discards (hf : f k h p (b.dropParcel p) = none) : xCloseParcel slice kind f b = (b.dropParcel p).mismatch k.ctx := by
  unfold nextClose at next
  unfold xCloseParcel
  rw [if_neg (by simp [shed])]
  simp only [next, hf]

end Record

@[simp] theorem Block.dropParcel_rx (b : Block) (p : Parcel) : (b.dropParcel p).rb.rx = b.rb.rx.erase p := by rw [Block.dropParcel_eq]
@[simp] theorem Block.dropParcel_dt (b : Block) (p : Parcel) : (b.dropParcel p).dt = b.dt := by rw [Block.dropParcel_eq]
@[simp] theorem Block.dropParcel_closes (b : Block) (p : Parcel) : (b.dropParcel p).rb.closes = b.rb.closes := by rw [Block.dropParcel_eq]
@[simp] theorem Block.dropParcel_disp (b : Block) (p : Parcel) : (b.dropParcel p).disp = b.disp := by rw [Block.dropParcel_eq]

/-- Every NORM_CLOSE of the ticket has what is written to it. -/
theorem forall_setClose {b : Block} {t : Nat} {f : Close → Close} {p : Close → Prop} (hp : ∀ k, p (f k)) :
    ∀ j ∈ (b.setClose t f).rb.closes, j.ticket = t → p j := by
  refine List.forall_mem_map.mpr (fun k _ => ?_)
  split
  · exact fun _ => hp k
  · exact fun e => absurd (beq_iff_eq.mpr e) ‹_›

theorem Block.close?_setClose {b : Block} {t : Nat} {k : Close} (h : b.close? t = some k) {f : Close → Close} (ht : ∀ k, (f k).ticket = k.ticket) :
    (b.setClose t f).close? t = some (f k) := by
  have same : ((fun k : Close => k.ticket == t) ∘ fun k => if k.ticket == t then f k else k) = fun k => k.ticket == t := by
    funext k
    by_cases e : k.ticket = t <;> simp [e, ht]
  have ticket := List.find?_some h
  unfold Block.close? at *
  rw [Block.setClose, List.find?_map, same, h, Option.map_some, if_pos ticket]

/-- A record from a member that does not send here is a mismatch (R296). -/
theorem mismatch_goes {s : State} {p : Parcel} {k : Close} {f : Block → Block}
    (eq : f s.toBlock = (s.toBlock.dropParcel p).mismatch k.ctx) : Goes (.next (s.run f)) fun t =>
    t.rb.rx = s.rb.rx.erase p ∧ t.dt = s.dt ∧ LastEvent t.toBlock 0x4374 k.ctx [] ∧ t.rb.closes = s.rb.closes := by
  obtain ⟨event, kept, -⟩ := Block.mismatch_reports (s.toBlock.dropParcel p) k.ctx
  refine goes_run_eq eq ⟨?_, kept.dt.trans (Block.dropParcel_dt ..), event, ?_⟩
  · exact (congrArg Rb.rx kept.rb).trans (Block.dropParcel_rx ..)
  · exact (congrArg Rb.closes kept.rb).trans (Block.dropParcel_closes ..)

/-- What a head does with a record from below: it joins those that its NORM_CLOSE has, and a complete set is passed on (R305, R463). -/
def keepUp (g : Nat → Parcel → Close → Close) (go : Block → Nat → Block) (k : Close) (h : Cohort) (p : Parcel) (b : Block) : Option Block :=
  (h.keyOf p.head.sender).map (fun key => go (b.setClose k.ticket (g key p)) k.ticket)

section Up
variable {s : State} {n kind : Nat} {p : Parcel} {k : Close} {h : Cohort} {g : Nat → Parcel → Close → Close} {go : Block → Nat → Block}
  (passes : ∀ b t, Passes b (go b t)) (shed : s.gov.shed = false) (next : nextClose s.toBlock n kind = some (p, k, h))
include passes shed next

/-- A record from below stays with its NORM_CLOSE. -/
theorem keepUp_goes {key : Nat} (sends : h.keyOf p.head.sender = some key) {q : Close → Prop} (kept : ∀ j : Close, q j.heard ↔ q j)
    (hq : ∀ j, q (g key p j)) : Goes (.next (s.run (xCloseParcel n kind (keepUp g go)))) fun t =>
      t.rb.rx = s.rb.rx.erase p ∧ t.dt = s.dt ∧ ∀ j ∈ t.rb.closes, j.ticket = k.ticket → q j := by
  obtain ⟨d, eq, drawn⟩ := closeParcel_takes (f := keepUp g go) shed next (by rw [keepUp, sends]; rfl)
  have step := (passes ..).trans (.of_drawOnly drawn)
  refine goes_run_eq eq ⟨step.rx.trans (Block.dropParcel_rx ..), step.dt.trans (Block.dropParcel_dt ..), ?_⟩
  exact step.forall_closes (p := fun j => j.ticket = k.ticket → q j) (fun j => imp_congr_right fun _ => kept j) (forall_setClose hq)

/-- A record that comes leaves the queue, kept or as a mismatch. -/
theorem recordUp_goes : Goes (.next (s.run (xCloseParcel n kind (keepUp g go)))) fun t =>
    t.rb.rx = s.rb.rx.erase p ∧ t.dt = s.dt ∧ (h.keyOf p.head.sender = none → LastEvent t.toBlock 0x4374 k.ctx [] ∧ t.rb.closes = s.rb.closes) := by
  cases sends : h.keyOf p.head.sender with
  | some key =>
    obtain ⟨t, eq, rx, dt, -⟩ := keepUp_goes passes shed next sends (q := fun _ => True) (fun _ => Iff.rfl) (fun _ => trivial)
    exact ⟨t, eq, rx, dt, fun no => nomatch no⟩
  | none =>
    obtain ⟨t, eq, rx, dt, told⟩ := mismatch_goes (closeParcel_discards (f := keepUp g go) shed next (by rw [keepUp, sends]; rfl))
    exact ⟨t, eq, rx, dt, fun _ => told⟩

end Up

/-- What a member does with a record of a kind from above: it passes it down and keeps it (R307, R463). -/
def passDown (kind : Nat) (g : Parcel → Close → Close) (k : Close) (h : Cohort) (p : Parcel) (b : Block) : Option Block :=
  if h.fromAbove p.head.sender then
    some (((h.below.foldl (fun b q => b.sendClose k h kind p.body q) b).setClose k.ticket (g p)).closeDone k.ticket)
  else none

/-- What a record from above leaves: it is passed down and kept, and may end the task (R307, R463). -/
theorem passDown_goes {s : State} {n kind : Nat} {p : Parcel} {k : Close} {h : Cohort} {g : Parcel → Close → Close} (shed : s.gov.shed = false)
    (next : nextClose s.toBlock n kind = some (p, k, h)) (above : h.fromAbove p.head.sender = true) (ht : ∀ k, (g p k).ticket = k.ticket) :
    Goes (.next (s.run (xCloseParcel n kind (passDown kind g)))) fun t => t.rb.rx = s.rb.rx.erase p
      ∧ (∀ q : Close → Prop, (∀ k, q (g p k)) → ∀ j ∈ t.rb.closes, j.ticket = k.ticket → q j)
      ∧ ∀ y c r pr, s.toBlock.task? k.ticket = some y → y.phase = .running → s.toBlock.close? k.ticket = some c → (g p c).result = some r →
          (g p c).pace = some pr → EndedWith t.toBlock k.ticket sOK (ofBE r + at' 24 (if (g p c).nf then 8 else 0)) := by
  obtain ⟨l, sent⟩ := Queued.foldl (fun b q => Queued.sendClose b k h kind p.body q) h.below (s.toBlock.dropParcel p)
  obtain ⟨d, eq, drawn⟩ := closeParcel_takes (f := passDown kind g) shed next (if_pos above)
  rw [sent] at drawn
  have rb := (congrArg Block.rb drawn).trans (Decides.closeDone ..).rb
  refine goes_run_eq eq ⟨?_, fun q hq => ?_, fun y c r pr hy runs hc hr hp => ?_⟩
  · exact (congrArg Rb.rx rb).trans (Block.dropParcel_rx ..)
  · change ∀ j ∈ d.rb.closes, _
    rw [rb]
    exact forall_setClose hq
  · refine endedWith_of_disp drawn.disp (endedWith_closeDone (y := y) ?_ ?_ runs hr hp)
    · refine Block.close?_setClose ?_ ht
      change (s.toBlock.dropParcel p).rb.closes.find? _ = _
      rw [Block.dropParcel_closes]
      exact hc
    · exact (Block.task?_of_disp (Block.dropParcel_disp ..) _).trans hy


/-! ### The member's contribution (R304, R406) -/

theorem Block.setClose_setClose (b : Block) (t : Nat) {f g : Close → Close} (ht : ∀ k, (f k).ticket = k.ticket) :
    (b.setClose t f).setClose t g = b.setClose t (g ∘ f) := by
  have each : (fun k : Close => if k.ticket == t then g k else k) ∘ (fun k => if k.ticket == t then f k else k)
      = fun k => if k.ticket == t then (g ∘ f) k else k := by
    funext k
    by_cases e : k.ticket = t <;> simp [e, ht]
  unfold Block.setClose
  rw [List.map_map, each]

theorem Block.gate_setGate (b : Block) (c : Nat) (g : Gate) : (b.setGate c g).gate c = g := sget_sset_self ..

/-- Steps 1 and 2 of R304: what reading the non-finite bank leaves as it was. -/
structure BankRead (c : Nat) (b d : Block) : Prop where
  frame : d = { b with od := d.od, odb := d.odb, log := d.log, fatal := d.fatal, ras := d.ras, rb := { b.rb with closes := d.rb.closes } }
  open0 : (d.gate c).open0 = (b.gate c).open0
  open1 : (d.gate c).open1 = (b.gate c).open1
  closes : ∃ f : Close → Close, d.rb.closes = b.rb.closes.map f ∧ ∀ k, (f k).ticket = k.ticket ∧ (f k).slot = k.slot ∧ (f k).ctx = k.ctx
  regs : IdxKept [Od.ctxRbFlags, Od.eventNextSeq] b d

theorem BankRead.readBank (b : Block) (k : Close) (n : Nat) : BankRead k.ctx b (b.readBank k n) := by
  unfold Block.readBank
  dsimp only
  split
  · exact ⟨rfl, rfl, rfl, ⟨id, by rw [List.map_id], fun _ => ⟨rfl, rfl, rfl⟩⟩, IdxKept.refl _ b⟩
  · have told : RegLog b (if b.bucketAbove k n then (b.rbFlag k.ctx 4).raise 0x4375 k.ctx [] else b) := by
      split
      · exact (RegLog.setReg ..).trans (RegLog.raise ..)
      · exact RegLog.refl b
    have regs : IdxKept [Od.ctxRbFlags, Od.eventNextSeq] b (if b.bucketAbove k n then (b.rbFlag k.ctx 4).raise 0x4375 k.ctx [] else b) := by
      split
      · exact (IdxKept.setReg b _ _ _ (by decide) (by decide)).trans (IdxKept.raise _ _ _ _ (by decide))
      · exact IdxKept.refl _ b
    generalize (if b.bucketAbove k n then (b.rbFlag k.ctx 4).raise 0x4375 k.ctx [] else b) = e at told regs ⊢
    have gate : e.gate k.ctx = b.gate k.ctx := by
      unfold Block.gate
      rw [told.ras]
    generalize (bit (e.reg Od.ctxNfFlags (k.ctx + 1)) (k.step % 2) || bit (e.reg Od.ctxRbFlags (k.ctx + 1)) 0 || b.bucketAbove k n) = nf
    refine ⟨?_, ?_, ?_, ⟨fun j => if j.ticket == k.ticket then { j with nf := nf } else j, ?_, fun j => ?_⟩, regs.trans (IdxKept.of_od rfl)⟩
    · unfold RegLog at told
      rw [told]
      rfl
    · rw [Block.gate_setGate, ← gate]
    · rw [Block.gate_setGate, ← gate]
    · rw [← told.rb]
      rfl
    · dsimp only
      split <;> exact ⟨rfl, rfl, rfl⟩

/-- Steps 3 and 4 of R304: the gate is read, and the record is on its way. -/
theorem Block.sendOwn_passes (b : Block) (k : Close) (h : Cohort) : ∃ f : Close → Close, (∀ j, (f j).sent = true)
    ∧ Passes ((b.contribution k h).2.setClose k.ticket f) (b.sendOwn k h) := by
  unfold Block.sendOwn
  dsimp only
  split
  · refine ⟨(fun j => { j with ups := j.ups ++ [(0, (b.contribution k h).1)], paces := j.paces ++ [(0, (b.contribution k h).2.advisory)] })
      ∘ fun j => { j with sent := true }, fun _ => rfl, ?_⟩
    rw [← Block.setClose_setClose _ _ (f := fun j => { j with sent := true }) (fun _ => rfl)]
    exact (Passes.closeUpGo ..).trans (Passes.paceUpGo ..)
  · exact ⟨fun j => { j with sent := true }, fun _ => rfl, .of_queued ((Queued.sendClose ..).trans (Queued.sendClose ..))⟩

theorem Block.sendTo_tx {b : Block} {h : Cohort} {pos d : Nat} (found : b.deviceAt h pos = .ok d) (slice : Nat) (hd : PHead) (body : List Byte) :
    (b.sendTo h slice pos hd body).rb.tx.length = b.rb.tx.length + 1 := by
  unfold Block.sendTo
  rw [found]
  exact List.length_append

theorem Queued.sameTables {b c : Block} (h : Queued b c) : SameTables b c := by
  obtain ⟨l, rfl⟩ := h
  exact ⟨rfl, rfl, rfl, rfl, fun _ _ _ => rfl⟩

theorem Queued.devs {b c : Block} (h : Queued b c) : c.rb.devs = b.rb.devs := by
  obtain ⟨l, rfl⟩ := h
  rfl

/-- A member that is no head sends two records to its head (R304, R463). -/
theorem Block.sendOwn_tx {b : Block} {k : Close} {h : Cohort} {d : Nat} (below : h.isHead = false) (found : b.deviceAt h h.head = .ok d) :
    (b.sendOwn k h).rb.tx.length = b.rb.tx.length + 2 := by
  unfold Block.sendOwn
  dsimp only
  rw [if_neg (by simp [below])]
  generalize body : (b.contribution k h).1.bytes = l, (b.contribution k h).2.advisory.bytes = m
  obtain ⟨c, eq, same, devs, tx⟩ : ∃ c, (b.contribution k h).2.setClose k.ticket (fun j => { j with sent := true }) = c ∧ SameTables b c
      ∧ c.rb.devs = b.rb.devs ∧ c.rb.tx = b.rb.tx := ⟨_, rfl, ⟨rfl, rfl, rfl, rfl, fun _ _ _ => rfl⟩, rfl, rfl⟩
  rw [eq]
  have once := Queued.sendClose c k h pkUp l h.head
  have there : c.deviceAt h h.head = .ok d := (same.deviceAt devs ..).trans found
  calc _ = (c.sendClose k h pkUp l h.head).rb.tx.length + 1 := Block.sendTo_tx ((once.sameTables.deviceAt once.devs ..).trans there) ..
    _ = b.rb.tx.length + 2 := by rw [show (c.sendClose k h pkUp l h.head).rb.tx.length = c.rb.tx.length + 1 from Block.sendTo_tx there .., tx]

/-! ### The statement -/

/-- The record that NORM_CLOSE enters (R303). -/
def Block.newClose (b : Block) (k : Nat) (y : Task) : Close :=
  { ticket := k, ctx := y.ctx, slot := closeCohort y.desc, step := y.step, since := b.dt, stalled := false, sent := false, nf := false, ups := [],
    paces := [], upDone := false, paceDone := false, result := none, pace := none }

/-- The plan of the next step draws numbers and sets the governor only (R453). -/
theorem Block.planStep_eq (b : Block) (c : Nat) : b.planStep c = { b with gov := (b.planStep c).gov, freeCount := (b.planStep c).freeCount } := by
  unfold Block.planStep
  split <;> rfl

section Issue
variable {s : State} {k : Nat} {y : Task} (start : s.toBlock.starting k opNormClose = some y) (shed : s.gov.shed = false)
include start shed

/-- NORM_CLOSE at a slot that is its context's (R303). -/
theorem normClose_goes (on : (s.toBlock.cohort (closeCohort y.desc)).enabled = true) (own : (s.toBlock.cohort (closeCohort y.desc)).ctx = y.ctx) :
    Goes (exec (.normClose k) s) fun t =>
      (∃ j ∈ t.rb.closes, j.ticket = k ∧ j.ctx = y.ctx ∧ j.slot = closeCohort y.desc ∧ j.step = y.step ∧ j.since = s.dt ∧ j.sent = false ∧ j.result = none)
      ∧ (∃ z, t.toBlock.task? k = some z ∧ z.phase = .running ∧ z.stage = 1) ∧ t.mem = s.mem ∧ RegsKept [] s.toBlock t.toBlock := by
  obtain ⟨task, runs, -⟩ := Block.starting_eq_some start
  have enters : xNormClose k s.toBlock = ({ s.toBlock.setTask k (fun y => { y with stage := 1 }) with
      rb := { s.rb with closes := s.rb.closes ++ [s.toBlock.newClose k y] } } : Block).planStep y.ctx := by
    unfold xNormClose
    simp only [start]
    rw [if_neg (by simp [shed]), if_neg (by simp [on, own])]
    rfl
  rw [Block.planStep_eq] at enters
  have staged := s.toBlock.task?_setTask k k (f := fun y => { y with stage := 1 }) (fun _ => rfl)
  rw [if_pos rfl, task] at staged
  refine goes_run_eq enters ⟨⟨s.toBlock.newClose k y, List.mem_append_right _ (List.mem_singleton.mpr rfl), rfl, rfl, rfl, rfl, rfl, rfl, rfl⟩, ?_, rfl,
    fun _ _ _ => rfl⟩
  exact ⟨_, staged, runs, rfl⟩

/-- NORM_CLOSE at a slot that is disabled or another context's. -/
theorem normClose_refused (bad : (s.toBlock.cohort (closeCohort y.desc)).enabled = false ∨ (s.toBlock.cohort (closeCohort y.desc)).ctx ≠ y.ctx) :
    Goes (exec (.normClose k) s) fun t => EndedWith t.toBlock k sAddrFault 0 ∧ t.rb = s.rb := by
  obtain ⟨task, runs, -⟩ := Block.starting_eq_some start
  have ends : xNormClose k s.toBlock = (s.toBlock.setTask k (fun y => { y with stage := 1 })).endTask k sAddrFault 0 := by
    unfold xNormClose
    simp only [start]
    rw [if_neg (by simp [shed]), if_pos (by simpa using bad)]
  have staged := s.toBlock.task?_setTask k k (f := fun y => { y with stage := 1 }) (fun _ => rfl)
  rw [if_pos rfl, task] at staged
  exact goes_run_eq ends ⟨endedWith_endTask (b := s.toBlock.setTask k _) staged runs sAddrFault 0, rfl⟩

end Issue

/-- NORM_CLOSE_CONTRIBUTE once the buckets are in and the gate bank has settled (R304, R406). -/
theorem normCloseContribute_goes {s : State} {c : Nat} {k : Close} {y : Task} (first : s.rb.closes.find? (fun k => k.ctx == c && !k.sent) = some k)
    (here : s.toBlock.close? k.ticket = some k) (task : s.toBlock.task? k.ticket = some y) (shed : s.gov.shed = false)
    (added : closeBuckets y.desc ≤ s.reg Od.ctxBucketsAdded (c + 1))
    (settled : (if k.step % 2 = 0 then (s.toBlock.gate c).open0 else (s.toBlock.gate c).open1) = 0) :
    Goes (exec (.normCloseContribute c) s) fun t =>
      (∀ j ∈ t.rb.closes, j.ticket = k.ticket → j.sent = true) ∧ (t.toBlock.gate c).read = true ∧ t.rb.rx = s.rb.rx ∧ t.mem = s.mem
      ∧ ((s.toBlock.cohort k.slot).isHead = false → (∃ d, s.toBlock.deviceAt (s.toBlock.cohort k.slot) (s.toBlock.cohort k.slot).head = .ok d) →
          t.rb.tx.length = s.rb.tx.length + 2) := by
  have ctx : k.ctx = c := (by simpa using (List.find?_some first) : k.ctx = c ∧ k.sent = false).1
  have bank := BankRead.readBank s.toBlock k (closeBuckets y.desc)
  obtain ⟨f, closes, same⟩ := bank.closes
  have found : (s.toBlock.readBank k (closeBuckets y.desc)).close? k.ticket = some (f k) := by
    unfold Block.close?
    rw [closes, List.find?_map, show (fun k' : Close => k'.ticket == k.ticket) ∘ f = fun k' => k'.ticket == k.ticket from funext fun j => by
      rw [Function.comp_apply, (same j).1]]
    exact congrArg (Option.map f) here
  have cohort : (s.toBlock.readBank k (closeBuckets y.desc)).cohort (f k).slot = s.toBlock.cohort k.slot := by
    rw [(same k).2.1, bank.frame]
    rfl
  have sends : xContribute c s.toBlock = (s.toBlock.readBank k (closeBuckets y.desc)).sendOwn (f k) (s.toBlock.cohort k.slot) := by
    unfold xContribute
    simp only [first, task]
    rw [if_neg (by simp [shed, added])]
    subst ctx
    rw [bank.open0, bank.open1, if_neg (not_not.mpr settled), found]
    dsimp only
    rw [cohort]
  have tables : SameTables s.toBlock (s.toBlock.readBank k (closeBuckets y.desc)) := by
    refine ⟨by rw [bank.frame], by rw [bank.frame], by rw [bank.frame], by rw [bank.frame], fun i hi n => bank.regs i n ?_ ?_⟩
    · exact (by decide : ∀ i ∈ [Od.ctxTtRoot, Od.limitedCtx, Od.moduleService, Od.hbmStackState], i < 65536) i hi
    · exact (by decide : ∀ i ∈ [Od.ctxTtRoot, Od.limitedCtx, Od.moduleService, Od.hbmStackState], i ∉ [Od.ctxRbFlags, Od.eventNextSeq]) i hi
  generalize s.toBlock.readBank k (closeBuckets y.desc) = d at bank closes sends tables
  obtain ⟨g, hg, passes⟩ := d.sendOwn_passes (f k) (s.toBlock.cohort k.slot)
  rw [(same k).1] at passes
  have read : ((d.sendOwn (f k) (s.toBlock.cohort k.slot)).gate c).read = true := by
    unfold Block.gate
    rw [passes.ras, ← ctx, ← (same k).2.2]
    exact congrArg Gate.read (d.gate_setGate ..)
  refine goes_run_eq sends ⟨?_, read, ?_, ?_, fun below ⟨e, he⟩ => ?_⟩
  · exact passes.forall_closes (p := fun j => j.ticket = k.ticket → j.sent = true) (fun _ => Iff.rfl) (forall_setClose hg)
  · exact passes.rx.trans (by rw [bank.frame]; rfl)
  · exact passes.mem.trans tables.mem
  · have devs : d.rb.devs = s.rb.devs := by rw [bank.frame]
    have tx : d.rb.tx = s.rb.tx := by rw [bank.frame]
    exact (Block.sendOwn_tx below ((tables.deviceAt devs ..).trans he)).trans (by rw [tx])

/-- RB_CLOSE_STALLED (R308). -/
theorem rbCloseStalled_goes {s : State} {n : Nat} {k : Close} (here : s.toBlock.close? n = some k) (fresh : k.stalled = false)
    (waits : k.result = none ∨ k.pace = none)
    (late : k.since + 10 ^ 6 * s.reg Od.rbHopTimeoutMs 0 ≤ s.dt) : Goes (exec (.rbCloseStalled n) s) fun t =>
      (∀ j ∈ t.rb.closes, j.ticket = n → j.stalled = true) ∧ LastEvent t.toBlock 0x4373 k.ctx [] ∧ t.disp = s.disp
      ∧ RegsKept [odKey Od.eventNextSeq 0] s.toBlock t.toBlock := by
  have tells : xCloseStalled n s.toBlock = (s.toBlock.setClose n (fun k => { k with stalled := true })).raise 0x4373 k.ctx [] := by
    unfold xCloseStalled
    simp only [here]
    rw [decide_eq_false (not_lt.mpr late)]
    refine if_neg ?_
    rcases waits with h | h <;> simp [fresh, h]
  have kept := RegLog.raise (s.toBlock.setClose n (fun k => { k with stalled := true })) 0x4373 k.ctx []
  have marked := forall_setClose (b := s.toBlock) (t := n) (f := fun k => { k with stalled := true }) (p := fun j => j.stalled = true) (fun _ => rfl)
  rw [← kept.rb] at marked
  exact goes_run_eq tells ⟨marked, lastEvent_raise .., kept.disp, fun i j hk => Block.reg_raise_ne _ _ _ _ (by simpa using hk)⟩

/-- Settles O32, command by command: what a record that comes leaves goes through `Passes`, and an end through `endedWith_closeDone`. -/
theorem normClose : Obligations.NormClose := by
  unfold Obligations.NormClose
  refine ⟨⟨fun s k y start shed => ⟨normClose_goes start shed, normClose_refused start shed⟩, fun s c k y => normCloseContribute_goes,
    fun s n k => rbCloseStalled_goes⟩, fun s n p k h e he shed next => ?_, fun s n key p k h shed next sends => ?_,
    fun s n key p k h shed next sends => ?_, fun s n p k h shed next above => ?_, fun s n p k h shed next above => ?_⟩
  · rcases List.mem_cons.mp he with rfl | he
    · exact recordUp_goes (g := fun key p k => { k with ups := k.ups ++ [(key, closeRecOf p.body)] }) Passes.closeUpGo shed next
    · rw [List.mem_singleton.mp he] at next ⊢
      exact recordUp_goes (g := fun key p k => { k with paces := k.paces ++ [(key, paceOf p.body)] }) Passes.paceUpGo shed next
  · obtain ⟨t, eq, -, -, has⟩ := keepUp_goes (g := fun key p k => { k with ups := k.ups ++ [(key, closeRecOf p.body)] }) Passes.closeUpGo shed next sends
      (q := fun j => (key, closeRecOf p.body) ∈ j.ups) (fun _ => Iff.rfl) (fun _ => List.mem_append_right _ (List.mem_singleton.mpr rfl))
    exact ⟨t, eq, has⟩
  · obtain ⟨t, eq, -, -, has⟩ := keepUp_goes (g := fun key p k => { k with paces := k.paces ++ [(key, paceOf p.body)] }) Passes.paceUpGo shed next sends
      (q := fun j => (key, paceOf p.body) ∈ j.paces) (fun _ => Iff.rfl) (fun _ => List.mem_append_right _ (List.mem_singleton.mpr rfl))
    exact ⟨t, eq, has⟩
  · obtain ⟨t, eq, rx, has, ends⟩ := passDown_goes (g := fun p k => { k with result := some p.body }) shed next above (fun _ => rfl)
    refine ⟨t, eq, rx, has (fun j => j.result = some p.body) (fun _ => rfl), fun y c hy runs hc hp => ?_⟩
    obtain ⟨pr, hp⟩ := Option.ne_none_iff_exists'.mp hp
    exact ends y c p.body pr hy runs hc rfl hp
  · obtain ⟨t, eq, rx, has, ends⟩ := passDown_goes (g := fun p k => { k with pace := some (paceOf p.body) }) shed next above (fun _ => rfl)
    exact ⟨t, eq, rx, has (fun j => j.pace = some (paceOf p.body)) (fun _ => rfl), fun y c r hy runs hc hr => ends y c r _ hy runs hc hr rfl⟩

end Sys2Proof.Machine
end

section
/-! PROOFS. Collectives: what their operations leave as it was, and what a slice holds of its other tasks (R280 to R298). -/

namespace Sys2Proof.Machine

/-! ### Memory, counters and logs -/

/-- `c` differs from `b` in entries, logs, memories, what the other units note of an access, drawn values and the reorder table only. -/
def DataStep (b c : Block) : Prop :=
  c = { b with
    od := c.od, odb := c.odb, log := c.log, fatal := c.fatal, se := c.se, mem := c.mem, slow := c.slow, hbm := c.hbm, hazel := c.hazel, ras := c.ras,
    gov := c.gov, freeCount := c.freeCount, rb := { b.rb with sums := c.rb.sums, escEvt := c.rb.escEvt } }

namespace DataStep
variable {a b c : Block}

theorem refl (b : Block) : DataStep b b := rfl

theorem trans (h : DataStep a b) (k : DataStep b c) : DataStep a c := by unfold DataStep at *; rw [k, h]

theorem foldl {α : Type} {f : Block → α → Block} (h : ∀ b x, DataStep b (f b x)) (l : List α) (b : Block) : DataStep b (l.foldl f b) :=
  foldl_has (DataStep b) (fun _ x k => k.trans (h _ x)) l (refl b)

theorem of_regLog (h : RegLog b c) : DataStep b c := by unfold DataStep; unfold RegLog at h; rw [h]
theorem of_regOnly (h : RegOnly b c) : DataStep b c := of_regLog h.regLog
theorem of_markStep (h : MarkStep b c) : DataStep b c := by unfold DataStep; rw [h.frame]
theorem of_storeOnly (h : StoreOnly b c) : DataStep b c := by unfold DataStep; unfold StoreOnly at h; rw [h]
theorem of_slowOnly (h : SlowOnly b c) : DataStep b c := by unfold DataStep; unfold SlowOnly at h; rw [h]
theorem of_drawOnly (h : DrawOnly b c) : DataStep b c := by unfold DataStep; unfold DrawOnly at h; rw [h]

theorem ite {p : Prop} [Decidable p] (h : DataStep b c) : DataStep b (if p then c else b) := by
  split
  · exact h
  · exact refl b

theorem colls (h : DataStep b c) : c.rb.colls = b.rb.colls := by unfold DataStep at h; rw [h]
theorem tx (h : DataStep b c) : c.rb.tx = b.rb.tx := by unfold DataStep at h; rw [h]
theorem cfgs (h : DataStep b c) : c.rb.cfgs = b.rb.cfgs := by unfold DataStep at h; rw [h]
theorem disp (h : DataStep b c) : c.disp = b.disp := by unfold DataStep at h; rw [h]

theorem raise (h : DataStep b c) (code ctx : Nat) (arg : List Byte) : DataStep b (c.raise code ctx arg) := h.trans (of_regLog (RegLog.raise ..))

theorem rbFlag (b : Block) (ctx m : Nat) : DataStep b (b.rbFlag ctx m) := of_regOnly (RegOnly.setReg ..)

theorem consumePoison (b : Block) (ctx k : Nat) : DataStep b (b.consumePoison ctx k) := by
  have raised : ∀ {p : Prop} [Decidable p] {c : Block}, DataStep b c → DataStep b (if p then c.raise 0x83A1 ctx (beBytes 4 k) else c) := by
    intro p _ c h
    split
    · exact h.raise ..
    · exact h
  exact raised rfl

theorem lateSender (b : Block) (ctx dev : Nat) : DataStep b (b.lateSender ctx dev) := by
  unfold Block.lateSender
  dsimp only
  split
  · rfl
  · refine raise ?_ _ _ _
    rfl

theorem addPartials (ctx n : Nat) : ∀ b : Block, DataStep b (b.addPartials ctx n) := by
  induction n with
  | zero => exact refl
  | succ n ih =>
    intro b
    unfold Block.addPartials
    dsimp only
    split
    · exact refl b
    · refine trans ?_ (ih _)
      rfl

theorem enterPartial (b : Block) (ctx seq : Nat) (v : F64) : DataStep b (b.enterPartial ctx seq v) := by
  unfold Block.enterPartial
  dsimp only
  split
  · exact refl b
  · refine trans ?_ (addPartials ..)
    rfl

theorem poisonPhys (b : Block) (pa n : Nat) : DataStep b (b.poisonPhys pa n) := by
  unfold Block.poisonPhys
  split <;> rfl

theorem writeVirt (from_ : Option Nat) (ctx n : Nat) : ∀ (b : Block) (va : Nat) (v : List (Byte × Bool)), DataStep b (b.writeVirt from_ ctx n va v).1 := by
  induction n with
  | zero => exact fun b _ _ => refl b
  | succ n ih =>
    intro b va v
    have walked := of_regOnly (RegOnly.countWalk b from_ ctx va)
    unfold Block.writeVirt
    split
    · exact refl b
    · split
      · exact refl b
      · split
        · exact walked
        · exact walked
        · refine trans ?_ (ih ..)
          refine trans ?_ (foldl (fun b w => poisonPhys b (8 * w) 8) _ _)
          exact (walked.trans (of_regOnly (RegOnly.countAcross ..))).trans (of_storeOnly (StoreOnly.writePhys ..))

end DataStep

/-! ### What a slice notes of a task -/

/-- A collective without its status, its marks and what it has heard. -/
def Coll.held (j : Coll) : Coll :=
  { j with
    status := 0, origin := 0, cause := 0, va := 0, flags := 0, ssq := 0, entered := false, escalations := 0, passed := false, heard := [], since := 0 }

/-- Changes at one key leave the elements of other keys. -/
theorem filter_map_key {α : Type} (key : α → Nat) (t : Nat) {f : α → α} (hf : ∀ x, key (f x) = key x) (l : List α) :
    (l.map (fun x => if key x == t then f x else x)).filter (key · != t) = l.filter (key · != t) := by
  induction l with
  | nil => rfl
  | cons x l ih =>
    by_cases h : key x = t
    · simpa [h, hf] using ih
    · simpa [h] using ih

theorem Block.work_eq {b : Block} {t : Nat} {w : Work} (h : b.work t = some w) :
    ∃ j y, b.coll? t = some j ∧ b.task? t = some y ∧ w = ⟨j, colOf y.desc, b.cohort j.slot⟩ := by
  unfold Block.work at h
  split at h
  · rename_i j y hj hy
    exact ⟨j, y, hj, hy, (Option.some.inj h).symm⟩
  · cases h

theorem Block.coll?_ticket {b : Block} {t : Nat} {j : Coll} (h : b.coll? t = some j) : j.ticket = t := by simpa using List.find?_some h

theorem Block.work_ticket {b : Block} {t : Nat} {w : Work} (h : b.work t = some w) : w.k.ticket = t := by
  obtain ⟨j, y, hj, -, rfl⟩ := Block.work_eq h
  exact Block.coll?_ticket hj

/-- `c` differs from `b` as a `DataStep` does and in the status, the marks and what has been heard of the collective of the ticket `t`. -/
structure NoteStep (t : Nat) (b c : Block) : Prop where
  frame : DataStep { b with rb := { b.rb with colls := c.rb.colls } } c
  held : c.rb.colls.map Coll.held = b.rb.colls.map Coll.held
  others : c.rb.colls.filter (·.ticket != t) = b.rb.colls.filter (·.ticket != t)

namespace NoteStep
variable {t : Nat} {a b c : Block}

theorem of_data (h : DataStep b c) : NoteStep t b c := by
  have colls := h.colls
  refine ⟨?_, by rw [colls], by rw [colls]⟩
  rw [colls]
  exact h

theorem refl (b : Block) : NoteStep t b b := of_data (.refl b)

theorem trans (h : NoteStep t a b) (k : NoteStep t b c) : NoteStep t a c := by
  refine ⟨?_, k.held.trans h.held, k.others.trans h.others⟩
  have hf := h.frame
  have kf := k.frame
  unfold DataStep at *
  rw [kf, hf]

theorem setColl (b : Block) (t : Nat) {f : Coll → Coll} (hf : ∀ j, (f j).held = j.held) : NoteStep t b (b.setColl t f) := by
  refine ⟨rfl, ?_, filter_map_key Coll.ticket t (f := f) (fun j => show (f j).held.ticket = j.held.ticket by rw [hf]) _⟩
  rw [Block.setColl, List.map_map]
  refine List.map_congr_left (fun j _ => ?_)
  rw [Function.comp_apply]
  split
  · exact hf j
  · rfl

theorem disp (h : NoteStep t b c) : c.disp = b.disp := h.frame.disp
theorem cfgs (h : NoteStep t b c) : c.rb.cfgs = b.rb.cfgs := h.frame.cfgs
theorem tx (h : NoteStep t b c) : c.rb.tx = b.rb.tx := h.frame.tx

theorem outFailed (b : Block) (w : Work) (st cause va : Nat) : NoteStep w.k.ticket b (b.outFailed w st cause va) := by
  have failed := setColl b w.k.ticket (f := fun k => { k.accessFailed st cause va with flags := k.flags ||| 4 }) (fun _ => rfl)
  unfold Block.outFailed
  dsimp only
  split
  · exact failed.trans (of_data (.rbFlag ..))
  · exact failed

theorem writeResult (b : Block) (w : Work) (vals : List Nat) : NoteStep w.k.ticket b (b.writeResult w vals) := by
  unfold Block.writeResult
  dsimp only
  split
  · have sent : NoteStep w.k.ticket b (b.deliver w.k.ctx w.x.dstBase (vals.map (fun v => (v, false)))).2 := of_data (.of_slowOnly (SlowOnly.deliver ..))
    split
    · exact sent
    · exact sent.trans (outFailed ..)
  · have written := fun n l => of_data (t := w.k.ticket) (DataStep.writeVirt (some w.k.slice) w.k.ctx n b w.x.dstBase l)
    split
    · exact written _ _
    · exact (written _ _).trans (outFailed ..)
    · exact (written _ _).trans (outFailed ..)

theorem enters (b : Block) (t ctx seq : Nat) (v : F64) :
    NoteStep t b ((b.enterPartial ctx seq v).setColl t (fun k => { k with entered := true, ssq := v })) :=
  (of_data (.enterPartial b ctx seq v)).trans (setColl _ t (fun _ => rfl))

end NoteStep

/-! ### A collective ends (R289, R291, R297) -/

/-- `c` is `b` with the task of the ticket `t` ended with the status `st` and its collective gone, but for a `DataStep`. -/
structure Finished (t st : Nat) (b c : Block) : Prop where
  frame : DataStep { b with disp := { b.disp with tasks := c.disp.tasks }, rb := { b.rb with colls := c.rb.colls } } c
  colls : c.rb.colls = b.rb.colls.filter (·.ticket != t)
  tasks : ∃ u, c.disp.tasks = (b.endTask t st u).disp.tasks

/-- The collective of a work leaves its slice, and its task ends with its record. -/
def Block.closeColl (b : Block) (w : Work) : Block :=
  { b.endTask w.k.ticket w.k.status w.unit with rb := { b.rb with colls := b.rb.colls.filter (·.ticket != w.k.ticket) } }

theorem Block.finishColl_eq (b : Block) (w : Work) : b.finishColl w =
    if w.k.status = sOK then b.closeColl w
    else
      let c := if w.refused then b.closeColl w else (b.closeColl w).addTaint w.k.ctx w.k.origin w.dstExtent
      if w.x.dst = 1 then c.stageFault w.k.ctx w.k.step else c := rfl

theorem Finished.finishColl (b : Block) (w : Work) : Finished w.k.ticket w.k.status b (b.finishColl w) := by
  have ended : Finished w.k.ticket w.k.status b (b.closeColl w) := ⟨rfl, rfl, _, rfl⟩
  have later : ∀ {c d : Block}, DataStep c d → Finished w.k.ticket w.k.status b c → Finished w.k.ticket w.k.status b d := by
    rintro c d h ⟨frame, colls, tasks⟩
    refine ⟨?_, h.colls.trans colls, by rw [h.disp]; exact tasks⟩
    rw [h.disp, h.colls]
    exact frame.trans h
  rw [Block.finishColl_eq]
  split
  · exact ended
  · have tainted : Finished w.k.ticket w.k.status b (if w.refused then b.closeColl w else (b.closeColl w).addTaint w.k.ctx w.k.origin w.dstExtent) := by
      split
      · exact ended
      · exact later (.of_markStep (MarkStep.addTaint ..)) ended
    dsimp only
    split
    · exact later (.of_markStep (MarkStep.stageFault ..)) tainted
    · exact tainted

/-- Does the partial of a collective enter the reorder table now (R292)? -/
def Block.enters (b : Block) (w : Work) : Bool :=
  w.x.acct != 0 && !w.k.entered && (w.k.stopped || w.ownDone) && b.tableReaches w.k.ctx w.k.seq

/-- The block with the partial entered where it enters. -/
def Block.entering (b : Block) (w : Work) (t : Nat) : Block :=
  if b.enters w then
    (b.enterPartial w.k.ctx w.k.seq (if w.k.stopped then 0 else w.ssq)).setColl t
      (fun k => { k with entered := true, ssq := if w.k.stopped then 0 else w.ssq })
  else b

/-- The block with the collective of a ticket ended. -/
def Block.closing (b : Block) (t : Nat) : Block :=
  match b.work t with
  | some w => b.finishColl w
  | none => b

theorem Block.tryColl_none {b : Block} {t : Nat} (h : b.work t = none) : b.tryColl t = b := by
  unfold Block.tryColl
  simp only [h]

/-- How a collective proceeds: it waits for the table, ends where it has failed, ends with its result where that is complete, or waits. -/
theorem Block.tryColl_eq {b : Block} {t : Nat} {w : Work} (hw : b.work t = some w) : b.tryColl t =
    if !(w.x.acct == 0 || w.k.entered || b.enters w) then b.entering w t
    else if w.k.stopped then (b.entering w t).closing t
    else if w.complete then ((b.entering w t).writeResult w w.result).closing t
    else b.entering w t := by
  unfold Block.tryColl
  simp only [hw]
  rfl

theorem NoteStep.entering (b : Block) (w : Work) (t : Nat) : NoteStep t b (b.entering w t) := by
  unfold Block.entering
  split
  · exact .enters ..
  · exact .refl b

/-- What a collective that proceeds can do: nothing that its slice would have to hold anew, or, after that, its end. -/
theorem Block.tryColl_cases (b : Block) (t : Nat) :
    NoteStep t b (b.tryColl t) ∨ ∃ c w, NoteStep t b c ∧ c.work t = some w ∧ b.tryColl t = c.finishColl w := by
  have ends : ∀ c, NoteStep t b c → NoteStep t b (c.closing t) ∨ ∃ d v, NoteStep t b d ∧ d.work t = some v ∧ c.closing t = d.finishColl v := by
    intro c h
    unfold Block.closing
    cases hv : c.work t with
    | none => exact .inl h
    | some v => exact .inr ⟨c, v, h, hv, rfl⟩
  cases hw : b.work t with
  | none =>
    exact .inl (by rw [Block.tryColl_none hw]; exact .refl b)
  | some w =>
    have entered := NoteStep.entering b w t
    rw [Block.tryColl_eq hw]
    split
    · exact .inl entered
    · split
      · exact ends _ entered
      · split
        · have written := NoteStep.writeResult (b.entering w t) w w.result
          rw [Block.work_ticket hw] at written
          exact ends _ (entered.trans written)
        · exact .inl entered

/-! ### The collectives of a context proceed -/

/-- `c` differs from `b` as a `DataStep` does, and in collectives noted or ended and their tasks. -/
structure SettleStep (b c : Block) : Prop where
  frame : DataStep { b with disp := { b.disp with tasks := c.disp.tasks }, rb := { b.rb with colls := c.rb.colls } } c
  held : ∀ j ∈ c.rb.colls, ∃ i ∈ b.rb.colls, i.held = j.held
  ended : ∀ k st u, EndedWith b k st u → EndedWith c k st u

namespace SettleStep
variable {t : Nat} {a b c : Block}

theorem refl (b : Block) : SettleStep b b := ⟨rfl, fun j hj => ⟨j, hj, rfl⟩, fun _ _ _ => id⟩

theorem trans (h : SettleStep a b) (k : SettleStep b c) : SettleStep a c := by
  refine ⟨?_, fun j hj => ?_, fun n st u e => k.ended n st u (h.ended n st u e)⟩
  · have hf := h.frame
    have kf := k.frame
    unfold DataStep at *
    rw [kf, hf]
  · obtain ⟨i, hi, e⟩ := k.held j hj
    obtain ⟨l, hl, e'⟩ := h.held i hi
    exact ⟨l, hl, e'.trans e⟩

theorem of_note (h : NoteStep t b c) : SettleStep b c := by
  refine ⟨?_, fun j hj => ?_, fun _ _ _ => endedWith_of_disp h.disp⟩
  · rw [h.disp]
    exact h.frame
  · have mem := List.mem_map_of_mem (f := Coll.held) hj
    rw [h.held] at mem
    exact List.mem_map.mp mem

theorem of_finished {st : Nat} (h : Finished t st b c) : SettleStep b c := by
  obtain ⟨u, tasks⟩ := h.tasks
  refine ⟨h.frame, fun j hj => ⟨j, ?_, rfl⟩, fun k s v e => endedWith_of_tasks tasks ?_⟩
  · rw [h.colls] at hj
    exact List.mem_of_mem_filter hj
  · refine endedWith_setTask e t (fun y => by split <;> rfl) (fun y hy => ?_)
    rw [if_neg (by simp [Task.isRunning, hy])]
    exact hy

theorem tryColl (b : Block) (t : Nat) : SettleStep b (b.tryColl t) := by
  rcases b.tryColl_cases t with h | ⟨c, w, h, -, eq⟩
  · exact of_note h
  · rw [eq]
    exact (of_note h).trans (of_finished (.finishColl c w))

end SettleStep

theorem iter_has {α : Type} {f : α → α} (p : α → Prop) (h : ∀ x, p x → p (f x)) (n : Nat) {x : α} (hx : p x) : p (iter f n x) := by
  induction n generalizing x with
  | zero => exact hx
  | succ n ih => exact ih (h x hx)

/-- What every collective that proceeds keeps, a whole context keeps. -/
theorem Block.settleColls_has (p : Block → Prop) (h : ∀ c t, p c → p (c.tryColl t)) {b : Block} (ctx : Nat) (hb : p b) : p (b.settleColls ctx) :=
  iter_has p (fun _ => foldl_has p h _) _ hb

theorem SettleStep.settleColls (b : Block) (ctx : Nat) : SettleStep b (b.settleColls ctx) :=
  Block.settleColls_has (SettleStep b) (fun c t k => k.trans (.tryColl c t)) ctx (.refl b)

/-- What the turn of one element brings about, a fold over a list that holds it does. -/
theorem foldl_reaches {α : Type} {f : Block → α → Block} {p q : Block → Prop} {x : α} (others : ∀ b y, y ≠ x → p b → p (f b y)) (turn : ∀ b, p b → q (f b x))
    (stays : ∀ b y, q b → q (f b y)) {l : List α} (hx : x ∈ l) {b : Block} (hb : p b) : q (l.foldl f b) := by
  induction l generalizing b with
  | nil => cases hx
  | cons y l ih =>
    by_cases e : y = x
    · subst e
      exact foldl_has q stays l (turn b hb)
    · exact ih ((List.mem_cons.mp hx).resolve_left (Ne.symm e)) (others b y e hb)

theorem Block.settleColls_reaches {p q : Block → Prop} {k : Nat} (others : ∀ c t, t ≠ k → p c → p (c.tryColl t)) (turn : ∀ c, p c → q (c.tryColl k))
    (stays : ∀ c t, q c → q (c.tryColl t)) {b : Block} {ctx : Nat} (here : ∃ j ∈ b.rb.colls, j.ctx = ctx ∧ j.ticket = k) (hb : p b) :
    q (b.settleColls ctx) := by
  obtain ⟨j, hj, rfl, rfl⟩ := here
  have listed : j.ticket ∈ (b.rb.colls.filter (fun i => i.ctx == j.ctx)).map (·.ticket) :=
    List.mem_map_of_mem (List.mem_filter.mpr ⟨hj, beq_self_eq_true _⟩)
  unfold Block.settleColls
  dsimp only
  rw [iter]
  exact iter_has q (fun _ => foldl_has q stays _) _ (foldl_reaches others turn stays listed hb)

/-! ### The collectives of other tickets -/

theorem find?_of_filter_key {α : Type} (key : α → Nat) {t k : Nat} {l m : List α} (h : l.filter (key · != t) = m.filter (key · != t)) (ne : k ≠ t) :
    l.find? (key · == k) = m.find? (key · == k) := by
  have found : ∀ l : List α, (l.filter (key · != t)).find? (key · == k) = l.find? (key · == k) := by
    intro l
    rw [List.find?_filter]
    congr 1
    funext x
    by_cases e : key x = k
    · simp [e, ne]
    · simp [e]
  rw [← found l, h, found m]

/-- A collective that proceeds leaves those of other tickets. -/
theorem Block.tryColl_other (b : Block) {t k : Nat} (ne : k ≠ t) :
    (b.tryColl t).coll? k = b.coll? k ∧ (b.tryColl t).task? k = b.task? k := by
  have noted : ∀ {c : Block}, NoteStep t b c → c.coll? k = b.coll? k ∧ c.task? k = b.task? k :=
    fun h => ⟨find?_of_filter_key Coll.ticket h.others ne, Block.task?_of_disp h.disp k⟩
  rcases b.tryColl_cases t with h | ⟨c, w, h, hw, eq⟩
  · exact noted h
  · obtain ⟨coll, task⟩ := noted h
    have fin := Finished.finishColl c w
    rw [Block.work_ticket hw, ← eq] at fin
    obtain ⟨u, tasks⟩ := fin.tasks
    refine ⟨(find?_of_filter_key Coll.ticket ?_ ne).trans coll, ?_⟩
    · rw [fin.colls, List.filter_filter]
      simp only [Bool.and_self]
    · refine ((Block.task?_of_tasks tasks k).trans ?_).trans task
      rw [Block.endTask, Block.task?_setTask _ _ _ (fun y => by split <;> rfl), if_neg ne]

/-! ### Sends (R280 to R286) -/

/-- `π` shows nothing of a collective but what `Coll.held` keeps. -/
def Light (π : Coll → Coll) : Prop := ∀ j, π j.held = π j

theorem Light.map {π : Coll → Coll} (light : Light π) {l m : List Coll} (h : l.map Coll.held = m.map Coll.held) : l.map π = m.map π := by
  have each : ∀ l : List Coll, l.map π = (l.map Coll.held).map π := fun l => by
    rw [List.map_map]
    exact List.map_congr_left (fun j _ => (light j).symm)
  rw [each, h, ← each]

/-- `c` differs from `b` as a `DataStep` does, in the collectives but for what `π` shows of them, and in parcels added to the queue for Emith. -/
structure SendStep (π : Coll → Coll) (b c : Block) : Prop where
  frame : DataStep { b with rb := { b.rb with colls := c.rb.colls, tx := c.rb.tx } } c
  kept : c.rb.colls.map π = b.rb.colls.map π
  sends : ∃ l, c.rb.tx = b.rb.tx ++ l

namespace SendStep
variable {π : Coll → Coll} {a b c : Block}

theorem trans (h : SendStep π a b) (k : SendStep π b c) : SendStep π a c := by
  refine ⟨?_, k.kept.trans h.kept, ?_⟩
  · have hf := h.frame
    have kf := k.frame
    unfold DataStep at *
    rw [kf, hf]
  · obtain ⟨l, hl⟩ := h.sends
    obtain ⟨m, hm⟩ := k.sends
    exact ⟨l ++ m, by rw [hm, hl, List.append_assoc]⟩

/-- What is held stays shown. -/
theorem mono (light : Light π) (h : SendStep Coll.held b c) : SendStep π b c := ⟨h.frame, light.map h.kept, h.sends⟩

theorem of_data (h : DataStep b c) : SendStep π b c :=
  ⟨by rw [h.colls, h.tx]; exact h, by rw [h.colls], [], by rw [h.tx, List.append_nil]⟩

theorem refl (b : Block) : SendStep π b b := of_data (.refl b)

theorem of_queued (h : Queued b c) : SendStep π b c := by
  obtain ⟨l, rfl⟩ := h
  exact ⟨rfl, rfl, l, rfl⟩

theorem foldl_mem {α : Type} {f : Block → α → Block} {l : List α} (h : ∀ x ∈ l, ∀ b, SendStep π b (f b x)) (b : Block) : SendStep π b (l.foldl f b) := by
  induction l generalizing b with
  | nil => exact refl b
  | cons x l ih =>
    obtain ⟨first, rest⟩ := List.forall_mem_cons.mp h
    exact (first b).trans (ih rest _)

theorem foldl {α : Type} {f : Block → α → Block} (h : ∀ b x, SendStep π b (f b x)) (l : List α) (b : Block) : SendStep π b (l.foldl f b) :=
  foldl_mem (fun x _ b => h b x) b

theorem ite {p : Prop} [Decidable p] (h : SendStep π b c) : SendStep π b (if p then c else b) := by
  split
  · exact h
  · exact refl b

theorem setColl (b : Block) (t : Nat) {f : Coll → Coll} (hf : ∀ j, π (f j) = π j) : SendStep π b (b.setColl t f) := by
  refine ⟨rfl, ?_, [], (List.append_nil _).symm⟩
  rw [Block.setColl, List.map_map]
  refine List.map_congr_left (fun j _ => ?_)
  rw [Function.comp_apply]
  split
  · exact hf j
  · rfl

theorem disp (h : SendStep π b c) : c.disp = b.disp := h.frame.disp
theorem cfgs (h : SendStep π b c) : c.rb.cfgs = b.rb.cfgs := h.frame.cfgs

theorem storeOut (b : Block) (t e : Nat) (vals : List Nat) (out : ∀ j o, π { j with out := o } = π j) : SendStep π b (b.storeOut t e vals) :=
  setColl b t (fun j => out j _)

section Light
variable (light : Light π)
include light

/-- What a note changes, `π` does not show. -/
theorem note (b : Block) (t : Nat) {f : Coll → Coll} (hf : ∀ j, (f j).held = j.held) : SendStep π b (b.setColl t f) :=
  setColl b t (fun j => by rw [← light, hf, light])

theorem escalated (b : Block) (w : Work) (n : Nat) : SendStep π b (b.escalated w n) := by
  unfold Block.escalated
  split
  · exact refl b
  · have counted := (of_data (π := π) (.of_regOnly (RegOnly.bump b Od.rbBs16Escalations 0 n))).trans
      (note light _ w.k.ticket (f := fun k => { k with escalations := k.escalations + n }) (fun _ => rfl))
    dsimp only
    split
    · exact counted
    · refine counted.trans (of_data (.raise ?_ ..))
      rfl

theorem sendReduce (b : Block) (w : Work) (dest phase q shard off : Nat) (fresh : Bool) (acc : List F32) (efs escs : List Nat) :
    SendStep π b (b.sendReduce w dest phase q shard off fresh acc efs escs) :=
  foldl (fun b _ => ((of_queued (Queued.sendTo b ..)).trans (of_data (.of_regOnly (RegOnly.bump ..)))).trans (escalated light ..)) _ b

theorem sendDirect (b : Block) (w : Work) (dest kind shard off : Nat) (vals : List Nat) : SendStep π b (b.sendDirect w dest kind shard off vals) := by
  have counted : SendStep π b (b.countMember w.h w.k.slice dest) := of_data (.of_regOnly (RegOnly.countMember ..))
  unfold Block.sendDirect
  dsimp only
  split
  · exact counted.trans (of_queued (Queued.sendCopy ..))
  · refine (counted.trans ?_).trans (note light _ _ (fun _ => rfl))
    split
    · exact of_data (.consumePoison ..)
    · exact refl _

/-- The owner's output is sent into the gathers. -/
theorem finalRange (b : Block) (w : Work) (shard off : Nat) (acc : List F32) (out : ∀ j o, π { j with out := o } = π j) :
    SendStep π b (b.finalRange w shard off acc) := by
  unfold Block.finalRange
  extract_lets e0 one r vals c d e
  have stored : SendStep π b c := (of_data (.of_regOnly (RegOnly.bump ..))).trans (storeOut _ _ _ _ out)
  have flagged : SendStep π b d := stored.trans (ite ((of_data (.rbFlag ..)).trans (note light _ _ (fun _ => rfl))))
  have crossed : SendStep π b e := flagged.trans (ite (of_queued (Queued.sendCopyTo ..)))
  split
  · exact crossed.trans (ite (of_queued (Queued.sendCopyTo ..)))
  · exact flagged

/-- A step of the phase-1 chain, whose last hop forms output. -/
theorem reduce1 (b : Block) (w : Work) (shard off : Nat) (acc : List F32) (efs escs : List Nat) (n1 : ∀ j n, π { j with n1 := n } = π j)
    (out : w.h.q ≤ w.h.hop1 shard + 1 → ∀ j o, π { j with out := o } = π j) : SendStep π b (b.reduce1 w shard off acc efs escs) := by
  unfold Block.reduce1
  extract_lets h c
  have counted : SendStep π b c := (of_data (.of_regOnly (RegOnly.bump ..))).trans (setColl _ _ (fun j => n1 j _))
  split
  · exact counted.trans (sendReduce light ..)
  · exact counted.trans (finalRange light _ _ _ _ _ (out (by omega)))

/-- A step of the phase-0 chain, whose last hop keeps a partial. -/
theorem reduce0 (b : Block) (w : Work) (shard off : Nat) (acc : List F32) (efs escs : List Nat) (n0 : ∀ j n, π { j with n0 := n } = π j)
    (n1 : ∀ j n, π { j with n1 := n } = π j) (part : ∀ j p e, π { j with part := p, esc := e } = π j)
    (out : w.h.g ≤ w.h.hop0 shard + 1 → w.h.q ≤ w.h.hop1 shard + 1 → w.h.hop1 shard = 0 → ∀ j o, π { j with out := o } = π j) :
    SendStep π b (b.reduce0 w shard off acc efs escs) := by
  unfold Block.reduce0
  extract_lets h c e0 d
  have counted : SendStep π b c := setColl _ _ (fun j => n0 j _)
  have stored : SendStep π b d := (counted.trans (of_data (.of_regOnly (RegOnly.bump ..)))).trans (setColl _ _ (fun j => part j _ _))
  split
  · exact counted.trans (sendReduce light ..)
  · split
    · exact stored.trans (reduce1 light _ _ _ _ _ _ _ n1 (fun last => out (by omega) last ‹_›))
    · exact stored

end Light

end SendStep

/-! ### What collectives leave alone -/

/-- What arrives, the time, Emith and the Plazas are as they were. -/
structure Bystanders (b c : Block) : Prop where
  rx : c.rb.rx = b.rb.rx
  dt : c.dt = b.dt
  emith : c.emith = b.emith
  plz : c.plz = b.plz

namespace Bystanders
variable {a b c : Block}

theorem trans (h : Bystanders a b) (k : Bystanders b c) : Bystanders a c :=
  ⟨k.rx.trans h.rx, k.dt.trans h.dt, k.emith.trans h.emith, k.plz.trans h.plz⟩

theorem of_data (h : DataStep b c) : Bystanders b c := by
  unfold DataStep at h
  exact ⟨by rw [h], by rw [h], by rw [h], by rw [h]⟩

theorem of_note {t : Nat} (h : NoteStep t b c) : Bystanders b c := by
  obtain ⟨rx, dt, emith, plz⟩ := of_data h.frame
  exact ⟨rx, dt, emith, plz⟩

theorem of_send {π : Coll → Coll} (h : SendStep π b c) : Bystanders b c := by
  obtain ⟨rx, dt, emith, plz⟩ := of_data h.frame
  exact ⟨rx, dt, emith, plz⟩

theorem of_settle (h : SettleStep b c) : Bystanders b c := by
  obtain ⟨rx, dt, emith, plz⟩ := of_data h.frame
  exact ⟨rx, dt, emith, plz⟩

theorem of_drawOnly (h : DrawOnly b c) : Bystanders b c := of_data (.of_drawOnly h)

end Bystanders

/-! ### What the collectives of a ticket hold -/

theorem SendStep.forall_colls {π : Coll → Coll} {b c : Block} (h : SendStep π b c) {p : Coll → Prop} (hp : ∀ j, p (π j) ↔ p j) (all : ∀ j ∈ b.rb.colls, p j) :
    ∀ j ∈ c.rb.colls, p j := by
  have shown : ∀ j ∈ c.rb.colls.map π, p j := by
    rw [h.kept]
    exact List.forall_mem_map.mpr (fun j hj => (hp j).mpr (all j hj))
  exact fun j hj => (hp j).mp (shown _ (List.mem_map_of_mem hj))

theorem SettleStep.forall_colls {b c : Block} (h : SettleStep b c) {p : Coll → Prop} (hp : ∀ j : Coll, p j.held ↔ p j) (all : ∀ j ∈ b.rb.colls, p j) :
    ∀ j ∈ c.rb.colls, p j := by
  intro j hj
  obtain ⟨i, hi, e⟩ := h.held j hj
  exact (hp j).mp (e ▸ (hp i).mpr (all i hi))

theorem forall_setColl {b : Block} {t : Nat} {f : Coll → Coll} {p : Coll → Prop} (hp : ∀ j ∈ b.rb.colls, j.ticket = t → p (f j)) :
    ∀ j ∈ (b.setColl t f).rb.colls, j.ticket = t → p j := by
  refine List.forall_mem_map.mpr (fun j hj => ?_)
  split
  · exact fun _ => hp j hj (beq_iff_eq.mp ‹_›)
  · exact fun e => absurd (beq_iff_eq.mpr e) ‹_›

/-- The collective of a ticket shows what it did where all collectives do. -/
theorem Block.coll?_of_map {b c : Block} {π : Coll → Coll} (ticket : ∀ j, (π j).ticket = j.ticket) (h : c.rb.colls.map π = b.rb.colls.map π) (k : Nat) :
    (c.coll? k).map π = (b.coll? k).map π := by
  have each : ∀ l : List Coll, (l.find? (·.ticket == k)).map π = (l.map π).find? (·.ticket == k) := fun l => by
    rw [List.find?_map, show (fun j : Coll => j.ticket == k) ∘ π = fun j => j.ticket == k from funext fun j => by rw [Function.comp_apply, ticket]]
  unfold Block.coll?
  rw [each, each, h]

/-- The work of a ticket is the same but for what has been noted of its collective. -/
theorem NoteStep.work {t k : Nat} {b c : Block} (h : NoteStep t b c) {w : Work} (hw : b.work k = some w) :
    ∃ v, c.work k = some v ∧ v.k.held = w.k.held ∧ v.x = w.x ∧ v.h = w.h := by
  obtain ⟨j, y, hj, hy, rfl⟩ := Block.work_eq hw
  have same := Block.coll?_of_map (π := Coll.held) (fun _ => rfl) h.held k
  rw [hj] at same
  obtain ⟨i, hi, held⟩ := Option.map_eq_some_iff.mp same
  have slot : i.slot = j.slot := show i.held.slot = j.held.slot by rw [held]
  refine ⟨⟨i, colOf y.desc, c.cohort i.slot⟩, ?_, held, rfl, ?_⟩
  · unfold Block.work
    simp only [hi, (Block.task?_of_disp h.disp k).trans hy]
  · rw [slot]
    exact Block.cohort_of_cfgs h.cfgs _

/-! ### All that a collective can change -/

/-- What identifies a collective: its task's place, its source and whether it has failed. -/
def Coll.core (j : Coll) : Coll := { j.held with part := [], esc := [], out := [], n0 := 0, n1 := 0 }

theorem light_core : Light Coll.core := fun _ => rfl
theorem light_held : Light Coll.held := fun _ => rfl

theorem SendStep.startReduce {π : Coll → Coll} (light : Light π) (b : Block) (w : Work) (n0 : ∀ j n, π { j with n0 := n } = π j)
    (n1 : ∀ j n, π { j with n1 := n } = π j) (part : ∀ j p e, π { j with part := p, esc := e } = π j)
    (out : ∀ s, w.h.hop0 s = 0 → w.h.g ≤ 1 → w.h.q ≤ 1 → ∀ j o, π { j with out := o } = π j) : SendStep π b (b.startReduce w) := by
  refine foldl_mem (fun s hs b => reduce0 light b w s 0 _ _ _ n0 n1 part (fun last cross first => ?_)) b
  have start : w.h.hop0 s = 0 := by
    simp only [List.mem_filter, Bool.and_eq_true, beq_iff_eq] at hs
    exact hs.2.1
  exact out s start (by omega) (by omega)

/-- A head without members above or below it, or that has heard them all, has its BARRIER's records. -/
theorem SendStep.barrierGo {π : Coll → Coll} (light : Light π) (b : Block) (w : Work) (n0 : w.h.isHead = true → w.h.mates.all w.k.heard.contains = true →
    w.h.pos = 0 → w.h.heads.all w.k.heard.contains = true → ∀ j n, π { j with n0 := n } = π j) : SendStep π b (b.barrierGo w) := by
  have send : ∀ b p, SendStep π b (b.sendTo w.h w.k.slice p (w.header pkBarrier 0 0 0 0 0 false) []) := fun b p => of_queued (Queued.sendTo b ..)
  have pass : ∀ b, SendStep π b (b.setColl w.k.ticket (fun k => { k with passed := true })) := fun b => note light b _ (fun _ => rfl)
  unfold Block.barrierGo
  dsimp only
  split
  · exact refl b
  · split
    · exact (send ..).trans (pass _)
    · split
      · exact refl b
      · split
        · exact (send ..).trans (pass _)
        · split
          · exact refl b
          · rename_i head mates first heads
            have all := n0 (by simpa using head) (by simpa using mates) (by simpa using first) (by simpa using heads)
            refine (foldl send (w.h.heads ++ w.h.mates) b).trans ?_
            exact setColl _ _ (fun j => (all { j with passed := true } 1).trans ((light { j with passed := true }).symm.trans (light j)))

theorem SendStep.startSends (b : Block) (w : Work) : SendStep Coll.core b (b.startSends w) := by
  have stored := fun b e l => storeOut (π := Coll.core) b w.k.ticket e l (fun _ _ => rfl)
  unfold Block.startSends
  dsimp only
  split
  · exact startReduce light_core b w (fun _ _ => rfl) (fun _ _ => rfl) (fun _ _ _ => rfl) (fun _ _ _ _ _ _ => rfl)
  · split
    · exact ((stored ..).trans (ite (of_queued (Queued.sendCopyTo ..)))).trans (ite (of_queued (Queued.sendCopyTo ..)))
    · split
      · split
        · exact refl b
        · exact (stored ..).trans (foldl (fun b p => sendDirect light_core b ..) _ _)
      · split
        · exact (stored ..).trans (foldl (fun b p => sendDirect light_core b ..) _ _)
        · exact barrierGo light_core b w (fun _ _ _ _ _ _ => rfl)

end Sys2Proof.Machine
end

section
/-! PROOFS. Parcels of the collectives: the next one leaves its queue, its elements and sums are kept (R280, R281, R286, R296). -/

namespace Sys2Proof.Machine

/-! ### Elements at their places -/

theorem sget_putOut (out : List (Nat × Option Nat)) (e : Nat) {vals : List Nat} {i v : Nat} (hi : vals[i]? = some v) :
    sget none (putOut out e vals) (e + i) = some v := by
  have place : (v, i) ∈ vals.zipIdx := List.mem_zipIdx_iff_getElem?.mpr hi
  refine sget_foldl_sset none (fun v : Nat × Nat => e + v.2) (fun v => some v.1) vals.zipIdx out place (fun u hu same => ?_)
  have index : u.2 = i := Nat.add_left_cancel same
  rw [List.mem_zipIdx_iff_getElem?, index, hi] at hu
  exact hu.symm

/-! ### The next parcel (R294, R296) -/

/-- A parcel that matches a task names its work. -/
theorem Block.matched_work {b : Block} {p : Parcel} {w : Work} (h : b.matched p = some w) : b.work w.k.ticket = some w := by
  unfold Block.matched at h
  split at h
  · cases h
  · obtain ⟨k, -, hw⟩ := Option.bind_eq_some_iff.mp h
    rwa [Block.work_ticket hw]

theorem Block.nextParcel_work {b : Block} {slice kind : Nat} {ready : Work → Parcel → Bool} {p : Parcel} {w : Work}
    (h : b.nextParcel slice kind ready = some (p, w)) : b.work w.k.ticket = some w := by
  obtain ⟨q, -, hq⟩ := List.mem_filterMap.mp (List.mem_of_head? h)
  split at hq
  · split at hq
    · rename_i v hv
      split at hq
      · cases hq
        exact Block.matched_work hv
      · cases hq
    · cases hq
  · cases hq

/-- A parcel heard is noted with its task. -/
theorem NoteStep.heardFrom (b : Block) (w : Work) (p : Parcel) : NoteStep w.k.ticket b (b.heardFrom w p) := by
  unfold Block.heardFrom
  extract_lets s first c d issued e
  have waits : NoteStep w.k.ticket b c := setColl b _ (fun _ => rfl)
  have heard : NoteStep w.k.ticket b d := waits.trans (setColl _ _ (fun _ => rfl))
  split
  · exact waits
  · split
    · have late : NoteStep w.k.ticket b e := by
        refine heard.trans ?_
        unfold e
        split
        · exact refl d
        · exact (of_data (.of_regOnly (RegOnly.bump ..))).trans (setColl _ _ (fun _ => rfl))
      exact late.trans (of_data (.lateSender ..))
    · exact heard

section Next
variable {b : Block} {slice kind : Nat} {fits ready : Work → Parcel → Bool} {f : Work → Parcel → Block → Block} {p : Parcel} {w : Work}
  (shed : b.gov.shed = false) (next : b.nextParcel slice kind ready = some (p, w))
include shed next

theorem xParcel_discards (bad : fits w p = false) : xParcel slice kind fits ready f b = (b.dropParcel p).mismatch w.k.ctx := by
  unfold xParcel
  rw [if_neg (by simp [shed])]
  simp only [next, bad, Bool.not_false, if_true]

/-- A parcel that fits is consumed by the rule of its kind. -/
theorem xParcel_consumes (ok : fits w p = true) : ∃ v c d, v.k.held = w.k.held ∧ v.x = w.x ∧ v.h = w.h ∧ NoteStep w.k.ticket (b.dropParcel p) c
    ∧ xParcel slice kind fits ready f b = d ∧ DrawOnly ((f v p c).settleColls v.k.ctx) d := by
  have there : (b.dropParcel p).work w.k.ticket = some w := by
    have here := Block.nextParcel_work next
    rw [Block.dropParcel_eq]
    exact here
  obtain ⟨v, hv, held, hx, hh⟩ := (NoteStep.heardFrom (b.dropParcel p) w p).work there
  refine ⟨v, ((b.dropParcel p).heardFrom w p).bump Od.terraceReadBytes (slice + 1) p.size, _, held, hx, hh,
    (NoteStep.heardFrom ..).trans (.of_data (.of_regOnly (RegOnly.bump ..))), rfl, ?_⟩
  unfold xParcel
  rw [if_neg (by simp [shed])]
  simp only [next, ok, Bool.not_true, Bool.false_eq_true, if_false, hv]
  exact DrawOnly.contended rfl

end Next

/-! ### The rules of the kinds (R280, R281, R286) -/

theorem SendStep.reduceParcel (w : Work) (p : Parcel) (b : Block) : SendStep Coll.core b (b.reduceParcel w p) := by
  have counted := fun n => of_data (π := Coll.core) (.of_regOnly (RegOnly.bump b Od.bs16MalformedCount 3 n))
  unfold Block.reduceParcel
  dsimp only
  split
  · exact (counted _).trans (reduce0 light_core _ _ _ _ _ _ _ (fun _ _ => rfl) (fun _ _ => rfl) (fun _ _ _ => rfl) (fun _ _ _ _ _ => rfl))
  · exact (counted _).trans (reduce1 light_core _ _ _ _ _ _ _ (fun _ _ => rfl) (fun _ _ _ => rfl))

/-- Elements kept at `e` of the result, and sends. -/
def Stores (w : Work) (e : Nat) (vals : List Nat) (b c : Block) : Prop := SendStep Coll.held (b.storeOut w.k.ticket e vals) c

theorem Stores.core {w : Work} {e : Nat} {vals : List Nat} {b c : Block} (h : Stores w e vals b c) : SendStep Coll.core b c :=
  (SendStep.storeOut b _ e vals (fun _ _ => rfl)).trans (.mono light_core h)

theorem Stores.gatherParcel (w : Work) (p : Parcel) (b : Block) :
    Stores w ((if w.x.kind = 0 then p.head.shard * w.S else p.head.shard * w.x.len) + p.head.offset) p.elems b (b.gatherParcel w p) := by
  unfold Block.gatherParcel Stores
  extract_lets h s vals base c d e d'
  have crossed : SendStep Coll.held c e := .ite (.of_queued (Queued.sendCopyTo ..))
  by_cases cross : h.phase = 2
  · rw [if_pos cross]
    exact crossed.trans (.ite (.of_queued (Queued.sendCopyTo ..)))
  · rw [if_neg cross]
    exact .ite (.of_queued (Queued.sendCopyTo ..))

theorem Stores.allParcel (w : Work) (p : Parcel) (b : Block) :
    Stores w (p.head.sender * w.x.len + p.head.offset) p.elems b (b.storeOut w.k.ticket (p.head.sender * w.x.len + p.head.offset) p.elems) := .refl _

theorem Stores.broadcastParcel (w : Work) (p : Parcel) (b : Block) : Stores w p.head.offset p.elems b
    (if w.x.root % w.h.g = w.h.idx then
      w.h.mates.foldl (fun b m => b.sendDirect w m pkBroadcast 0 p.head.offset p.elems) (b.storeOut w.k.ticket p.head.offset p.elems)
    else b.storeOut w.k.ticket p.head.offset p.elems) :=
  SendStep.ite (.foldl (fun b _ => .sendDirect light_held b ..) _ _)

/-- A record from above is passed down and releases the task; one from below is gathered. -/
theorem SendStep.barrierParcel (w : Work) (b : Block) (down : Bool) : SendStep Coll.core b
    (if down then
      (if w.h.isHead then w.h.mates.foldl (fun b m => b.sendTo w.h w.k.slice m (w.header pkBarrier 0 0 0 0 0 false) []) b else b).setColl w.k.ticket
        (fun k => { k with n0 := 1 })
    else b.barrierGo w) := by
  split
  · exact (ite (foldl (fun b _ => of_queued (Queued.sendTo b ..)) _ b)).trans (setColl _ _ (fun _ => rfl))
  · exact barrierGo light_core b w (fun _ _ _ _ _ _ => rfl)

/-! ### The last hop of a phase-0 chain (R280) -/

/-- What the phase-1 chain does not touch of a collective. -/
def Coll.partials (j : Coll) : Coll := { j.held with out := [], n1 := 0 }

/-- The sums of the last hop become this member's partial. -/
theorem Block.reduce0_keeps (b : Block) (w : Work) (shard off : Nat) (acc : List F32) (efs escs : List Nat) (last : w.h.g ≤ w.h.hop0 shard + 1) :
    ∀ j ∈ (b.reduce0 w shard off acc efs escs).rb.colls, j.ticket = w.k.ticket → ∀ i v, acc[i]? = some v →
      sget none j.part (shard * w.S + off + i) = some v.toNat := by
  unfold Block.reduce0
  extract_lets h c e0 d
  have kept : ∀ j ∈ d.rb.colls, j.ticket = w.k.ticket → ∀ i v, acc[i]? = some v → sget none j.part (e0 + i) = some v.toNat :=
    forall_setColl (fun j _ _ i v hi => sget_putOut _ _ (by rw [List.getElem?_map, hi]; rfl))
  rw [if_neg (by omega)]
  have sent : SendStep Coll.partials d (if w.h.hop1 shard = 0 then d.reduce1 w shard off acc [] escs else d) :=
    .ite (.reduce1 (fun _ => rfl) _ _ _ _ _ _ _ (fun _ _ => rfl) (fun _ _ _ => rfl))
  exact sent.forall_colls (p := fun j => j.ticket = w.k.ticket → ∀ i v, acc[i]? = some v → sget none j.part (e0 + i) = some v.toNat) (fun _ => Iff.rfl) kept

/-- A REDUCE parcel of phase 0 that comes last keeps each element combined with this member's own. -/
theorem Block.reduceParcel_keeps (b : Block) (w : Work) (p : Parcel) (phase : p.head.phase = 0) (last : w.h.g ≤ w.h.hop0 p.head.shard + 1) :
    ∀ j ∈ (b.reduceParcel w p).rb.colls, j.ticket = w.k.ticket → ∀ i a x, i < p.head.count →
      (decodeWire p.head.wfmt p.head.count p.body).xs[i]? = some a → w.k.x[p.head.shard * w.S + p.head.offset + i]? = some x →
      sget none j.part (p.head.shard * w.S + p.head.offset + i) = some (combine w.x.op a (if w.x.sfmt = 0 then BitVec.ofNat 32 x else widen 0 x)).toNat := by
  intro j hj ticket i a x hi ha hx
  unfold Block.reduceParcel at hj
  dsimp only at hj
  rw [if_pos phase] at hj
  refine Block.reduce0_keeps _ _ _ _ _ _ _ last j hj ticket i _ ?_
  simp [List.getElem?_zip_eq_some, ha, hx, hi]

/-! ### The commands as rules of their kinds -/

theorem xAllParcel_eq (n : Nat) : xAllParcel n =
    xParcel n pkAll Work.allFits always (fun w p b => b.storeOut w.k.ticket (p.head.sender * w.x.len + p.head.offset) p.elems) := rfl

theorem xBroadcastParcel_eq (n : Nat) : xBroadcastParcel n = xParcel n pkBroadcast Work.broadcastFits always (fun w p b =>
    if w.x.root % w.h.g = w.h.idx then
      w.h.mates.foldl (fun b m => b.sendDirect w m pkBroadcast 0 p.head.offset p.elems) (b.storeOut w.k.ticket p.head.offset p.elems)
    else b.storeOut w.k.ticket p.head.offset p.elems) := rfl

theorem xBarrierParcel_eq (n : Nat) : xBarrierParcel n = xParcel n pkBarrier Work.barrierFits always (fun w p b =>
    if (if w.h.isHead then w.h.pos != 0 && p.head.sender == 0 else true) then
      (if w.h.isHead then w.h.mates.foldl (fun b m => b.sendTo w.h w.k.slice m (w.header pkBarrier 0 0 0 0 0 false) []) b else b).setColl w.k.ticket
        (fun k => { k with n0 := 1 })
    else b.barrierGo w) := rfl

/-! ### The statement -/

section Goes
variable {s : State} {n kind : Nat} {fits ready : Work → Parcel → Bool} {x : Block → Block} {f : Work → Parcel → Block → Block} {p : Parcel} {w : Work}
  (rule : x = xParcel n kind fits ready f) (shed : s.gov.shed = false) (next : s.toBlock.nextParcel n kind ready = some (p, w))
include rule shed next

/-- The next parcel leaves its queue, whatever its kind; one that does not fit is counted and told (R296). -/
theorem parcel_goes (sends : ∀ w p b, SendStep Coll.core b (f w p b)) : Goes (.next (s.run x)) fun t =>
      t.rb.rx = s.rb.rx.erase p ∧ t.dt = s.dt ∧ t.emith = s.emith ∧ t.plz = s.plz
      ∧ (fits w p = false → LastEvent t.toBlock 0x4374 w.k.ctx [] ∧ t.rb.colls = s.rb.colls ∧ t.rb.tx = s.rb.tx ∧ t.mem = s.mem
        ∧ t.reg Od.rbParcelDiscards 0 = wrap (odWidth Od.rbParcelDiscards 0) (s.reg Od.rbParcelDiscards 0 + 1)) := by
  subst rule
  have dropped := Block.dropParcel_eq s.toBlock p
  have taken : ∀ {c : Block}, Bystanders (s.toBlock.dropParcel p) c → c.rb.rx = s.rb.rx.erase p ∧ c.dt = s.dt ∧ c.emith = s.emith ∧ c.plz = s.plz := by
    rintro c ⟨rx, dt, emith, plz⟩
    exact ⟨by rw [rx, dropped], by rw [dt, dropped], by rw [emith, dropped], by rw [plz, dropped]⟩
  cases ok : fits w p with
  | true =>
    obtain ⟨v, c, d, -, -, -, noted, eq, drawn⟩ := xParcel_consumes (f := f) shed next ok
    have all := (((Bystanders.of_note noted).trans (.of_send (sends v p c))).trans (.of_settle (.settleColls ..))).trans (.of_drawOnly drawn)
    obtain ⟨rx, dt, emith, plz⟩ := taken all
    exact goes_run_eq eq ⟨rx, dt, emith, plz, fun no => nomatch no⟩
  | false =>
    obtain ⟨event, kept, count⟩ := Block.mismatch_reports (s.toBlock.dropParcel p) w.k.ctx
    obtain ⟨rx, dt, emith, plz⟩ := taken (.of_data (.of_regLog kept))
    have colls := (congrArg Rb.colls kept.rb).trans (by rw [dropped] : (s.toBlock.dropParcel p).rb.colls = s.rb.colls)
    have tx := (congrArg Rb.tx kept.rb).trans (by rw [dropped] : (s.toBlock.dropParcel p).rb.tx = s.rb.tx)
    have mem := kept.mem.trans (by rw [dropped] : (s.toBlock.dropParcel p).mem = s.mem)
    rw [Block.reg_eq_of_od (by rw [dropped] : (s.toBlock.dropParcel p).od = s.od)] at count
    exact goes_run_eq (xParcel_discards shed next ok) ⟨rx, dt, emith, plz, fun _ => ⟨event, colls, tx, mem, count⟩⟩

/-- Elements as they stand are kept at their place of the result (R281, R286). -/
theorem stores_goes {e : Work → Parcel → Nat} (ok : fits w p = true) (like : ∀ v : Work, v.x = w.x → v.h = w.h → e v p = e w p)
    (stores : ∀ w p b, Stores w (e w p) p.elems b (f w p b)) : Goes (.next (s.run x)) fun t =>
      ∀ j ∈ t.rb.colls, j.ticket = w.k.ticket → ∀ i < p.elems.length, sget none j.out (e w p + i) = some (nth 0 p.elems i) := by
  subst rule
  obtain ⟨v, c, d, held, hx, hh, -, eq, drawn⟩ := xParcel_consumes (f := f) shed next ok
  have ticket : v.k.ticket = w.k.ticket := show v.k.held.ticket = w.k.held.ticket by rw [held]
  have sent := stores v p c
  unfold Stores at sent
  rw [like v hx hh, ticket] at sent
  have kept := forall_setColl (b := c) (t := w.k.ticket) (f := fun k => { k with out := putOut k.out (e w p) p.elems })
    (p := fun j => ∀ i < p.elems.length, sget none j.out (e w p + i) = some (nth 0 p.elems i))
    (fun j _ _ i hi => sget_putOut _ _ (by simp [nth, hi]))
  have settled := (SettleStep.settleColls _ v.k.ctx).forall_colls
    (p := fun j => j.ticket = w.k.ticket → ∀ i < p.elems.length, sget none j.out (e w p + i) = some (nth 0 p.elems i)) (fun _ => Iff.rfl)
    (sent.forall_colls (fun _ => Iff.rfl) kept)
  rw [← DataStep.colls (.of_drawOnly drawn)] at settled
  exact goes_run_eq eq settled

end Goes

/-- At the last hop of a phase-0 chain the sums become this member's partial (R280). -/
theorem lastHop_goes {s : State} {n : Nat} {p : Parcel} {w : Work} (shed : s.gov.shed = false)
    (next : s.toBlock.nextParcel n pkReduce Work.reduceReady = some (p, w)) (ok : w.reduceFits p = true) (phase : p.head.phase = 0)
    (last : w.h.g ≤ w.h.hop0 p.head.shard + 1) : Goes (exec (.reduceParcel n) s) fun t =>
      ∀ j ∈ t.rb.colls, j.ticket = w.k.ticket → ∀ i a b, i < p.head.count → (decodeWire p.head.wfmt p.head.count p.body).xs[i]? = some a →
        w.k.x[p.head.shard * w.S + p.head.offset + i]? = some b →
        sget none j.part (p.head.shard * w.S + p.head.offset + i) = some (combine w.x.op a (if w.x.sfmt = 0 then BitVec.ofNat 32 b else widen 0 b)).toNat := by
  obtain ⟨v, c, d, held, hx, hh, -, eq, drawn⟩ := xParcel_consumes (f := Block.reduceParcel) shed next ok
  have ticket : v.k.ticket = w.k.ticket := show v.k.held.ticket = w.k.held.ticket by rw [held]
  have source : v.k.x = w.k.x := show v.k.held.x = w.k.held.x by rw [held]
  have size : v.S = w.S := by simp only [Work.S, hx, hh]
  have kept := Block.reduceParcel_keeps c v p phase (by rw [hh]; exact last)
  rw [ticket, source, size, hx] at kept
  have settled := (SettleStep.settleColls _ v.k.ctx).forall_colls (p := fun j => j.ticket = w.k.ticket → ∀ i a b, i < p.head.count →
    (decodeWire p.head.wfmt p.head.count p.body).xs[i]? = some a → w.k.x[p.head.shard * w.S + p.head.offset + i]? = some b →
    sget none j.part (p.head.shard * w.S + p.head.offset + i) = some (combine w.x.op a (if w.x.sfmt = 0 then BitVec.ofNat 32 b else widen 0 b)).toNat)
    (fun _ => Iff.rfl) kept
  rw [← DataStep.colls (.of_drawOnly drawn)] at settled
  exact goes_run_eq eq settled

/-- Settles O31: what follows the parcel goes through `SendStep` and `SettleStep`. -/
theorem parcels : Obligations.Parcels := by
  unfold Obligations.Parcels
  refine ⟨fun s n p w e he shed next => ?_, fun s n p w e he shed next ok => ?_, fun s n p w shed next ok phase last => ?_⟩
  · rcases List.mem_cons.mp he with rfl | he
    · exact parcel_goes rfl shed next SendStep.reduceParcel
    rcases List.mem_cons.mp he with rfl | he
    · exact parcel_goes rfl shed next (fun w p b => (Stores.gatherParcel w p b).core)
    rcases List.mem_cons.mp he with rfl | he
    · exact parcel_goes (xAllParcel_eq n) shed next (fun w p b => (Stores.allParcel w p b).core)
    rcases List.mem_cons.mp he with rfl | he
    · exact parcel_goes (xBroadcastParcel_eq n) shed next (fun w p b => (Stores.broadcastParcel w p b).core)
    · rw [List.mem_singleton.mp he] at next ⊢
      exact parcel_goes (xBarrierParcel_eq n) shed next (fun w _ b => SendStep.barrierParcel w b _)
  · rcases List.mem_cons.mp he with rfl | he
    · exact stores_goes rfl shed next ok (e := fun w p => (if w.x.kind = 0 then p.head.shard * w.S else p.head.shard * w.x.len) + p.head.offset)
        (fun v hx hh => by simp only [Work.S, hx, hh]) (fun w p b => Stores.gatherParcel w p b)
    rcases List.mem_cons.mp he with rfl | he
    · exact stores_goes (xAllParcel_eq n) shed next ok (e := fun w p => p.head.sender * w.x.len + p.head.offset) (fun v hx _ => by rw [hx])
        (fun w p b => Stores.allParcel w p b)
    · rw [List.mem_singleton.mp he] at next ok ⊢
      obtain ⟨t, eq, kept⟩ := stores_goes (xBroadcastParcel_eq n) shed next ok (e := fun w p => p.head.offset) (fun _ _ _ => rfl)
        (fun w p b => Stores.broadcastParcel w p b)
      exact ⟨t, eq, by rwa [Nat.zero_add]⟩
  · exact lastHop_goes shed next ok phase last

end Sys2Proof.Machine
end

section
/-! PROOFS. COLLECTIVE tasks: what reading the source and the first sends leave, what a task waits for, and how RB_TIMEOUT ends it
(R286, R288, R293, R297, R298). -/

namespace Sys2Proof.Machine

/-! ### Reading the source (R293, R297) -/

/-- Two blocks in which every byte, its poison and its taint read alike. -/
structure SameReads (b c : Block) : Prop extends SameTables b c where
  se : c.se = b.se
  overflow : ∀ k, c.reg Od.ctxTaintOverflow k = b.reg Od.ctxTaintOverflow k

namespace SameReads
variable {a b c : Block}

theorem trans (h : SameReads a b) (k : SameReads b c) : SameReads a c :=
  ⟨h.toSameTables.trans k.toSameTables, k.se.trans h.se, fun n => (k.overflow n).trans (h.overflow n)⟩

theorem tainted (h : SameReads b c) (ctx : Nat) (ext : List (Nat × Nat)) : c.tainted ctx ext = b.tainted ctx ext := by
  unfold Block.tainted
  rw [h.se, h.overflow]

theorem readVirt (h : SameReads b c) (ctx n : Nat) : ∀ va len, c.readVirt ctx n va len = b.readVirt ctx n va len := by
  induction n with
  | zero => exact fun _ _ => rfl
  | succ n ih =>
    intro va len
    have bytes : ∀ pa m, c.bytesAt pa m = b.bytesAt pa m := fun pa m => by
      unfold Block.bytesAt
      simp only [h.readPhys]
    unfold Block.readVirt
    simp only [h.walk, ih, bytes]

end SameReads

/-- The number entries that reading a source can write. -/
def sourceIdx : List Nat := Od.rasPoisonConsumed :: Od.eventNextSeq :: accessIdx

/-- `c` differs from `b` in entries, logs and the reliability subsystem only, and in number entries only at `sourceIdx`. -/
structure ReadStep (b c : Block) : Prop where
  frame : c = { b with od := c.od, odb := c.odb, log := c.log, fatal := c.fatal, ras := c.ras }
  regs : IdxKept sourceIdx b c

namespace ReadStep
variable {a b c : Block}

theorem refl (b : Block) : ReadStep b b := ⟨rfl, IdxKept.refl _ b⟩

theorem trans (h : ReadStep a b) (k : ReadStep b c) : ReadStep a c := ⟨by rw [k.frame, h.frame], h.regs.trans k.regs⟩

theorem foldl {α : Type} {f : Block → α → Block} (h : ∀ b x, ReadStep b (f b x)) (l : List α) (b : Block) : ReadStep b (l.foldl f b) :=
  foldl_has (ReadStep b) (fun _ x k => k.trans (h _ x)) l (refl b)

theorem data (h : ReadStep b c) : DataStep b c := by
  unfold DataStep
  rw [h.frame]

theorem reads (h : ReadStep b c) : SameReads b c := by
  have kept : ∀ i ∈ [Od.ctxTtRoot, Od.limitedCtx, Od.moduleService, Od.hbmStackState, Od.ctxTaintOverflow], i < 65536 ∧ i ∉ sourceIdx := by decide
  have reg : ∀ i ∈ [Od.ctxTtRoot, Od.limitedCtx, Od.moduleService, Od.hbmStackState, Od.ctxTaintOverflow], ∀ k, c.reg i k = b.reg i k :=
    fun i hi k => h.regs i k (kept i hi).1 (kept i hi).2
  have f := h.frame
  exact ⟨⟨by rw [f], by rw [f], by rw [f], by rw [f], fun i hi => reg i (List.mem_append_left [_] hi)⟩, by rw [f], reg _ (by decide)⟩

theorem of_regOnly (h : RegOnly b c) (k : IdxKept accessIdx b c) : ReadStep b c :=
  ⟨by unfold RegOnly at h; rw [h], fun i n hi no => k i n hi (fun mem => no (List.mem_cons_of_mem _ (List.mem_cons_of_mem _ mem)))⟩

theorem countWalk (b : Block) (from_ : Option Nat) (ctx va : Nat) : ReadStep b (b.countWalk from_ ctx va) :=
  of_regOnly (RegOnly.countWalk ..) (IdxKept.countWalk _ _ _ _)

theorem countPages (b : Block) (slice ctx va z : Nat) (first : Bool) : ReadStep b (b.countPages slice ctx va z first) := by
  unfold Block.countPages
  extract_lets c
  have start : ReadStep b c := by
    unfold c
    split
    · exact countWalk ..
    · exact refl b
  split
  · exact start.trans (countWalk ..)
  · exact start

theorem countElement (b : Block) (slice ctx va z : Nat) : ReadStep b (b.countElement slice ctx va z) := by
  refine foldl (fun b r => ?_) _ b
  split
  · exact refl b
  · split
    · exact of_regOnly (RegOnly.countReadFrom ..) ((IdxKept.countRead _ _ _).trans (IdxKept.countRemote _ _ _ _))
    · exact refl b

theorem consumePoison (b : Block) (ctx k : Nat) : ReadStep b (b.consumePoison ctx k) := by
  have counted : ∀ r, ReadStep b { b.bump Od.rasPoisonConsumed 0 1 with ras := r } := fun r => ⟨rfl, IdxKept.bump b _ _ _ (by decide) (by decide)⟩
  have raised : ∀ {p : Prop} [Decidable p] {c : Block}, ReadStep b c → ReadStep b (if p then c.raise 0x83A1 ctx (beBytes 4 k) else c) := by
    intro p _ c h
    split
    · exact h.trans ⟨by rw [RegLog.raise], IdxKept.raise _ _ _ _ (by decide)⟩
    · exact h
  exact raised (counted _)

theorem consume (r : SourceRead) (t : Task) (nan st origin : Nat) (fail : Option (Nat × Nat)) :
    ReadStep r.b ((r.consume t).substitute nan st origin fail).b := by
  unfold SourceRead.consume
  split
  · exact consumePoison ..
  · exact refl _

/-- An element is read, or its substitute stands for it. -/
theorem element (r : SourceRead) (t : Task) (x : Col) (origin i : Nat) : ReadStep r.b (r.element t x origin i).b := by
  have pages := countPages r.b x.slice t.ctx (x.srcBase + i * x.zs) x.zs (i == 0)
  unfold SourceRead.element
  dsimp only
  split
  · exact refl _
  · split
    · exact pages
    · exact pages.trans (consume { r with b := _ } ..)
    · have counted := pages.trans (countElement _ x.slice t.ctx (x.srcBase + i * x.zs) x.zs)
      split
      · exact counted.trans (consume { r with b := _ } ..)
      · exact counted

end ReadStep

/-- The value that a source element has for its task: what the memories hold, or canonical NaN. -/
def Block.sourceElement (b : Block) (t : Task) (x : Col) (i : Nat) : Nat :=
  let nan := if x.sfmt = 0 then 0x7FC00000 else 0x7FC0
  let va := x.srcBase + i * x.zs
  let v := b.readVirt t.ctx 2 va x.zs
  if (b.tainted t.ctx [(va, va + x.zs)]).isSome || v.2 != .all || v.1.any (·.2) then nan else ofLE (v.1.map (·.1))

@[simp] theorem SourceRead.consume_vals (r : SourceRead) (t : Task) : (r.consume t).vals = r.vals := by
  unfold SourceRead.consume
  split <;> rfl

@[simp] theorem SourceRead.substitute_vals (r : SourceRead) (nan st origin : Nat) (fail : Option (Nat × Nat)) :
    (r.substitute nan st origin fail).vals = r.vals ++ [nan] := rfl

theorem SourceRead.element_vals (r : SourceRead) (t : Task) (x : Col) (origin i : Nat) :
    (r.element t x origin i).vals = r.vals ++ [r.b.sourceElement t x i] := by
  have reads := (ReadStep.countPages r.b x.slice t.ctx (x.srcBase + i * x.zs) x.zs (i == 0)).reads
  unfold SourceRead.element Block.sourceElement
  simp only [reads.readVirt]
  generalize r.b.readVirt t.ctx 2 (x.srcBase + i * x.zs) x.zs = v
  by_cases tainted : (r.b.tainted t.ctx [(x.srcBase + i * x.zs, x.srcBase + i * x.zs + x.zs)]).isSome
  · simp [tainted]
  · obtain ⟨l, ended⟩ := v
    cases ended with
    | all => by_cases poisoned : l.any (·.2) <;> simp [tainted, poisoned]
    | fault cause a => simp [tainted]
    | poison a => simp [tainted]

theorem Block.sourceElement_of_reads {b c : Block} (h : SameReads b c) (t : Task) (x : Col) (i : Nat) : c.sourceElement t x i = b.sourceElement t x i := by
  unfold Block.sourceElement
  simp only [h.readVirt, h.tainted]

/-- Reading the elements of a list of places. -/
theorem foldl_element (t : Task) (x : Col) (origin : Nat) (l : List Nat) (r : SourceRead) :
    ReadStep r.b (l.foldl (fun r i => r.element t x origin i) r).b
      ∧ (l.foldl (fun r i => r.element t x origin i) r).vals = r.vals ++ l.map (r.b.sourceElement t x) := by
  induction l generalizing r with
  | nil => exact ⟨.refl _, (List.append_nil _).symm⟩
  | cons i l ih =>
    obtain ⟨step, vals⟩ := ih (r.element t x origin i)
    have first := ReadStep.element r t x origin i
    refine ⟨first.trans step, vals.trans ?_⟩
    rw [SourceRead.element_vals, List.append_assoc, List.map_congr_left (fun j _ => Block.sourceElement_of_reads first.reads t x j)]
    rfl

theorem Block.readSource_vals (b : Block) (t : Task) (x : Col) (n : Nat) : (b.readSource t x n).vals = (List.range n).map (b.sourceElement t x) :=
  (foldl_element t x _ (List.range n) ⟨b, [], none, none⟩).2.trans (List.nil_append _)

theorem ReadStep.readSource (b : Block) (t : Task) (x : Col) (n : Nat) : ReadStep b (b.readSource t x n).b :=
  (foldl_element t x _ (List.range n) ⟨b, [], none, none⟩).1

/-! ### A collective begins (R286, R288) -/

/-- A collective that a slice enters moves nothing else. -/
theorem DataStep.enter {b c : Block} (h : DataStep b c) (j : Coll) :
    DataStep { b with rb := { b.rb with colls := b.rb.colls ++ [j] } } { c with rb := { c.rb with colls := c.rb.colls ++ [j] } } := by
  unfold DataStep at *
  rw [h]

/-- What a collective holds once it has read its source and before it sends. -/
structure Sourced (b : Block) (y : Task) (x : Col) (j : Coll) : Prop where
  held : j.held = { startColl y x with x := (b.readSource y x (⟨startColl y x, x, b.cohort x.cohort⟩ : Work).srcElems).vals, room := b.partialSlots x }.held
  heard : j.heard = []
  passed : j.passed = false
  status : (⟨startColl y x, x, b.cohort x.cohort⟩ : Work).srcElems = 0 → j.status = sOK

/-- The block in which a collective has begun: its task works, and its collective stands last. -/
def Block.begun (b : Block) (y : Task) (j : Coll) : Block :=
  { b.setTask y.ticket (fun y => { y with stage := 1 }) with rb := { b.rb with colls := b.rb.colls ++ [j] } }

theorem SameReads.setTask (b : Block) (t : Nat) (f : Task → Task) : SameReads b (b.setTask t f) := ⟨⟨rfl, rfl, rfl, rfl, fun _ _ _ => rfl⟩, rfl, fun _ => rfl⟩

/-- A task that its cohort admits reads its source, makes its first sends and settles. -/
theorem Block.beginColl_admits {b : Block} {y : Task} {x : Col} (hx : x = colOf y.desc) (on : (b.cohort x.cohort).enabled = true)
    (own : (b.cohort x.cohort).ctx = y.ctx) (room : b.partialSlots x ≤ b.sharedSlots x.slice)
    (fine : (⟨startColl y x, x, b.cohort x.cohort⟩ : Work).rangesBad = false) (free : ∀ j ∈ b.rb.colls, j.slot ≠ x.cohort) :
    ∃ c j, DataStep (b.begun y j) c ∧ c.mem = b.mem ∧ Sourced b y x j ∧ b.beginColl y = (c.startSends ⟨j, x, b.cohort x.cohort⟩).settleColls y.ctx := by
  have started : SameReads b (b.setTask y.ticket (fun y => { y with stage := 1 })) := .setTask ..
  have none_here : b.rb.colls.any (fun k => k.slot == x.cohort && k.seq == x.seq && k.step % 2 == y.step % 2) = false :=
    List.any_eq_false.mpr (fun j hj => by simp [free j hj])
  unfold Block.beginColl
  rw [← hx]
  extract_lets x' h b0 w0 refused b1 r k0 k1 first k _ _ entered d
  obtain ⟨data, reads, slots, shared⟩ : DataStep b0 b1 ∧ SameReads b0 b1 ∧ b1.partialSlots x = b.partialSlots x
      ∧ b1.sharedSlots x.slice = b.sharedSlots x.slice := by
    unfold b1
    split <;> exact ⟨rfl, ⟨⟨rfl, rfl, rfl, rfl, fun _ _ _ => rfl⟩, rfl, fun _ => rfl⟩, rfl, rfl⟩
  have vals : r.vals = (b.readSource y x w0.srcElems).vals := by
    rw [show r.vals = _ from Block.readSource_vals .., Block.readSource_vals]
    exact List.map_congr_left (fun i _ => Block.sourceElement_of_reads (started.trans reads) y x i)
  have read : DataStep b0 r.b := data.trans (ReadStep.readSource b1 y x w0.srcElems).data
  have admitted : (!h.enabled || h.ctx != y.ctx || decide (b1.partialSlots x > b1.sharedSlots x.slice) || w0.rangesBad) = false := by
    rw [slots, shared, decide_eq_false (not_lt.mpr room), show h.enabled = true from on, show h.ctx = y.ctx from own, show w0.rangesBad = false from fine]
    simp
  rw [if_neg (by rw [show b0.rb.colls.any _ = false from none_here]; simp), if_neg (by rw [show (_ || _ || _ || _) = false from admitted]; decide)]
  have loaded : SameReads b r.b := (started.trans reads).trans (ReadStep.readSource b1 y x w0.srcElems).reads
  refine ⟨d, k, ?_, ?_, ⟨?_, ?_, ?_, fun none_ => ?_⟩, rfl⟩
  · have stands : DataStep (b.begun y k) entered := read.enter k
    unfold d
    split
    · exact stands
    · exact (stands.trans (.ite (.rbFlag ..))).raise ..
  · unfold d
    split
    · exact loaded.mem
    · refine (RegLog.mem (RegLog.raise ..)).trans ?_
      split <;> exact loaded.mem
  · have first : k1.held = { startColl y x with x := (b.readSource y x w0.srcElems).vals, room := b.partialSlots x }.held := by rw [← vals, ← slots]; rfl
    rw [← first]
    unfold k
    split <;> rfl
  · unfold k
    split <;> rfl
  · unfold k
    split <;> rfl
  · have clean : r.sub = none := by
      rw [show r = b1.readSource y x 0 by rw [← none_]]
      rfl
    unfold k
    rw [clean]
    rfl

/-! ### A task works until it has ended -/

/-- A collective of the task `k` with the property `p` stands and the task runs, or the task has ended. -/
def Works (k : Nat) (p : Coll → Prop) (b : Block) : Prop :=
  ((∃ j ∈ b.rb.colls, j.ticket = k ∧ p j) ∧ TaskRuns b k) ∨ ∃ st u, EndedWith b k st u

theorem exists_of_map {π : Coll → Coll} {l m : List Coll} (h : l.map π = m.map π) {p : Coll → Prop} (hp : ∀ j, p (π j) ↔ p j) (some_ : ∃ j ∈ m, p j) :
    ∃ j ∈ l, p j := by
  obtain ⟨j, hj, pj⟩ := some_
  have mem := List.mem_map_of_mem (f := π) hj
  rw [← h] at mem
  obtain ⟨i, hi, e⟩ := List.mem_map.mp mem
  exact ⟨i, hi, (hp i).mp (e ▸ (hp j).mpr pj)⟩

/-- A collective that proceeds keeps working, or ends its task. -/
theorem Works.tryColl {k : Nat} {p : Coll → Prop} (hp : ∀ j : Coll, p j.held ↔ p j) {b : Block} (h : Works k p b) (t : Nat) : Works k p (b.tryColl t) := by
  rcases h with ⟨here, runs⟩ | ⟨st, u, ended⟩
  · have noted : ∀ {c : Block}, NoteStep t b c → (∃ j ∈ c.rb.colls, j.ticket = k ∧ p j) ∧ TaskRuns c k := fun n =>
      ⟨exists_of_map n.held (p := fun j => j.ticket = k ∧ p j) (fun j => and_congr_right fun _ => hp j) here, runs.of_disp (by rw [n.disp])⟩
    rcases b.tryColl_cases t with n | ⟨c, w, n, hw, eq⟩
    · exact .inl (noted n)
    · obtain ⟨⟨j, hj, ticket, pj⟩, y, hy, running⟩ := noted n
      have fin := Finished.finishColl c w
      rw [Block.work_ticket hw, ← eq] at fin
      obtain ⟨u, tasks⟩ := fin.tasks
      by_cases mine : k = t
      · subst mine
        exact .inr ⟨_, u, endedWith_of_tasks tasks (endedWith_endTask hy running _ u)⟩
      · refine .inl ⟨⟨j, ?_, ticket, pj⟩, y, ?_, running⟩
        · rw [fin.colls]
          exact List.mem_filter.mpr ⟨hj, by simp [ticket, mine]⟩
        · rw [Block.task?_of_tasks tasks, Block.endTask, Block.task?_setTask _ _ _ (fun y => by split <;> rfl), if_neg mine, hy]
  · exact .inr ⟨st, u, (SettleStep.tryColl b t).ended k st u ended⟩

/-! ### A task that waits (R286) -/

/-- Only what is held of a collective decides whether it is complete. -/
theorem Work.complete_of_held {v w : Work} (held : v.k.held = w.k.held) (hx : v.x = w.x) (hh : v.h = w.h) : v.complete = w.complete := by
  obtain ⟨j, x, h⟩ := v
  obtain ⟨i, x', h'⟩ := w
  dsimp only at held hx hh
  subst hx hh
  change (⟨j.held, x, h⟩ : Work).complete = (⟨i.held, x, h⟩ : Work).complete
  rw [held]

/-- The work `w` stands as it is but for what is noted of it, and its task is at work. -/
def Waits (k : Nat) (w : Work) (b : Block) : Prop :=
  (∃ v, b.work k = some v ∧ v.k.held = w.k.held ∧ v.x = w.x ∧ v.h = w.h) ∧ ∃ z, b.task? k = some z ∧ z.phase = .running ∧ z.stage = 1

theorem Block.work_of_parts {b c : Block} {k : Nat} (coll : c.coll? k = b.coll? k) (task : c.task? k = b.task? k) (cfgs : c.rb.cfgs = b.rb.cfgs) :
    c.work k = b.work k := by
  unfold Block.work
  rw [coll, task]
  split
  · rw [Block.cohort_of_cfgs cfgs]
  · rfl

/-- A collective that has not all that it waits for is noted at most. -/
theorem Block.tryColl_waits {b : Block} {t : Nat} {w : Work} (hw : b.work t = some w) (going : w.k.stopped = false) (lacks : w.complete = false) :
    NoteStep t b (b.tryColl t) := by
  rw [Block.tryColl_eq hw, going, lacks]
  simp only [Bool.false_eq_true, if_false, ite_self]
  exact .entering ..

theorem Waits.tryColl {k : Nat} {w : Work} (going : w.k.stopped = false) (lacks : w.complete = false) {b : Block} (h : Waits k w b) (t : Nat) :
    Waits k w (b.tryColl t) := by
  obtain ⟨⟨v, hv, held, hx, hh⟩, z, hz, runs⟩ := h
  by_cases mine : k = t
  · subst mine
    have n := Block.tryColl_waits hv (show v.k.held.stopped = false by rw [held]; exact going) ((Work.complete_of_held held hx hh).trans lacks)
    obtain ⟨u, hu, held', hx', hh'⟩ := n.work hv
    exact ⟨⟨u, hu, held'.trans held, hx'.trans hx, hh'.trans hh⟩, z, (Block.task?_of_disp n.disp k).trans hz, runs⟩
  · obtain ⟨coll, task⟩ := b.tryColl_other mine
    exact ⟨⟨v, (Block.work_of_parts coll task (SettleStep.tryColl b t).frame.cfgs).trans hv, held, hx, hh⟩, z, task.trans hz, runs⟩

/-! ### What a member does not have by itself (R279, R280, R286) -/

theorem Cohort.q_mul_g {h : Cohort} (even : h.n % h.g = 0) : h.q * h.g = h.n := Nat.div_mul_cancel (Nat.dvd_of_mod_eq_zero even)

section Alone
variable {h : Cohort} (more : 1 < h.n) (even : h.n % h.g = 0)
include more even

theorem Cohort.g_pos : 0 < h.g := by
  rcases Nat.eq_zero_or_pos h.g with zero | pos
  · rw [zero, Nat.mod_zero] at even
    omega
  · exact pos

/-- More than one member make more than one group or a group of more than one. -/
theorem Cohort.rings (group : h.g ≤ 1) (cross : h.q ≤ 1) : False := by
  have size := Cohort.q_mul_g even
  have small : h.q * h.g ≤ 1 * 1 := Nat.mul_le_mul cross group
  omega

/-- A member owns one of the shards. -/
theorem Cohort.shardOf_lt (inside : h.pos < h.n) : h.shardOf h.pos < h.n := by
  have g := Cohort.g_pos more even
  have size := Cohort.q_mul_g even
  have idx : h.pos % h.g + 1 ≤ h.g := Nat.mod_lt _ g
  have grp : h.pos / h.g < h.q := Nat.div_lt_of_lt_mul (by rw [Nat.mul_comm, size]; exact inside)
  calc h.shardOf h.pos = h.pos % h.g * h.q + h.pos / h.g := rfl
    _ < (h.pos % h.g + 1) * h.q := by rw [Nat.succ_mul]; omega
    _ ≤ h.g * h.q := Nat.mul_le_mul_right _ idx
    _ = h.n := by rw [Nat.mul_comm, size]

/-- A head that sends a BARRIER's record on at once has members below it or above it. -/
theorem Cohort.barrier_waits (head : h.isHead = true) (mates : h.mates.all ([] : List Nat).contains = true) (first : h.pos = 0)
    (heads : h.heads.all ([] : List Nat).contains = true) : False := by
  have none_of : ∀ l : List Nat, l.all ([] : List Nat).contains = true → l = [] := fun l hl => List.eq_nil_iff_forall_not_mem.mpr (fun x hx => by
    simpa using List.all_eq_true.mp hl x hx)
  refine Cohort.rings more even ?_ ?_
  · by_contra big
    have other : h.head + 1 ∈ h.mates := List.mem_filter.mpr ⟨List.mem_map.mpr ⟨1, List.mem_range.mpr (by omega), rfl⟩, by
      have : h.pos = h.head := by simpa [Cohort.isHead] using head
      simp [this]⟩
    rw [none_of _ mates] at other
    cases other
  · by_contra big
    have other : 1 * h.g ∈ h.heads := List.mem_filter.mpr ⟨List.mem_map.mpr ⟨1, List.mem_range.mpr (by omega), rfl⟩, by
      have := Cohort.g_pos more even
      simp [first]
      omega⟩
    rw [none_of _ heads] at other
    cases other

end Alone

/-- A reduction with no output has none of the elements of its member's own shard. -/
theorem Work.lacks_reduction {w : Work} (kind : w.x.kind ≤ 1) (own : 0 < w.shardSize w.own) (empty : w.k.out = []) : w.complete = false := by
  have undone : w.ownDone = false := by
    unfold Work.ownDone
    rw [empty]
    exact List.all_eq_false.mpr ⟨0, List.mem_range.mpr own, by simp [sget]⟩
  unfold Work.complete
  rw [if_neg (by omega), if_pos kind, undone]
  simp

theorem Work.lacks_copy {w : Work} (low : 1 < w.x.kind) (high : w.x.kind ≠ 5) (less : w.k.out.length < w.dstElems) : w.complete = false := by
  unfold Work.complete
  rw [if_neg high, if_neg (by omega)]
  exact decide_eq_false (not_le.mpr less)

theorem Work.lacks_barrier {w : Work} (kind : w.x.kind = 5) (waits : w.k.n0 = 0) : w.complete = false := by
  unfold Work.complete
  rw [if_pos kind, waits]
  rfl

/-- A gather and an exchange deliver a block of every member. -/
theorem Work.dstElems_blocks {w : Work} (kind : w.x.kind = 2 ∨ w.x.kind = 4) : w.dstElems = w.h.n * w.x.len := by
  unfold Work.dstElems
  rw [if_neg (by omega), if_pos kind]

theorem Work.dstElems_broadcast {w : Work} (kind : w.x.kind = 3) : w.dstElems = w.x.len := by
  unfold Work.dstElems
  rw [if_neg (by omega), if_neg (by omega), if_neg (by omega)]

/-- A gather reads one block. -/
theorem Work.srcElems_gather {w : Work} (kind : w.x.kind = 2) : w.srcElems = w.x.len := by
  unfold Work.srcElems
  rw [if_neg (by omega), if_neg (by omega), if_neg (by omega)]

theorem length_sput_le {α : Type} (l : List (Nat × α)) (n : Nat) (x : α) : (sput l n x).length ≤ l.length + 1 := by
  induction l with
  | nil => exact le_refl _
  | cons e l ih =>
    unfold sput
    split
    · exact le_refl _
    · split
      · exact Nat.le_succ _
      · exact Nat.succ_le_succ ih

theorem length_putOut_le (out : List (Nat × Option Nat)) (e : Nat) (vals : List Nat) : (putOut out e vals).length ≤ out.length + vals.length := by
  have each : ∀ (l : List (Nat × Nat)) (o : List (Nat × Option Nat)),
      (l.foldl (fun o v => sset none o (e + v.2) (some v.1)) o).length ≤ o.length + l.length := by
    intro l
    induction l with
    | nil => exact fun _ => le_refl _
    | cons v l ih =>
      intro o
      have one : (sset none o (e + v.2) (some v.1)).length ≤ o.length + 1 := length_sput_le ..
      rw [List.foldl_cons, List.length_cons]
      exact (ih _).trans (by omega)
  have all := each vals.zipIdx out
  rwa [List.length_zipIdx] at all

/-! ### The first sends complete nothing (R286) -/

/-- What a reduction with no final output holds. -/
def Coll.outputs (j : Coll) : Coll := { j.held with part := [], esc := [], n0 := 0, n1 := 0 }

section Begin
variable {c : Block} {w : Work} (alone : ∀ i ∈ c.rb.colls, i.ticket = w.k.ticket → i = w.k)
include alone

/-- What `π` shows of the collective of a work stays through its first sends. -/
theorem SendStep.shows {π : Coll → Coll} {d : Block} (h : SendStep π c d) {p : Coll → Prop}
    (hp : ∀ j, (π j).ticket = j.ticket ∧ (p (π j) ↔ p j)) (own : p w.k) :
    ∀ i ∈ d.rb.colls, i.ticket = w.k.ticket → p i :=
  h.forall_colls (p := fun j => j.ticket = w.k.ticket → p j) (fun j => by rw [(hp j).1, (hp j).2]) (fun i hi ticket => (alone i hi ticket).symm ▸ own)

/-- A reduction of more than one member has no output yet. -/
theorem startReduce_lacks (kind : w.x.kind ≤ 1) (more : 1 < w.h.n) (even : w.h.n % w.h.g = 0) (own : 0 < w.shardSize w.own) (empty : w.k.out = []) :
    ∀ i ∈ (c.startReduce w).rb.colls, i.ticket = w.k.ticket → (⟨i, w.x, w.h⟩ : Work).complete = false := by
  have sent : SendStep Coll.outputs c (c.startReduce w) := .startReduce (fun _ => rfl) c w (fun _ _ => rfl) (fun _ _ => rfl) (fun _ _ _ => rfl)
    (fun _ _ group cross => (Cohort.rings more even group cross).elim)
  intro i hi ticket
  exact Work.lacks_reduction kind own (sent.shows alone (p := fun j => j.out = []) (fun _ => ⟨rfl, Iff.rfl⟩) empty i hi ticket)

/-- A copy of more than one member has its own elements only. -/
theorem storeOut_lacks {d : Block} {e : Nat} {vals : List Nat} (low : 1 < w.x.kind) (high : w.x.kind ≠ 5) (empty : w.k.out = [])
    (less : vals.length < w.dstElems) (sent : SendStep Coll.held (c.storeOut w.k.ticket e vals) d) :
    ∀ i ∈ d.rb.colls, i.ticket = w.k.ticket → (⟨i, w.x, w.h⟩ : Work).complete = false := by
  have stored : ∀ i ∈ (c.storeOut w.k.ticket e vals).rb.colls, i.ticket = w.k.ticket → i.out.length ≤ vals.length := by
    refine forall_setColl (fun i hi ticket => ?_)
    have before : i.out = [] := by rw [alone i hi ticket, empty]
    change (putOut i.out e vals).length ≤ vals.length
    rw [before]
    simpa using length_putOut_le [] e vals
  have kept := sent.forall_colls (p := fun j => j.ticket = w.k.ticket → j.out.length ≤ vals.length) (fun _ => Iff.rfl) stored
  exact fun i hi ticket => Work.lacks_copy low high ((kept i hi ticket).trans_lt less)

/-- A BARRIER of more than one member waits for a record. -/
theorem barrierGo_lacks (kind : w.x.kind = 5) (more : 1 < w.h.n) (even : w.h.n % w.h.g = 0) (silent : w.k.heard = []) (waits : w.k.n0 = 0) :
    ∀ i ∈ (c.barrierGo w).rb.colls, i.ticket = w.k.ticket → (⟨i, w.x, w.h⟩ : Work).complete = false := by
  have sent : SendStep Coll.held c (c.barrierGo w) := .barrierGo light_held c w (fun head mates first heads => by
    rw [silent] at mates heads
    exact (Cohort.barrier_waits more even head mates first heads).elim)
  intro i hi ticket
  exact Work.lacks_barrier kind (sent.shows alone (p := fun j => j.n0 = 0) (fun _ => ⟨rfl, Iff.rfl⟩) waits i hi ticket)

/-- The first sends of a task of a cohort with more members, whose shards all hold elements, complete nothing. -/
theorem startSends_lacks (high : w.x.kind ≤ 5) (more : 1 < w.h.n) (even : w.h.n % w.h.g = 0) (inside : w.h.pos < w.h.n) (holds : w.x.kind = 5 ∨ 0 < w.x.len)
    (shards : w.x.kind ≤ 1 → ∀ i < w.h.n, 0 < w.shardSize i) (root : w.x.kind = 3 → w.x.root ≠ w.h.pos) (empty : w.k.out = []) (waits : w.k.n0 = 0)
    (silent : w.k.heard = []) (read : w.x.kind = 2 → w.k.x.length ≤ w.x.len) :
    ∀ i ∈ (c.startSends w).rb.colls, i.ticket = w.k.ticket → (⟨i, w.x, w.h⟩ : Work).complete = false := by
  have block : w.x.kind ≠ 5 → w.x.len < w.h.n * w.x.len := fun no => by
    have some_ : 0 < w.x.len := holds.resolve_left no
    nlinarith
  unfold Block.startSends
  dsimp only
  split
  · exact startReduce_lacks alone ‹_› more even (shards ‹_› _ (Cohort.shardOf_lt more even inside)) empty
  · split
    · refine storeOut_lacks alone (by omega) (by omega) empty ?_
        ((SendStep.ite (.of_queued (Queued.sendCopyTo ..))).trans (.ite (.of_queued (Queued.sendCopyTo ..))))
      rw [Work.dstElems_blocks (.inl ‹_›)]
      exact (read ‹_›).trans_lt (block (by omega))
    · split
      · rw [if_pos (root ‹_›)]
        intro i hi ticket
        rw [alone i hi ticket]
        change w.complete = false
        refine Work.lacks_copy (by omega) (by omega) ?_
        rw [empty, Work.dstElems_broadcast ‹_›]
        exact holds.resolve_left (by omega)
      · split
        · refine storeOut_lacks alone (by omega) (by omega) empty ?_ (.foldl (fun b p => .sendDirect light_held b ..) _ _)
          rw [Work.dstElems_blocks (.inr ‹_›)]
          exact (List.length_take_le ..).trans_lt (block (by omega))
        · exact barrierGo_lacks alone (by omega) more even silent waits

end Begin

/-! ### COLLECTIVE commands -/

theorem xCollective_begins {b : Block} {k kind : Nat} {y : Task} (start : b.starting k opCollective = some y) (hk : (colOf y.desc).kind = kind)
    (shed : b.gov.shed = false) : xCollective kind k b = b.contended (fun b => b.beginColl y) := by
  unfold xCollective
  simp only [start]
  rw [if_pos ⟨hk, by simp [shed]⟩]

/-- The command of a kind. -/
theorem exec_collective {k : Nat} {e : Instr × Nat}
    (he : e ∈ [(Instr.allReduce k, 0), (.reduceScatter k, 1), (.allGather k, 2), (.broadcast k, 3), (.allToAll k, 4), (.barrier k, 5)]) (s : State) :
    exec e.1 s = .next (s.run (xCollective e.2 k)) ∧ e.2 ≤ 5 := by
  simp only [List.mem_cons, List.not_mem_nil, or_false] at he
  rcases he with rfl | rfl | rfl | rfl | rfl | rfl <;> exact ⟨rfl, by dsimp only; omega⟩

/-- Nothing waits for memories where no counter moves. -/
theorem Block.contended_of_od {b : Block} {f : Block → Block} (h : (f b).od = b.od) : b.contended f = f b := by
  unfold Block.contended Block.contention Block.moved
  simp only [Block.reg_eq_of_od h, bne_self_eq_false, Bool.or_self, Bool.false_eq_true, if_false]
  rw [List.foldl_fixed, List.foldl_fixed]

/-- A task that its cohort refuses, and that is no bucket, ends at once. -/
theorem Block.beginColl_refuses {b : Block} {y : Task} {x : Col} (hx : x = colOf y.desc)
    (bad : (b.cohort x.cohort).enabled = false ∨ (b.cohort x.cohort).ctx ≠ y.ctx) (free : ∀ j ∈ b.rb.colls, j.slot ≠ x.cohort)
    (plain : x.acct = 0) (direct : x.dst = 0) :
    b.beginColl y = (b.setTask y.ticket (fun y => { y with stage := 1 })).endTask y.ticket sAddrFault (b.idleUnit x) := by
  have none_here : b.rb.colls.any (fun k => k.slot == x.cohort && k.seq == x.seq && k.step % 2 == y.step % 2) = false :=
    List.any_eq_false.mpr (fun j hj => by simp [free j hj])
  have closed : (!(b.cohort x.cohort).enabled || (b.cohort x.cohort).ctx != y.ctx) = true := by simpa using bad
  unfold Block.beginColl
  rw [← hx]
  extract_lets x' h b0 w0 refused b1
  rw [if_neg (by rw [show b0.rb.colls.any _ = false from none_here]; simp), if_pos (by rw [show (!h.enabled || h.ctx != y.ctx) = true from closed]; simp)]
  unfold b1 Block.refuseColl
  rw [if_neg (not_not.mpr plain), if_pos plain]
  dsimp only
  rw [if_neg (by rw [direct]; decide)]
  rfl

/-- The collective is the one that a task's descriptor names. -/
def Matches (k : Nat) (y : Task) (x : Col) (j : Coll) : Prop :=
  j.ticket = k ∧ j.slot = x.cohort ∧ j.seq = x.seq ∧ j.slice = x.slice ∧ j.ctx = y.ctx ∧ j.step = y.step

theorem Sourced.matches_ {b : Block} {y : Task} {x : Col} {j : Coll} {k : Nat} (h : Sourced b y x j) (ticket : y.ticket = k) : Matches k y x j := by
  have same : Matches k y x j.held := by
    rw [h.held]
    exact ⟨ticket, rfl, rfl, rfl, rfl, rfl⟩
  exact same

/-- A collective that has read its source has its values, and has not failed. -/
theorem Sourced.keeps {b : Block} {y : Task} {x : Col} {j : Coll} (h : Sourced b y x j) :
    j.x = (b.readSource y x (⟨startColl y x, x, b.cohort x.cohort⟩ : Work).srcElems).vals ∧ j.stopped = false ∧ j.out = [] ∧ j.n0 = 0 := by
  have held := h.held
  refine ⟨?_, ?_, ?_, ?_⟩
  · exact show j.held.x = _ by rw [held]; rfl
  · exact show j.held.stopped = false by rw [held]; rfl
  · exact show j.held.out = [] by rw [held]; rfl
  · exact show j.held.n0 = 0 by rw [held]; rfl

theorem Block.begun_task {b : Block} {k : Nat} {y : Task} (task : b.task? k = some y) (running : y.phase = .running) (j : Coll) :
    ∃ z, (b.begun y j).task? k = some z ∧ z.phase = .running ∧ z.stage = 1 ∧ z.desc = y.desc := by
  obtain rfl := Block.task?_ticket task
  have staged := b.task?_setTask y.ticket y.ticket (f := fun y => { y with stage := 1 }) (fun _ => rfl)
  rw [if_pos rfl, task] at staged
  exact ⟨_, staged, running, rfl, rfl⟩

theorem Block.coll?_setColl {b : Block} {t : Nat} {j : Coll} (h : b.coll? t = some j) {f : Coll → Coll} (ht : ∀ j, (f j).ticket = j.ticket) :
    (b.setColl t f).coll? t = some (f j) := by
  have same : ((fun j : Coll => j.ticket == t) ∘ fun j => if j.ticket == t then f j else j) = fun j => j.ticket == t := by
    funext j
    by_cases e : j.ticket = t <;> simp [e, ht]
  have ticket := List.find?_some h
  unfold Block.coll? at *
  rw [Block.setColl, List.find?_map, same, h, Option.map_some, if_pos ticket]

theorem Block.begun_coll {b c : Block} {k : Nat} {y : Task} {j : Coll} (begun : DataStep (b.begun y j) c) (fresh : ∀ j ∈ b.rb.colls, j.ticket ≠ k)
    (mine : j.ticket = k) : c.coll? k = some j := by
  have before : b.rb.colls.find? (fun i => i.ticket == k) = none := List.find?_eq_none.mpr (fun i hi => by simp [fresh i hi])
  unfold Block.coll?
  rw [begun.colls]
  change (b.rb.colls ++ [j]).find? _ = some j
  rw [List.find?_append, before, Option.none_or, List.find?_cons_of_pos (by simp [mine])]

/-- After its first sends a task of a cohort with more members waits. -/
theorem Sourced.startSends_waits {b c : Block} {k : Nat} {y : Task} {x : Col} {j : Coll} (sourced : Sourced b y x j)
    (begun : DataStep (b.begun y j) c) (hx : x = colOf y.desc) (task : b.task? k = some y) (running : y.phase = .running) (fresh : ∀ j ∈ b.rb.colls, j.ticket ≠ k) (high : x.kind ≤ 5)
    (more : 1 < (b.cohort x.cohort).n) (even : (b.cohort x.cohort).n % (b.cohort x.cohort).g = 0) (inside : (b.cohort x.cohort).pos < (b.cohort x.cohort).n)
    (holds : x.kind = 5 ∨ 0 < x.len) (shards : x.kind ≤ 1 → ∀ i < (b.cohort x.cohort).n, 0 < (⟨startColl y x, x, b.cohort x.cohort⟩ : Work).shardSize i)
    (root : x.kind = 3 → x.root ≠ (b.cohort x.cohort).pos) :
    ∃ v, Waits k v (c.startSends ⟨j, x, b.cohort x.cohort⟩) ∧ v.k.core = j.core ∧ v.complete = false := by
  have ticket := Block.task?_ticket task
  obtain ⟨mine, slot, -⟩ := sourced.matches_ ticket
  obtain ⟨vals, going, empty, zero⟩ := sourced.keeps
  have sent := SendStep.startSends c ⟨j, x, b.cohort x.cohort⟩
  have alone : ∀ i ∈ c.rb.colls, i.ticket = j.ticket → i = j := by
    rw [begun.colls]
    intro i hi same
    rcases List.mem_append.mp hi with old | new
    · exact absurd (same.trans mine) (fresh i old)
    · exact List.mem_singleton.mp new
  have lacks := startSends_lacks (w := ⟨j, x, b.cohort x.cohort⟩) alone high more even inside holds shards root empty zero sourced.heard (fun kind => by
    rw [show j.x = _ from vals, Block.readSource_vals, List.length_map, List.length_range]
    exact (Work.srcElems_gather kind).le)
  have found := Block.begun_coll begun fresh mine
  have shown := Block.coll?_of_map (π := Coll.core) (fun _ => rfl) sent.kept k
  rw [found] at shown
  obtain ⟨i, hi, core⟩ := Option.map_eq_some_iff.mp shown
  obtain ⟨z, hz, runs, stage, desc⟩ := Block.begun_task task running j
  have task' : (c.startSends ⟨j, x, b.cohort x.cohort⟩).task? k = some z := (Block.task?_of_disp (sent.disp.trans begun.disp) k).trans hz
  have cohort : (c.startSends ⟨j, x, b.cohort x.cohort⟩).cohort i.slot = b.cohort x.cohort := by
    rw [show i.slot = x.cohort from (show i.core.slot = j.core.slot by rw [core]).trans slot]
    exact Block.cohort_of_cfgs (sent.cfgs.trans begun.cfgs) _
  refine ⟨⟨i, x, b.cohort x.cohort⟩, ⟨⟨_, ?_, rfl, rfl, rfl⟩, z, task', runs, stage⟩, core,
    lacks i (List.mem_of_find?_eq_some hi) ((Block.coll?_ticket hi).trans mine.symm)⟩
  unfold Block.work
  simp only [hi, task', cohort, desc, ← hx]

section Begins
variable {s : State} {k : Nat} {y : Task} {x : Col} {w : Work} {i : Instr} (run : exec i s = .next (s.run (xCollective x.kind k)))
  (start : s.toBlock.starting k opCollective = some y) (hx : x = colOf y.desc) (shed : s.gov.shed = false)
  (hw : w = ⟨startColl y x, x, s.toBlock.cohort x.cohort⟩)
include run start hx shed

/-- What `beginColl` leaves, with the waiting for memories counted. -/
theorem begins_goes {P : State → Prop} (hp : ∀ d, DrawOnly (s.toBlock.beginColl y) d → P { s with toBlock := Machine.settle d }) : Goes (exec i s) P := by
  rw [run]
  exact goes_run_eq (xCollective_begins start (congrArg Col.kind hx.symm) shed) (hp _ (DrawOnly.contended rfl))

section Admitted
variable (on : (s.toBlock.cohort x.cohort).enabled = true) (own : (s.toBlock.cohort x.cohort).ctx = y.ctx)
  (room : s.toBlock.partialSlots x ≤ s.toBlock.sharedSlots x.slice) (fine : w.rangesBad = false) (free : ∀ j ∈ s.rb.colls, j.slot ≠ x.cohort)
include hw on own room fine free

/-- A task that its cohort admits works on its slice, or has ended. -/
theorem admitted_goes : Goes (exec i s) fun t =>
    ((∃ j ∈ t.rb.colls, j.ticket = k ∧ j.slot = x.cohort ∧ j.seq = x.seq ∧ j.slice = x.slice ∧ j.ctx = y.ctx ∧ j.step = y.step)
      ∨ ∃ st u, EndedWith t.toBlock k st u)
      ∧ t.dt = s.dt ∧ t.emith = s.emith ∧ t.plz = s.plz := by
  subst hw
  obtain ⟨task, running, -⟩ := Block.starting_eq_some start
  have ticket := Block.task?_ticket task
  obtain ⟨c, j, begun, -, sourced, eq⟩ := Block.beginColl_admits hx on own room fine free
  refine begins_goes run start hx shed (fun d drawn => ?_)
  rw [eq] at drawn
  have sent := SendStep.startSends c ⟨j, x, s.toBlock.cohort x.cohort⟩
  have settled := SettleStep.settleColls (c.startSends ⟨j, x, s.toBlock.cohort x.cohort⟩) y.ctx
  have identity : Matches k y x j := sourced.matches_ ticket
  have works : Works k (Matches k y x) (c.startSends ⟨j, x, s.toBlock.cohort x.cohort⟩) := by
    refine .inl ⟨exists_of_map sent.kept (p := fun j => j.ticket = k ∧ Matches k y x j) (fun _ => Iff.rfl) ?_, ?_⟩
    · rw [begun.colls]
      exact ⟨j, List.mem_append_right _ (List.mem_singleton.mpr rfl), identity.1, identity⟩
    · obtain ⟨z, hz, runs, -⟩ := Block.begun_task task running j
      exact ⟨z, (Block.task?_of_disp (sent.disp.trans begun.disp) k).trans hz, runs⟩
  have all := ((Bystanders.of_data begun).trans (.of_send sent)).trans ((Bystanders.of_settle settled).trans (.of_drawOnly drawn))
  refine ⟨?_, all.dt, all.emith, all.plz⟩
  rcases Block.settleColls_has (Works k (Matches k y x)) (fun _ t h => h.tryColl (fun _ => Iff.rfl) t) y.ctx works with ⟨⟨j, hj, -, same⟩, -⟩ | ⟨st, u, ended⟩
  · exact .inl ⟨j, by rw [← DataStep.colls (.of_drawOnly drawn)] at hj; exact hj, same⟩
  · exact .inr ⟨st, u, endedWith_of_disp drawn.disp ended⟩

/-- With more members in the cohort, and elements in every shard, it waits for their parcels. -/
theorem waiting_goes (fresh : ∀ j ∈ s.rb.colls, j.ticket ≠ k) (high : x.kind ≤ 5) (more : 1 < (s.toBlock.cohort x.cohort).n)
    (even : (s.toBlock.cohort x.cohort).n % (s.toBlock.cohort x.cohort).g = 0) (inside : (s.toBlock.cohort x.cohort).pos < (s.toBlock.cohort x.cohort).n)
    (holds : x.kind = 5 ∨ 0 < x.len) (shards : x.kind ≤ 1 → ∀ i < (s.toBlock.cohort x.cohort).n, 0 < w.shardSize i)
    (root : x.kind = 3 → x.root ≠ (s.toBlock.cohort x.cohort).pos) : Goes (exec i s) fun t =>
      (∃ j ∈ t.rb.colls, j.ticket = k ∧ j.slot = x.cohort ∧ j.seq = x.seq ∧ j.step = y.step
        ∧ j.x = (s.toBlock.readSource y x w.srcElems).vals ∧ j.stopped = false)
        ∧ (∃ z, t.toBlock.task? k = some z ∧ z.phase = .running ∧ z.stage = 1) ∧ ∃ l, t.rb.tx = s.rb.tx ++ l := by
  subst hw
  obtain ⟨task, running, -⟩ := Block.starting_eq_some start
  have ticket := Block.task?_ticket task
  obtain ⟨c, j, begun, -, sourced, eq⟩ := Block.beginColl_admits hx on own room fine free
  refine begins_goes run start hx shed (fun d drawn => ?_)
  rw [eq] at drawn
  obtain ⟨vals, going, -, -⟩ := sourced.keeps
  have identity := sourced.matches_ ticket
  obtain ⟨v, waits, core, lacks⟩ := sourced.startSends_waits begun hx task running fresh high more even inside holds shards root
  have sent := SendStep.startSends c ⟨j, x, s.toBlock.cohort x.cohort⟩
  have settled := SettleStep.settleColls (c.startSends ⟨j, x, s.toBlock.cohort x.cohort⟩) y.ctx
  have still := Block.settleColls_has (Waits k v) (fun _ t h => h.tryColl (show v.k.core.stopped = false by rw [core]; exact going) lacks t) y.ctx waits
  obtain ⟨⟨u, hu, held, -, -⟩, z, hz, runs⟩ := still
  obtain ⟨i, _, hi, -, rfl⟩ := Block.work_eq hu
  have shown : i.core = j.core := (congrArg Coll.core held : i.held.core = v.k.held.core).trans core
  have named : Matches k y x i.core := by
    rw [shown]
    exact identity
  obtain ⟨mine, slot, seq, -, -, step⟩ := named
  have data := DataStep.of_drawOnly drawn
  refine ⟨⟨i, ?_, mine, slot, seq, step, ?_, ?_⟩, ⟨z, (Block.task?_of_disp drawn.disp k).trans hz, runs⟩, ?_⟩
  · have mem := List.mem_of_find?_eq_some hi
    rw [← data.colls] at mem
    exact mem
  · exact (show i.core.x = j.core.x by rw [shown]).trans vals
  · exact (show i.core.stopped = j.core.stopped by rw [shown]).trans going
  · obtain ⟨l, hl⟩ := sent.sends
    refine ⟨l, (data.tx.trans settled.frame.tx).trans (hl.trans ?_)⟩
    rw [begun.tx]
    rfl

end Admitted

/-- A task whose slot is disabled or another context's ends ADDR_FAULT, with nothing sent (R286, R288). -/
theorem refused_goes (bad : (s.toBlock.cohort x.cohort).enabled = false ∨ (s.toBlock.cohort x.cohort).ctx ≠ y.ctx) (free : ∀ j ∈ s.rb.colls, j.slot ≠ x.cohort)
    (plain : x.acct = 0) (direct : x.dst = 0) : Goes (exec i s) fun t =>
      EndedWith t.toBlock k sAddrFault (s.toBlock.idleUnit x) ∧ t.rb.tx = s.rb.tx ∧ t.mem = s.mem ∧ RegsKept [] s.toBlock t.toBlock := by
  obtain ⟨task, running, -⟩ := Block.starting_eq_some start
  have ticket := Block.task?_ticket task
  have ends := Block.beginColl_refuses hx bad free plain direct
  rw [run]
  have kept : s.toBlock.contended (fun b => b.beginColl y) = s.toBlock.beginColl y := Block.contended_of_od (by rw [ends]; rfl)
  have staged := s.toBlock.task?_setTask k k (f := fun y => { y with stage := 1 }) (fun _ => rfl)
  rw [if_pos rfl, task] at staged
  rw [ticket] at ends
  refine goes_run_eq ((xCollective_begins start (congrArg Col.kind hx.symm) shed).trans (kept.trans ends)) ⟨?_, rfl, rfl, fun _ _ _ => rfl⟩
  exact endedWith_endTask (b := s.toBlock.setTask k _) staged running sAddrFault _

end Begins

/-! ### A BARRIER of one member (R286) -/

theorem Block.startSends_barrier {b : Block} {w : Work} (kind : w.x.kind = 5) : b.startSends w = b.barrierGo w := by
  unfold Block.startSends
  rw [if_neg (by omega), if_neg (by omega), if_neg (by omega), if_neg (by omega)]

/-- A BARRIER whose record has been passed on and has come back. -/
def Coll.released (j : Coll) : Coll := { j with passed := true, n0 := 1 }

/-- A BARRIER of one member has all its records at once. -/
theorem Block.barrierGo_one {c : Block} {w : Work} (n : w.h.n = 1) (g : w.h.g = 1) (pos : w.h.pos = 0) (fresh : w.k.passed = false) :
    c.barrierGo w = c.setColl w.k.ticket Coll.released := by
  have head : w.h.isHead = true := by simp [Cohort.isHead, Cohort.head, Cohort.grp, pos]
  have mates : w.h.mates = [] := by simp [Cohort.mates, Cohort.head, Cohort.grp, pos, g]
  have heads : w.h.heads = [] := by simp [Cohort.heads, Cohort.q, pos, n, g]
  unfold Block.barrierGo
  simp only [fresh, head, mates, heads, pos, List.all_nil, List.append_nil, List.foldl_nil, Bool.not_true, Bool.false_eq_true, if_false,
    ne_eq, not_true_eq_false]
  rfl

/-- A BARRIER that has its records ends, with nothing written. -/
theorem Block.tryColl_barrier {b : Block} {t : Nat} {w : Work} (hw : b.work t = some w) (kind : w.x.kind = 5) (plain : w.x.acct = 0) (direct : w.x.dst = 0)
    (going : w.k.stopped = false) (done : 1 ≤ w.k.n0) (clean : w.k.status = sOK) : b.tryColl t = b.closeColl w := by
  have still : b.entering w t = b := if_neg (by simp [Block.enters, plain])
  have complete : w.complete = true := by
    unfold Work.complete
    rw [if_pos kind]
    exact decide_eq_true done
  have empty : w.result = [] := by
    unfold Work.result Work.dstElems
    rw [if_neg (by omega), if_neg (by omega), if_neg (by omega), if_pos kind]
    rfl
  have written : b.writeResult w w.result = b := by
    unfold Block.writeResult
    rw [empty, if_neg (by omega)]
    rfl
  rw [Block.tryColl_eq hw, still, written, plain, going, complete]
  unfold Block.closing
  rw [hw]
  exact (Block.finishColl_eq b w).trans (if_pos clean)

/-- A context with one collective proceeds twice at most. -/
theorem Block.settleColls_one {b : Block} {ctx k : Nat} (one : (b.rb.colls.filter (fun j => j.ctx == ctx)).map (·.ticket) = [k]) :
    b.settleColls ctx = (b.tryColl k).tryColl k := by
  unfold Block.settleColls
  rw [one]
  rfl

/-- A collective that has ended is not at work. -/
theorem Block.work_closeColl {b : Block} {w : Work} : (b.closeColl w).work w.k.ticket = none := by
  have gone : (b.closeColl w).coll? w.k.ticket = none := List.find?_eq_none.mpr (fun j hj => by simpa using (List.mem_filter.mp hj).2)
  unfold Block.work
  rw [gone]

theorem endedWith_closeColl {b : Block} {k st : Nat} {w : Work} {z : Task} (ticket : w.k.ticket = k) (task : b.task? k = some z) (runs : z.phase = .running)
    (status : w.k.status = st) : EndedWith (b.closeColl w) k st w.unit := by
  unfold Block.closeColl
  rw [ticket, status]
  exact endedWith_of_disp (b := b.endTask k st w.unit) rfl (endedWith_endTask task runs st w.unit)

theorem Block.settleColls_barrier {b : Block} {ctx k : Nat} {w : Work} (one : (b.rb.colls.filter (fun j => j.ctx == ctx)).map (·.ticket) = [k])
    (hw : b.work k = some w) (kind : w.x.kind = 5) (plain : w.x.acct = 0) (direct : w.x.dst = 0) (going : w.k.stopped = false) (done : 1 ≤ w.k.n0)
    (clean : w.k.status = sOK) : b.settleColls ctx = b.closeColl w := by
  have after := Block.work_closeColl (b := b) (w := w)
  rw [Block.work_ticket hw] at after
  rw [Block.settleColls_one one, Block.tryColl_barrier hw kind plain direct going done clean, Block.tryColl_none after]

/-- A BARRIER of a cohort of one ends OK at once. -/
theorem barrierOfOne_goes {s : State} {k : Nat} {y : Task} {x : Col} (start : s.toBlock.starting k opCollective = some y) (hx : x = colOf y.desc)
    (kind : x.kind = 5) (shed : s.gov.shed = false) (plain : x.acct = 0) (direct : x.dst = 0) (on : (s.toBlock.cohort x.cohort).enabled = true)
    (own : (s.toBlock.cohort x.cohort).ctx = y.ctx) (n : (s.toBlock.cohort x.cohort).n = 1) (g : (s.toBlock.cohort x.cohort).g = 1)
    (pos : (s.toBlock.cohort x.cohort).pos = 0) (free : ∀ j ∈ s.rb.colls, j.slot ≠ x.cohort) (only : ∀ j ∈ s.rb.colls, j.ctx ≠ y.ctx)
    (fresh : ∀ j ∈ s.rb.colls, j.ticket ≠ k) : Goes (exec (.barrier k) s) fun t =>
      (∃ u, EndedWith t.toBlock k sOK u) ∧ (∀ j ∈ t.rb.colls, j.ticket ≠ k) ∧ t.rb.tx = s.rb.tx ∧ t.mem = s.mem := by
  obtain ⟨task, running, -⟩ := Block.starting_eq_some start
  have ticket := Block.task?_ticket task
  have room : s.toBlock.partialSlots x ≤ s.toBlock.sharedSlots x.slice := by
    unfold Block.partialSlots
    rw [if_pos (by omega)]
    exact Nat.zero_le _
  have fine : (⟨startColl y x, x, s.toBlock.cohort x.cohort⟩ : Work).rangesBad = false := by simp [Work.rangesBad, kind]
  obtain ⟨c, j, begun, mem, sourced, eq⟩ := Block.beginColl_admits hx on own room fine free
  obtain ⟨mine, slot, -, -, ctx, -⟩ := sourced.matches_ ticket
  obtain ⟨-, going, -, -⟩ := sourced.keeps
  have clean := sourced.status (by simp [Work.srcElems, kind])
  have sends : c.startSends ⟨j, x, s.toBlock.cohort x.cohort⟩ = c.setColl k Coll.released := by
    rw [Block.startSends_barrier kind, Block.barrierGo_one n g pos sourced.passed, mine]
  obtain ⟨z, hz, runs, -, desc⟩ := Block.begun_task task running j
  rw [sends] at eq
  have found := Block.coll?_setColl (Block.begun_coll begun fresh mine) (f := Coll.released) (fun _ => rfl)
  have task' : (c.setColl k Coll.released).task? k = some z := (Block.task?_of_disp begun.disp k).trans hz
  have work : (c.setColl k Coll.released).work k = some ⟨j.released, x, s.toBlock.cohort x.cohort⟩ := by
    have cohort : (c.setColl k Coll.released).cohort j.released.slot = s.toBlock.cohort x.cohort := by
      rw [show j.released.slot = x.cohort from slot]
      exact Block.cohort_of_cfgs begun.cfgs _
    unfold Block.work
    simp only [found, task', desc, ← hx, cohort]
  have one : ((c.setColl k Coll.released).rb.colls.filter (fun i => i.ctx == y.ctx)).map (·.ticket) = [k] := by
    have others : s.rb.colls.filter ((fun i => i.ctx == y.ctx) ∘ fun i => if i.ticket == k then i.released else i) = [] :=
      List.filter_eq_nil_iff.mpr (fun i hi => by simp [fresh i hi, only i hi])
    rw [Block.setColl, begun.colls]
    change (((s.rb.colls ++ [j]).map _).filter _).map _ = _
    rw [List.filter_map, List.filter_append, others]
    simp [mine, ctx, Coll.released]
  rw [Block.settleColls_barrier one work kind plain direct going (le_refl 1) clean] at eq
  refine begins_goes (by rw [kind]; rfl) start hx shed (fun d drawn => ?_)
  rw [eq] at drawn
  have data := DataStep.of_drawOnly drawn
  have gone : ∀ i ∈ ((c.setColl k Coll.released).closeColl ⟨j.released, x, s.toBlock.cohort x.cohort⟩).rb.colls, i.ticket ≠ k := fun i hi => by
    have kept := (List.mem_filter.mp hi).2
    rw [show (⟨j.released, x, s.toBlock.cohort x.cohort⟩ : Work).k.ticket = k from mine] at kept
    simpa using kept
  rw [← data.colls] at gone
  have ended := endedWith_closeColl (w := ⟨j.released, x, s.toBlock.cohort x.cohort⟩) mine task' runs clean
  exact ⟨⟨_, endedWith_of_disp drawn.disp ended⟩, gone, data.tx.trans begun.tx, drawn.mem.trans mem⟩

/-! ### RB_TIMEOUT (R298) -/

/-- The task of `k` has failed as a timeout, and its collective stands. -/
def TimedOut (k : Nat) (b : Block) : Prop :=
  (∃ w, b.work k = some w ∧ w.k.stopped = true ∧ w.k.status = sTimeout ∧ w.x.acct = 0) ∧ TaskRuns b k

/-- The task of `k` has ended as a timeout, and its collective is gone. -/
def Expired (k : Nat) (b : Block) : Prop := (∃ u, EndedWith b k sTimeout u) ∧ ∀ j ∈ b.rb.colls, j.ticket ≠ k

theorem TimedOut.other {k t : Nat} {b : Block} (ne : t ≠ k) (h : TimedOut k b) : TimedOut k (b.tryColl t) := by
  obtain ⟨⟨w, hw, failed⟩, z, hz, runs⟩ := h
  obtain ⟨coll, task⟩ := b.tryColl_other ne.symm
  exact ⟨⟨w, (Block.work_of_parts coll task (SettleStep.tryColl b t).frame.cfgs).trans hw, failed⟩, z, task.trans hz, runs⟩

/-- A task that has failed and is no bucket ends when it proceeds. -/
theorem TimedOut.turn {k : Nat} {b : Block} (h : TimedOut k b) : Expired k (b.tryColl k) := by
  obtain ⟨⟨w, hw, stopped, status, plain⟩, z, hz, runs⟩ := h
  have ends : b.tryColl k = b.finishColl w := by
    rw [Block.tryColl_eq hw, stopped, plain]
    have still : b.entering w k = b := if_neg (by simp [Block.enters, plain])
    rw [still]
    unfold Block.closing
    rw [hw]
    rfl
  have fin := Finished.finishColl b w
  rw [Block.work_ticket hw, status, ← ends] at fin
  obtain ⟨u, tasks⟩ := fin.tasks
  refine ⟨⟨u, endedWith_of_tasks tasks (endedWith_endTask hz runs sTimeout u)⟩, fun j hj => ?_⟩
  rw [fin.colls] at hj
  simpa using (List.mem_filter.mp hj).2

theorem Expired.stays {k : Nat} {b : Block} (h : Expired k b) (t : Nat) : Expired k (b.tryColl t) := by
  obtain ⟨⟨u, ended⟩, gone⟩ := h
  have step := SettleStep.tryColl b t
  exact ⟨⟨u, step.ended k _ u ended⟩, step.forall_colls (p := fun j => j.ticket ≠ k) (fun _ => Iff.rfl) gone⟩

/-- A collective that has failed as a timeout of the task `k`. -/
def Coll.timedOut (j : Coll) (k : Nat) : Coll := { j with status := sTimeout, origin := k, stopped := true }

/-- What RB_TIMEOUT does to a task before it proceeds: it fails, sends nothing more, and is told of (R298). -/
def Block.timeOut (b : Block) (k : Nat) (w : Work) : Block :=
  ((b.setColl k (fun j => j.timedOut k)).dropSends w).raise 0x8372 w.k.ctx []

theorem Block.timeOut_fails {b : Block} {k : Nat} {w : Work} (hw : b.work k = some w) (runs : TaskRuns b k) (plain : w.x.acct = 0) :
    TimedOut k (b.timeOut k w) ∧ ∃ j ∈ (b.timeOut k w).rb.colls, j.ctx = w.k.ctx ∧ j.ticket = k := by
  have told := RegLog.raise ((b.setColl k (fun j => j.timedOut k)).dropSends w) 0x8372 w.k.ctx []
  change RegLog _ (b.timeOut k w) at told
  obtain ⟨j, y, hj, hy, eq⟩ := Block.work_eq hw
  have coll : w.k = j := by rw [eq]
  have plain' : (colOf y.desc).acct = 0 := by rwa [eq] at plain
  have found : (b.timeOut k w).coll? k = some (j.timedOut k) := by
    unfold Block.coll?
    rw [told.rb]
    exact Block.coll?_setColl hj (f := fun j => j.timedOut k) (fun _ => rfl)
  have task := (Block.task?_of_disp told.disp k).trans hy
  have work : (b.timeOut k w).work k = some ⟨j.timedOut k, colOf y.desc, (b.timeOut k w).cohort (j.timedOut k).slot⟩ := by
    unfold Block.work
    simp only [found, task]
  exact ⟨⟨⟨_, work, rfl, rfl, plain'⟩, runs.of_disp (by rw [told.disp]; rfl)⟩, _, List.mem_of_find?_eq_some found, by rw [coll]; rfl, Block.coll?_ticket found⟩

/-- A task that waits too long ends TIMEOUT, and sends nothing more. -/
theorem rbTimeout_goes {s : State} {k : Nat} {w : Work} {y : Task} (hw : s.toBlock.work k = some w) (task : s.toBlock.task? k = some y)
    (running : y.phase = .running) (going : w.k.stopped = false) (lacks : w.complete = false) (shed : s.gov.shed = false) (plain : w.x.acct = 0)
    (late : w.k.since + s.toBlock.shedSince w.k.since + 10 ^ 6 * s.reg Od.rbHopTimeoutMs 0 ≤ s.dt) : Goes (exec (.rbTimeout k) s) fun t =>
      (∃ u, EndedWith t.toBlock k sTimeout u) ∧ (∀ j ∈ t.rb.colls, j.ticket ≠ k) ∧ t.rb.tx = (s.toBlock.dropSends w).rb.tx := by
  have fails : xRbTimeout k s.toBlock = (s.toBlock.timeOut k w).settleColls w.k.ctx := by
    unfold xRbTimeout
    simp only [hw]
    rw [decide_eq_false (not_lt.mpr late), if_neg (by simp [shed, going, lacks]), if_neg (not_not.mpr plain)]
    rfl
  have tx : (s.toBlock.timeOut k w).rb.tx = (s.toBlock.dropSends w).rb.tx := by
    unfold Block.timeOut
    rw [RegLog.rb (RegLog.raise ..)]
    rfl
  obtain ⟨timed, here⟩ := Block.timeOut_fails hw ⟨y, task, running⟩ plain
  generalize s.toBlock.timeOut k w = c at *
  obtain ⟨ended, gone⟩ := Block.settleColls_reaches (fun _ _ ne h => TimedOut.other ne h) (fun _ h => h.turn) (fun _ t h => Expired.stays h t) here timed
  exact goes_run_eq fails ⟨ended, gone, (SettleStep.settleColls c w.k.ctx).frame.tx.trans tx⟩

/-! ### The statement -/

/-- Settles O29, clause by clause: a task that its cohort admits works (`Works`) or waits (`Waits`), and one that has failed ends (`Expired`). -/
theorem collectives : Obligations.Collectives := by
  unfold Obligations.Collectives
  refine ⟨fun s k y x h w e he start hx kind shed hh hw => ?_, fun s k y x start hx kind shed plain direct on own n g pos free only fresh =>
    barrierOfOne_goes start hx kind shed plain direct on own n g pos free only fresh,
    fun s k w y hw task running going lacks shed plain late => rbTimeout_goes hw task running going lacks shed plain late⟩
  subst hh
  obtain ⟨run, high⟩ := exec_collective he s
  rw [← kind] at run high
  refine ⟨fun on own room fine free fresh => ⟨admitted_goes run start hx shed hw on own room fine free, fun more even inside holds shards root =>
    waiting_goes run start hx shed hw on own room fine free fresh high more even inside holds shards root⟩, fun bad free plain direct => ?_⟩
  exact refused_goes run start hx shed bad free plain direct

end Sys2Proof.Machine
end

section
/-! PROOFS. Frames at a port: pauses, discards, and the frames of neighbour resolution (R313 to R318, R428). -/

namespace Sys2Proof.Machine

/-! ### Fields of a header with a new time stamp (R318) -/

theorem bits_lt (x hi lo : Nat) : bits x hi lo < 2 ^ (hi + 1 - lo) := Nat.mod_lt _ (by positivity)

/-- A header with another TX_TS holds that time stamp, and its other fields as before. -/
theorem bits_stampHeader (h : BitVec 256) (t : Nat) : bits (stampHeader h t) 111 64 = t % 2 ^ 48
    ∧ bits (stampHeader h t) 255 112 = bits h.toNat 255 112 ∧ bits (stampHeader h t) 63 0 = bits h.toNat 63 0 := by
  have high := bits_lt h.toNat 255 112
  have low := bits_lt h.toNat 63 0
  unfold stampHeader
  generalize bits h.toNat 255 112 = x at high
  generalize bits h.toNat 63 0 = y at low
  simp only [bits, at', Nat.shiftRight_eq_div_pow, Nat.shiftLeft_eq]
  norm_num at high low ⊢
  omega

theorem stampHeader_lt (h : BitVec 256) (t : Nat) : stampHeader h t < 2 ^ 256 := by
  have high := bits_lt h.toNat 255 112
  have low := bits_lt h.toNat 63 0
  unfold stampHeader
  generalize bits h.toNat 255 112 = x at high
  generalize bits h.toNat 63 0 = y at low
  simp only [at', Nat.shiftLeft_eq]
  norm_num at high low ⊢
  omega

/-- A frame that leaves at another DT carries the time stamp of that DT. -/
theorem WireFrame.leaveAt_header {f : WireFrame} {t : Nat} (h : f.leaves ≠ t) :
    (f.leaveAt t).leaves = t ∧ (f.leaveAt t).pkt.header = BitVec.ofNat 256 (stampHeader f.pkt.header t) := by
  unfold WireFrame.leaveAt
  rw [if_neg h]
  refine ⟨rfl, ?_⟩
  dsimp only
  split <;> rfl

theorem leaveAt_stamped (f : WireFrame) (d : Nat) (h : f.leaves ≠ d) : (f.leaveAt d).leaves = d ∧ bits (f.leaveAt d).pkt.header.toNat 111 64 = d % 2 ^ 48
    ∧ bits (f.leaveAt d).pkt.header.toNat 255 112 = bits f.pkt.header.toNat 255 112 ∧ bits (f.leaveAt d).pkt.header.toNat 63 0 = bits f.pkt.header.toNat 63 0 := by
  obtain ⟨leaves, header⟩ := f.leaveAt_header h
  rw [header, BitVec.toNat_ofNat, Nat.mod_eq_of_lt (stampHeader_lt ..)]
  exact ⟨leaves, bits_stampHeader ..⟩

/-! ### PFC_PAUSE_FRAME (R314) -/

section Pause
variable {b : Block} {code : Nat} {quanta : List Nat}

/-- DT until which a pause of the PCP of FAB_VLAN holds an interface. -/
def Block.pausedTo (b : Block) (code : Nat) (quanta : List Nat) : Nat :=
  if nth 0 quanta (pcpOf (b.reg Od.fabVlan 0)) = 0 then 0 else b.dt + ceilDiv (512 * nth 0 quanta (pcpOf (b.reg Od.fabVlan 0))) (ifaceGbps code)

/-- A pause in force moves what waits on its interface, and nothing else but the record of it. -/
theorem xPfc_pauses (on : b.reg Od.fabPfcEnable 0 = 1) (receives : b.receives (portOf code) = true)
    (runs : isHost (portOf code) = true ∨ code ∈ b.ifacesOf (portOf code)) : ∃ free nd, xPfc code quanta b = { b with emith := { b.emith with
      paused := sset 0 b.emith.paused code (b.pausedTo code quanta), txFree := free, ndTx := nd,
      wire := b.emith.wire.map (fun f => if f.iface == code then
        f.leaveAt (shifted b.dt (b.pauseEnd code) (max b.dt (b.pausedTo code quanta)) f.leaves) else f) } } := by
  unfold xPfc
  dsimp only
  rw [if_neg (by simpa [on, receives, ← Bool.not_eq_true, imp_iff_not_or] using runs)]
  exact ⟨_, _, rfl⟩

theorem xPfc_ignored (no : b.reg Od.fabPfcEnable 0 ≠ 1 ∨ b.receives (portOf code) = false
    ∨ (isHost (portOf code) = false ∧ code ∉ b.ifacesOf (portOf code))) : xPfc code quanta b = b := by
  unfold xPfc
  dsimp only
  rw [if_pos (by simpa [or_assoc] using no)]

end Pause

theorem pfcPause_goes (s : State) (i q : Nat) (quanta : List Nat) (on : s.reg Od.fabPfcEnable 0 = 1) (receives : s.toBlock.receives (portOf i) = true)
    (runs : isHost (portOf i) = true ∨ i ∈ s.toBlock.ifacesOf (portOf i)) (hq : q = nth 0 quanta (pcpOf (s.reg Od.fabVlan 0))) :
    Goes (exec (.pfcPauseFrame i quanta) s) fun t =>
      sget 0 t.emith.paused i = (if q = 0 then 0 else s.dt + ceilDiv (512 * q) (ifaceGbps i)) ∧ (∀ k, k ≠ i → sget 0 t.emith.paused k = sget 0 s.emith.paused k)
      ∧ t.emith.wire = s.emith.wire.map (fun f => if f.iface = i then f.leaveAt (shifted s.dt (s.toBlock.pauseEnd i) (t.toBlock.pauseEnd i) f.leaves) else f)
      ∧ t.emith.tx = s.emith.tx ∧ t.dt = s.dt ∧ RegsKept [] s.toBlock t.toBlock := by
  obtain ⟨free, nd, eq⟩ := xPfc_pauses (quanta := quanta) on receives runs
  have paused : sget 0 (sset 0 s.emith.paused i (s.toBlock.pausedTo i quanta)) i = s.toBlock.pausedTo i quanta := sget_sset_self ..
  refine goes_run_eq eq ⟨hq ▸ paused, fun k away => sget_sset_ne _ _ _ _ away, ?_, rfl, rfl, RegsKept.of_od rfl⟩
  simp only [Block.pauseEnd, settle_emith, settle_dt, paused, beq_iff_eq]

/-! ### RX_DISCARD (R315) -/

theorem rxDiscard_counted (s : State) (p : Nat) (f : EthFrame) (fabric : isFabric p = true) (receives : s.toBlock.receives p = true)
    (refused : s.toBlock.accepts p f = false) : Goes (exec (.rxDiscard p f) s) fun t =>
    t.reg Od.fabRxDiscards (p + 1) = wrap (odWidth Od.fabRxDiscards (p + 1)) (s.reg Od.fabRxDiscards (p + 1) + 1) ∧ t.emith = s.emith ∧ t.rb = s.rb
    ∧ RegsKept [odKey Od.fabRxDiscards (p + 1)] s.toBlock t.toBlock := by
  have eq : xRxDiscard p f s.toBlock = s.toBlock.bump Od.fabRxDiscards (p + 1) 1 := by simp [xRxDiscard, fabric, receives, refused]
  exact goes_run_eq eq ⟨Block.reg_bump_self .., rfl, rfl, RegsKept.setReg _ _ _ _ (List.mem_singleton.mpr rfl)⟩

theorem xRxDiscard_ignored {b : Block} {p : Nat} {f : EthFrame} (no : isFabric p = false ∨ b.receives p = false ∨ b.accepts p f = true) :
    xRxDiscard p f b = b := by
  unfold xRxDiscard
  rw [if_pos]
  rcases no with h | h | h <;> simp [h]

/-! ### Neighbour resolution (R317) -/

/-- A frame put on an interface stands behind those sent before, and else moves only the time at which the interface is free. -/
theorem Block.putNd_eq (b : Block) (code : Nat) (f : NdFrame) : ∃ free, b.putNd code f = { b with emith := { b.emith with
    ndTx := b.emith.ndTx ++ [⟨code, b.tagOf code, b.departs code, f⟩], txFree := free } } := ⟨_, rfl⟩

/-- A command that answers with one frame of neighbour resolution. -/
theorem goes_putNd {s : State} {g : Block → Block} {i : Nat} {f : NdFrame} (h : g s.toBlock = s.toBlock.putNd i f) : Goes (.next (s.run g)) fun t =>
    t.emith.ndTx = s.emith.ndTx ++ [⟨i, s.toBlock.tagOf i, s.toBlock.departs i, f⟩] ∧ t.emith.macs = s.emith.macs ∧ RegsKept [] s.toBlock t.toBlock := by
  obtain ⟨free, eq⟩ := s.toBlock.putNd_eq i f
  exact goes_run_eq (h.trans eq) ⟨rfl, rfl, RegsKept.of_od rfl⟩

theorem neighborDiscovery_resolves (s : State) (i : Nat) (f : NdFrame) (hears : s.toBlock.hearsNd i = true) (reply : f.kind = 1) (port : i < 130)
    (gateway : f.ip = s.toBlock.gatewayIp) : Goes (exec (.neighborDiscovery i f) s) fun t =>
      sget 0 t.emith.macs i = f.mac + 1 ∧ (∀ k, k ≠ i → sget 0 t.emith.macs k = sget 0 s.emith.macs k) ∧ t.emith.ndTx = s.emith.ndTx ∧ RegsKept [] s.toBlock t.toBlock := by
  have eq : xNeighbor i f s.toBlock = { s.toBlock with emith := { s.emith with macs := sset 0 s.emith.macs i (f.mac + 1) } } := by
    simp [xNeighbor, hears, reply, port, gateway]
  have others : ∀ k, k ≠ i → sget 0 (sset 0 s.emith.macs i (f.mac + 1)) k = sget 0 s.emith.macs k := fun k away => sget_sset_ne _ _ _ _ away
  have mine : sget 0 (sset 0 s.emith.macs i (f.mac + 1)) i = f.mac + 1 := sget_sset_self ..
  exact goes_run_eq eq ⟨mine, others, rfl, RegsKept.of_od rfl⟩

theorem xNeighbor_answers {b : Block} {i : Nat} {f : NdFrame} (hears : b.hearsNd i = true) (ask : f.kind = 0 ∨ f.kind = 2) (own : b.ownsIp i f.ip = true) :
    xNeighbor i f b = b.putNd i ⟨if f.kind = 0 then 1 else 3, f.ip, b.ifaceMac i⟩ := by
  rcases ask with kind | kind <;> simp [xNeighbor, hears, kind, own]

/-- Settles O49, frame by frame. -/
theorem portFrames : Obligations.PortFrames := by
  unfold Obligations.PortFrames
  refine ⟨pfcPause_goes, leaveAt_stamped, fun s i quanta no => goes_run_eq (xPfc_ignored no) rfl, rxDiscard_counted,
    fun s p f no => goes_run_eq (xRxDiscard_ignored no) rfl, fun s p f long => ?_, fun s i live up => goes_putNd ?_, fun s i f hears => ⟨fun kind port gateway => ?_,
    fun ask own => goes_putNd (xNeighbor_answers hears ask own)⟩⟩
  · rw [Block.accepts, if_pos long]
  · simp [xNeighborRefresh, live, up]
  · exact neighborDiscovery_resolves s i f hears kind port gateway

end Sys2Proof.Machine
end

section
/-! PROOFS. Ports: what training, repair, degradation and a write of FAB_PORT_MODE make of a port, and what they leave as it was (R311, R312, R332 to R334). -/

namespace Sys2Proof.Machine

/-! ### The state of a port (R340) -/

theorem width_fabPortState : ∀ p < 16, odWidth Od.fabPortState (p + 1) = 8 := by decide +kernel
theorem width_fabPortMode : ∀ p < 16, odWidth Od.fabPortMode (p + 1) = 8 := by decide +kernel
theorem width_hostPortState : odWidth Od.hostPortState 1 = 8 ∧ odWidth Od.hostPortState 2 = 8 := by decide +kernel

/-- A fabric or host port. -/
def HasLink (p : Nat) : Prop := isFabric p = true ∨ isHost p = true

theorem isFabric_iff {p : Nat} : isFabric p = true ↔ p < 16 := by simp [isFabric]
theorem isHost_iff {p : Nat} : isHost p = true ↔ p = 32 ∨ p = 33 := by simp [isHost]

/-- The entry and subindex that hold the state of a port. -/
def portEntry (p : Nat) : Nat × Nat := if isFabric p then (Od.fabPortState, p + 1) else (Od.hostPortState, p - 31)

theorem Block.portState_eq (b : Block) (p : Nat) : b.portState p = b.reg (portEntry p).1 (portEntry p).2 := by
  unfold Block.portState portEntry
  split <;> rfl

theorem Block.setPortState_eq (b : Block) (p st : Nat) : b.setPortState p st = b.setReg (portEntry p).1 (portEntry p).2 st := by
  unfold Block.setPortState portEntry
  split <;> rfl

theorem portEntry_fst (p : Nat) : (portEntry p).1 = Od.fabPortState ∨ (portEntry p).1 = Od.hostPortState := by
  unfold portEntry
  split
  · exact .inl rfl
  · exact .inr rfl

theorem portEntry_ne {p q : Nat} (hq : HasLink q) (h : q ≠ p) : odKey (portEntry q).1 (portEntry q).2 ≠ odKey (portEntry p).1 (portEntry p).2 := by
  unfold HasLink at hq
  rw [isFabric_iff, isHost_iff] at hq
  unfold portEntry
  simp only [isFabric, decide_eq_true_eq]
  split <;> split <;> simp only [odKey, Od.fabPortState, Od.hostPortState] <;> omega

theorem width_portEntry {p : Nat} (h : HasLink p) : odWidth (portEntry p).1 (portEntry p).2 = 8 := by
  unfold portEntry
  split
  · next fabric => exact width_fabPortState p (isFabric_iff.mp fabric)
  · next fabric =>
    rcases isHost_iff.mp (h.resolve_left fabric) with rfl | rfl
    · exact width_hostPortState.1
    · exact width_hostPortState.2

theorem Block.portState_setPortState {p : Nat} (h : HasLink p) (b : Block) {st : Nat} (small : st < 256) : (b.setPortState p st).portState p = st := by
  rw [Block.portState_eq, Block.setPortState_eq, Block.reg_setReg_self, width_portEntry h]
  exact Nat.mod_eq_of_lt small

theorem Block.portState_setPortState_ne {p q : Nat} (hq : HasLink q) (h : q ≠ p) (b : Block) (st : Nat) :
    (b.setPortState p st).portState q = b.portState q := by
  rw [Block.portState_eq, Block.setPortState_eq, Block.reg_setReg_ne _ _ (portEntry_ne hq h), ← Block.portState_eq]

theorem Block.portState_of_idxKept {l : List Nat} {b c : Block} (h : IdxKept l b c) (fabric : Od.fabPortState ∉ l) (host : Od.hostPortState ∉ l) (p : Nat) :
    c.portState p = b.portState p := by
  rw [Block.portState_eq, Block.portState_eq]
  rcases portEntry_fst p with e | e <;> rw [e]
  · exact h _ _ (by decide) fabric
  · exact h _ _ (by decide) host

theorem Block.portState_of_od {b c : Block} (h : c.od = b.od) (p : Nat) : c.portState p = b.portState p :=
  Block.portState_of_idxKept (IdxKept.of_od h) (List.not_mem_nil) (List.not_mem_nil) p

theorem Block.portState_ptpCheck (b : Block) (p : Nat) : b.ptpCheck.portState p = b.portState p :=
  Block.portState_of_idxKept (IdxKept.ptpCheck b) (by decide) (by decide) p

theorem Block.portState_raise (b : Block) (c x : Nat) (a : List Byte) (p : Nat) : (b.raise c x a).portState p = b.portState p :=
  Block.portState_of_idxKept (IdxKept.raise (l := [Od.eventNextSeq]) b c x a (by decide)) (by decide) (by decide) p

/-- Entries of ports' states. -/
def portIdx : List Nat := [Od.fabPortState, Od.hostPortState]

theorem IdxKept.setPortState {l : List Nat} (b : Block) (p st : Nat) (h : ∀ x ∈ portIdx, x ∈ l) : IdxKept l b (b.setPortState p st) := by
  rw [Block.setPortState_eq]
  rcases portEntry_fst p with e | e <;> rw [e]
  · exact IdxKept.setReg _ _ _ _ (h _ (by decide)) (by decide)
  · exact IdxKept.setReg _ _ _ _ (h _ (by decide)) (by decide)

theorem RegOnly.setPortState (b : Block) (p st : Nat) : RegOnly b (b.setPortState p st) := by
  rw [Block.setPortState_eq]
  exact RegOnly.setReg ..

theorem PtpOnly.setPortState (b : Block) (p st : Nat) : PtpOnly b (b.setPortState p st) := PtpOnly.of_regLog (RegOnly.setPortState ..).regLog

/-! ### The PTP port (R425) -/

theorem Block.ptpCheck_stays {b : Block} (h : b.reg Od.timeSource 0 ≠ 1 ∨ b.portUp b.cal.ptpAt = true) : b.ptpCheck = b := by
  unfold Block.ptpCheck
  rw [if_pos (by simpa using h)]

theorem Block.portUp_eq {b : Block} {code : Nat} (h : HasLink code) : b.portUp code = (b.portState code == ptUp) := by
  unfold HasLink at h
  rw [isFabric_iff, isHost_iff] at h
  unfold Block.portUp Block.portState isFabric ptUp
  rcases h with h | h
  · simp [h, Nat.ne_of_lt (Nat.lt_trans h (by decide : 16 < 34))]
  · rcases h with rfl | rfl <;> rfl

/-- A port that comes up brings no other down. -/
theorem Block.portUp_setPortState {p code : Nat} (h : HasLink p) {b : Block} (up : b.portUp code = true) : (b.setPortState p ptUp).portUp code = true := by
  by_cases link : HasLink code
  · rw [Block.portUp_eq link] at up ⊢
    by_cases e : code = p
    · rw [e, Block.portState_setPortState h b (by decide)]
      rfl
    · rwa [Block.portState_setPortState_ne link e]
  · have same := RegOnly.setPortState b p ptUp
    unfold HasLink at link
    rw [isFabric_iff, isHost_iff, not_or] at link
    unfold Block.portUp at up ⊢
    rw [if_neg link.1, if_neg link.2] at up ⊢
    rwa [same.regLog.cal]

/-! ### LINK_TRAINED (R312) -/

/-- The mode in which a port trains (R311). -/
def Block.modeTaken (b : Block) (p : Nat) : Nat :=
  if b.reg Od.fabPortMode (p + 1) = 0 ∨ Config.backplane p = true then b.reg Od.fabPortMode (p + 1) else 0

theorem Block.takeMode_eq (b : Block) (p : Nat) : ∃ m, b.takeMode p = { b with emith := { b.emith with modes := m } }
    ∧ (isFabric p = true → sget 0 m p = b.modeTaken p) := by
  unfold Block.takeMode
  split
  · refine ⟨_, rfl, fun _ => (sget_sset_self ..).trans ?_⟩
    simp [Block.modeTaken]
  · next no => exact ⟨b.emith.modes, rfl, fun yes => absurd yes no⟩

section Train
variable {b : Block} {p : Nat}

/-- HP0 has trained once: bring-up goes on (R528). -/
def Block.noteTraining (b : Block) (p : Nat) : Block := if p = 32 then { b with sys := { b.sys with hp0Trained := true } } else b

theorem Block.noteTraining_eq (b : Block) (p : Nat) : ∃ y, b.noteTraining p = { b with sys := y } := by
  unfold Block.noteTraining
  split <;> exact ⟨_, rfl⟩

theorem xLinkTrained_eq (link : HasLink p) (live : b.live = true) (down : b.portState p = ptDown ∨ b.portState p = ptTraining) (ok : Bool) :
    xLinkTrained p ok b = if ok then (((b.noteTraining p).takeMode p).setPortState p ptUp).ptpCheck
      else if ((b.noteTraining p).setPortState p ptDown).service = svcFull then (b.noteTraining p).setPortState p ptDown
      else ((b.noteTraining p).setPortState p ptDown).raise 0x4114 noCtx [] := by
  have other : p ≠ 34 := by
    rintro rfl
    exact absurd link (by unfold HasLink; decide)
  obtain ⟨y, noted⟩ := b.noteTraining_eq p
  have waits : ((b.noteTraining p).portState p != ptDown && (b.noteTraining p).portState p != ptTraining) = false := by
    rw [show (b.noteTraining p).portState p = b.portState p from Block.portState_of_od (by rw [noted]) p]
    rcases down with h | h <;> simp [h]
  unfold xLinkTrained
  rw [if_neg other, if_neg (by simpa [live, HasLink, imp_iff_not_or] using link)]
  change (if ((b.noteTraining p).portState p != ptDown && (b.noteTraining p).portState p != ptTraining) = true then _ else _) = _
  rw [waits]
  rfl

end Train

theorem linkTrained_up (s : State) (p : Nat) (link : HasLink p) (live : s.toBlock.live = true)
    (down : s.toBlock.portState p = ptDown ∨ s.toBlock.portState p = ptTraining) : Goes (exec (.linkTrained p true) s) fun t =>
      t.toBlock.portState p = ptUp ∧ (isFabric p = true → t.toBlock.portModeNow p = s.toBlock.modeTaken p) ∧ t.emith.tx = s.emith.tx
      ∧ (s.reg Od.timeSource 0 ≠ 1 ∨ s.toBlock.portUp s.cal.ptpAt = true → t.log = s.log ∧ t.cal = s.cal) := by
  obtain ⟨y, noted⟩ := s.toBlock.noteTraining_eq p
  obtain ⟨m, took, mode⟩ := Block.takeMode_eq { s.toBlock with sys := y } p
  have eq := xLinkTrained_eq link live down true
  rw [noted, took] at eq
  generalize hc : ({ s.toBlock with sys := y, emith := { s.emith with modes := m } } : Block) = c at eq
  have same : ∀ i k, c.reg i k = s.reg i k := fun i k => by rw [← hc]; rfl
  have only := (PtpOnly.setPortState c p ptUp).trans (PtpOnly.ptpCheck _)
  refine goes_run_eq (c := ((c.setPortState p ptUp).ptpCheck)) eq ⟨?_, fun fabric => ?_, ?_, fun stays => ?_⟩
  · exact (Block.portState_ptpCheck _ p).trans (Block.portState_setPortState link c (by decide))
  · refine Eq.trans ?_ (mode fabric)
    unfold Block.portModeNow
    rw [settle_emith, only.emith, ← hc]
  · rw [settle_emith, only.emith, ← hc]
  · have regs := IdxKept.setPortState (l := portIdx) c p ptUp (fun _ h => h)
    have keeps : (c.setPortState p ptUp).ptpCheck = c.setPortState p ptUp := by
      refine Block.ptpCheck_stays (stays.imp (fun other => ?_) (fun up => ?_))
      · rw [regs _ _ (by decide) (by decide), same]
        exact other
      · rw [(RegOnly.setPortState c p ptUp).regLog.cal]
        refine Block.portUp_setPortState link ?_
        rw [← hc]
        exact up
    rw [keeps]
    refine ⟨(RegOnly.setPortState c p ptUp).log.trans ?_, (RegOnly.setPortState c p ptUp).regLog.cal.trans ?_⟩ <;> rw [← hc]

theorem linkTrained_down (s : State) (p : Nat) (link : HasLink p) (live : s.toBlock.live = true)
    (down : s.toBlock.portState p = ptDown ∨ s.toBlock.portState p = ptTraining) : Goes (exec (.linkTrained p false) s) fun t =>
      t.toBlock.portState p = ptDown ∧ (s.service ≠ svcFull → LastEvent t.toBlock 0x4114 noCtx []) ∧ (s.service = svcFull → t.log = s.log) := by
  obtain ⟨y, noted⟩ := s.toBlock.noteTraining_eq p
  have eq := xLinkTrained_eq link live down false
  rw [noted] at eq
  generalize hc : ({ s.toBlock with sys := y } : Block).setPortState p ptDown = c at eq
  have state : c.portState p = ptDown := hc ▸ Block.portState_setPortState link _ (by decide)
  have regs : IdxKept portIdx s.toBlock c := hc ▸ (IdxKept.of_od rfl).trans (IdxKept.setPortState { s.toBlock with sys := y } p ptDown (fun _ h => h))
  have service : c.service = s.service := regs _ _ (by decide) (by decide)
  have log : c.log = s.log := by rw [← hc]; exact (RegOnly.setPortState ..).log
  rw [service] at eq
  by_cases full : s.service = svcFull
  · rw [if_neg (by decide), if_pos full] at eq
    exact goes_run_eq eq ⟨state, fun no => absurd full no, fun _ => log⟩
  · rw [if_neg (by decide), if_neg full] at eq
    exact goes_run_eq eq ⟨(Block.portState_raise ..).trans state, fun _ => lastEvent_raise .., fun yes => absurd yes full⟩

end Sys2Proof.Machine
end

section
/-! PROOFS. Repair of ports: the two triggers, the places, the ends of its phases, degradation, and FAB_PORT_MODE (R332 to R334). -/

namespace Sys2Proof.Machine

/-! ### Repairs that start (R332) -/

/-- Entries that starting repairs and ending them write. -/
def repairIdx : List Nat := [Od.fabPortState, Od.hostPortState, Od.fabRepairCount, Od.timeState, Od.eventNextSeq]

/-- `c` is `b` after repairs of ports other than `p` have started. -/
structure RepairsStart (p : Nat) (b c : Block) : Prop where
  frame : c = { b with od := c.od, odb := c.odb, log := c.log, fatal := c.fatal, cal := c.cal, emith := { b.emith with repairs := c.emith.repairs } }
  regs : IdxKept repairIdx b c
  ports : c.emith.repairs.map (·.port) = b.emith.repairs.map (·.port)
  state : c.portState p = b.portState p

/-- The phase of a repair begins now. -/
def Repair.enter (r : Repair) (phase now : Nat) : Repair := { r with phase := phase, at_ := now }

theorem Block.setPhase_eq (b : Block) (p phase : Nat) :
    b.setPhase p phase = b.setRepairs (b.emith.repairs.map (fun r => if r.port == p then r.enter phase b.dt else r)) := rfl

theorem map_port_enter (l : List Repair) (p phase now : Nat) :
    (l.map (fun r => if r.port == p then r.enter phase now else r)).map (·.port) = l.map (·.port) := by
  rw [List.map_map]
  refine List.map_congr_left (fun r _ => ?_)
  simp only [Function.comp_apply]
  split <;> rfl

/-- The block once the repair of a port is marked as begun, and counted. -/
def Block.repairBegun (b : Block) (p : Nat) : Block :=
  if isFabric p then (b.setPhase p 1).bump Od.fabRepairCount (p + 1) 1 else b.setPhase p 1

theorem Block.startRepair_eq (b : Block) (p : Nat) : b.startRepair p = ((b.repairBegun p).setPortState p ptDraining).ptpCheck := rfl

theorem Block.repairBegun_eq (b : Block) (p : Nat) : b.repairBegun p = { b.setPhase p 1 with od := (b.repairBegun p).od } := by
  unfold Block.repairBegun
  split <;> rfl

theorem IdxKept.repairBegun (b : Block) (p : Nat) : IdxKept [Od.fabRepairCount] b (b.repairBegun p) := by
  have marked : IdxKept [Od.fabRepairCount] b (b.setPhase p 1) := IdxKept.of_od rfl
  exact IdxKept.ite (marked.trans (IdxKept.bump _ _ _ _ (by decide) (by decide))) marked

theorem IdxKept.startRepair (b : Block) (p : Nat) : IdxKept repairIdx b (b.startRepair p) := by
  refine (((IdxKept.repairBegun b p).mono ?_).trans (IdxKept.setPortState _ p ptDraining ?_)).trans ((IdxKept.ptpCheck _).mono ?_) <;> decide

theorem Block.startRepair_frame (b : Block) (p : Nat) : b.startRepair p = { b with
    od := (b.startRepair p).od, odb := (b.startRepair p).odb, log := (b.startRepair p).log, fatal := (b.startRepair p).fatal,
    cal := (b.startRepair p).cal, emith := { b.emith with repairs := b.emith.repairs.map (fun r => if r.port == p then r.enter 1 b.dt else r) } } := by
  have moved := (PtpOnly.setPortState (b.repairBegun p) p ptDraining).trans (PtpOnly.ptpCheck _)
  unfold PtpOnly at moved
  rw [← Block.startRepair_eq] at moved
  conv_lhs => rw [moved, Block.repairBegun_eq]
  rfl

theorem Block.startRepair_drains {p : Nat} (link : HasLink p) (b : Block) : (b.startRepair p).portState p = ptDraining := by
  rw [Block.startRepair_eq, Block.portState_ptpCheck]
  exact Block.portState_setPortState link _ (by decide)

namespace RepairsStart
variable {a b c : Block} {p : Nat}

theorem refl (p : Nat) (b : Block) : RepairsStart p b b := ⟨rfl, IdxKept.refl _ b, rfl, rfl⟩

theorem trans (h : RepairsStart p a b) (k : RepairsStart p b c) : RepairsStart p a c :=
  ⟨by rw [k.frame, h.frame], h.regs.trans k.regs, k.ports.trans h.ports, k.state.trans h.state⟩

theorem dt (h : RepairsStart p b c) : c.dt = b.dt := by rw [h.frame]
theorem tx (h : RepairsStart p b c) : c.emith.tx = b.emith.tx := by rw [h.frame]
theorem rx (h : RepairsStart p b c) : c.emith.rx = b.emith.rx := by rw [h.frame]
theorem mem (h : RepairsStart p b c) : c.mem = b.mem := by rw [h.frame]

/-- A port without a repair has none after others start. -/
theorem repair? (h : RepairsStart p b c) {q : Nat} (none_ : ∀ r ∈ b.emith.repairs, r.port ≠ q) : c.repair? q = none := by
  rw [Block.repair?, List.find?_eq_none]
  intro r mem
  have place : r.port ∈ b.emith.repairs.map (·.port) := h.ports ▸ List.mem_map_of_mem mem
  obtain ⟨x, old, same⟩ := List.mem_map.mp place
  simpa [← same] using none_ x old

theorem startRepair (b : Block) {p q : Nat} (link : HasLink p) (other : p ≠ q) : RepairsStart p b (b.startRepair q) where
  frame := by
    conv_lhs => rw [Block.startRepair_frame]
    rw [congrArg (·.emith) (Block.startRepair_frame b q)]
  regs := IdxKept.startRepair b q
  ports := by
    rw [congrArg (·.emith) (Block.startRepair_frame b q)]
    exact map_port_enter ..
  state := by
    rw [Block.startRepair_eq, Block.portState_ptpCheck, Block.portState_setPortState_ne link other]
    exact Block.portState_of_idxKept (IdxKept.repairBegun b q) (by decide) (by decide) p

theorem foldl (link : HasLink p) (l : List Nat) (others : p ∉ l) (b : Block) : RepairsStart p b (l.foldl (fun b q => b.startRepair q) b) := by
  induction l generalizing b with
  | nil => exact refl p b
  | cons q r ih =>
    exact (startRepair b link (List.ne_of_not_mem_cons others)).trans (ih (List.not_mem_of_not_mem_cons others) _)

/-- Where a port has no repair, repairs that start are those of others. -/
theorem nextRepairs (b : Block) (link : HasLink p) (none_ : ∀ r ∈ b.emith.repairs, r.port ≠ p) : RepairsStart p b b.nextRepairs := by
  refine foldl link _ (fun mem => ?_) b
  obtain ⟨r, taken, same⟩ := List.mem_map.mp mem
  exact none_ r (List.mem_filter.mp (List.mem_of_mem_take taken)).1 same

end RepairsStart

theorem IdxKept.nextRepairs (b : Block) : IdxKept repairIdx b b.nextRepairs := IdxKept.foldl (fun b p => IdxKept.startRepair b p) _ b

/-! ### A port asks for repair (R332, R333) -/

section Request
variable {b : Block} {p : Nat}

theorem Block.repair?_none (h : b.repair? p = none) : ∀ r ∈ b.emith.repairs, r.port ≠ p := by
  intro r mem
  simpa using List.find?_eq_none.mp h r mem

/-- The only repair of a port that had none. -/
theorem find?_append_new {l : List Repair} {x : Repair} (none_ : ∀ r ∈ l, r.port ≠ x.port) :
    (l ++ [x]).find? (fun r => r.port == x.port && r.phase == x.phase) = some x := by
  rw [List.find?_append, List.find?_eq_none.mpr (fun r mem => by simp [none_ r mem])]
  simp

/-- Where every repair is under way, a new one starts if it is among the first four, and else waits. -/
theorem Block.requestRepair_eq (busy : ∀ r ∈ b.emith.repairs, r.phase ≠ 0) (lane : Option Nat) : b.requestRepair p lane =
    if b.emith.repairs.length < repairMax then (b.setRepairs (b.emith.repairs ++ [⟨p, lane, 0, b.dt⟩])).startRepair p
    else b.setRepairs (b.emith.repairs ++ [⟨p, lane, 0, b.dt⟩]) := by
  let new : Repair := ⟨p, lane, 0, b.dt⟩
  have under : (b.emith.repairs ++ [new]).filter (fun r => r.phase != 0) = b.emith.repairs := by
    rw [List.filter_append, List.filter_eq_self.mpr (fun r mem => by simpa using busy r mem)]
    simp [new]
  have wait : (b.emith.repairs ++ [new]).filter (fun r => r.phase == 0) = [new] := by
    rw [List.filter_append, List.filter_eq_nil_iff.mpr (fun r mem => by simpa using busy r mem)]
    simp [new]
  unfold Block.requestRepair Block.nextRepairs
  rw [show (b.setRepairs (b.emith.repairs ++ [new])).emith.repairs = b.emith.repairs ++ [new] from rfl]
  dsimp only
  rw [under, wait]
  split
  · next room =>
    rw [List.take_of_length_le (Nat.sub_pos_of_lt room)]
    rfl
  · next full =>
    rw [Nat.sub_eq_zero_of_le (Nat.not_lt.mp full)]
    rfl

/-- A port that asks for repair, and had none, drains at once or waits for its place. -/
theorem Block.requestRepair_goes (link : HasLink p) (none_ : b.repair? p = none) (busy : ∀ r ∈ b.emith.repairs, r.phase ≠ 0) (lane : Option Nat) :
    (b.emith.repairs.length < repairMax → (b.requestRepair p lane).portState p = ptDraining ∧ (b.requestRepair p lane).inPhase p 1 = some ⟨p, lane, 1, b.dt⟩)
    ∧ (repairMax ≤ b.emith.repairs.length → (b.requestRepair p lane).portState p = b.portState p
      ∧ (b.requestRepair p lane).inPhase p 0 = some ⟨p, lane, 0, b.dt⟩) := by
  have old := Block.repair?_none none_
  rw [Block.requestRepair_eq busy]
  constructor
  · intro room
    rw [if_pos room]
    refine ⟨Block.startRepair_drains link _, ?_⟩
    rw [Block.inPhase, congrArg (·.emith) (Block.startRepair_frame _ p)]
    simp only [Block.setRepairs, List.map_append]
    rw [List.map_congr_left (g := id) (fun r mem => by simp [old r mem])]
    simpa [Repair.enter] using find?_append_new (x := ⟨p, lane, 1, b.dt⟩) old
  · intro full
    rw [if_neg (Nat.not_lt.mpr full)]
    exact ⟨Block.portState_of_od rfl p, find?_append_new (x := ⟨p, lane, 0, b.dt⟩) old⟩

/-- A port that asks for repair moves states of ports, repairs and the PTP port only. -/
theorem Block.requestRepair_frame (busy : ∀ r ∈ b.emith.repairs, r.phase ≠ 0) (lane : Option Nat) : (b.requestRepair p lane).emith.tx = b.emith.tx
    ∧ (b.requestRepair p lane).emith.rx = b.emith.rx ∧ (b.requestRepair p lane).mem = b.mem := by
  rw [Block.requestRepair_eq busy]
  split
  · rw [Block.startRepair_frame]
    exact ⟨rfl, rfl, rfl⟩
  · exact ⟨rfl, rfl, rfl⟩

end Request

/-! ### LANE_SER_LIMIT and PCS_ALIGNMENT_LOSS (R332, R334) -/

/-- A lane has failed: its time is kept, and its ticks count afresh. -/
def Block.noteLane (b : Block) (k : Nat) : Block :=
  { b with emith := { b.emith with laneAt := sset 0 b.emith.laneAt k (b.dt + 1), laneTicks := sset 0 b.emith.laneTicks k 0 } }

section Trigger
variable {b : Block} {p : Nat} (link : HasLink p) (live : b.live = true) (up : b.portState p = ptUp) (none_ : b.repair? p = none)
include link live up none_

theorem xLaneSer_eq {lane : Nat} (ticks : isFabric p = true → b.reg Od.fabLaneFailTicks 0 ≤ sget 0 b.emith.laneTicks (4 * p + lane)) :
    xLaneSer p lane b = if !b.laneAgain p lane then (b.noteLane (4 * p + lane)).requestRepair p (some lane)
      else if b.canDegrade p then ((b.noteLane (4 * p + lane)).degrade p (some lane)).requestRepair p (some lane)
      else (b.noteLane (4 * p + lane)).portOff p := by
  have held : (!b.live || !(isFabric p || isHost p) || b.portState p != ptUp || (b.repair? p).isSome
      || (isFabric p && decide (sget 0 b.emith.laneTicks (4 * p + lane) < b.reg Od.fabLaneFailTicks 0))) = false := by
    simpa [live, up, none_, HasLink, imp_iff_not_or] using And.intro link ticks
  unfold xLaneSer
  dsimp only
  rw [held]
  rfl

theorem xPcsLoss_eq : xPcsLoss p b = if (b.requestRepair p none).portState p = ptUp then ((b.requestRepair p none).setPortState p ptRepairing).ptpCheck
    else b.requestRepair p none := by
  have held : (!b.live || !(isFabric p || isHost p) || b.portState p != ptUp) = false := by simpa [live, up, HasLink, imp_iff_not_or] using link
  unfold xPcsLoss
  rw [held, none_]
  rfl

end Trigger

/-- The end of a repair leaves its port in the state it names. -/
theorem Block.endRepair_goes {p : Nat} (link : HasLink p) (b : Block) {st : Nat} (small : st < 256) :
    (b.endRepair p st).portState p = st ∧ (b.endRepair p st).repair? p = none ∧ (b.endRepair p st).dt = b.dt := by
  unfold Block.endRepair
  generalize hc : (b.setRepairs (b.emith.repairs.filter (fun r => r.port != p))).setPortState p st = c
  have state : c.portState p = st := hc ▸ Block.portState_setPortState link _ small
  have repairs : c.ptpCheck.emith.repairs = b.emith.repairs.filter (fun r => r.port != p) := by
    rw [(PtpOnly.ptpCheck c).emith, ← hc, (PtpOnly.setPortState ..).emith]
    rfl
  have none_ : ∀ r ∈ c.ptpCheck.emith.repairs, r.port ≠ p := by
    intro r mem
    rw [repairs] at mem
    simpa using (List.mem_filter.mp mem).2
  have starts := RepairsStart.nextRepairs c.ptpCheck link none_
  refine ⟨starts.state.trans ((Block.portState_ptpCheck c p).trans state), starts.repair? none_, ?_⟩
  rw [starts.dt, (PtpOnly.ptpCheck c).dt, ← hc]
  exact (PtpOnly.setPortState ..).dt

theorem Block.portOff_goes {p : Nat} (link : HasLink p) (b : Block) :
    (b.portOff p).portState p = ptOff ∧ (b.portOff p).repair? p = none ∧ LastEvent (b.portOff p) 0x8385 noCtx [] := by
  obtain ⟨state, none_, _⟩ := Block.endRepair_goes link b (st := ptOff) (by decide)
  refine ⟨(Block.portState_raise ..).trans state, ?_, lastEvent_raise ..⟩
  unfold Block.portOff Block.repair?
  rw [Block.raise_emith]
  exact none_

/-- A port degrades to the half that does not hold its failed lane (R334). -/
theorem Block.degrade_mode {p : Nat} (fabric : isFabric p = true) (b : Block) (lane : Option Nat) :
    (b.degrade p lane).reg Od.fabPortMode (p + 1) = if lane.getD 3 < 2 then 3 else 2 := by
  unfold Block.degrade
  rw [reg_raise_of_idx_ne _ _ _ _ _ (by decide) (by decide), Block.reg_setReg_self, width_fabPortMode p (isFabric_iff.mp fabric)]
  split <;> rfl

theorem Block.fabric_of_canDegrade {b : Block} {p : Nat} (h : b.canDegrade p = true) : isFabric p = true := by
  simp only [Block.canDegrade, Bool.and_eq_true] at h
  exact h.1.1.1

/-! ### The phases of a repair (R333) -/

/-- A repair whose phase changes begins it now. -/
theorem Block.inPhase_setPhase {b : Block} {p old phase : Nat} {r : Repair} (h : b.inPhase p old = some r) :
    ∃ y, (b.setPhase p phase).inPhase p phase = some y ∧ y.at_ = b.dt := by
  have mine : r.port = p := by
    have := List.find?_some h
    simp only [Bool.and_eq_true, beq_iff_eq] at this
    exact this.1
  have moved : ∃ y ∈ (b.setPhase p phase).emith.repairs, (y.port == p && y.phase == phase) = true :=
    ⟨r.enter phase b.dt, List.mem_map.mpr ⟨r, List.mem_of_find?_eq_some h, by simp [mine, Repair.enter]⟩, by simp [mine, Repair.enter]⟩
  obtain ⟨y, found⟩ := Option.isSome_iff_exists.mp (List.find?_isSome.mpr moved)
  refine ⟨y, found, ?_⟩
  obtain ⟨x, _, same⟩ := List.mem_map.mp (List.mem_of_find?_eq_some found)
  have place : y.port = p := by
    have := List.find?_some found
    simp only [Bool.and_eq_true, beq_iff_eq] at this
    exact this.1
  subst same
  by_cases here : (x.port == p) = true
  · rw [if_pos here]
  · rw [if_neg here] at place
    exact absurd (beq_iff_eq.mpr place) here

theorem Block.inPhase_of_repairs {b c : Block} (h : c.emith.repairs = b.emith.repairs) (p phase : Nat) : c.inPhase p phase = b.inPhase p phase := by
  unfold Block.inPhase
  rw [h]

/-! ### The clauses of O48, one for each command -/

section Clauses
variable (s : State) {p : Nat} (link : HasLink p) (live : s.toBlock.live = true)
include link live

section Lane
variable {lane : Nat} (up : s.toBlock.portState p = ptUp) (none_ : s.toBlock.repair? p = none)
  (ticks : isFabric p = true → s.reg Od.fabLaneFailTicks 0 ≤ sget 0 s.emith.laneTicks (4 * p + lane))
include up none_ ticks

theorem laneSerLimit_repairs (first : s.toBlock.laneAgain p lane = false) (busy : ∀ r ∈ s.emith.repairs, r.phase ≠ 0) :
    Goes (exec (.laneSerLimit p lane) s) fun t =>
      (s.emith.repairs.length < repairMax → t.toBlock.portState p = ptDraining ∧ t.toBlock.inPhase p 1 = some ⟨p, some lane, 1, s.dt⟩)
      ∧ (repairMax ≤ s.emith.repairs.length → t.toBlock.portState p = ptUp ∧ t.toBlock.inPhase p 0 = some ⟨p, some lane, 0, s.dt⟩)
      ∧ t.emith.tx = s.emith.tx ∧ t.emith.rx = s.emith.rx ∧ t.mem = s.mem := by
  have eq := xLaneSer_eq link live up none_ ticks
  rw [first] at eq
  obtain ⟨room, full⟩ := Block.requestRepair_goes (b := s.toBlock.noteLane (4 * p + lane)) link none_ busy (some lane)
  exact goes_run_eq eq ⟨room, fun h => ⟨(full h).1.trans up, (full h).2⟩, Block.requestRepair_frame (b := s.toBlock.noteLane (4 * p + lane)) busy (some lane)⟩

theorem laneSerLimit_again (again : s.toBlock.laneAgain p lane = true) : Goes (exec (.laneSerLimit p lane) s) fun t =>
    (s.toBlock.canDegrade p = false → t.toBlock.portState p = ptOff ∧ LastEvent t.toBlock 0x8385 noCtx [])
    ∧ (s.toBlock.canDegrade p = true → t.reg Od.fabPortMode (p + 1) = if lane < 2 then 3 else 2) := by
  have eq := xLaneSer_eq link live up none_ ticks
  rw [again] at eq
  cases half : s.toBlock.canDegrade p
  · rw [half] at eq
    obtain ⟨state, _, told⟩ := Block.portOff_goes link (s.toBlock.noteLane (4 * p + lane))
    exact goes_run_eq eq ⟨fun _ => ⟨state, told⟩, nofun⟩
  · rw [half] at eq
    refine goes_run_eq eq ⟨nofun, fun _ => ?_⟩
    refine (IdxKept.nextRepairs _ Od.fabPortMode (p + 1) (by decide) (by decide)).trans ?_
    exact Block.degrade_mode (Block.fabric_of_canDegrade half) (s.toBlock.noteLane (4 * p + lane)) (some lane)

end Lane

theorem pcsAlignmentLoss_goes (up : s.toBlock.portState p = ptUp) (none_ : s.toBlock.repair? p = none) (busy : ∀ r ∈ s.emith.repairs, r.phase ≠ 0) :
    Goes (exec (.pcsAlignmentLoss p) s) fun t => t.toBlock.portState p = if s.emith.repairs.length < repairMax then ptDraining else ptRepairing := by
  have eq := xPcsLoss_eq link live up none_
  obtain ⟨room, full⟩ := Block.requestRepair_goes link none_ busy none
  by_cases h : s.emith.repairs.length < repairMax
  · have drains := (room h).1
    rw [if_neg (by rw [drains]; decide)] at eq
    refine goes_run_eq eq ?_
    rw [if_pos h]
    exact drains
  · rw [if_pos ((full (Nat.not_lt.mp h)).1.trans up)] at eq
    refine goes_run_eq eq ?_
    rw [if_neg h]
    exact (Block.portState_ptpCheck ..).trans (Block.portState_setPortState link _ (by decide))

theorem portDrainEnd_goes {r : Repair} (phase : s.toBlock.inPhase p 1 = some r) : Goes (exec (.portDrainEnd p) s) fun t =>
    t.dt = max s.dt (r.at_ + 20000) ∧ t.toBlock.portState p = ptRepairing ∧ (∃ y, t.toBlock.inPhase p 2 = some y ∧ y.at_ = t.dt)
    ∧ t.emith.tx = s.emith.tx ∧ t.emith.rx = s.emith.rx := by
  have eq : xDrainEnd p s.toBlock = ((s.toBlock.reach (r.at_ + 20000)).setPhase p 2).setPortState p ptRepairing := by simp [xDrainEnd, phase, live]
  obtain ⟨y, next, now⟩ := Block.inPhase_setPhase (b := s.toBlock.reach (r.at_ + 20000)) (phase := 2) phase
  have only := (RegOnly.setPortState ((s.toBlock.reach (r.at_ + 20000)).setPhase p 2) p ptRepairing).regLog
  have dt := only.dt
  refine goes_run_eq eq ⟨dt, Block.portState_setPortState link _ (by decide), ⟨y, ?_, now.trans dt.symm⟩, congrArg (·.tx) only.emith, congrArg (·.rx) only.emith⟩
  exact (Block.inPhase_of_repairs (congrArg (·.repairs) only.emith) p 2).trans next

omit link in
theorem portRetrainDone_goes {r : Repair} (phase : s.toBlock.inPhase p 2 = some r) : Goes (exec (.portRetrainDone p) s) fun t =>
    (∃ y, t.toBlock.inPhase p 3 = some y ∧ y.at_ = s.dt) ∧ (isFabric p = true → t.toBlock.portModeNow p = s.toBlock.modeTaken p)
    ∧ RegsKept [] s.toBlock t.toBlock := by
  obtain ⟨m, took, mode⟩ := Block.takeMode_eq s.toBlock p
  have eq : xRetrainDone p s.toBlock = (s.toBlock.takeMode p).setPhase p 3 := by simp [xRetrainDone, phase, live]
  rw [took] at eq
  obtain ⟨y, next, now⟩ := Block.inPhase_setPhase (b := { s.toBlock with emith := { s.emith with modes := m } }) (phase := 3) phase
  exact goes_run_eq eq ⟨⟨y, next, now⟩, mode, RegsKept.of_od rfl⟩

theorem portVerifyEnd_passes {r : Repair} (phase : s.toBlock.inPhase p 3 = some r) : Goes (exec (.portVerifyEnd p true) s) fun t =>
    t.dt = max s.dt (r.at_ + 10 ^ 7) ∧ t.toBlock.portState p = ptUp ∧ t.toBlock.repair? p = none ∧ LastEvent t.toBlock 0x0380 noCtx [] := by
  have eq : xVerifyEnd p true s.toBlock = ((s.toBlock.reach (r.at_ + 10 ^ 7)).endRepair p ptUp).raise 0x0380 noCtx [] := by simp [xVerifyEnd, phase, live]
  obtain ⟨state, none_, now⟩ := Block.endRepair_goes link (s.toBlock.reach (r.at_ + 10 ^ 7)) (st := ptUp) (by decide)
  refine goes_run_eq eq ⟨(Block.raise_dt ..).trans now, (Block.portState_raise ..).trans state, ?_, lastEvent_raise ..⟩
  unfold Block.repair?
  rw [settle_emith, Block.raise_emith]
  exact none_

theorem portVerifyEnd_fails {r : Repair} (phase : s.toBlock.inPhase p 3 = some r) : Goes (exec (.portVerifyEnd p false) s) fun t =>
    (s.toBlock.canDegrade p = false → t.toBlock.portState p = ptOff ∧ t.toBlock.repair? p = none ∧ LastEvent t.toBlock 0x8385 noCtx [])
    ∧ (s.toBlock.canDegrade p = true → (∃ y, t.toBlock.inPhase p 2 = some y) ∧ LastEvent t.toBlock 0x4382 noCtx []
      ∧ t.reg Od.fabPortMode (p + 1) = if r.lane.getD 3 < 2 then 3 else 2) := by
  generalize hb : s.toBlock.reach (r.at_ + 10 ^ 7) = b
  have eq : xVerifyEnd p false s.toBlock = if s.toBlock.canDegrade p then (b.degrade p r.lane).setPhase p 2 else b.portOff p := by
    unfold xVerifyEnd
    rw [phase, ← hb]
    dsimp only
    rw [live]
    rfl
  cases half : s.toBlock.canDegrade p
  · rw [half] at eq
    exact goes_run_eq eq ⟨fun _ => Block.portOff_goes link b, nofun⟩
  · rw [half] at eq
    have repairs : (b.degrade p r.lane).emith.repairs = s.emith.repairs := by
      unfold Block.degrade
      rw [Block.raise_emith, ← hb]
      rfl
    obtain ⟨y, next, _⟩ := Block.inPhase_setPhase (phase := 2) ((Block.inPhase_of_repairs repairs p 3).trans phase)
    exact goes_run_eq eq ⟨nofun, fun _ => ⟨⟨y, next⟩, lastEvent_of_log (b := b.degrade p r.lane) rfl rfl (lastEvent_raise ..),
      Block.degrade_mode (Block.fabric_of_canDegrade half) b r.lane⟩⟩

omit link in
theorem fabPortMode_writes {v : Nat} (fabric : p < 16) (open_ : Writable s.toBlock) (half : v ≤ 3) : Goes (exec (.fabPortMode p v) s) fun t =>
    t.odp.status = stOK ∧ t.reg Od.fabPortMode (p + 1) = v ∧ t.toBlock.portState p = (if s.toBlock.portState p = ptOff then ptTraining else s.toBlock.portState p)
    ∧ t.emith = s.emith ∧ RegsKept [odKey Od.fabPortMode (p + 1), odKey Od.fabPortState (p + 1)] s.toBlock t.toBlock := by
  have link : HasLink p := .inl (isFabric_iff.mpr fabric)
  generalize hb : s.toBlock.setReg Od.fabPortMode (p + 1) v = b
  have mode : b.reg Od.fabPortMode (p + 1) = v := by
    rw [← hb, Block.reg_setReg_self, width_fabPortMode p fabric]
    exact Nat.mod_eq_of_lt (by omega)
  have regs : RegsKept [odKey Od.fabPortMode (p + 1), odKey Od.fabPortState (p + 1)] s.toBlock b := hb ▸ RegsKept.setReg _ _ _ _ (by simp)
  have state : b.portState p = s.toBlock.portState p :=
    Block.portState_of_idxKept (hb ▸ IdxKept.setReg (l := [Od.fabPortMode]) _ _ _ _ (by decide) (by decide)) (by decide) (by decide) p
  have alive : b.live = true := by
    rw [← live, ← hb]
    unfold Block.live Block.power
    rw [reg_setReg_of_idx_ne _ _ _ _ (by decide) (by decide) (by decide)]
    rfl
  have emith : b.emith = s.emith := by rw [← hb]; rfl
  have eq : xPortMode p v s.toBlock = (if s.toBlock.portState p = ptOff then b.setPortState p ptTraining else b).answer stOK := by
    unfold xPortMode
    rw [Block.onWrite_open open_, if_neg (Nat.not_lt.mpr half), hb]
    simp [state, alive]
  by_cases off : s.toBlock.portState p = ptOff
  · rw [if_pos off] at eq ⊢
    have enter : b.setPortState p ptTraining = b.setReg Od.fabPortState (p + 1) ptTraining := by
      unfold Block.setPortState
      rw [if_pos (isFabric_iff.mpr fabric)]
    refine goes_run_eq eq ⟨rfl, ?_, Block.portState_setPortState link b (by decide), (RegOnly.setPortState ..).regLog.emith.trans emith,
      regs.trans (b := b) (c := b.setPortState p ptTraining) (enter ▸ RegsKept.setReg _ _ _ _ (by simp))⟩
    exact (IdxKept.setPortState (l := portIdx) b p ptTraining (fun _ h => h) _ _ (by decide) (by decide)).trans mode
  · rw [if_neg off] at eq ⊢
    exact goes_run_eq eq ⟨rfl, mode, state, emith, regs⟩

omit link live in
theorem fabPortMode_refused {v : Nat} (open_ : Writable s.toBlock) (high : 3 < v) : Goes (exec (.fabPortMode p v) s) fun t =>
    t.toBlock = settle (s.toBlock.answer stRange) := by
  refine goes_run_eq (c := s.toBlock.answer stRange) ?_ rfl
  unfold xPortMode
  rw [Block.onWrite_open open_, if_pos high]

end Clauses

/-- Settles O48, command by command: the end of one repair lets others start, and those are repairs of other ports. -/
theorem portRepair : Obligations.PortRepair := by
  unfold Obligations.PortRepair
  intro s p link live _
  refine ⟨fun down => ⟨linkTrained_up s p link live down, linkTrained_down s p link live down⟩,
    fun lane up none_ ticks first busy => laneSerLimit_repairs s link live up none_ ticks first busy,
    fun lane up none_ ticks again => laneSerLimit_again s link live up none_ ticks again,
    pcsAlignmentLoss_goes s link live, fun r phase => portDrainEnd_goes s link live phase, fun r phase => portRetrainDone_goes s live phase,
    fun r phase => ⟨portVerifyEnd_passes s link live phase, portVerifyEnd_fails s link live phase⟩,
    fun v fabric open_ half => fabPortMode_writes s live fabric open_ half, fun v open_ high => fabPortMode_refused s open_ high⟩

end Sys2Proof.Machine
end

section
/-! PROOFS. Packets of Emith that arrive: what is accepted, the answers to it, and what a slice is passed (R318, R321, R324 to R326). -/

namespace Sys2Proof.Machine

/-! ### Acceptance (R318, R321) -/

/-- `c` differs from `b` in what an authentication failure counts and tells only. -/
structure AuthOnly (b c : Block) : Prop where
  frame : c = { b with od := c.od, log := c.log, fatal := c.fatal, emith := { b.emith with authEvt := c.emith.authEvt } }
  regs : RegsKept [odKey Od.emithAuthFails 0, odKey Od.eventNextSeq 0] b c

theorem AuthOnly.refl (b : Block) : AuthOnly b b := ⟨rfl, RegsKept.refl _ b⟩

theorem AuthOnly.authFail (b : Block) : AuthOnly b b.authFail := by
  have counted : RegsKept [odKey Od.emithAuthFails 0, odKey Od.eventNextSeq 0] b (b.bump Od.emithAuthFails 0 1) := RegsKept.setReg _ _ _ _ (by simp)
  unfold Block.authFail
  dsimp only
  split
  · exact ⟨rfl, counted⟩
  · refine ⟨?_, counted.trans ((RegsKept.of_od rfl).trans (RegsKept.raise _ _ _ _ (by simp)))⟩
    conv_lhs => rw [Block.raise_eq]
    rw [Block.raise_emith]
    rfl

/-- A packet is discarded, which counts at most as an authentication failure, or it is accepted and read by its header. -/
theorem Block.accept_cases (b : Block) (type port : Nat) (p : Packet) : (∃ c, b.accept type port p = (none, c) ∧ AuthOnly b c)
    ∨ ∃ text c, b.accept type port p = (some (eheadOf p.header, text), c) ∧ (isHost port = false → c = b) := by
  unfold Block.accept
  dsimp only
  generalize (if isHost port = true then ((b.session? (eheadOf p.header).wctx).map (fun x => x.h2d)).getD [] else b.trafficKey (eheadOf p.header).key) = k
  split
  · exact .inl ⟨b, rfl, AuthOnly.refl b⟩
  · split
    · exact .inl ⟨b, rfl, AuthOnly.refl b⟩
    · split
      · exact .inl ⟨b.authFail, rfl, AuthOnly.authFail b⟩
      · split
        · exact .inl ⟨b, rfl, AuthOnly.refl b⟩
        · exact .inr ⟨_, _, rfl, fun fabric => if_neg (by simp [fabric])⟩

/-- A packet that is not accepted leaves its connections as they were. -/
theorem Block.accept_none {b : Block} {type port : Nat} {p : Packet} (h : (b.accept type port p).1 = none) :
    ∃ c, b.accept type port p = (none, c) ∧ AuthOnly b c := by
  rcases b.accept_cases type port p with refused | ⟨text, c, eq, _⟩
  · exact refused
  · rw [eq] at h
    exact nomatch h

/-- An accepted packet is read by its header, and moves no block where it comes over a fabric port. -/
theorem Block.accept_some {b : Block} {type port : Nat} {p : Packet} {h : EHead} {text : List Byte} (accepted : (b.accept type port p).1 = some (h, text))
    (fabric : isHost port = false) : h = eheadOf p.header ∧ b.accept type port p = (some (h, text), b) := by
  rcases b.accept_cases type port p with ⟨c, eq, _⟩ | ⟨_, c, eq, same⟩
  · rw [eq] at accepted
    exact nomatch accepted
  · rw [eq] at accepted ⊢
    obtain ⟨rfl, rfl⟩ := Prod.mk.inj (Option.some.inj accepted)
    exact ⟨rfl, by rw [same fabric]⟩

/-- The slices of a header are those of a Borough. -/
theorem dslice_eheadOf (h : BitVec 256) : (eheadOf h).dslice ≠ hostSlice := by
  have low : (eheadOf h).dslice < 4 := Nat.mod_lt _ (by decide)
  exact Nat.ne_of_lt low

theorem rxKey_slice {h : EHead} {p : Packet} (head : h = eheadOf p.header) : (rxKey h false).slice ≠ hostSlice := head ▸ dslice_eheadOf p.header

/-! ### Packets between devices (R318, R319) -/

/-- A packet of a connection between devices goes out only where the connection can send. -/
theorem canSend_of_sendPacket {b c : Block} {key : ConnKey} {hd : EHead} {payload : List Byte} {iface dest : Nat} (device : key.slice ≠ hostSlice)
    (sent : b.sendPacket key hd payload iface dest = some c) : CanSend b key := by
  unfold Block.sendPacket at sent
  dsimp only at sent
  rw [if_neg device] at sent
  split at sent <;> rename_i keyed
  · exact nomatch sent
  · refine ⟨device, fun none_ => keyed (by rw [none_]; rfl), fun none_ => ?_⟩
    rw [show b.takeTxc (b.reg Od.emithTxKeySlot 0) = (none, (b.takeTxc (b.reg Od.emithTxKeySlot 0)).2) from Prod.ext none_ rfl] at sent
    exact nomatch sent

/-- Whether a connection can send is a matter of its key and its transmit counter. -/
theorem canSend_of_keys {b c : Block} {key : ConnKey} (od : c.od = b.od) (wal : c.wal = b.wal) (txc : c.emith.txc = b.emith.txc) (can : CanSend b key) :
    CanSend c key := by
  have slot : c.reg Od.emithTxKeySlot 0 = b.reg Od.emithTxKeySlot 0 := Block.reg_eq_of_od od _ _
  obtain ⟨device, keyed, counted⟩ := can
  refine ⟨device, ?_, ?_⟩
  · rw [slot, Block.trafficKey, wal]
    exact keyed
  · rw [slot, Block.takeTxc_of_txc txc]
    exact counted

theorem length_beBytes (n x : Nat) : (beBytes n x).length = n := by rw [beBytes, List.length_reverse, length_leBytes]

theorem length_ackBytes (cum : Nat) (marks : List Nat) (dmax ce covered mask : Nat) : (ackBytes cum marks dmax ce covered mask).length = 50 := by
  simp [ackBytes, length_beBytes]

/-! ### Receiving connections (R324, R325) -/

theorem Block.rx?_setRx {b : Block} {key : ConnKey} {c : RxConn} (h : b.rx? key = some c) {f : RxConn → RxConn} (hf : ∀ x, (f x).key = x.key) :
    (b.setRx key f).rx? key = some (f c) := by
  have same : ((fun x : RxConn => x.key == key) ∘ fun x => if x.key == key then f x else x) = fun x => x.key == key := by
    funext x
    by_cases e : x.key = key <;> simp [e, hf]
  have mine : c.key = key := by simpa using List.find?_some h
  rw [Block.rx?, Block.setRx, List.find?_map, same]
  exact (congrArg (Option.map _) h).trans (by simp [mine])

theorem Block.rx?_of_rx {b c : Block} (h : c.emith.rx = b.emith.rx) (key : ConnKey) : c.rx? key = b.rx? key := by
  unfold Block.rx?
  rw [h]

theorem Block.setRx_setRx (b : Block) (key : ConnKey) {f : RxConn → RxConn} (hf : ∀ x, (f x).key = x.key) (g : RxConn → RxConn) :
    (b.setRx key f).setRx key g = b.setRx key (fun x => g (f x)) := by
  have same : b.emith.rx.map ((fun x => if x.key == key then g x else x) ∘ fun x => if x.key == key then f x else x)
      = b.emith.rx.map (fun x => if x.key == key then g (f x) else x) := by
    refine List.map_congr_left (fun x _ => ?_)
    by_cases e : x.key = key <;> simp [e, hf]
  unfold Block.setRx
  rw [List.map_map, same]

/-- `y` is `x` but for what the next ACK reports and times. -/
structure RxConn.Same (x y : RxConn) : Prop where
  key : y.key = x.key
  cgen : y.cgen = x.cgen
  cum : y.cum = x.cum
  marks : y.marks = x.marks
  iface : y.iface = x.iface

/-- The connection once an ACK or a PROBE of it is out at `now`, on an interface, with `half` of its two links. -/
def RxConn.answered (x : RxConn) (iface half now : Nat) : RxConn :=
  { x with since := 0, firstAt := none, dmax := 0, ce := 0, covered := 0, sentAt := now, usedAt := now, iface := iface, half := half }

/-- `c` differs from `b` in what an ACK on an interface changes, but for its connection. -/
structure AckOnly (b c : Block) : Prop where
  frame : c = { b with od := c.od, log := c.log, fatal := c.fatal, freeCount := c.freeCount,
                       emith := { b.emith with txc := c.emith.txc, wire := c.emith.wire, txFree := c.emith.txFree } }
  regs : RegsKept [odKey Od.eventNextSeq 0] b c

section Ack
variable {b : Block} {key : ConnKey} {c : RxConn} {i : Nat} (type : Nat)

/-- The block from which DMAX of an ACK is taken: a value is drawn where the ACK covers no packet. -/
def Block.drawDmax (b : Block) (c : RxConn) : Nat × Block := if c.covered = 0 then b.draw else (c.dmax, b)

theorem Block.drawDmax_eq (b : Block) (c : RxConn) : ∃ n, (b.drawDmax c).2 = { b with freeCount := n } := by
  unfold Block.drawDmax
  split
  · exact ⟨_, rfl⟩
  · exact ⟨_, rfl⟩

theorem AckOnly.of_packet {d e : Block} (h : ∃ n, d = { b with freeCount := n }) (only : PacketOnly d e) : AckOnly b e := by
  obtain ⟨n, rfl⟩ := h
  exact ⟨by rw [only.frame], only.regs⟩

/-- A connection that can send answers on the interface that spraying picks (R325, R326, R329). -/
theorem Block.sendAck_sends (can : CanSend b key) (conn : b.rx? key = some c) (pick : b.pickIface key c.iface none = some i) : ∃ d half,
    AckOnly b d ∧ b.sendAck key type = d.setRx key (fun x => x.answered i half d.dt) ∧ Sent b (b.sendAck key type) i key type c.cgen 0 50 := by
  obtain ⟨n, drawn⟩ := b.drawDmax_eq c
  have can' : CanSend (b.drawDmax c).2 key := canSend_of_keys (by rw [drawn]) (by rw [drawn]) (by rw [drawn]) can
  obtain ⟨d, packet, only, sent⟩ := Block.sendPacket_sends can' ⟨1, type, 0, 0, 0, 0, 0, 0, 0, 0, c.cgen, 0, 0, 0, 0⟩
    (ackBytes c.cum c.marks (b.drawDmax c).1 (min c.ce 65535) (min c.covered 65535) b.pmask) i (b.destIface key i c.half).1
  have eq : b.sendAck key type = d.setRx key (fun x => x.answered i (b.destIface key i c.half).2 d.dt) := by
    unfold Block.drawDmax at packet
    unfold Block.sendAck
    simp only [conn, pick, packet]
    rfl
  rw [length_ackBytes] at sent
  refine ⟨d, (b.destIface key i c.half).2, AckOnly.of_packet ⟨n, drawn⟩ only, eq, ?_⟩
  rw [eq]
  exact sent_of_frames sent (by rw [drawn]) (by rw [drawn]; rfl) (by rw [drawn]) (by rw [drawn]) rfl rfl

/-- Whether or not an answer of a connection between devices finds an interface, it leaves all but its counters and frames as it was. -/
theorem Block.sendAck_cases (device : key.slice ≠ hostSlice) : b.sendAck key type = b
    ∨ ∃ d i half, AckOnly b d ∧ b.sendAck key type = d.setRx key (fun x => x.answered i half d.dt) := by
  cases conn : b.rx? key with
  | none =>
    left
    unfold Block.sendAck
    rw [conn]
  | some c =>
    cases pick : b.pickIface key c.iface none with
    | none =>
      left
      unfold Block.sendAck
      simp only [conn, pick]
    | some i =>
      by_cases can : CanSend b key
      · obtain ⟨d, half, only, eq, _⟩ := Block.sendAck_sends type can conn pick
        exact .inr ⟨d, i, half, only, eq⟩
      · left
        obtain ⟨n, drawn⟩ := b.drawDmax_eq c
        have mute : ∀ hd payload dest, (b.drawDmax c).2.sendPacket key hd payload i dest = none := by
          intro hd payload dest
          refine Option.eq_none_iff_forall_not_mem.mpr (fun d sent => can ?_)
          exact canSend_of_keys (by rw [drawn]) (by rw [drawn]) (by rw [drawn]) (canSend_of_sendPacket device sent)
        unfold Block.drawDmax at mute
        unfold Block.sendAck
        simp only [conn, pick, mute]

/-- An answer passes no slice anything, and moves no window. -/
theorem Block.sendAck_keeps (device : key.slice ≠ hostSlice) (conn : b.rx? key = some c) : (b.sendAck key type).rb = b.rb
    ∧ ∃ y, (b.sendAck key type).rx? key = some y ∧ y.cum = c.cum ∧ y.marks = c.marks := by
  rcases b.sendAck_cases type device with eq | ⟨d, i, half, only, eq⟩
  · rw [eq]
    exact ⟨rfl, c, conn, rfl, rfl⟩
  · have conn' : d.rx? key = some c := (Block.rx?_of_rx (by rw [only.frame]) key).trans conn
    rw [eq]
    refine ⟨?_, c.answered i half d.dt, Block.rx?_setRx conn' (fun _ => rfl), rfl, rfl⟩
    show d.rb = b.rb
    rw [only.frame]

end Ack

end Sys2Proof.Machine
end

section
/-! PROOFS. EMITH_DATA and the timers of receiving connections: the window, the slice's parcel, and the answers (R322, R324 to R326). -/

namespace Sys2Proof.Machine

/-! ### A parcel that arrives at a slice (R295, R296) -/

/-- The parcels of the slices once one has arrived: one more, unless it is discarded. -/
def Block.arrivals (b : Block) (slice dev wctx : Nat) (payload : List Byte) : Rb :=
  let hd := headOf (BitVec.ofNat 128 (ofBE (payload.take 16)))
  match b.cohortFor wctx hd.id with
  | none => b.rb
  | some h =>
    if payload.length < 16 || hd.kind == 0 || decide (hd.kind > 9) then b.rb
    else if closeKind hd.kind && hd.sp != b.roundStep h.ctx % 2 then b.rb
    else if closeKind hd.kind && !closeFits hd (payload.length - 16) then b.rb
    else { b.rb with rx := b.rb.rx ++ [⟨slice, dev, wctx, BitVec.ofNat 128 hd.num, payload.drop 16, b.dt⟩] }

/-- An arrival moves parcels, entries and logs only. -/
theorem Block.arrive_frame (b : Block) (slice dev wctx : Nat) (payload : List Byte) :
    (b.arrive slice dev wctx payload).rb = b.arrivals slice dev wctx payload ∧ (b.arrive slice dev wctx payload).emith = b.emith := by
  unfold Block.arrive Block.arrivals
  dsimp only
  cases b.cohortFor wctx (headOf (BitVec.ofNat 128 (ofBE (payload.take 16)))).id with
  | none => exact ⟨rfl, rfl⟩
  | some h =>
    dsimp only
    split_ifs
    · exact ⟨rfl, rfl⟩
    · exact ⟨rfl, rfl⟩
    · exact ⟨Block.raise_rb .., Block.raise_emith ..⟩
    · exact ⟨congrArg (·.rb) (DrawOnly.contended rfl), congrArg (·.emith) (DrawOnly.contended rfl)⟩

/-- What a slice makes of a parcel is no matter of connections. -/
theorem Block.arrive_rb_of_conns {b c : Block} (h : ∃ e n, c = { b with emith := e, freeCount := n }) (slice dev wctx : Nat) (payload : List Byte) :
    (c.arrive slice dev wctx payload).rb = (b.arrive slice dev wctx payload).rb := by
  obtain ⟨e, n, rfl⟩ := h
  rw [(Block.arrive_frame _ ..).1, (Block.arrive_frame _ ..).1]
  rfl

/-! ### The window of a connection (R324, R326) -/

/-- The place of a PSN in the window of a connection. -/
def RxConn.offset (c : RxConn) (psn : Nat) : Nat := (psn + 2 ^ 32 - c.cum) % 2 ^ 32

/-- The connection once a packet has been taken from it, of a delay and with CE or not. -/
def RxConn.taken (x : RxConn) (window : Nat × List Nat) (now delay : Nat) (ce : Bool) : RxConn :=
  { x with cum := window.1, marks := window.2, since := x.since + 1, firstAt := some (x.firstAt.getD now), dmax := max x.dmax delay,
           ce := x.ce + (if ce then 1 else 0), covered := x.covered + 1 }

/-- The delay of a packet by its time stamp; a value is drawn where it is negative. -/
def Block.delayOf (b : Block) (ts : Nat) : Nat × Block :=
  if b.ageOf ts < 0 then (wrap 32 b.draw.1, b.draw.2) else (min (b.ageOf ts).toNat (2 ^ 32 - 1), b)

theorem Block.delayOf_eq (b : Block) (ts : Nat) : ∃ n, (b.delayOf ts).2 = { b with freeCount := n } := by
  unfold Block.delayOf
  split
  · exact ⟨_, rfl⟩
  · exact ⟨_, rfl⟩

section Take
variable {b : Block} {key : ConnKey} {port : Nat} {h : EHead} {text : List Byte} {ce : Bool} {c : RxConn} (conn : b.rx? key = some c)
include conn

/-- A PSN that the window does not take is answered at once, and the window stays as it is. -/
theorem Block.takeData_discards (out : windowMax ≤ c.offset h.psn ∨ c.marks.contains h.psn = true) :
    ∃ f : RxConn → RxConn, (∀ x, RxConn.Same x (f x)) ∧ b.takeData key port h text ce = (b.setRx key f).sendAck key etAck := by
  unfold Block.takeData
  rw [conn]
  dsimp only
  by_cases old : (h.psn + 2 ^ 32 - c.cum) % 2 ^ 32 ≥ 2 ^ 31 ∨ c.marks.contains h.psn = true
  · rw [if_pos old]
    refine ⟨_, ?_, rfl⟩
    exact fun _ => ⟨rfl, rfl, rfl, rfl, rfl⟩
  · have far : (h.psn + 2 ^ 32 - c.cum) % 2 ^ 32 ≥ windowMax := out.resolve_right (fun marked => old (.inr marked))
    rw [if_neg old, if_pos far, Block.setRx_setRx]
    · refine ⟨_, ?_, rfl⟩
      exact fun _ => ⟨rfl, rfl, rfl, rfl, rfl⟩
    · exact fun _ => rfl

/-- A PSN of the window that is not marked is marked, and its parcel passed to the slice; an answer may follow. -/
theorem Block.takeData_delivers (device : key.slice ≠ hostSlice) (window : c.offset h.psn < windowMax) (fresh : c.marks.contains h.psn = false) :
    ∃ (n : Nat) (f : RxConn → RxConn) (d : Block), (∀ x, (f x).key = x.key)
      ∧ ((f c).cum, (f c).marks) = advanceCum (c.marks.length + 1) c.cum (c.marks ++ [h.psn])
      ∧ d = (({ b with freeCount := n } : Block).setRx key f).arrive key.slice key.peer key.wctx text
      ∧ (b.takeData key port h text ce = d ∨ b.takeData key port h text ce = d.sendAck key etAck) := by
  have inside : (h.psn + 2 ^ 32 - c.cum) % 2 ^ 32 < 1024 := window
  have next : ¬ ((h.psn + 2 ^ 32 - c.cum) % 2 ^ 32 ≥ 2 ^ 31 ∨ c.marks.contains h.psn = true) := not_or.mpr ⟨by omega, by rw [fresh]; exact Bool.false_ne_true⟩
  have near : ¬ (h.psn + 2 ^ 32 - c.cum) % 2 ^ 32 ≥ windowMax := Nat.not_le.mpr window
  generalize hb : b.setRx key (fun x => { x with usedAt := b.dt }) = b₁
  have eq : b.takeData key port h text ce = (fun d : Block =>
      if c.since + 1 ≥ 8 || h.areq == 1 || ce || (h.psn + 2 ^ 32 - c.cum) % 2 ^ 32 != 0 then d.sendAck key etAck else d)
        (((b₁.delayOf h.ts).2.setRx key (fun x =>
          x.taken (advanceCum (c.marks.length + 1) c.cum (c.marks ++ [h.psn])) b₁.dt (b₁.delayOf h.ts).1 ce)).arrive key.slice key.peer key.wctx text) := by
    unfold Block.takeData
    rw [conn]
    dsimp only
    rw [if_neg next, if_neg near, if_neg device, ← hb]
    rfl
  obtain ⟨n, drawn⟩ := b₁.delayOf_eq h.ts
  have once : ∀ g : RxConn → RxConn, (b₁.delayOf h.ts).2.setRx key g = ({ b with freeCount := n } : Block).setRx key (fun x => g { x with usedAt := b.dt }) := by
    intro g
    rw [drawn, ← hb]
    exact Block.setRx_setRx { b with freeCount := n } key (f := fun x => { x with usedAt := b.dt }) (fun _ => rfl) g
  rw [once] at eq
  refine ⟨n, fun x => { x with usedAt := b.dt }.taken (advanceCum (c.marks.length + 1) c.cum (c.marks ++ [h.psn])) b₁.dt (b₁.delayOf h.ts).1 ce, _,
    fun _ => rfl, rfl, rfl, ?_⟩
  rw [eq]
  dsimp only
  split
  · exact .inr rfl
  · exact .inl rfl

end Take

/-! ### EMITH_DATA -/

section Data
variable {s : State} {pkt : Packet} {port : Nat} {h : EHead} {text : List Byte} {c : RxConn} {k : ConnKey}

/-- An accepted packet of an open connection is taken by it. -/
theorem xData_takes (accepted : (s.toBlock.accept etData port pkt).1 = some (h, text)) (fabric : isHost port = false) (hk : k = rxKey h false)
    (runs : s.toBlock.sliceRuns h.dslice = true) (conn : s.toBlock.rx? k = some c) (gen : c.cgen = h.cgen) :
    xData pkt port s.toBlock = s.toBlock.takeData k port h text pkt.ce := by
  subst hk
  unfold xData
  rw [(Block.accept_some accepted fabric).2]
  dsimp only
  rw [fabric, show (rxKey h false).slice = h.dslice from rfl, if_neg (by simp [runs])]
  unfold Block.openRx
  rw [conn]
  dsimp only
  rw [if_pos (by rw [gen, Nat.add_sub_cancel_left, Nat.mod_self])]

end Data

/-- Settles O43: what the window does not take is answered, and an answer moves no window; what it takes is marked and passed on. -/
theorem emithData : Obligations.EmithData := by
  unfold Obligations.EmithData
  intro s pkt port
  refine ⟨_, rfl, fun refused => ?_, fun h text c k accepted fabric hk runs conn gen => ?_⟩
  · obtain ⟨d, eq, only⟩ := Block.accept_none refused
    have run : xData pkt port s.toBlock = d := by
      unfold xData
      rw [eq]
    simp only [State.run_toBlock, settle_emith, settle_rb, settle_mem, run]
    refine ⟨?_, ?_, ?_, ?_, ?_, only.regs⟩ <;> rw [only.frame]
  · have device : k.slice ≠ hostSlice := hk ▸ rxKey_slice (Block.accept_some accepted fabric).1
    have run := xData_takes accepted fabric hk runs conn gen
    have stays : (windowMax ≤ c.offset h.psn ∨ c.marks.contains h.psn = true) → (xData pkt port s.toBlock).rb = s.rb
        ∧ ∃ y, (xData pkt port s.toBlock).rx? k = some y ∧ y.cum = c.cum ∧ y.marks = c.marks := by
      intro out
      obtain ⟨f, same, eq⟩ := Block.takeData_discards conn out
      obtain ⟨rb, y, answered, cum, marks⟩ := Block.sendAck_keeps etAck device (Block.rx?_setRx conn (fun x => (same x).key))
      rw [run, eq]
      exact ⟨rb, y, answered, cum.trans (same c).cum, marks.trans (same c).marks⟩
    refine ⟨fun old => stays (old.imp_left (fun far => le_trans (by decide) far)), fun far _ _ => stays (.inl far), fun i out pick can => ?_, fun window fresh => ?_⟩
    · obtain ⟨f, same, eq⟩ := Block.takeData_discards (port := port) (text := text) (ce := pkt.ce) conn out
      have conn' := Block.rx?_setRx conn (fun x => (same x).key)
      obtain ⟨d, half, only, ack, sent⟩ := Block.sendAck_sends (b := s.toBlock.setRx k f) etAck (canSend_of_keys (b := s.toBlock) rfl rfl rfl can) conn' (by rw [(same c).iface]; exact pick)
      rw [(same c).cgen, ← eq, ← run] at sent
      exact sent_of_frames sent rfl rfl rfl rfl rfl rfl
    · obtain ⟨n, f, d, key, cum, hd, eq⟩ := Block.takeData_delivers (port := port) (text := text) (ce := pkt.ce) conn device window fresh
      have emith : d.emith = (({ s.toBlock with freeCount := n } : Block).setRx k f).emith := hd ▸ (Block.arrive_frame ..).2
      have marked : d.rx? k = some (f c) := (Block.rx?_of_rx (congrArg (·.rx) emith) k).trans (Block.rx?_setRx (b := { s.toBlock with freeCount := n }) conn key)
      have passed : d.rb = (s.toBlock.arrive h.dslice h.src h.wctx text).rb := by
        subst hk
        rw [hd]
        exact Block.arrive_rb_of_conns (b := s.toBlock) ⟨_, n, rfl⟩ ..
      rcases eq with eq | eq
      · simp only [State.run_toBlock, run, eq]
        exact ⟨passed, f c, marked, cum⟩
      · obtain ⟨rb, y, answered, same, same'⟩ := Block.sendAck_keeps etAck device marked
        simp only [State.run_toBlock, run, eq]
        refine ⟨rb.trans passed, y, answered, ?_⟩
        rw [same, same']
        exact cum

end Sys2Proof.Machine
end

section
/-! PROOFS. The timers of Emith: delayed answers, probes, retransmission and idle connections (R322, R326 to R328, R331). -/

namespace Sys2Proof.Machine

/-! ### ACK_DELAY_EXPIRY and PROBE_INTERVAL (R326) -/

/-- What a timer of a receiving connection sends at `t`: one packet, and what the connection reports starts afresh. -/
theorem goes_sendAck {s : State} {g : Block → Block} {k : ConnKey} {c : RxConn} {t type i : Nat}
    (h : g s.toBlock = (s.toBlock.reach t).sendAck k type) (conn : s.toBlock.rx? k = some c)
    (pick : (s.toBlock.reach t).pickIface k c.iface none = some i) (can : CanSend s.toBlock k) : Goes (.next (s.run g)) fun u =>
      u.dt = max s.dt t ∧ Sent s.toBlock u.toBlock i k type c.cgen 0 50 ∧ u.rb = s.rb ∧ u.mem = s.mem
      ∧ ∃ y half, u.toBlock.rx? k = some y ∧ y = c.answered i half u.dt := by
  obtain ⟨d, half, only, eq, sent⟩ := Block.sendAck_sends (b := s.toBlock.reach t) type (canSend_of_keys (b := s.toBlock) rfl rfl rfl can) conn pick
  have conn' : d.rx? k = some c := (Block.rx?_of_rx (by rw [only.frame]; rfl) k).trans conn
  have now : d.dt = max s.dt t := by rw [only.frame]; rfl
  have rb : d.rb = s.rb := by rw [only.frame]; rfl
  have mem : d.mem = s.mem := by rw [only.frame]; rfl
  refine goes_run_eq (h.trans eq) ⟨now, ?_, rb, mem, _, half, Block.rx?_setRx conn' (fun _ => rfl), rfl⟩
  rw [eq] at sent
  exact sent_of_frames sent rfl rfl rfl rfl rfl rfl

theorem ackDelayExpiry_goes (s : State) (k : ConnKey) (c : RxConn) (t0 i : Nat) (conn : s.toBlock.rx? k = some c) (first : c.firstAt = some t0)
    (live : s.toBlock.live = true) (pick : (s.toBlock.reach (t0 + 2000)).pickIface k c.iface none = some i) (can : CanSend s.toBlock k) :
    Goes (exec (.ackDelayExpiry k) s) fun t =>
      t.dt = max s.dt (t0 + 2000) ∧ Sent s.toBlock t.toBlock i k etAck c.cgen 0 50 ∧ t.rb = s.rb ∧ t.mem = s.mem
      ∧ ∃ y, t.toBlock.rx? k = some y ∧ y.cum = c.cum ∧ y.marks = c.marks ∧ y.since = 0 ∧ y.firstAt = none ∧ y.covered = 0 ∧ y.sentAt = t.dt := by
  have eq : xAckDelay k s.toBlock = (s.toBlock.reach (t0 + 2000)).sendAck k etAck := by simp [xAckDelay, conn, first, live]
  obtain ⟨t, run, dt, sent, rb, mem, _, half, found, rfl⟩ := goes_sendAck eq conn pick can
  exact ⟨t, run, dt, sent, rb, mem, _, found, rfl, rfl, rfl, rfl, rfl, rfl⟩

theorem probeInterval_goes (s : State) (k : ConnKey) (c : RxConn) (i : Nat) (conn : s.toBlock.rx? k = some c) (quiet : c.since = 0)
    (live : s.toBlock.live = true) (pick : (s.toBlock.reach (c.sentAt + 100000)).pickIface k c.iface none = some i) (can : CanSend s.toBlock k) :
    Goes (exec (.probeInterval k) s) fun t =>
      t.dt = max s.dt (c.sentAt + 100000) ∧ Sent s.toBlock t.toBlock i k etProbe c.cgen 0 50 ∧ t.rb = s.rb ∧ t.mem = s.mem
      ∧ ∃ y, t.toBlock.rx? k = some y ∧ y.cum = c.cum ∧ y.marks = c.marks ∧ y.sentAt = t.dt := by
  have eq : xProbeDue k s.toBlock = (s.toBlock.reach (c.sentAt + 100000)).sendAck k etProbe := by simp [xProbeDue, conn, quiet, live]
  obtain ⟨t, run, dt, sent, rb, mem, _, half, found, rfl⟩ := goes_sendAck eq conn pick can
  exact ⟨t, run, dt, sent, rb, mem, _, found, rfl, rfl, rfl⟩

/-! ### Retransmission (R327, R328, R331) -/

/-- The packet with a PSN has been sent again on an interface. -/
def TxConn.resent (x : TxConn) (psn iface now : Nat) : TxConn :=
  { x with unacked := x.unacked.map (fun y => if y.psn == psn then { y with tries := y.tries + 1, at_ := now, iface := iface } else y) }

theorem Block.failTx_gone (b : Block) (key : ConnKey) : (b.failTx key).tx? key = none := by
  rw [Block.tx?, List.find?_eq_none]
  intro x mem
  unfold Block.failTx at mem
  rw [Block.raise_emith] at mem
  simpa using (List.mem_filter.mp mem).2

theorem RegsKept.failTx (b : Block) (key : ConnKey) : RegsKept [odKey Od.emithConnFails 0, odKey Od.eventNextSeq 0] b (b.failTx key) := by
  refine RegsKept.trans (b := { b with emith := { b.emith with tx := b.emith.tx.filter (fun c => c.key != key) } }) (RegsKept.of_od rfl) ?_
  exact (RegsKept.setReg _ _ _ _ (by simp)).trans (RegsKept.raise _ _ _ _ (by simp))

theorem Block.failTx_counts (b : Block) (key : ConnKey) :
    (b.failTx key).reg Od.emithConnFails 0 = wrap (odWidth Od.emithConnFails 0) (b.reg Od.emithConnFails 0 + 1) := by
  unfold Block.failTx
  rw [Block.reg_raise_ne _ _ _ _ (by decide), Block.reg_bump_self]
  rfl

theorem TxConn.find?_resent {x : TxConn} {psn : Nat} {u : SentPkt} (h : x.unacked.find? (fun y => y.psn == psn) = some u) (iface now : Nat) :
    (x.resent psn iface now).unacked.find? (fun y => y.psn == psn) = some { u with tries := u.tries + 1, at_ := now, iface := iface } := by
  have same : ((fun y : SentPkt => y.psn == psn) ∘ fun y => if y.psn == psn then { y with tries := y.tries + 1, at_ := now, iface := iface } else y)
      = fun y => y.psn == psn := by
    funext y
    by_cases e : y.psn = psn <;> simp [e]
  have mine : u.psn = psn := by simpa using List.find?_some h
  rw [TxConn.resent, List.find?_map, same, h]
  simp [mine]

theorem Block.key_of_tx? {b : Block} {key : ConnKey} {c : TxConn} (h : b.tx? key = some c) : c.key = key := by simpa using List.find?_some h

/-- A packet of a connection goes out again and is counted, in `e`; at the limit of tries its connection then fails. -/
theorem Block.retransmit_sends {b : Block} {key : ConnKey} {psn i : Nat} {c : TxConn} {u : SentPkt} (conn : b.tx? key = some c)
    (waits : c.unacked.find? (fun x => x.psn == psn) = some u) (pick : (b.reach c.freeAt).pickIface key c.iface (some u.iface) = some i) (can : CanSend b key) :
    ∃ (e : Block) (half : Nat), e = { b with
        dt := e.dt, od := e.od, log := e.log, fatal := e.fatal,
        emith := { b.emith with tx := e.emith.tx, txc := e.emith.txc, wire := e.emith.wire, txFree := e.emith.txFree } }
      ∧ Sent (b.reach c.freeAt) e i key etData c.cgen psn u.payload.length ∧ e.dt = max b.dt c.freeAt
      ∧ RegsKept [odKey Od.emithRetransmits 0, odKey Od.eventNextSeq 0] b e
      ∧ e.reg Od.emithRetransmits 0 = wrap (odWidth Od.emithRetransmits 0) (b.reg Od.emithRetransmits 0 + 1)
      ∧ e.tx? key = some (c.paced i half e.dt u.payload.length)
      ∧ b.retransmit key psn = if b.reg Od.emithRetryLimit 0 ≤ u.tries + 1 then e.failTx key else e.setTx key (fun x => x.resent psn i e.dt) := by
  have mine := Block.key_of_tx? conn
  subst mine
  obtain ⟨d, half, only, sent, data⟩ := Block.sendData_sends (canSend_of_keys (b := b) (c := b.reach c.freeAt) rfl rfl rfl can) pick psn 1 u.payload
  have conn' : d.tx? c.key = some c := (Block.tx?_of_tx (by rw [only.frame]; rfl) _).trans conn
  generalize hd : d.setTx c.key (fun x => x.paced i half d.dt u.payload.length) = d' at data
  have counted : RegsKept [odKey Od.emithRetransmits 0, odKey Od.eventNextSeq 0] b (d'.bump Od.emithRetransmits 0 1) := by
    refine ((RegsKept.of_od rfl).trans (b := b.reach c.freeAt) (only.regs.mono (by simp))).trans ?_
    rw [← hd]
    exact RegsKept.setReg (d.setTx c.key _) _ _ _ (by simp)
  have paced : d'.tx? c.key = some (c.paced i half d.dt u.payload.length) := hd ▸ Block.tx?_setTx conn' (fun _ => rfl)
  refine ⟨d'.bump Od.emithRetransmits 0 1, half, ?_, ?_, ?_, counted, ?_, ?_, ?_⟩
  · rw [← hd, Block.setTx, only.frame]
    rfl
  · exact sent_of_frames sent rfl rfl rfl rfl (by rw [← hd]; rfl) (by rw [← hd]; rfl)
  · rw [← hd]
    show d.dt = _
    rw [only.frame]
    rfl
  · rw [Block.reg_bump_self, ← hd]
    exact congrArg (fun n => wrap (odWidth Od.emithRetransmits 0) (n + 1)) (only.regs _ _ (by decide))
  · rw [← hd] at paced ⊢
    exact (Block.tx?_of_tx rfl _).trans paced
  · unfold Block.retransmit
    simp only [conn, waits, data]
    rw [counted Od.emithRetryLimit 0 (by decide)]
    rfl

/-- What an expired timeout leaves of the connection before the packet goes out: the timeout doubled, up to 10 ms. -/
def TxConn.backedOff (x : TxConn) : TxConn := { x with rto := min (10 ^ 7) (2 * x.rto) }

theorem rtoExpiry_goes (s : State) (k : ConnKey) (psn i : Nat) (c : TxConn) (u : SentPkt) (conn : s.toBlock.tx? k = some c)
    (waits : c.unacked.find? (fun x => x.psn == psn) = some u) (live : s.toBlock.live = true)
    (pick : (s.toBlock.reach (max (u.at_ + c.rto) c.freeAt)).pickIface k c.iface (some u.iface) = some i) (can : CanSend s.toBlock k) :
    Goes (exec (.rtoExpiry k psn) s) fun t =>
      t.dt = max s.dt (max (u.at_ + c.rto) c.freeAt) ∧ Sent s.toBlock t.toBlock i k etData c.cgen psn u.payload.length
      ∧ t.reg Od.emithRetransmits 0 = wrap (odWidth Od.emithRetransmits 0) (s.reg Od.emithRetransmits 0 + 1)
      ∧ (s.reg Od.emithRetryLimit 0 ≤ u.tries + 1 → t.toBlock.tx? k = none ∧ LastEvent t.toBlock 0x8383 noCtx (beBytes 4 k.peer)
        ∧ t.reg Od.emithConnFails 0 = wrap (odWidth Od.emithConnFails 0) (s.reg Od.emithConnFails 0 + 1))
      ∧ (u.tries + 1 < s.reg Od.emithRetryLimit 0 → ∃ y, t.toBlock.tx? k = some y ∧ y.rto = min (10 ^ 7) (2 * c.rto)
        ∧ ∃ v, y.unacked.find? (fun x => x.psn == psn) = some v ∧ v.tries = u.tries + 1 ∧ v.payload = u.payload) := by
  generalize hb : (s.toBlock.reach (u.at_ + c.rto)).setTx k TxConn.backedOff = b
  have conn' : b.tx? k = some c.backedOff := hb ▸ Block.tx?_setTx (b := s.toBlock.reach (u.at_ + c.rto)) conn (fun _ => rfl)
  have place : b = { s.toBlock with dt := max s.dt (u.at_ + c.rto), emith := { s.emith with tx := b.emith.tx } } := by rw [← hb]; rfl
  have reach : b.reach c.freeAt = { s.toBlock.reach (max (u.at_ + c.rto) c.freeAt) with emith := { s.emith with tx := b.emith.tx } } := by
    rw [Block.reach, Block.reach, ← max_assoc, ← hb]
    rfl
  have can' : CanSend b k := canSend_of_keys (by rw [place]) (by rw [place]) (by rw [place]) can
  obtain ⟨e, half, _, sent, now, regs, counted, paced, again⟩ :=
    Block.retransmit_sends (psn := psn) (i := i) (u := u) conn' waits (by show (b.reach c.freeAt).pickIface _ _ _ = _; rw [reach]; exact pick) can'
  have reg : ∀ j, b.reg j 0 = s.reg j 0 := fun j => by rw [place]; rfl
  have clock : e.dt = max s.dt (max (u.at_ + c.rto) c.freeAt) := by rw [now, ← max_assoc, place]; rfl
  have eq : xRto k psn s.toBlock = b.retransmit k psn := by
    unfold xRto
    simp only [conn, waits, live]
    rw [← hb]
    rfl
  have out : ∀ t : Block, t.emith.wire = e.emith.wire → t.dt = e.dt → Sent s.toBlock t i k etData c.cgen psn u.payload.length := fun t wire dt =>
    sent_of_frames (b := b.reach c.freeAt) sent (by rw [reach]) (by rw [reach]; rfl) (by rw [reach]) (by rw [reach]) wire dt
  rw [again, reg] at eq
  rw [reg] at counted
  by_cases last : s.reg Od.emithRetryLimit 0 ≤ u.tries + 1
  · rw [if_pos last] at eq
    have dt : (e.failTx k).dt = e.dt := Block.raise_dt ..
    have fails := e.failTx_counts k
    rw [regs Od.emithConnFails 0 (by decide), reg] at fails
    exact goes_run_eq eq ⟨dt.trans clock, out _ (congrArg (·.wire) (Block.raise_emith ..)) dt, (RegsKept.failTx e k _ _ (by decide)).trans counted,
      fun _ => ⟨Block.failTx_gone e k, lastEvent_raise .., fails⟩, fun more => absurd last (Nat.not_le.mpr more)⟩
  · rw [if_neg last] at eq
    exact goes_run_eq eq ⟨clock, out _ rfl rfl, counted, fun stop => absurd stop last,
      fun _ => ⟨_, Block.tx?_setTx paced (fun _ => rfl), rfl, _, TxConn.find?_resent waits i e.dt, rfl, rfl⟩⟩

/-! ### CONN_IDLE_EXPIRY (R322) -/

theorem find?_filter_key {α : Type} {key : α → ConnKey} (l : List α) (k j : ConnKey) :
    (l.filter (fun x => key x != k)).find? (fun x => key x == j) = if j = k then none else l.find? (fun x => key x == j) := by
  rw [List.find?_filter]
  split
  · next e =>
    subst e
    rw [List.find?_eq_none]
    simp
  · next ne =>
    refine congrArg (fun p => l.find? p) (funext fun x => ?_)
    by_cases e : key x = j <;> simp [e, ne]

theorem connIdle_sending (s : State) (k : ConnKey) (c : TxConn) (sending : k.sending = true) (conn : s.toBlock.tx? k = some c) :
    Goes (exec (.connIdleExpiry k) s) fun t =>
      t.dt = max s.dt (c.usedAt + 10 ^ 9) ∧ t.toBlock.tx? k = none ∧ (∀ j, j ≠ k → t.toBlock.tx? j = s.toBlock.tx? j) ∧ t.emith.rx = s.emith.rx ∧ t.rb = s.rb
      ∧ RegsKept [] s.toBlock t.toBlock := by
  have eq : xConnIdle k s.toBlock = { s.toBlock.reach (c.usedAt + 10 ^ 9) with emith := { s.emith with tx := s.emith.tx.filter (fun x => x.key != k) } } := by
    simp [xConnIdle, sending, conn]
  have gone := find?_filter_key (key := TxConn.key) s.emith.tx k
  exact goes_run_eq eq ⟨rfl, (gone k).trans (if_pos rfl), fun j other => (gone j).trans (if_neg other), rfl, rfl, RegsKept.of_od rfl⟩

theorem connIdle_receiving (s : State) (k : ConnKey) (c : RxConn) (receiving : k.sending = false) (conn : s.toBlock.rx? k = some c) :
    Goes (exec (.connIdleExpiry k) s) fun t =>
      t.dt = max s.dt (c.usedAt + 10 ^ 9) ∧ t.toBlock.rx? k = none ∧ (∀ j, j ≠ k → t.toBlock.rx? j = s.toBlock.rx? j) ∧ t.emith.tx = s.emith.tx ∧ t.rb = s.rb
      ∧ RegsKept [] s.toBlock t.toBlock := by
  have eq : xConnIdle k s.toBlock = { s.toBlock.reach (c.usedAt + 10 ^ 9) with emith := { s.emith with rx := s.emith.rx.filter (fun x => x.key != k) } } := by
    simp [xConnIdle, receiving, conn]
  have gone := find?_filter_key (key := RxConn.key) s.emith.rx k
  exact goes_run_eq eq ⟨rfl, (gone k).trans (if_pos rfl), fun j other => (gone j).trans (if_neg other), rfl, rfl, RegsKept.of_od rfl⟩

/-- Settles O45, timer by timer. -/
theorem emithTimers : Obligations.EmithTimers := by
  unfold Obligations.EmithTimers
  exact ⟨ackDelayExpiry_goes, probeInterval_goes, rtoExpiry_goes, connIdle_sending, connIdle_receiving⟩

end Sys2Proof.Machine
end

section
/-! PROOFS. EMITH_ACK and EMITH_PROBE: what they show as received, what is sent again, and the rate (R325, R327, R330). -/

namespace Sys2Proof.Machine

/-! ### The rate (R330) -/

theorem adapt_bounds (c : TxConn) (now dmax ce covered target rmax ai : Nat) (low : 1000 ≤ c.rate) (high : c.rate ≤ rmax) :
    1000 ≤ (c.adapt now dmax ce covered target rmax ai).rate ∧ (c.adapt now dmax ce covered target rmax ai).rate ≤ rmax
    ∧ (0 < ce → 0 < covered → c.srtt ≤ now - c.cutAt → (c.adapt now dmax ce covered target rmax ai).rate = max 1000 (c.rate - c.rate * ce / (2 * covered))) := by
  have cut : ∀ n, 1000 ≤ max 1000 (c.rate - n) ∧ max 1000 (c.rate - n) ≤ rmax := fun n => by omega
  unfold TxConn.adapt
  dsimp only
  split
  · next marked =>
    refine ⟨(cut _).1, (cut _).2, fun _ some_ _ => ?_⟩
    rw [if_neg (Nat.ne_of_gt some_)]
  · next unmarked =>
    refine and_assoc.mp ⟨?_, fun mark _ old => absurd ⟨mark, old⟩ unmarked⟩
    split
    · exact cut _
    · split
      · show 1000 ≤ min rmax (c.rate + ai) ∧ min rmax (c.rate + ai) ≤ rmax
        omega
      · exact ⟨low, high⟩

/-- The rate is all of a connection that an ACK adapts, but for its own times. -/
theorem TxConn.adapt_keeps (c : TxConn) (now dmax ce covered target rmax ai : Nat) : (c.adapt now dmax ce covered target rmax ai).key = c.key
    ∧ (c.adapt now dmax ce covered target rmax ai).unacked = c.unacked ∧ (c.adapt now dmax ce covered target rmax ai).next = c.next := by
  unfold TxConn.adapt
  dsimp only
  split_ifs <;> exact ⟨rfl, rfl, rfl⟩

/-! ### Packets that are sent again (R327) -/

/-- Of what an ACK is about, `c` has of a connection of `b` the same PSNs, none, or no connection. -/
structure Resends (key : ConnKey) (b c : Block) : Prop where
  frame : c = { b with dt := c.dt, od := c.od, log := c.log, fatal := c.fatal,
                       emith := { b.emith with tx := c.emith.tx, txc := c.emith.txc, wire := c.emith.wire, txFree := c.emith.txFree } }
  conn : ∀ y, c.tx? key = some y → ∃ x, b.tx? key = some x ∧ y.unacked.map (·.psn) = x.unacked.map (·.psn) ∧ y.next = x.next ∧ y.rate = x.rate

namespace Resends
variable {a b c : Block} {key : ConnKey}

theorem refl (key : ConnKey) (b : Block) : Resends key b b := ⟨rfl, fun y h => ⟨y, h, rfl, rfl, rfl⟩⟩

theorem trans (h : Resends key a b) (k : Resends key b c) : Resends key a c where
  frame := by rw [k.frame, h.frame]
  conn := fun y found => by
    obtain ⟨x, found', psns, next, rate⟩ := k.conn y found
    obtain ⟨w, found'', psns', next', rate'⟩ := h.conn x found'
    exact ⟨w, found'', psns.trans psns', next.trans next', rate.trans rate'⟩

theorem masks (h : Resends key b c) : c.emith.masks = b.emith.masks := by rw [h.frame]
theorem rx (h : Resends key b c) : c.emith.rx = b.emith.rx := by rw [h.frame]
theorem rb (h : Resends key b c) : c.rb = b.rb := by rw [h.frame]
theorem mem (h : Resends key b c) : c.mem = b.mem := by rw [h.frame]

theorem foldl {α : Type} {f : Block → α → Block} (h : ∀ b x, Resends key b (f b x)) (l : List α) (b : Block) : Resends key b (l.foldl f b) :=
  foldl_has (Resends key b) (fun _ x k => k.trans (h _ x)) l (refl key b)

end Resends

/-- Where a DATA packet of a connection between devices goes out, the connection can send. -/
theorem Block.sendData_some {b d : Block} {c : TxConn} {psn retx i : Nat} {payload : List Byte} {prev : Option Nat} (device : c.key.slice ≠ hostSlice)
    (h : b.sendData c psn payload retx prev = some (i, d)) : b.pickIface c.key c.iface prev = some i ∧ CanSend b c.key := by
  unfold Block.sendData at h
  cases pick : b.pickIface c.key c.iface prev with
  | none => rw [pick] at h; exact nomatch h
  | some j =>
    rw [pick] at h
    dsimp only at h
    split at h
    · exact nomatch h
    · next e sent =>
      cases h
      exact ⟨rfl, canSend_of_sendPacket device sent⟩

theorem map_psn_resent (x : TxConn) (psn iface now : Nat) : (x.resent psn iface now).unacked.map (·.psn) = x.unacked.map (·.psn) := by
  rw [TxConn.resent, List.map_map]
  refine List.map_congr_left (fun y _ => ?_)
  simp only [Function.comp_apply]
  split <;> rfl

theorem Resends.retransmit (b : Block) {key : ConnKey} (device : key.slice ≠ hostSlice) (psn : Nat) : Resends key b (b.retransmit key psn) := by
  cases conn : b.tx? key with
  | none =>
    rw [show b.retransmit key psn = b by unfold Block.retransmit; rw [conn]]
    exact Resends.refl key b
  | some c =>
    cases waits : c.unacked.find? (fun x => x.psn == psn) with
    | none =>
      rw [show b.retransmit key psn = b by unfold Block.retransmit; simp only [conn, waits]]
      exact Resends.refl key b
    | some u =>
      cases data : (b.reach c.freeAt).sendData c psn u.payload 1 (some u.iface) with
      | none =>
        rw [show b.retransmit key psn = b by unfold Block.retransmit; simp only [conn, waits, data]]
        exact Resends.refl key b
      | some r =>
        have mine := Block.key_of_tx? conn
        subst mine
        obtain ⟨pick, can⟩ := Block.sendData_some device data
        obtain ⟨e, half, only, _, _, _, _, paced, again⟩ := Block.retransmit_sends (psn := psn) conn waits pick (canSend_of_keys (b := b.reach c.freeAt) rfl rfl rfl can)
        rw [again]
        split
        · refine ⟨?_, fun y found => ?_⟩
          · unfold Block.failTx
            rw [Block.raise_eq, only]
            dsimp only
            rfl
          · rw [Block.failTx_gone] at found
            exact nomatch found
        · refine ⟨by rw [only]; rfl, fun y found => ?_⟩
          cases (Block.tx?_setTx paced (f := fun x => x.resent psn r.1 e.dt) (fun _ => rfl)).symm.trans found
          exact ⟨c, conn, map_psn_resent .., rfl, rfl⟩

theorem Resends.resendLost (b : Block) {key : ConnKey} (device : key.slice ≠ hostSlice) (cum sack : Nat) : Resends key b (b.resendLost key cum sack) := by
  unfold Block.resendLost
  split
  · exact Resends.refl key b
  · exact Resends.foldl (fun b (p : SentPkt) => Resends.retransmit b device p.psn) _ b

/-! ### What is shown as received (R325, R327) -/

/-- What an ACK or a PROBE shows as received leaves its connection, whose next PSN and rate stay. -/
theorem Block.takeAck_eq {b : Block} {key : ConnKey} {c : TxConn} (conn : b.tx? key = some c) (cum sack : Nat) :
    ∃ f : TxConn → TxConn, b.takeAck key cum sack = b.setTx key f ∧ ∀ x, (f x).key = x.key ∧ (f x).next = x.next ∧ (f x).rate = x.rate
      ∧ (f x).unacked = c.unacked.filter (fun s => !acked cum sack s.psn) := by
  unfold Block.takeAck
  rw [conn]
  refine ⟨_, rfl, fun x => ?_⟩
  generalize ((c.unacked.filter (fun s => acked cum sack s.psn)).filter (fun s => s.tries == 0)).getLast? = last
  cases last with
  | none =>
    dsimp only
    split_ifs <;> exact ⟨rfl, rfl, rfl, rfl⟩
  | some p =>
    dsimp only [TxConn.sample]
    split_ifs <;> exact ⟨rfl, rfl, rfl, rfl⟩

/-- The commands of O44 with the types of their packets. -/
def ackCommands (pkt : Packet) (port : Nat) : List (Instr × Nat) := [(Instr.emithAck pkt port, etAck), (.emithProbe pkt port, etProbe)]

theorem exec_ackCommand {pkt : Packet} {port : Nat} {e : Instr × Nat} (he : e ∈ ackCommands pkt port) (s : State) :
    exec e.1 s = .next (s.run (fun b => b.ackArrives e.2 pkt port)) := by
  rcases List.mem_cons.mp he with rfl | he
  · rfl
  · cases List.mem_singleton.mp he
    rfl

section Arrives
variable {s : Block} {pkt : Packet} {port type : Nat} {h : EHead} {text : List Byte} {c : TxConn} {k : ConnKey}

/-- The connection once an ACK or a PROBE has shown what arrived: the rate is adapted by an ACK alone. -/
theorem Block.ackArrives_resends (accepted : (s.accept type port pkt).1 = some (h, text)) (fabric : isHost port = false) (whole : text.length = 50)
    (hk : k = txKey h false) (conn : s.tx? k = some c) (gen : c.cgen = h.cgen) : ∃ (d : Block) (y : TxConn),
      d = { s with emith := { s.emith with tx := d.emith.tx, masks := sset 0 s.emith.masks h.src ((ackFields text).2.2.2.2.2 + 1) } }
      ∧ d.tx? k = some y ∧ y.next = c.next ∧ (type = etProbe → y.rate = c.rate) ∧ (∀ u ∈ y.unacked, acked (ackFields text).1 (ackFields text).2.1 u.psn = false)
      ∧ s.ackArrives type pkt port = d.resendLost k (ackFields text).1 (ackFields text).2.1 := by
  subst hk
  generalize hm : ({ s with emith := { s.emith with masks := sset 0 s.emith.masks h.src ((ackFields text).2.2.2.2.2 + 1) } } : Block) = m
  have conn' : m.tx? (txKey h false) = some c := hm ▸ conn
  obtain ⟨f, took, keeps⟩ := Block.takeAck_eq conn' (ackFields text).1 (ackFields text).2.1
  have shown : (m.setTx (txKey h false) f).tx? (txKey h false) = some (f c) := Block.tx?_setTx conn' (fun x => (keeps x).1)
  have left_ : ∀ u ∈ (f c).unacked, acked (ackFields text).1 (ackFields text).2.1 u.psn = false := by
    intro u mem
    rw [(keeps c).2.2.2] at mem
    simpa using (List.mem_filter.mp mem).2
  have run : s.ackArrives type pkt port = (if type != etAck then m.setTx (txKey h false) f
      else (m.setTx (txKey h false) f).setTx (txKey h false) (fun x => x.adapt (m.setTx (txKey h false) f).dt (ackFields text).2.2.1 (ackFields text).2.2.2.1
        (ackFields text).2.2.2.2.1 ((m.setTx (txKey h false) f).reg Od.emithTargetNs 0) 3200000 (1000 * (m.setTx (txKey h false) f).reg Od.emithAiGbps 0))).resendLost
          (txKey h false) (ackFields text).1 (ackFields text).2.1 := by
    unfold Block.ackArrives
    rw [(Block.accept_some accepted fabric).2]
    dsimp only
    rw [fabric, if_neg (by simp [whole]), if_neg Bool.false_ne_true, hm, conn']
    dsimp only
    rw [if_neg (by simp [gen]), took, if_neg Bool.false_ne_true]
  by_cases probe : type = etAck
  · subst probe
    refine ⟨_, _, ?_, Block.tx?_setTx shown (fun x => (TxConn.adapt_keeps x ..).1), ?_, nofun, ?_, run⟩
    · rw [← hm]
      rfl
    · exact (TxConn.adapt_keeps (f c) ..).2.2.trans (keeps c).2.1
    · rw [(TxConn.adapt_keeps (f c) ..).2.1]
      exact left_
  · rw [if_pos (by simpa using probe)] at run
    exact ⟨_, _, by rw [← hm]; rfl, shown, (keeps c).2.1, fun _ => (keeps c).2.2.1, left_, run⟩

end Arrives

/-- Settles O44: what an ACK or a PROBE leaves of the connection is not acknowledged, and sending again adds no packet to it. -/
theorem emithAcks : Obligations.EmithAcks := by
  unfold Obligations.EmithAcks
  refine ⟨fun s pkt port e he => ?_, adapt_bounds⟩
  rw [exec_ackCommand he]
  refine ⟨_, rfl, fun refused => ?_, fun h text c k accepted fabric whole hk conn gen => ?_⟩
  · obtain ⟨d, eq, only⟩ := Block.accept_none refused
    have run : s.toBlock.ackArrives e.2 pkt port = d := by
      unfold Block.ackArrives
      rw [eq]
    simp only [State.run_toBlock, settle_emith, settle_rb, run]
    refine ⟨?_, ?_, ?_, ?_⟩ <;> rw [only.frame]
  · obtain ⟨d, x, frame, shown, next, rate, left_, run⟩ := Block.ackArrives_resends accepted fabric whole hk conn gen
    have device : k.slice ≠ hostSlice := hk ▸ rxKey_slice (Block.accept_some accepted fabric).1
    have again := Resends.resendLost d device (ackFields text).1 (ackFields text).2.1
    simp only [State.run_toBlock, settle_emith, settle_rb, settle_mem, run]
    refine ⟨?_, ?_, ?_, ?_, fun y found => ?_⟩
    · rw [again.masks, frame]
      exact sget_sset_self 0 s.emith.masks h.src ((ackFields text).2.2.2.2.2 + 1)
    · rw [again.rx, frame]
    · rw [again.rb, frame]
    · rw [again.mem, frame]
    · obtain ⟨w, found', psns, next', rate'⟩ := again.conn y found
      cases shown.symm.trans found'
      refine ⟨fun u mem => ?_, next'.trans next, fun probe => rate'.trans (rate probe)⟩
      have psn : u.psn ∈ x.unacked.map (·.psn) := psns ▸ List.mem_map_of_mem mem
      obtain ⟨v, mem', same⟩ := List.mem_map.mp psn
      rw [← same]
      exact left_ v mem'

end Sys2Proof.Machine
end

section
/-! PROOFS. Host sessions: the handshake and its answers, and how a session closes (R335 to R337). -/

namespace Sys2Proof.Machine

/-! ### HS_INIT (R335, R336) -/

section Init
variable (b : Block) (port : Nat) (p : List Byte)

/-- A session opens: one session more, one HS_REPLY, and its event. -/
theorem Block.openSession_eq (n : Nat) : ∃ (x : Session) (f : WireFrame) (w : Wal) (free : List (Nat × Nat)),
    b.openSession port p n = ({ b with wal := w, emith := { b.emith with
      sessions := b.emith.sessions ++ [x], wire := b.emith.wire ++ [f], txFree := free } } : Block).raise 0x0386 noCtx []
    ∧ f.iface = 96 + port ∧ x.num = n ∧ x.granted = ofBE (slice p 34 8) ∧ x.slot = ofBE (slice p 32 1) ∧ x.opened = b.dt ∧ x.usedAt = b.dt ∧ x.txc = 1
    ∧ x.failed = false := by
  refine ⟨_, _, _, _, rfl, ?_⟩
  exact ⟨rfl, rfl, rfl, rfl, rfl, rfl, rfl, rfl⟩

/-- A session is refused: one HS_REPLY, and its event. -/
theorem Block.refuseSession_eq (why : Nat) : ∃ (f : WireFrame) (w : Wal) (n : Nat) (free : List (Nat × Nat)),
    b.refuseSession port why = ({ b with wal := w, freeCount := n, emith := { b.emith with wire := b.emith.wire ++ [f], txFree := free } } : Block).raise 0x4387 noCtx []
    ∧ f.iface = 96 + port := ⟨_, _, _, _, rfl, rfl⟩

/-- The handshakes accepted in this second so far (R335). -/
def Block.handshakes : Nat := if b.emith.hsSecond = b.dt / 10 ^ 9 then b.emith.hsCount else 0

/-- One more handshake of this second is counted. -/
def Block.countHandshake : Block := { b with emith := { b.emith with hsSecond := b.dt / 10 ^ 9, hsCount := b.handshakes + 1 } }

variable {b port p}

/-- A session that nothing refuses finds a free number. -/
theorem Block.freeSession_of_accepted (h : b.hsRefusal p = 0) : ∃ k, b.freeSession = some k := by
  refine Option.isSome_iff_exists.mp (Option.isSome_iff_ne_none.mpr fun none_ => ?_)
  unfold Block.hsRefusal at h
  dsimp only at h
  split at h
  · exact nomatch h
  · split at h
    · exact nomatch h
    · split at h
      · exact nomatch h
      · rw [none_] at h
        exact nomatch h

theorem xHsInit_eq (live : b.live = true) (idle : b.walnutBusy = false) (host : isHost port = true) (receives : b.receives port = true)
    (room : b.handshakes < 100) : xHsInit port p b = match b.freeSession with
      | some k => if b.hsRefusal p = 0 then b.countHandshake.openSession port p k else b.countHandshake.refuseSession port (b.hsRefusal p)
      | none => b.countHandshake.refuseSession port (b.hsRefusal p) := by
  have count : ¬ (if b.emith.hsSecond = b.dt / 10 ^ 9 then b.emith.hsCount else 0) ≥ 100 := Nat.not_le.mpr room
  unfold xHsInit
  rw [if_neg (by simp [live, idle, host, receives])]
  dsimp only
  rw [if_neg count]
  rfl

theorem xHsInit_full (second : b.emith.hsSecond = b.dt / 10 ^ 9) (full : 100 ≤ b.emith.hsCount) : xHsInit port p b = b := by
  unfold xHsInit
  split
  · rfl
  · dsimp only
    rw [if_pos second, if_pos full]

end Init

theorem hsInit_goes (s : State) (port : Nat) (p : List Byte) (live : s.toBlock.live = true) (idle : s.toBlock.walnutBusy = false)
    (host : isHost port = true) (receives : s.toBlock.receives port = true) (room : s.emith.hsSecond = s.dt / 10 ^ 9 → s.emith.hsCount < 100) :
    Goes (exec (.hsInit port p) s) fun t =>
      t.emith.hsSecond = s.dt / 10 ^ 9 ∧ t.emith.hsCount = (if s.emith.hsSecond = s.dt / 10 ^ 9 then s.emith.hsCount else 0) + 1
      ∧ (s.toBlock.hsRefusal p = 0 → LastEvent t.toBlock 0x0386 noCtx [] ∧ ∃ x : Session, t.emith.sessions = s.emith.sessions ++ [x] ∧ s.toBlock.freeSession = some x.num
        ∧ x.granted = ofBE (slice p 34 8) ∧ x.slot = ofBE (slice p 32 1) ∧ x.opened = s.dt ∧ x.usedAt = s.dt ∧ x.txc = 1 ∧ x.failed = false)
      ∧ (s.toBlock.hsRefusal p ≠ 0 → LastEvent t.toBlock 0x4387 noCtx [] ∧ t.emith.sessions = s.emith.sessions)
      ∧ (∃ f : WireFrame, t.emith.wire = s.emith.wire ++ [f] ∧ f.iface = 96 + port) ∧ t.mem = s.mem ∧ RegsKept [odKey Od.eventNextSeq 0] s.toBlock t.toBlock := by
  have few : s.toBlock.handshakes < 100 := by
    unfold Block.handshakes
    split
    · next now => exact room now
    · decide
  have eq := xHsInit_eq (p := p) live idle host receives few
  by_cases accepted : s.toBlock.hsRefusal p = 0
  · obtain ⟨k, free⟩ := Block.freeSession_of_accepted accepted
    obtain ⟨x, f, w, queue, opened, on, num, rest⟩ := s.toBlock.countHandshake.openSession_eq port p k
    rw [free] at eq
    dsimp only at eq
    rw [if_pos accepted, opened] at eq
    refine goes_run_eq eq ?_
    simp only [settle_emith, Block.raise_emith, settle_mem, Block.raise_mem]
    exact ⟨rfl, rfl, fun _ => ⟨lastEvent_raise .., x, rfl, by rw [num, free], rest⟩, fun no => absurd accepted no, ⟨f, rfl, on⟩, rfl,
      (RegsKept.of_od rfl).trans (RegsKept.raise _ _ _ _ (by simp))⟩
  · obtain ⟨f, w, n, queue, refused, on⟩ := s.toBlock.countHandshake.refuseSession_eq port (s.toBlock.hsRefusal p)
    have eq' : xHsInit port p s.toBlock = s.toBlock.countHandshake.refuseSession port (s.toBlock.hsRefusal p) := by
      rw [eq]
      cases s.toBlock.freeSession with
      | none => rfl
      | some k => exact if_neg accepted
    refine goes_run_eq (eq'.trans refused) ?_
    simp only [settle_emith, Block.raise_emith, settle_mem, Block.raise_mem]
    exact ⟨rfl, rfl, fun yes => absurd yes accepted, fun _ => ⟨lastEvent_raise .., rfl⟩, ⟨f, rfl, on⟩, rfl,
      (RegsKept.of_od rfl).trans (RegsKept.raise _ _ _ _ (by simp))⟩

/-! ### SESSION_TIMEOUT (R337) -/

theorem find?_filter_num (l : List Session) (n m : Nat) :
    (l.filter (fun x => x.num != n)).find? (fun x => x.num == m) = if m = n then none else l.find? (fun x => x.num == m) := by
  rw [List.find?_filter]
  split
  · next e =>
    subst e
    rw [List.find?_eq_none]
    simp
  · next ne =>
    refine congrArg (fun p => l.find? p) (funext fun x => ?_)
    by_cases e : x.num = m <;> simp [e, ne]

theorem sessionTimeout_goes (s : State) (n : Nat) (x : Session) (open_ : s.toBlock.session? n = some x) : Goes (exec (.sessionTimeout n) s) fun t =>
    t.dt = max s.dt (min (x.usedAt + 60 * 10 ^ 9) (x.opened + 86400 * 10 ^ 9)) ∧ t.toBlock.session? n = none ∧ (∀ m, m ≠ n → t.toBlock.session? m = s.toBlock.session? m)
    ∧ (∀ c ∈ t.emith.tx, ¬(c.key.slice = hostSlice ∧ c.key.wctx = n)) ∧ (∀ c ∈ t.emith.rx, ¬(c.key.slice = hostSlice ∧ c.key.wctx = n))
    ∧ (∀ p ∈ t.emith.hostTx, p.wctx ≠ n) ∧ (∀ c ∈ t.emith.hostRx, c.session ≠ n) ∧ t.mem = s.mem ∧ RegsKept [] s.toBlock t.toBlock := by
  have eq : xSessionTimeout n s.toBlock = (s.toBlock.reach (min (x.usedAt + 60 * 10 ^ 9) (x.opened + 86400 * 10 ^ 9))).closeSession n := by
    unfold xSessionTimeout
    rw [open_]
  have gone := find?_filter_num s.emith.sessions n
  refine goes_run_eq eq ⟨rfl, (gone n).trans (if_pos rfl), fun m other => (gone m).trans (if_neg other), fun c mem => ?_, fun c mem => ?_, fun p mem => ?_,
    fun c mem => ?_, rfl, RegsKept.of_od rfl⟩
  · simpa [imp_iff_not_or] using (List.mem_filter.mp mem).2
  · simpa [imp_iff_not_or] using (List.mem_filter.mp mem).2
  · simpa using (List.mem_filter.mp mem).2
  · simpa using (List.mem_filter.mp mem).2

/-- Settles O46. -/
theorem hostSessions : Obligations.HostSessions := by
  unfold Obligations.HostSessions
  exact ⟨hsInit_goes, fun s port p second full => goes_run_eq (xHsInit_full second full) rfl, sessionTimeout_goes⟩

end Sys2Proof.Machine
end

section
/-! PROOFS. What a plain write of any length leaves in memory, and the commands of host sessions (R163, R182 to R185, R338, R339). -/

namespace Sys2Proof.Machine

/-! ### A plain write where no poison stands (R163, R185) -/

/-- `m'` is `m` with the bytes `v` at `a`, as far as the words are not poisoned in `m`. -/
structure Stored (a : Nat) (v : List Byte) (m m' : Mem) : Prop where
  clean : ∀ w, m.poisoned w = false → m'.poisoned w = false
  inside : ∀ i (hi : i < v.length), m.poisoned ((a + i) / 8) = false → m'.byte (a + i) = v[i]
  outside : ∀ x, x < a ∨ a + v.length ≤ x → m.poisoned (x / 8) = false → m'.byte x = m.byte x

namespace Stored
variable {a : Nat} {u v : List Byte} {m m' m'' : Mem}

theorem nil (m : Mem) (a : Nat) : Stored a [] m m := ⟨fun _ h => h, fun _ hi => absurd hi (Nat.not_lt_zero _), fun _ _ _ => rfl⟩

theorem append (h : Stored a u m m') (k : Stored (a + u.length) v m' m'') : Stored a (u ++ v) m m'' := by
  refine ⟨fun w clean => k.clean w (h.clean w clean), fun i hi clean => ?_, fun x out clean => ?_⟩
  · by_cases first : i < u.length
    · rw [k.outside _ (.inl (by omega)) (h.clean _ clean), h.inside i first clean, List.getElem_append_left first]
    · have place : a + i = a + u.length + (i - u.length) := by omega
      have short : i - u.length < v.length := by
        rw [List.length_append] at hi
        omega
      rw [List.getElem_append_right (by omega), ← k.inside _ short (place ▸ h.clean _ clean), ← place]
  · rw [List.length_append] at out
    rw [k.outside x (by omega) (h.clean _ clean), h.outside x (by omega) clean]

theorem putRaw (m : Mem) (a : Nat) (v : List Byte) : Stored a v m (m.putRaw a v) := by
  have poison : ∀ w, (m.putRaw a v).poisoned w = m.poisoned w := fun w => by rw [Mem.poisoned, Mem.putRaw_poison, Mem.poisoned]
  refine ⟨fun w clean => (poison w).trans clean, fun i hi clean => ?_, fun x out _ => Mem.byte_putRaw_outside m v out⟩
  rw [Mem.byte, poison, clean, if_neg Bool.false_ne_true, Mem.putRaw_in _ _ _ hi]

/-- Poison that is cleared besides shows no other byte of a word without poison. -/
theorem clearWords (h : Stored a v m m') (ws : List Nat) : Stored a v m (ws.foldl (fun c w => c.setPoison w false) m') := by
  have same : ∀ x, m.poisoned (x / 8) = false → (ws.foldl (fun c w => c.setPoison w false) m').byte x = m'.byte x := by
    intro x clean
    rw [Mem.byte_clearWords]
    split
    · rw [Mem.byte, h.clean _ clean, if_neg Bool.false_ne_true]
    · rfl
  refine ⟨fun w clean => ?_, fun i hi clean => (same _ clean).trans (h.inside i hi clean), fun x out clean => (same x clean).trans (h.outside x out clean)⟩
  have cleared : ∀ (l : List Nat) (c : Mem), c.poisoned w = false → (l.foldl (fun c w => c.setPoison w false) c).poisoned w = false := by
    intro l
    induction l with
    | nil => exact fun _ k => k
    | cons y r ih =>
      intro c k
      refine ih _ ?_
      rw [Mem.poisoned_setPoison]
      split
      · rfl
      · exact k
  exact cleared ws m' (h.clean w clean)

/-- A write to a Terrace (R163). -/
theorem write (m : Mem) (a : Nat) (v : List Byte) : Stored a v m (m.write 8 a v) := by
  have clean : ∀ w, m.poisoned w = false → (m.clearFull 8 a v.length).poisoned w = false := by
    intro w
    unfold Mem.clearFull
    generalize wordsOf a v.length = l
    induction l generalizing m with
    | nil => exact fun k => k
    | cons y r ih =>
      intro k
      refine ih _ ?_
      dsimp only
      split
      · rw [Mem.poisoned_setPoison]
        split
        · rfl
        · exact k
      · exact k
  exact ⟨fun w k => (Mem.poisoned_putBytes ..).trans (clean w k), fun i hi k => Mem.byte_putBytes_in _ _ _ hi (clean _ k), fun x out _ => m.byte_write_outside a v out⟩

/-- What a write without poison in its range stores reads back. -/
theorem bytes (h : Stored a v m m') (clean : m.anyPoison a v.length = false) : m'.bytes a v.length = v := by
  refine Mem.bytes_eq fun i hi => h.inside i hi ?_
  refine Bool.eq_false_iff.mpr (List.any_eq_false.mp clean _ ?_)
  rw [wordsOf, if_neg (by omega)]
  exact List.mem_map.mpr ⟨(a + i) / 8 - a / 8, List.mem_range.mpr (by omega), by omega⟩

end Stored

/-- Bytes that enter the write-combining buffers clear the poison of some words of their line, and move no byte (R182, R185). -/
theorem Block.enterLine_clears (b : Block) (a n : Nat) : ∃ ws : List Nat, (b.enterLine a n).mem = ws.foldl (fun x w => x.setPoison w false) b.mem := by
  unfold Block.enterLine
  dsimp only
  split
  · exact ⟨_, rfl⟩
  · refine ⟨coveredWords (a / 64) (lineMask a n), ?_⟩
    have evicted : (if (b.hbm.wcb.filter (fun l => l.pc == pcOf a)).length ≥ wcbDepth then b.evictOldest (pcOf a) else b).mem = b.mem := by
      unfold Block.evictOldest
      split
      · split <;> rfl
      · rfl
    dsimp only
    rw [evicted]

/-- The part of a write within one line is stored; which stacks are lost does not depend on it. -/
theorem Block.enterLine_stored (b : Block) (a n : Nat) (v : List Byte) : Stored a v b.mem (Block.enterLine { b with mem := b.mem.putRaw a v } a n).mem
    ∧ ∀ x, (Block.enterLine { b with mem := b.mem.putRaw a v } a n).lostAt x = b.lostAt x := by
  obtain ⟨ws, entered⟩ := Block.enterLine_clears { b with mem := b.mem.putRaw a v } a n
  refine ⟨?_, Block.lostAt_of_idxKept (IdxKept.enterLine { b with mem := b.mem.putRaw a v } a n) (by decide +kernel)⟩
  rw [entered]
  exact (Stored.putRaw ..).clearWords ws

/-- A write through the buffers stores its bytes line by line, where no stack is lost; `k` lines from the start of the first hold them. -/
theorem Block.writeHbm_stored (k : Nat) : ∀ (b : Block) (a : Nat) (v : List Byte), v.length ≤ 64 * k - a % 64 → (∀ i < v.length, b.lostAt (a + i) = false) →
    Stored a v b.mem (b.writeHbm a v k).mem := by
  induction k with
  | zero =>
    intro b a v lines _
    rw [show v = [] from List.eq_nil_of_length_eq_zero (by omega)]
    exact Stored.nil ..
  | succ k ih =>
    intro b a v lines kept
    unfold Block.writeHbm
    split
    · next empty =>
      rw [List.isEmpty_iff.mp empty]
      exact Stored.nil ..
    · next full =>
      have some_ : 0 < v.length := List.length_pos_iff.mpr (by simpa using full)
      dsimp only
      rw [show b.lostAt a = false from kept 0 some_, if_neg Bool.false_ne_true]
      obtain ⟨line, lost⟩ := b.enterLine_stored a (lineCount a v.length) (v.take (lineCount a v.length))
      generalize Block.enterLine { b with mem := b.mem.putRaw a (v.take (lineCount a v.length)) } a (lineCount a v.length) = d at line lost ⊢
      have part : (v.take (lineCount a v.length)).length = lineCount a v.length := by
        rw [List.length_take, lineCount]
        omega
      have left : (v.drop (lineCount a v.length)).length = v.length - lineCount a v.length := List.length_drop
      have rest : Stored (a + (v.take (lineCount a v.length)).length) (v.drop (lineCount a v.length)) d.mem
          (d.writeHbm (a + lineCount a v.length) (v.drop (lineCount a v.length)) k).mem := by
        rw [part]
        refine ih d _ _ ?_ (fun i hi => ?_)
        · rw [left]
          unfold lineCount
          omega
        · rw [lost, Nat.add_assoc]
          exact kept _ (by omega)
      have whole := line.append rest
      rwa [List.take_append_drop] at whole

/-- A plain write where no stack is lost (R152, R178, R182). -/
theorem Block.writePhys_stored (b : Block) (a : Nat) (v : List Byte) (kept : ∀ i < v.length, b.lostAt (a + i) = false) : Stored a v b.mem (b.writePhys a v).mem := by
  rw [← Block.countWrite_mem b a v.length]
  unfold Block.writePhys Block.storePhys
  have here : ∀ i < v.length, (b.countWrite a v.length).lostAt (a + i) = false := fun i hi =>
    (Block.lostAt_of_idxKept (IdxKept.countWrite b a v.length) (by decide +kernel) _).trans (kept i hi)
  split
  · exact Stored.write ..
  · exact Block.writeHbm_stored _ _ a v (by omega) here

/-! ### Commands whose turn has come (R339) -/

/-- A held command leaves its session's queue. -/
def Block.takeHost (b : Block) (c : HostCmd) : Block := { b with emith := { b.emith with hostRx := b.emith.hostRx.erase c } }

section Command
variable {b : Block} {n psn : Nat} {x : Session} {c : HostCmd} {mine : Nat → Bool} {f : Session → HostCmd → Block → Block}

theorem Block.hostCommand_takes (taken : HostTaken b n psn x c) (ours : mine c.head.hop = true) : b.hostCommand n psn mine f
    = if hostMalformed c.head c.text then (b.takeHost c).hostError n c.head 12
      else if !bit x.granted c.head.ctx then (b.takeHost c).hostError n c.head 9 else f x c (b.takeHost c) := by
  obtain ⟨open_, held, live, turn⟩ := taken
  unfold Block.hostCommand
  rw [open_, held]
  exact if_neg (by simp [live, ours, turn])

/-- A well-formed command on a granted context does what its row says. -/
theorem Block.hostCommand_runs (taken : HostTaken b n psn x c) (ours : mine c.head.hop = true) (formed : hostMalformed c.head c.text = false)
    (granted : bit x.granted c.head.ctx = true) : b.hostCommand n psn mine f = f x c (b.takeHost c) := by
  rw [Block.hostCommand_takes taken ours, formed, granted]
  rfl

/-- A malformed command, and one on a context not granted, is answered with ERROR (causes 12 and 9). -/
theorem Block.hostCommand_fails (taken : HostTaken b n psn x c) (ours : mine c.head.hop = true)
    (bad : hostMalformed c.head c.text = true ∨ bit x.granted c.head.ctx = false) :
    b.hostCommand n psn mine f = (b.takeHost c).hostError n c.head (if hostMalformed c.head c.text then 12 else 9) := by
  rw [Block.hostCommand_takes taken ours]
  split
  · rfl
  · next formed =>
    rw [bad.resolve_left formed]
    rfl

/-- A command whose turn has not come waits. -/
theorem Block.hostCommand_waits (held : b.heldCmd n psn = some c) (turn : b.mayTake c = false) : b.hostCommand n psn mine f = b := by
  unfold Block.hostCommand
  rw [held]
  split
  · next same =>
    cases same
    exact if_pos (by simp [turn])
  · rfl

theorem Block.hostError_hostTx (b : Block) (n : Nat) (h : HHead) (k : Nat) :
    (b.hostError n h k).emith.hostTx = b.emith.hostTx ++ [⟨hostSlice, 0, n, BitVec.ofNat 128 (HHead.num ⟨5, h.ctx, 0, k, h.va, h.tag, 0⟩), [], 0⟩] := rfl

@[simp] theorem Block.hostError_mem (b : Block) (n : Nat) (h : HHead) (k : Nat) : (b.hostError n h k).mem = b.mem := rfl
@[simp] theorem Block.hostError_disp (b : Block) (n : Nat) (h : HHead) (k : Nat) : (b.hostError n h k).disp = b.disp := rfl
@[simp] theorem Block.hostError_od (b : Block) (n : Nat) (h : HHead) (k : Nat) : (b.hostError n h k).od = b.od := rfl

theorem Block.session?_hostError (open_ : b.session? n = some x) (h : HHead) (k : Nat) : ∃ y, (b.hostError n h k).session? n = some y ∧ y.failed = true := by
  have same : ((fun x : Session => x.num == n) ∘ fun x => if x.num == n then { x with failed := true } else x) = fun x => x.num == n := by
    funext x
    by_cases e : x.num = n <;> simp [e]
  have mine : x.num = n := by simpa using List.find?_some open_
  refine ⟨{ x with failed := true }, ?_, rfl⟩
  show (b.emith.sessions.map fun x => if x.num == n then { x with failed := true } else x).find? (fun x => x.num == n) = _
  rw [List.find?_map, same]
  exact (congrArg (Option.map _) open_).trans (by simp [mine])

end Command

/-- `c` differs from `b` by what waiting for the memories counts (R154, R171, R177). -/
structure WaitOnly (b c : Block) : Prop where
  frame : DrawOnly b c
  regs : IdxKept waitIdx b c

theorem WaitOnly.contended {b c : Block} {f : Block → Block} (h : f b = c) : WaitOnly c (b.contended f) := by
  refine ⟨DrawOnly.contended h, ?_⟩
  rw [← h]
  exact IdxKept.contention (f b) (f b) b

/-! ### What a command counts (R155, R168, R200) -/

/-- The counters of bytes that a read moves. -/
def readIdx : List Nat := [Od.hbmReadBytes, Od.terraceReadBytes, Od.terraceRemoteBytes]

/-- `c` differs from `b` in entries only, and in number entries only at the counters of reads. -/
structure ReadCounts (b c : Block) : Prop where
  frame : RegOnly b c
  regs : IdxKept readIdx b c

namespace ReadCounts
variable {b c d : Block}

theorem refl (b : Block) : ReadCounts b b := ⟨RegOnly.refl b, IdxKept.refl _ b⟩

theorem trans (h : ReadCounts b c) (k : ReadCounts c d) : ReadCounts b d := ⟨h.frame.trans k.frame, h.regs.trans k.regs⟩

theorem foldl {α : Type} {f : Block → α → Block} (h : ∀ b x, ReadCounts b (f b x)) (l : List α) (b : Block) : ReadCounts b (l.foldl f b) :=
  foldl_has (ReadCounts b) (fun _ x k => k.trans (h _ x)) l (refl b)

theorem countRead (b : Block) (a n : Nat) : ReadCounts b (b.countRead a n) := by
  refine ⟨RegOnly.countRead .., ?_⟩
  unfold Block.countRead
  split
  · exact IdxKept.bump _ _ _ _ (by decide) (by decide)
  · exact IdxKept.foldl (fun _ _ => IdxKept.bump _ _ _ _ (by decide) (by decide)) _ _

theorem countRemote (b : Block) (k a n : Nat) : ReadCounts b (b.countRemote k a n) := by
  refine ⟨RegOnly.countRemote .., ?_⟩
  unfold Block.countRemote
  split
  · exact IdxKept.ite (IdxKept.refl _ _) (IdxKept.bump _ _ _ _ (by decide) (by decide))
  · exact IdxKept.refl _ _

theorem countWalk (b : Block) (k : Nat) (ctx va : Nat) : ReadCounts b (b.countWalk (some k) ctx va) :=
  foldl (fun _ _ => (countRead ..).trans (countRemote ..)) _ _

theorem countHost (b : Block) (c : HostCmd) (l : List (Nat × Nat)) (read : Bool) : ReadCounts b (b.countHost c l read) := by
  have walks : ∀ (l : List (Nat × Nat)) (r : Block × Nat), ReadCounts r.1
      (l.foldl (fun (r : Block × Nat) e => (r.1.countWalk (some c.borough) c.head.ctx r.2, r.2 + e.2)) r).1 := by
    intro l
    induction l with
    | nil => exact fun r => refl r.1
    | cons e l ih => exact fun r => (countWalk r.1 c.borough c.head.ctx r.2).trans (ih (r.1.countWalk (some c.borough) c.head.ctx r.2, r.2 + e.2))
  refine (walks l (b, c.head.va)).trans (foldl (fun d e => trans (c := if read then d.countRead e.1 e.2 else d) ?_ (countRemote ..)) l _)
  split
  · exact countRead ..
  · exact refl d

end ReadCounts

end Sys2Proof.Machine
end

section
/-! PROOFS. WRITE, READ and DOORBELL of a host session (R338, R339). -/

namespace Sys2Proof.Machine

theorem SameTables.hostRange {b c : Block} (h : SameTables b c) (ctx va n : Nat) (write : Bool) : c.hostRange ctx va n write = b.hostRange ctx va n write := by
  unfold Block.hostRange
  simp only [h.walk]

/-- A command translates and reads as it did before it left the queue. -/
theorem SameTables.takeHost (b : Block) (c : HostCmd) : SameTables b (b.takeHost c) := ⟨rfl, rfl, rfl, rfl, fun _ _ _ => rfl⟩

/-- The counters that a WRITE can advance. -/
def writeIdx : List Nat :=
  [Od.hbmReadBytes, Od.terraceReadBytes, Od.terraceRemoteBytes, Od.hbmWriteBytes, Od.hbmWcbRmwCount, Od.terraceWriteBytes, Od.terraceBankStallCycles,
    Od.hbmQueueFullCycles, Od.hbmOndieSeverityCount]

/-- The counters that a READ can advance. -/
def readAnswerIdx : List Nat :=
  [Od.hbmReadBytes, Od.terraceReadBytes, Od.terraceRemoteBytes, Od.terraceBankStallCycles, Od.hbmQueueFullCycles, Od.hbmOndieSeverityCount, Od.rasPoisonConsumed,
    Od.eventNextSeq]

section Commands
variable {b : Block} {s : State} {n psn : Nat} {x : Session} {c : HostCmd}

/-- A command that fails is answered with ERROR, and its session delivers no later doorbell. -/
theorem hostError_goes {g : Block → Block} {k : Nat} (taken : HostTaken s.toBlock n psn x c) (eq : g s.toBlock = (s.toBlock.takeHost c).hostError n c.head k) :
    Goes (.next (s.run g)) fun t =>
      t.emith.hostTx = s.emith.hostTx ++ [⟨hostSlice, 0, n, BitVec.ofNat 128 (HHead.num ⟨5, c.head.ctx, 0, k, c.head.va, c.head.tag, 0⟩), [], 0⟩]
      ∧ t.mem = s.mem ∧ t.disp = s.disp ∧ (∃ y : Session, t.toBlock.session? n = some y ∧ y.failed = true) ∧ RegsKept [] s.toBlock t.toBlock := by
  obtain ⟨open_, _⟩ := taken
  have failed := Block.session?_hostError (b := s.toBlock.takeHost c) open_ c.head k
  refine goes_run_eq eq ⟨?_, ?_, ?_, failed, RegsKept.of_od ?_⟩
  · rw [settle_emith, Block.hostError_hostTx]
    rfl
  · rw [settle_mem, Block.hostError_mem]
    rfl
  · rw [settle_disp, Block.hostError_disp]
    rfl
  · rw [settle_od, Block.hostError_od]
    rfl

/-! ### WRITE -/

/-- A WRITE that is well formed carries as many bytes as its header says. -/
theorem length_of_wellFormed (write : c.head.hop = 1) (formed : hostMalformed c.head c.text = false) : (c.text.drop 16).length = c.head.len := by
  have fits : (((16 ≤ c.text.length ∧ c.head.len ≤ 4080) ∧ c.head.cause = 0) ∧ c.head.rest = 0) ∧ c.text.length = 16 + c.head.len := by
    simpa [hostMalformed, write] using formed
  rw [List.length_drop, fits.2, Nat.add_sub_cancel_left]

/-- A WRITE within one page stores its bytes where its address translates to, after the entries of its walk are counted. -/
theorem xHostWrite_writes {pa : Nat} (taken : HostTaken b n psn x c) (write : c.head.hop = 1) (formed : hostMalformed c.head c.text = false)
    (granted : bit x.granted c.head.ctx = true) (awake : b.power ≠ pwrPark) (range : b.hostRange c.head.ctx c.head.va c.head.len true = .ok [(pa, c.head.len)]) :
    WaitOnly (((b.takeHost c).countHost c [(pa, c.head.len)] false).writePhys pa (c.text.drop 16)) (xHostWrite n psn b) := by
  refine WaitOnly.contended ((Block.hostCommand_runs taken (by rw [write]; rfl) formed granted).trans ?_)
  have awake' : (b.takeHost c).power ≠ pwrPark := awake
  have range' : (b.takeHost c).hostRange c.head.ctx c.head.va c.head.len true = .ok [(pa, c.head.len)] := ((SameTables.takeHost b c).hostRange ..).trans range
  have all : (c.text.drop 16).take c.head.len = c.text.drop 16 := List.take_of_length_le (Nat.le_of_eq (length_of_wellFormed write formed))
  dsimp only
  rw [if_neg awake', range']
  dsimp only [List.foldl]
  rw [all]

theorem hostWrite_goes (pa : Nat) (taken : HostTaken s.toBlock n psn x c) (write : c.head.hop = 1) (formed : hostMalformed c.head c.text = false)
    (granted : bit x.granted c.head.ctx = true) (awake : s.power ≠ pwrPark) (range : s.toBlock.hostRange c.head.ctx c.head.va c.head.len true = .ok [(pa, c.head.len)])
    (clean : s.mem.anyPoison pa c.head.len = false) (kept : ∀ i < c.head.len, s.toBlock.lostAt (pa + i) = false) : Goes (exec (.hostWrite n psn) s) fun t =>
      t.mem.bytes pa c.head.len = c.text.drop 16 ∧ (∀ a, a < pa ∨ pa + c.head.len ≤ a → s.mem.poisoned (a / 8) = false → t.mem.byte a = s.mem.byte a)
      ∧ t.slow = s.slow ∧ t.disp = s.disp ∧ t.emith.hostTx = s.emith.hostTx ∧ t.emith.hostRx = s.emith.hostRx.erase c ∧ t.dt = s.dt
      ∧ IdxKept writeIdx s.toBlock t.toBlock := by
  have len := length_of_wellFormed write formed
  have waits := xHostWrite_writes taken write formed granted awake range
  generalize ran : xHostWrite n psn s.toBlock = e at waits
  have counts := ReadCounts.countHost (s.toBlock.takeHost c) c [(pa, c.head.len)] false
  generalize (s.toBlock.takeHost c).countHost c [(pa, c.head.len)] false = d at counts waits
  have only := StoreOnly.writePhys d pa (c.text.drop 16)
  have there : ∀ i < (c.text.drop 16).length, d.lostAt (pa + i) = false := fun i hi =>
    (Block.lostAt_of_idxKept counts.regs (by decide +kernel) _).trans (kept i (len ▸ hi))
  have stored := d.writePhys_stored pa (c.text.drop 16) there
  have stores := IdxKept.writePhys d pa (c.text.drop 16)
  generalize d.writePhys pa (c.text.drop 16) = w at waits only stored stores
  have frame : e = { s.toBlock.takeHost c with od := e.od, mem := w.mem, hbm := w.hbm, freeCount := e.freeCount } := by
    rw [waits.frame, only, counts.frame]
  rw [show d.mem = s.mem by rw [counts.frame]; rfl] at stored
  refine goes_run_eq ran ⟨?_, fun a out unpoisoned => ?_, ?_, ?_, ?_, ?_, ?_, ?_⟩
  · rw [settle_mem, frame, ← len]
    exact stored.bytes (len ▸ clean)
  · rw [settle_mem, frame]
    exact stored.outside a (len ▸ out) unpoisoned
  · rw [settle_slow, frame]
    rfl
  · rw [settle_disp, frame]
    rfl
  · rw [settle_emith, frame]
    rfl
  · rw [settle_emith, frame]
    rfl
  · rw [settle_dt, frame]
    rfl
  · have counted := counts.regs.mono (m := writeIdx) (by decide)
    exact counted.trans ((stores.mono (by decide)).trans (waits.regs.mono (by decide)))

/-! ### READ -/

/-- A READ answers READ_DATA with the bytes, after poison among them, its walk and its bytes are counted. -/
theorem xHostRead_reads {l : List (Nat × Nat)} (taken : HostTaken b n psn x c) (read : c.head.hop = 2) (formed : hostMalformed c.head c.text = false)
    (granted : bit x.granted c.head.ctx = true) (awake : b.power ≠ pwrPark) (range : b.hostRange c.head.ctx c.head.va c.head.len false = .ok l) :
    ∃ d, (d = b.takeHost c ∨ d = (b.takeHost c).consumePoison c.head.ctx noTicket)
      ∧ WaitOnly ((d.countHost c l true).hostAnswer n { c.head with hop := 3 } (l.flatMap (fun e => (b.readPhys e.1 e.2).1))) (xHostRead n psn b) := by
  have same := SameTables.takeHost b c
  refine ⟨if l.any (fun e => ((b.takeHost c).readPhys e.1 e.2).2) then (b.takeHost c).consumePoison c.head.ctx noTicket else b.takeHost c, ?_, ?_⟩
  · split
    · exact .inr rfl
    · exact .inl rfl
  · refine WaitOnly.contended ((Block.hostCommand_runs taken (by rw [read]; rfl) formed granted).trans ?_)
    have awake' : (b.takeHost c).power ≠ pwrPark := awake
    have bytes : l.flatMap (fun e => ((b.takeHost c).readPhys e.1 e.2).1) = l.flatMap (fun e => (b.readPhys e.1 e.2).1) := by
      simp only [same.readPhys]
    dsimp only
    rw [if_neg awake', (same.hostRange ..).trans range, ← bytes]

/-- Poison that is consumed counts, and may raise its event (R393). -/
theorem IdxKept.consumePoison {l : List Nat} (b : Block) (ctx ticket : Nat) (count : Od.rasPoisonConsumed ∈ l) (event : Od.eventNextSeq ∈ l) :
    IdxKept l b (b.consumePoison ctx ticket) := by
  have counted : ∀ r, IdxKept l b { b.bump Od.rasPoisonConsumed 0 1 with ras := r } := fun r =>
    (IdxKept.bump b Od.rasPoisonConsumed 0 1 count (by decide)).trans (IdxKept.of_od rfl)
  exact IdxKept.ite ((counted _).trans (IdxKept.raise _ _ _ _ event)) (counted _)

theorem hostRead_goes (l : List (Nat × Nat)) (taken : HostTaken s.toBlock n psn x c) (read : c.head.hop = 2) (formed : hostMalformed c.head c.text = false)
    (granted : bit x.granted c.head.ctx = true) (awake : s.power ≠ pwrPark) (range : s.toBlock.hostRange c.head.ctx c.head.va c.head.len false = .ok l) :
    Goes (exec (.hostRead n psn) s) fun t =>
      t.emith.hostTx = s.emith.hostTx ++ [⟨hostSlice, 0, n, BitVec.ofNat 128 { c.head with hop := 3 }.num, l.flatMap (fun e => (s.toBlock.readPhys e.1 e.2).1), 0⟩]
      ∧ t.emith.hostRx = s.emith.hostRx.erase c ∧ t.mem = s.mem ∧ t.slow = s.slow ∧ t.disp = s.disp
      ∧ IdxKept readAnswerIdx s.toBlock t.toBlock := by
  obtain ⟨d, consumed, waits⟩ := xHostRead_reads taken read formed granted awake range
  generalize ran : xHostRead n psn s.toBlock = e at waits
  have counts := ReadCounts.countHost d c l true
  have taken_ : IdxKept readAnswerIdx s.toBlock (s.toBlock.takeHost c) := IdxKept.of_od rfl
  have consumes : ReadStep (s.toBlock.takeHost c) d ∧ IdxKept readAnswerIdx s.toBlock d := by
    rcases consumed with rfl | rfl
    · exact ⟨ReadStep.refl _, taken_⟩
    · exact ⟨ReadStep.consumePoison .., taken_.trans (IdxKept.consumePoison _ _ _ (by decide) (by decide))⟩
  generalize d.countHost c l true = w at waits counts
  have answered : IdxKept readAnswerIdx w e := IdxKept.trans (IdxKept.of_od rfl) (waits.regs.mono (by decide))
  have frame : e = { (s.toBlock.takeHost c).hostAnswer n { c.head with hop := 3 } (l.flatMap (fun e => (s.toBlock.readPhys e.1 e.2).1)) with
      od := e.od, odb := d.odb, log := d.log, fatal := d.fatal, ras := d.ras, freeCount := e.freeCount } := by
    rw [waits.frame, counts.frame, consumes.1.frame]
    rfl
  refine goes_run_eq ran ⟨?_, ?_, ?_, ?_, ?_, consumes.2.trans ((counts.regs.mono (by decide)).trans answered)⟩
  · rw [settle_emith, frame]
    rfl
  · rw [settle_emith, frame]
    rfl
  · rw [settle_mem, frame]
    rfl
  · rw [settle_slow, frame]
    rfl
  · rw [settle_disp, frame]
    rfl

/-! ### DOORBELL -/

theorem xHostDoorbell_runs (taken : HostTaken b n psn x c) (bell : c.head.hop = 4) (formed : hostMalformed c.head c.text = false)
    (granted : bit x.granted c.head.ctx = true) : xHostDoorbell n psn b = if x.failed then (b.takeHost c).hostError n c.head 11
      else if cfgCtx (b.ring (bits (ofBE (slice c.text 16 8)) 63 50)).cfg != c.head.ctx then (b.takeHost c).hostError n c.head 10
      else (b.takeHost c).doorbellWord (ofBE (slice c.text 16 8)) :=
  Block.hostCommand_runs taken (by rw [bell]; rfl) formed granted

theorem hostDoorbell_delivers (w : Nat) (r : Ring) (taken : HostTaken s.toBlock n psn x c) (bell : c.head.hop = 4) (formed : hostMalformed c.head c.text = false)
    (granted : bit x.granted c.head.ctx = true) (word : w = ofBE (slice c.text 16 8)) (at_ : r = s.toBlock.ring (bits w 63 50)) (ok : x.failed = false)
    (mine : cfgCtx r.cfg = c.head.ctx) (reserved : bits w 49 16 = 0) (active : r.state = .active) (stays : s.toBlock.resetting c.head.ctx = false)
    (room : (bits w 15 0 + 2 ^ 16 - r.fetch) % 2 ^ 16 ≤ 2 ^ cfgLog r.cfg) : Goes (exec (.hostDoorbell n psn) s) fun t =>
      t.toBlock.ring (bits w 63 50) = { r with producer := bits w 15 0, workAt := (t.toBlock.ring (bits w 63 50)).workAt } ∧ (∀ k, k ≠ bits w 63 50 → t.toBlock.ring k = s.toBlock.ring k)
      ∧ t.emith.hostTx = s.emith.hostTx ∧ t.mem = s.mem ∧ RegsKept [] s.toBlock t.toBlock := by
  have takes : (s.toBlock.takeHost c).takesDoorbell (bits w 63 50) (bits w 15 0) := by
    subst at_
    exact ⟨active, mine ▸ stays, room⟩
  obtain ⟨since, rung⟩ := Block.ringDoorbell_accepted takes
  have eq : xHostDoorbell n psn s.toBlock = (s.toBlock.takeHost c).setRing (bits w 63 50) { r with producer := bits w 15 0, workAt := since } := by
    rw [xHostDoorbell_runs taken bell formed granted, ok, ← word, ← at_, mine, bne_self_eq_false, Block.doorbellWord, reserved]
    refine rung.trans ?_
    rw [at_]
    rfl
  have self : ((s.toBlock.takeHost c).setRing (bits w 63 50) { r with producer := bits w 15 0, workAt := since }).ring (bits w 63 50)
      = { r with producer := bits w 15 0, workAt := since } := Block.ring_setRing_self ..
  have since_ := congrArg (fun q : Ring => { r with producer := bits w 15 0, workAt := q.workAt }) self.symm
  exact goes_run_eq eq ⟨self.trans since_, fun k other => Block.ring_setRing_ne (s.toBlock.takeHost c) _ other, rfl, rfl, RegsKept.of_od rfl⟩

theorem hostDoorbell_fails (w : Nat) (r : Ring) (taken : HostTaken s.toBlock n psn x c) (bell : c.head.hop = 4) (formed : hostMalformed c.head c.text = false)
    (granted : bit x.granted c.head.ctx = true) (word : w = ofBE (slice c.text 16 8)) (at_ : r = s.toBlock.ring (bits w 63 50))
    (bad : x.failed = true ∨ cfgCtx r.cfg ≠ c.head.ctx) : Goes (exec (.hostDoorbell n psn) s) fun t => t.disp = s.disp ∧ t.mem = s.mem
      ∧ t.emith.hostTx = s.emith.hostTx ++ [⟨hostSlice, 0, n, BitVec.ofNat 128 (HHead.num ⟨5, c.head.ctx, 0, if x.failed then 11 else 10, c.head.va, c.head.tag, 0⟩), [], 0⟩] := by
  have eq : xHostDoorbell n psn s.toBlock = (s.toBlock.takeHost c).hostError n c.head (if x.failed then 11 else 10) := by
    rw [xHostDoorbell_runs taken bell formed granted, ← word, ← at_]
    split
    · rfl
    · next ok => exact if_pos (bne_iff_ne.mpr (bad.resolve_left ok))
  obtain ⟨t, ran, hostTx, mem, disp, -⟩ := hostError_goes taken eq
  exact ⟨t, ran, disp, mem, hostTx⟩

/-! ### Commands that fail, and commands that wait -/

theorem hostCommands_fail : ∀ e ∈ [(Instr.hostWrite n psn, c.head.hop ≠ 2 ∧ c.head.hop ≠ 4), (.hostRead n psn, c.head.hop = 2), (.hostDoorbell n psn, c.head.hop = 4)],
    HostTaken s.toBlock n psn x c → e.2 → (hostMalformed c.head c.text = true ∨ bit x.granted c.head.ctx = false) → Goes (exec e.1 s) fun t =>
      t.emith.hostTx = s.emith.hostTx ++ [⟨hostSlice, 0, n, BitVec.ofNat 128 (HHead.num ⟨5, c.head.ctx, 0, if hostMalformed c.head c.text then 12 else 9, c.head.va, c.head.tag, 0⟩), [], 0⟩]
      ∧ t.mem = s.mem ∧ t.disp = s.disp ∧ (∃ y : Session, t.toBlock.session? n = some y ∧ y.failed = true) ∧ RegsKept [] s.toBlock t.toBlock := by
  intro e he taken ours bad
  have once : ∀ {f : Block → Block} {k : Nat}, f s.toBlock = (s.toBlock.takeHost c).hostError n c.head k → s.toBlock.contended f = (s.toBlock.takeHost c).hostError n c.head k :=
    fun eq => (Block.contended_of_od (by rw [eq]; rfl)).trans eq
  simp only [List.mem_cons, List.not_mem_nil, or_false] at he
  rcases he with rfl | rfl | rfl
  · exact hostError_goes taken (once (Block.hostCommand_fails taken (by simpa using ours) bad))
  · exact hostError_goes taken (once (Block.hostCommand_fails taken (by simpa using ours) bad))
  · exact hostError_goes taken (Block.hostCommand_fails taken (by simpa using ours) bad)

theorem hostCommands_wait (held : s.toBlock.heldCmd n psn = some c) (turn : s.toBlock.mayTake c = false) :
    ∀ e ∈ [Instr.hostWrite n psn, .hostRead n psn, .hostDoorbell n psn], Goes (exec e s) fun t => t.toBlock = settle s.toBlock := by
  intro e he
  simp only [List.mem_cons, List.not_mem_nil, or_false] at he
  rcases he with rfl | rfl | rfl
  · exact goes_run_eq (Block.contended_of_eq (Block.hostCommand_waits held turn)) rfl
  · exact goes_run_eq (Block.contended_of_eq (Block.hostCommand_waits held turn)) rfl
  · exact goes_run_eq (Block.hostCommand_waits held turn) rfl

end Commands

/-- Settles O47: each command is an equation for its row once its turn has come, and what it stores is the memory lemma `Block.writePhys_stored`. -/
theorem hostCommands : Obligations.HostCommands := by
  unfold Obligations.HostCommands
  refine ⟨fun s n psn pa x c => hostWrite_goes pa, fun s n psn x c l => hostRead_goes l, fun s n psn w x c r taken bell formed granted word at_ =>
    ⟨hostDoorbell_delivers w r taken bell formed granted word at_, hostDoorbell_fails w r taken bell formed granted word at_⟩,
    fun s n psn x c => hostCommands_fail, fun s n psn c => hostCommands_wait⟩

end Sys2Proof.Machine
end

section
/-! PROOFS. The commit decision, its record and HAZEL_SKEW_RESOLVE (R360, R362, R365, R388). -/

namespace Sys2Proof.Machine

/-! ### Numbers in bytes (R9, R10) -/

/-- Bytes keep as much of a number as they have bits for. -/
theorem ofLE_leBytes (n x : Nat) : ofLE (leBytes n x) = x % 2 ^ (8 * n) := by
  induction n generalizing x with
  | zero => exact (Nat.mod_one x).symm
  | succ n ih =>
    rw [leBytes, ofLE, ih, BitVec.toNat_ofNat, show 8 * (n + 1) = 8 + 8 * n by omega, Nat.pow_add, Nat.mod_mul]

theorem ofBE_beBytes (n x : Nat) : ofBE (beBytes n x) = x % 2 ^ (8 * n) := by
  rw [ofBE, beBytes, List.reverse_reverse, ofLE_leBytes]

theorem ofLE_lt (l : List Byte) : ofLE l < 2 ^ (8 * l.length) := by
  have kept := ofLE_leBytes l.length (ofLE l)
  rw [leBytes_ofLE] at kept
  rw [kept]
  exact Nat.mod_lt _ (Nat.two_pow_pos _)

/-- A number of at most `n` big-endian bytes. -/
theorem ofBE_take_lt (l : List Byte) (n : Nat) : ofBE (l.take n) < 2 ^ (8 * n) := by
  refine Nat.lt_of_lt_of_le (ofLE_lt _) (Nat.pow_le_pow_right (by decide) ?_)
  rw [List.length_reverse, List.length_take]
  omega

/-! ### The decision record (R360, R388) -/

/-- A decision record as its bytes hold it. -/
def DecisionRec.stored (d : DecisionRec) : DecisionRec := ⟨d.step % 2 ^ 64, d.seed % 2 ^ 64, d.token % 2 ^ 64, d.clip, d.code % 256⟩

/-- A field of a record: the bytes after the `n` bytes of the fields before it. -/
theorem field_of_append {p f r l : List Byte} {n k : Nat} (h : l = p ++ (f ++ r)) (before : p.length = n) (size : f.length = k) : (l.drop n).take k = f := by
  rw [h, List.drop_left' before, List.take_left' size]

theorem decisionOf_bytes (d : DecisionRec) : decisionOf d.bytes = some d.stored := by
  have len : d.bytes.length = 32 := by simp [DecisionRec.bytes, length_beBytes]
  have step : d.bytes.take 8 = beBytes 8 d.step := by simp [DecisionRec.bytes, length_beBytes]
  have seed : (d.bytes.drop 8).take 8 = beBytes 8 d.seed :=
    field_of_append (p := beBytes 8 d.step) (by simp only [DecisionRec.bytes, List.append_assoc]; rfl) (length_beBytes ..) (length_beBytes ..)
  have token : (d.bytes.drop 16).take 8 = beBytes 8 d.token :=
    field_of_append (p := beBytes 8 d.step ++ beBytes 8 d.seed) (by simp only [DecisionRec.bytes, List.append_assoc]; rfl)
      (by simp [length_beBytes]) (length_beBytes ..)
  have clip : (d.bytes.drop 24).take 4 = beBytes 4 d.clip.toNat :=
    field_of_append (p := beBytes 8 d.step ++ beBytes 8 d.seed ++ beBytes 8 d.token) (by simp only [DecisionRec.bytes, List.append_assoc]; rfl)
      (by simp [length_beBytes]) (length_beBytes ..)
  have code : (d.bytes.drop 28).take 1 = beBytes 1 d.code :=
    field_of_append (p := beBytes 8 d.step ++ beBytes 8 d.seed ++ beBytes 8 d.token ++ beBytes 4 d.clip.toNat) (by simp only [DecisionRec.bytes, List.append_assoc]; rfl)
      (by simp [length_beBytes]) (length_beBytes ..)
  have word : BitVec.ofNat 32 (d.clip.toNat % 2 ^ (8 * 4)) = d.clip := by rw [Nat.mod_eq_of_lt d.clip.isLt, BitVec.ofNat_toNat, BitVec.setWidth_eq]
  rw [decisionOf, if_neg (by omega), step, seed, token, clip, code]
  simp only [ofBE_beBytes]
  rw [word]
  rfl

/-- A record that has been read is one that its bytes hold. -/
theorem DecisionRec.stored_of_read {l : List Byte} {d : DecisionRec} (h : decisionOf l = some d) : d.stored = d := by
  unfold decisionOf at h
  split at h
  · cases h
  · cases h
    simp only [DecisionRec.stored]
    rw [Nat.mod_eq_of_lt (ofBE_take_lt l 8), Nat.mod_eq_of_lt (ofBE_take_lt _ 8), Nat.mod_eq_of_lt (ofBE_take_lt _ 8),
      Nat.mod_eq_of_lt (b := 256) (ofBE_take_lt _ 1)]

theorem Block.decision_setDecision (b : Block) (c : Nat) (d : DecisionRec) : (b.setDecision c d).decision c = some d.stored := by
  rw [Block.decision, Block.setDecision, Block.oct_setOct_self, decisionOf_bytes]

theorem Block.decision_of_oct {b d : Block} {c : Nat} (h : d.oct Od.hazelDecision (c + 1) = b.oct Od.hazelDecision (c + 1)) : d.decision c = b.decision c := by
  rw [Block.decision, h, Block.decision]

theorem Block.oct_recordSkip (b : Block) (c s cause k : Nat) : (b.recordSkip c s cause).oct Od.hazelDecision k = b.oct Od.hazelDecision k :=
  Block.oct_setOct_ne _ _ (odKey_ne (by decide) (by decide) (by decide) _ _)

/-! ### A commit and a skip (R137, R142) -/

/-- A commit advances the counter from where it is told to. -/
theorem Block.commit_counter (b : Block) (c n : Nat) : (b.commit c n).reg Od.hazelStep (c + 1) = wrap (odWidth Od.hazelStep (c + 1)) (n + 1) := by
  unfold Block.commit
  rw [Block.reg_bump_ne _ _ (odKey_ne (by decide) (by decide) (by decide) _ _), Block.reg_setReg_ne _ _ (odKey_ne (by decide) (by decide) (by decide) _ _),
    Block.reg_setReg_self]

/-- With the counter, the residual buffer changes. -/
theorem Block.commit_residual (b : Block) (c n : Nat) :
    (b.commit c n).reg Od.ctxResidSel (c + 1) = wrap (odWidth Od.ctxResidSel (c + 1)) (b.reg Od.ctxResidSel (c + 1) ^^^ 1) := by
  unfold Block.commit
  rw [Block.reg_bump_ne _ _ (odKey_ne (by decide) (by decide) (by decide) _ _), Block.reg_setReg_self]

theorem Block.commit_committed (b : Block) (c n : Nat) :
    (b.commit c n).reg Od.ctxStepsCommitted (c + 1) = wrap (odWidth Od.ctxStepsCommitted (c + 1)) (b.reg Od.ctxStepsCommitted (c + 1) + 1) := by
  unfold Block.commit
  rw [Block.reg_bump_self, Block.reg_setReg_ne _ _ (odKey_ne (by decide) (by decide) (by decide) _ _),
    Block.reg_setReg_ne _ _ (odKey_ne (by decide) (by decide) (by decide) _ _)]

theorem RegsKept.commit (b : Block) (c n : Nat) :
    RegsKept [odKey Od.hazelStep (c + 1), odKey Od.ctxResidSel (c + 1), odKey Od.ctxStepsCommitted (c + 1)] b (b.commit c n) :=
  ((RegsKept.setReg b _ _ _ (by simp)).trans (RegsKept.setReg _ _ _ _ (by simp))).trans (RegsKept.setReg _ _ _ _ (by simp))

theorem Block.skipStep_skipped (b : Block) (c : Nat) :
    (b.skipStep c).reg Od.ctxStepsSkipped (c + 1) = wrap (odWidth Od.ctxStepsSkipped (c + 1)) (b.reg Od.ctxStepsSkipped (c + 1) + 1) := by
  unfold Block.skipStep
  rw [reg_raise_of_idx_ne _ _ _ _ _ (by decide) (by decide), Block.reg_bump_self]

theorem RegsKept.skipStep (b : Block) (c : Nat) : RegsKept [odKey Od.ctxStepsSkipped (c + 1), odKey Od.eventNextSeq 0] b (b.skipStep c) :=
  (RegsKept.setReg b _ _ _ (by simp)).trans (RegsKept.raise _ _ _ _ (by simp))

/-- A skip raises its event (R142). -/
theorem Block.lastEvent_skipStep (b : Block) (c : Nat) : LastEvent (b.skipStep c) 0x4320 c [] := lastEvent_raise ..

@[simp] theorem Block.commit_log (b : Block) (c n : Nat) : (b.commit c n).log = b.log := by
  rw [Block.commit, Block.bump_log, Block.setReg_log, Block.setReg_log]

/-- Neither touches the decision record. -/
@[simp] theorem Block.oct_commit (b : Block) (c n i k : Nat) : (b.commit c n).oct i k = b.oct i k := rfl
@[simp] theorem Block.oct_skipStep (b : Block) (c i k : Nat) : (b.skipStep c).oct i k = b.oct i k := by rw [Block.skipStep, Block.oct_raise, Block.oct_bump]

/-- An event stays the newest through the answer of a write. -/
theorem lastEvent_answered {b : Block} {code ctx : Nat} {arg : List Byte} (h : LastEvent b code ctx arg) (st : Nat) :
    LastEvent (settle (b.answer st)) code ctx arg :=
  lastEvent_of_log ((settle_log _).trans (Block.answer_log ..)) ((settle_dt _).trans (Block.answer_dt ..)) h

theorem RegsKept.answered {ks : List Nat} {b c : Block} (h : RegsKept ks b c) (st : Nat) : RegsKept ks b (settle (c.answer st)) :=
  h.trans (RegsKept.of_od rfl)

/-! ### HAZEL_SKEW_RESOLVE (R365, R388) -/

section Resolve
variable {b : Block} {c : Nat} {d : DecisionRec} (open_ : Writable b)
include open_

theorem Block.resolveHold_adopts (decided : b.decision c = some d) (held : d.code = decHold) (ready : b.resetting c = false) :
    b.resolveHold c true = ((b.setDecision c { d with code := decAdopted }).commit c d.token).answer stOK := by
  unfold Block.resolveHold
  rw [Block.onWrite_open open_, decided]
  dsimp only
  rw [if_neg (by simp [held, ready]), if_pos rfl]

theorem Block.resolveHold_discards (decided : b.decision c = some d) (held : d.code = decHold) (ready : b.resetting c = false) :
    b.resolveHold c false = ((b.setDecision c { d with code := decDiscard }).skipStep c).answer stOK := by
  unfold Block.resolveHold
  rw [Block.onWrite_open open_, decided]
  dsimp only
  rw [if_neg (by simp [held, ready]), if_neg Bool.false_ne_true]

theorem Block.resolveHold_refuses (free : ∀ d, b.decision c = some d → d.code ≠ decHold) (adopt : Bool) : b.resolveHold c adopt = b.answer stWriteRefused := by
  unfold Block.resolveHold
  rw [Block.onWrite_open open_]
  split
  · next d decided => exact if_pos (.inl (free d decided))
  · rfl

end Resolve

/-- A decision that is resolved is the held one with its new code. -/
theorem Block.decision_resolved (b : Block) {c : Nat} {l : List Byte} {d : DecisionRec} (h : decisionOf l = some d) {code : Nat} (small : code < 256) :
    (b.setDecision c { d with code := code }).decision c = some { d with code := code } := by
  have kept := DecisionRec.stored_of_read h
  rw [Block.decision_setDecision]
  unfold DecisionRec.stored at kept ⊢
  rw [Nat.mod_eq_of_lt small]
  exact congrArg (fun e : DecisionRec => some { e with code := code }) kept

theorem skewAdopt_goes (s : State) (c : Nat) (d : DecisionRec) (open_ : Writable s.toBlock) (decided : s.toBlock.decision c = some d) (held : d.code = decHold)
    (ready : s.toBlock.resetting c = false) : Goes (exec (.hazelSkewAdopt c) s) fun t =>
      t.odp.status = stOK ∧ t.toBlock.decision c = some { d with code := decAdopted } ∧ t.reg Od.hazelStep (c + 1) = wrap (odWidth Od.hazelStep (c + 1)) (d.token + 1)
      ∧ t.reg Od.ctxStepsCommitted (c + 1) = wrap (odWidth Od.ctxStepsCommitted (c + 1)) (s.reg Od.ctxStepsCommitted (c + 1) + 1) ∧ t.log = s.log
      ∧ RegsKept [odKey Od.hazelStep (c + 1), odKey Od.ctxResidSel (c + 1), odKey Od.ctxStepsCommitted (c + 1)] s.toBlock t.toBlock := by
  refine goes_run_eq (Block.resolveHold_adopts open_ decided held ready) ⟨rfl, ?_, ?_, ?_, ?_, ?_⟩
  · refine (Block.decision_of_oct (b := s.toBlock.setDecision c { d with code := decAdopted }) ?_).trans (s.toBlock.decision_resolved decided (by decide))
    rw [oct_settle, Block.oct_answer, Block.oct_commit]
  · rw [reg_settle, Block.reg_answer, Block.commit_counter]
  · rw [reg_settle, Block.reg_answer, Block.commit_committed]
    rfl
  · rw [settle_log, Block.answer_log, Block.commit_log]
    rfl
  · exact RegsKept.answered (b := s.toBlock) (RegsKept.commit (s.toBlock.setDecision c _) c d.token) stOK

theorem skewDiscard_goes (s : State) (c : Nat) (d : DecisionRec) (open_ : Writable s.toBlock) (decided : s.toBlock.decision c = some d) (held : d.code = decHold)
    (ready : s.toBlock.resetting c = false) : Goes (exec (.hazelSkewDiscard c) s) fun t =>
      t.odp.status = stOK ∧ t.toBlock.decision c = some { d with code := decDiscard } ∧ LastEvent t.toBlock 0x4320 c []
      ∧ t.reg Od.ctxStepsSkipped (c + 1) = wrap (odWidth Od.ctxStepsSkipped (c + 1)) (s.reg Od.ctxStepsSkipped (c + 1) + 1)
      ∧ RegsKept [odKey Od.ctxStepsSkipped (c + 1), odKey Od.eventNextSeq 0] s.toBlock t.toBlock := by
  refine goes_run_eq (Block.resolveHold_discards open_ decided held ready) ⟨rfl, ?_, ?_, ?_, ?_⟩
  · refine (Block.decision_of_oct (b := s.toBlock.setDecision c { d with code := decDiscard }) ?_).trans (s.toBlock.decision_resolved decided (by decide))
    rw [oct_settle, Block.oct_answer, Block.oct_skipStep]
  · exact lastEvent_answered (Block.lastEvent_skipStep _ c) stOK
  · rw [reg_settle, Block.reg_answer, Block.skipStep_skipped]
    rfl
  · exact RegsKept.answered (b := s.toBlock) (RegsKept.skipStep (s.toBlock.setDecision c _) c) stOK

/-- Settles O36: a held decision is rewritten with its new code, and what follows is the commit or the skip of every decision. -/
theorem skewResolve : Obligations.SkewResolve := by
  unfold Obligations.SkewResolve
  refine ⟨skewAdopt_goes, skewDiscard_goes, fun s c open_ free e he => ?_⟩
  rcases List.mem_pair.mp he with rfl | rfl
  · exact goes_run_eq (Block.resolveHold_refuses open_ free true) rfl
  · exact goes_run_eq (Block.resolveHold_refuses open_ free false) rfl

end Sys2Proof.Machine
end

section
/-! PROOFS. The rows of the commit decision, and what a decision leaves to the UPDATE tasks that wait for it (R136, R142, R360, R362). -/

namespace Sys2Proof.Machine

/-! ### The rows of R360 -/

theorem decisionCode_skips {nf dispute : Bool} (h : nf = true ∨ dispute = true) (count token : Nat) (adopt : Bool) :
    decisionCode nf dispute count token adopt = decNonfinite ∨ decisionCode nf dispute count token adopt = decDispute := by
  cases nf
  · cases h.resolve_left Bool.false_ne_true
    exact .inr rfl
  · exact .inl rfl

theorem decisionCode_lt (nf dispute : Bool) (count token : Nat) (adopt : Bool) : decisionCode nf dispute count token adopt < 256 := by
  unfold decisionCode
  repeat' split
  all_goals decide

theorem decisionCode_apart {count token : Nat} (h : count ≠ token) (adopt : Bool) :
    decisionCode false false count token adopt = if adopt then decAdopted else decHold := if_pos h

theorem decisionCode_equal (token : Nat) (adopt : Bool) : decisionCode false false token token adopt = decCommit := by
  simp [decisionCode]

/-! ### What each row does (R360) -/

/-- The record of a decision. -/
def Block.decisionRec (b : Block) (c s : Nat) (nf dispute : Bool) (token : Nat) (clip : F32) : DecisionRec :=
  ⟨s, b.reg Od.ctxRoundSeed (c + 1), token, clip, decisionCode nf dispute (b.reg Od.hazelStep (c + 1)) token (b.reg Od.hazelAdopt (c + 1) == 1)⟩

section Rows
variable (b : Block) (c s : Nat) (nf dispute : Bool) (token : Nat) (clip : F32)

/-- The block once the record stands. -/
def Block.decided (b : Block) (c s : Nat) (nf dispute : Bool) (token : Nat) (clip : F32) : Block :=
  b.setDecision c (b.decisionRec c s nf dispute token clip)

theorem Block.decide_commits (h : b.reg Od.hazelStep (c + 1) = token ∨ b.reg Od.hazelAdopt (c + 1) = 1) :
    (b.decide_ c s false false token clip).1 = (b.decided c s false false token clip).commit c token := by
  unfold Block.decided Block.decisionRec Block.decide_
  dsimp only
  by_cases equal : b.reg Od.hazelStep (c + 1) = token
  · rw [equal, decisionCode_equal, if_pos rfl]
  · rw [decisionCode_apart equal, if_pos (beq_iff_eq.mpr (h.resolve_left equal)), if_neg (by decide), if_pos rfl]

theorem Block.decide_holds (apart : b.reg Od.hazelStep (c + 1) ≠ token) (keep : b.reg Od.hazelAdopt (c + 1) ≠ 1) :
    (b.decide_ c s false false token clip).1 = ((b.decided c s false false token clip).recordSkip c s 4).raise 0x8390 c
      (beBytes 8 (b.reg Od.hazelStep (c + 1)) ++ beBytes 8 token) := by
  unfold Block.decided Block.decisionRec Block.decide_
  dsimp only
  rw [decisionCode_apart apart, if_neg (by simpa using keep : ¬ (b.reg Od.hazelAdopt (c + 1) == 1) = true), if_neg (by decide), if_neg (by decide), if_pos rfl]

theorem Block.decide_skips (h : nf = true ∨ dispute = true) : ∃ cause, (b.decide_ c s nf dispute token clip).1
    = (((b.decided c s nf dispute token clip).recordSkip c s cause).skipStep c).signalWaiting c s := by
  refine ⟨(if nf then 1 else 0) + (if dispute then 2 else 0), ?_⟩
  unfold Block.decided Block.decisionRec Block.decide_
  dsimp only
  rcases decisionCode_skips h (b.reg Od.hazelStep (c + 1)) token (b.reg Od.hazelAdopt (c + 1) == 1) with code | code
  all_goals rw [code, if_neg (by decide), if_neg (by decide), if_neg (by decide)]

/-- One of the rows applies. -/
theorem Block.decide_cases : ((nf = false ∧ dispute = false) ∧ (b.reg Od.hazelStep (c + 1) = token ∨ b.reg Od.hazelAdopt (c + 1) = 1))
    ∨ ((nf = false ∧ dispute = false) ∧ b.reg Od.hazelStep (c + 1) ≠ token ∧ b.reg Od.hazelAdopt (c + 1) ≠ 1) ∨ (nf = true ∨ dispute = true) := by
  cases nf <;> cases dispute <;> simp
  tauto

end Rows

/-! ### What the tasks take (R136, R362) -/

theorem TaskOnly.reg {b c : Block} (h : TaskOnly b c) (i k : Nat) : c.reg i k = b.reg i k := by rw [h]; rfl
theorem TaskOnly.oct {b c : Block} (h : TaskOnly b c) (i k : Nat) : c.oct i k = b.oct i k := by rw [h]; rfl

theorem TaskOnly.signalWaiting (b : Block) (c s : Nat) : TaskOnly b (b.signalWaiting c s) :=
  foldl_has (TaskOnly b) (fun _ t k => k.trans (TaskOnly.signalUpdate _ t)) _ rfl

/-- The block has the task `x`, which may have signalled its token since. -/
def HasTask (x : Task) (b : Block) : Prop := ∃ g, { x with signalled := g } ∈ b.disp.tasks

namespace HasTask
variable {b c : Block} {x : Task}

theorem of_tasks (h : HasTask x b) (e : c.disp.tasks = b.disp.tasks) : HasTask x c := by
  obtain ⟨g, here⟩ := h
  exact ⟨g, by rwa [e]⟩

theorem signalUpdate (h : HasTask x b) (t : Nat) : HasTask x (b.signalUpdate t) := by
  unfold Block.signalUpdate
  split
  · split
    · exact h
    · refine of_tasks (b := b.setTask t fun y => { y with signalled := true }) ?_ (Block.signal_tasks ..)
      obtain ⟨g, here⟩ := h
      have moved := List.mem_map_of_mem (f := fun y : Task => if y.ticket == t then { y with signalled := true } else y) here
      dsimp only at moved
      split at moved
      · exact ⟨true, moved⟩
      · exact ⟨g, moved⟩
  · exact h

theorem signalWaiting (h : HasTask x b) (n s : Nat) : HasTask x (b.signalWaiting n s) :=
  foldl_has (HasTask x) (fun _ t k => k.signalUpdate t) _ h

theorem skipStep (h : HasTask x b) (n : Nat) : HasTask x (b.skipStep n) := by
  refine h.of_tasks ?_
  unfold Block.skipStep
  rw [RegLog.disp (RegLog.raise ..)]
  rfl

end HasTask

/-- A task that waits for a decision takes it with the counter (R362). -/
theorem Block.latchDecision_taken {b : Block} {y : Task} {c : Nat} {d : DecisionRec} (here : y ∈ b.disp.tasks) (ctx : y.ctx = c) (running : y.isRunning = true)
    (update : opcodeOf y.desc = opUpdate) (waits : y.decided = []) (belongs : belongsTo y d.step = true) :
    { y with decided := d.bytes, counter := b.reg Od.hazelStep (c + 1) } ∈ (b.latchDecision c d).disp.tasks := by
  refine List.mem_map.mpr ⟨y, here, if_pos ?_⟩
  simp [ctx, running, update, waits, belongs]

/-! ### The decision as a whole -/

section Whole
variable (b : Block) (c s : Nat) (nf dispute : Bool) (token : Nat) (clip : F32)

theorem Block.commitDecision_eq :
    b.commitDecision c s nf dispute token clip = ((b.decide_ c s nf dispute token clip).1).latchDecision c (b.decisionRec c s nf dispute token clip) := rfl

theorem Block.reg_commitDecision (i k : Nat) :
    (b.commitDecision c s nf dispute token clip).reg i k = ((b.decide_ c s nf dispute token clip).1).reg i k := rfl

theorem Block.hazelStep_apart (c : Nat) : odKey Od.hazelStep (c + 1) ∉ [odKey Od.ctxStepsSkipped (c + 1), odKey Od.eventNextSeq 0] := by
  rw [List.mem_pair, not_or]
  exact ⟨odKey_ne (by decide) (by decide) (by decide) _ _, odKey_ne (by decide) (by decide) (by decide) _ _⟩

/-- A hold records the skip and raises its event, and a skip its own: neither moves the counter. -/
theorem Block.decide_count
    (h : ((nf = false ∧ dispute = false) ∧ b.reg Od.hazelStep (c + 1) ≠ token ∧ b.reg Od.hazelAdopt (c + 1) ≠ 1) ∨ (nf = true ∨ dispute = true)) :
    ((b.decide_ c s nf dispute token clip).1).reg Od.hazelStep (c + 1) = b.reg Od.hazelStep (c + 1) := by
  rcases h with ⟨⟨rfl, rfl⟩, apart, keep⟩ | skips
  · rw [Block.decide_holds b c s token clip apart keep, reg_raise_of_idx_ne _ _ _ _ _ (by decide) (by decide)]
    rfl
  · obtain ⟨cause, ends⟩ := b.decide_skips c s nf dispute token clip skips
    rw [ends, (TaskOnly.signalWaiting ..).reg, RegsKept.skipStep _ c _ _ (Block.hazelStep_apart c)]
    rfl

theorem Block.decide_decision : ((b.decide_ c s nf dispute token clip).1).decision c = some (b.decisionRec c s nf dispute token clip).stored := by
  refine (Block.decision_of_oct (b := b.decided c s nf dispute token clip) ?_).trans (b.decision_setDecision c _)
  rcases b.decide_cases c nf dispute token with ⟨⟨rfl, rfl⟩, commits⟩ | ⟨⟨rfl, rfl⟩, apart, keep⟩ | skips
  · rw [Block.decide_commits b c s token clip commits, Block.oct_commit]
  · rw [Block.decide_holds b c s token clip apart keep, Block.oct_raise, Block.oct_recordSkip]
  · obtain ⟨cause, ends⟩ := b.decide_skips c s nf dispute token clip skips
    rw [ends, (TaskOnly.signalWaiting ..).oct, Block.oct_skipStep, Block.oct_recordSkip]

theorem Block.hasTask_decide {x : Task} (here : x ∈ b.disp.tasks) : HasTask x (b.decide_ c s nf dispute token clip).1 := by
  have decided : HasTask x (b.decided c s nf dispute token clip) := ⟨x.signalled, here⟩
  rcases b.decide_cases c nf dispute token with ⟨⟨rfl, rfl⟩, commits⟩ | ⟨⟨rfl, rfl⟩, apart, keep⟩ | skips
  · rw [Block.decide_commits b c s token clip commits]
    exact decided.of_tasks rfl
  · rw [Block.decide_holds b c s token clip apart keep]
    exact decided.of_tasks (by rw [RegLog.disp (RegLog.raise ..)]; rfl)
  · obtain ⟨cause, ends⟩ := b.decide_skips c s nf dispute token clip skips
    rw [ends]
    exact ((decided.of_tasks (c := (b.decided c s nf dispute token clip).recordSkip c s cause) rfl).skipStep c).signalWaiting c s

theorem Block.commitDecision_decision :
    (b.commitDecision c s nf dispute token clip).decision c = some (b.decisionRec c s nf dispute token clip).stored :=
  (Block.decision_of_oct rfl).trans (b.decide_decision c s nf dispute token clip)

theorem Block.decisionRec_stored : (b.decisionRec c s nf dispute token clip).stored
    = ⟨s % 2 ^ 64, b.reg Od.ctxRoundSeed (c + 1) % 2 ^ 64, token % 2 ^ 64, clip,
        decisionCode nf dispute (b.reg Od.hazelStep (c + 1)) token (b.reg Od.hazelAdopt (c + 1) == 1)⟩ := by
  unfold DecisionRec.stored Block.decisionRec
  dsimp only
  rw [Nat.mod_eq_of_lt (decisionCode_lt ..)]

theorem Block.commitDecision_count (moved : (b.commitDecision c s nf dispute token clip).reg Od.hazelStep (c + 1) ≠ b.reg Od.hazelStep (c + 1)) :
    nf = false ∧ dispute = false ∧ (b.reg Od.hazelStep (c + 1) = token ∨ b.reg Od.hazelAdopt (c + 1) = 1) := by
  rcases b.decide_cases c nf dispute token with ⟨⟨finite, agreed⟩, commits⟩ | stays
  · exact ⟨finite, agreed, commits⟩
  · exact absurd (b.decide_count c s nf dispute token clip stays) moved

theorem Block.commitDecision_commits (h : b.reg Od.hazelStep (c + 1) = token ∨ b.reg Od.hazelAdopt (c + 1) = 1) :
    (b.commitDecision c s false false token clip).reg Od.hazelStep (c + 1) = wrap (odWidth Od.hazelStep (c + 1)) (token + 1)
    ∧ (b.commitDecision c s false false token clip).reg Od.ctxResidSel (c + 1) = wrap (odWidth Od.ctxResidSel (c + 1)) (b.reg Od.ctxResidSel (c + 1) ^^^ 1) := by
  rw [Block.reg_commitDecision, Block.reg_commitDecision, Block.decide_commits b c s token clip h]
  exact ⟨Block.commit_counter .., Block.commit_residual ..⟩

theorem Block.commitDecision_holds (apart : b.reg Od.hazelStep (c + 1) ≠ token) (keep : b.reg Od.hazelAdopt (c + 1) ≠ 1) :
    LastEvent (b.commitDecision c s false false token clip) 0x8390 c (beBytes 8 (b.reg Od.hazelStep (c + 1)) ++ beBytes 8 token) := by
  rw [Block.commitDecision_eq, Block.decide_holds b c s token clip apart keep]
  exact lastEvent_of_log rfl rfl (lastEvent_raise ..)

theorem Block.commitDecision_skips (h : nf = true ∨ dispute = true) : (b.commitDecision c s nf dispute token clip).reg Od.ctxStepsSkipped (c + 1)
    = wrap (odWidth Od.ctxStepsSkipped (c + 1)) (b.reg Od.ctxStepsSkipped (c + 1) + 1) := by
  obtain ⟨cause, ends⟩ := b.decide_skips c s nf dispute token clip h
  rw [Block.reg_commitDecision, ends, (TaskOnly.signalWaiting ..).reg, Block.skipStep_skipped]
  rfl

/-- Every UPDATE that waits for the decision takes it, as the record has it. -/
theorem Block.commitDecision_taken {x : Task} (here : x ∈ b.disp.tasks) (ctx : x.ctx = c) (running : x.isRunning = true) (update : opcodeOf x.desc = opUpdate)
    (waits : x.decided = []) (belongs : belongsTo x s = true) : ∃ y ∈ (b.commitDecision c s nf dispute token clip).disp.tasks,
      y.ticket = x.ticket ∧ y.counter = (b.commitDecision c s nf dispute token clip).reg Od.hazelStep (c + 1)
      ∧ decisionOf y.decided = (b.commitDecision c s nf dispute token clip).decision c := by
  obtain ⟨g, waiting⟩ := b.hasTask_decide c s nf dispute token clip here
  have taken := Block.latchDecision_taken (d := b.decisionRec c s nf dispute token clip) waiting ctx running update waits belongs
  exact ⟨_, taken, rfl, rfl, (decisionOf_bytes _).trans (b.commitDecision_decision c s nf dispute token clip).symm⟩

end Whole

/-! ### The end of an UPDATE without a commit (R142, R362, R365) -/

/-- The decisions without a commit, with the status in which an UPDATE ends (R142, R365). -/
def uncommittedRows : List (Nat × Nat) := [(decNonfinite, sNonfiniteSkip), (decDispute, sShadowDispute), (decHold, sStepSkew)]

theorem Block.runUpdate_uncommitted {b : Block} {x : Task} {d : DecisionRec} (task : b.task? x.ticket = some x) (running : x.phase = .running)
    (inside : b.stageOut x = false) {r : Nat × Nat} (row : r ∈ uncommittedRows) (code : d.code = r.1) :
    ∃ (c : Block) (y : Task) (o : UpdOut), b.runUpdate x d = c.endUpdate x r.2 o false ∧ c.task? x.ticket = some y ∧ y.phase = .running := by
  by_cases hold : r = (decHold, sStepSkew)
  · subst hold
    obtain ⟨o, run⟩ := b.runUpdate_holds x code
    obtain ⟨z, queued⟩ := b.requeueRoot_eq x
    exact ⟨b.requeueRoot x, x, o, run, by rw [queued]; exact task, running⟩
  · have skips : r ∈ skipCodes := by
      simp only [uncommittedRows, skipCodes, List.mem_cons, List.not_mem_nil, or_false] at row ⊢
      tauto
    obtain ⟨o, run⟩ := b.runUpdate_skips x skips code
    obtain ⟨y, still, unended⟩ := Block.task?_signalUpdate ((Block.task?_of_disp (SlowOnly.emptied b x).disp _).trans task) running
    exact ⟨_, y, o, by rw [run, inside, if_neg Bool.false_ne_true], still, unended⟩

/-- An UPDATE whose decision is a skip or a hold ends with the status of its row. -/
theorem updateUncommitted_goes {s : State} {k : Nat} {x : Task} {d : DecisionRec} {e : Instr × Nat} (he : e ∈ updateCommands k)
    (hx : s.toBlock.starting k opUpdate = some x) (kind : updKind x.desc = e.2) (runs : s.toBlock.hazelRuns = true) (hs : s.gov.shed = false)
    (first : s.toBlock.firstUpdate x = true) (decided : decisionOf x.decided = some d) (inside : s.toBlock.stageOut x = false) {r : Nat × Nat}
    (row : r ∈ uncommittedRows) (code : d.code = r.1) :
    Goes (exec e.1 s) fun t => ∃ u, EndedWith t.toBlock k r.2 u := by
  refine goes_runUpdate he hx kind runs hs first decided fun t drawn => ?_
  obtain ⟨task, running, -⟩ := Block.starting_eq_some hx
  have ticket := Block.task?_ticket task
  subst ticket
  obtain ⟨c, y, o, run, still, unended⟩ := Block.runUpdate_uncommitted task running inside row code
  rw [run] at drawn
  exact (drawn.endUpdate still unended).1

end Sys2Proof.Machine
end

section
/-! PROOFS. What a Context reset leaves of the octet strings: the decision record stays (R270, R360). -/

namespace Sys2Proof.Machine

/-! ### The end of tasks writes no octet string -/

@[simp] theorem Block.taint1_odb (b : Block) (c o : Nat) (r : Nat × Nat) : (b.taint1 c o r).odb = b.odb := by
  unfold Block.taint1
  split
  · rfl
  · dsimp only
    split
    · rfl
    · split
      · rw [Block.raise_odb, Block.setReg_odb]
      · rfl

@[simp] theorem Block.addTaint_odb (b : Block) (c o : Nat) (e : List (Nat × Nat)) : (b.addTaint c o e).odb = b.odb :=
  foldl_keep (·.odb) (fun b r => b.taint1_odb c o r) _ _

@[simp] theorem Block.nonfinite_odb (b : Block) (c n : Nat) : (b.nonfinite c n).2.odb = b.odb := by
  unfold Block.nonfinite Block.setNonfinite
  dsimp only
  split
  · rw [Block.raise_odb, Block.setReg_odb]
  · split
    · rw [Block.raise_odb, Block.setReg_odb, Block.setReg_odb]
    · rfl

@[simp] theorem Block.stageFault_odb (b : Block) (c n : Nat) : (b.stageFault c n).odb = b.odb := by
  rw [Block.stageFault, Block.raise_odb, Block.bump_odb, Block.nonfinite_odb]

@[simp] theorem Block.xferMark_odb (b : Block) (x : Task) (s o : Nat) : (b.xferMark x s o).odb = b.odb := by
  unfold Block.xferMark
  dsimp only
  split
  · split <;> rfl
  · split
    · rw [Block.stageFault_odb, Block.addTaint_odb]
    · rw [Block.addTaint_odb]

@[simp] theorem Block.arm_odb (b : Block) (t : Task) (s : Nat) : (b.arm t s).odb = b.odb := by
  unfold Block.arm
  dsimp only
  split
  · split <;> rfl
  · rfl

@[simp] theorem Block.endXfer_odb (b : Block) (t s : Nat) (cs : List Nat) (k v o : Nat) : (b.endXfer t s cs k v o).odb = b.odb := by
  unfold Block.endXfer
  split
  · rfl
  · split
    · rfl
    · dsimp only
      rw [Block.xferMark_odb, Block.arm_odb]
      rfl

@[simp] theorem Block.feedDone_odb (b : Block) (x : Task) : (b.feedDone x).odb = b.odb := by
  unfold Block.feedDone
  split
  · rfl
  · split <;> exact Block.endXfer_odb ..

@[simp] theorem Block.dropDest_odb (b : Block) (c : Nat) (e : PortEntry) : (b.dropDest c e).odb = b.odb := by
  unfold Block.dropDest
  dsimp only
  split
  · rfl
  · split
    · exact Block.endXfer_odb ..
    · rw [Block.feedDone_odb, Block.raise_odb, Block.bump_odb]

@[simp] theorem Block.dropPort_odb (b : Block) (c : Nat) (p : PortId) (n : Nat) : (b.dropPort c p n).odb = b.odb :=
  foldl_keep (·.odb) (fun b e => b.dropDest_odb c e) _ _

@[simp] theorem Block.settleEnded_odb (b : Block) (t : Nat) : (b.settleEnded t).odb = b.odb := by rw [Block.settleEnded_eq]

@[simp] theorem Block.abortPlaza_odb (b : Block) (t : Task) (s : Nat) : (b.abortPlaza t s).odb = b.odb :=
  (foldl_keep (·.odb) (fun b (p : PortId × Nat) => b.dropPort_odb t.ticket p.1 p.2) _ _).trans (Block.settleEnded_odb ..)

@[simp] theorem Block.taintOuts_odb (b : Block) (t : Task) : (b.taintOuts t).odb = b.odb :=
  foldl_keep (·.odb) (fun b _ => b.endXfer_odb ..) _ _

@[simp] theorem Block.failVector_odb (b : Block) (t : Task) (s : Nat) : (b.failVector t s).odb = b.odb :=
  (foldl_keep (·.odb) (fun b (p : PortId × Nat) => b.dropPort_odb t.ticket p.1 p.2) _ _).trans (Block.taintOuts_odb ..)

@[simp] theorem Block.abortXfer_odb (b : Block) (t : Task) : (b.abortXfer t).odb = b.odb := Block.endXfer_odb ..

@[simp] theorem Block.abortRb_odb (b : Block) (c : Nat) : (b.abortRb c).odb = b.odb := by
  unfold Block.abortRb
  dsimp only
  rw [foldl_keep (·.odb) (fun b k => b.endTask_odb ..), foldl_keep (·.odb) (fun b w => ?_)]
  split
  · rw [Block.stageFault_odb, Block.addTaint_odb]
    rfl
  · rw [Block.addTaint_odb]
    rfl

@[simp] theorem Block.abortRest_odb (b : Block) (t : Task) : (b.abortRest t).odb = b.odb := by
  unfold Block.abortRest
  dsimp only
  split
  · rw [Block.nonfinite_odb, Block.endTask_odb]
  · split
    · rw [Block.stageFault_odb, Block.endTask_odb]
    · rfl

@[simp] theorem Block.abortTasks_odb (b : Block) (c : Nat) : (b.abortTasks c).odb = b.odb := by
  unfold Block.abortTasks
  dsimp only
  rw [foldl_keep (·.odb) (fun b t => b.abortRest_odb t), Block.abortRb_odb, foldl_keep (·.odb) (fun b t => b.abortPlaza_odb t sAborted),
    foldl_keep (·.odb) (fun b t => b.failVector_odb t sAborted), foldl_keep (·.odb) (fun b t => b.abortXfer_odb t)]

@[simp] theorem Block.ringsStopped_odb (b : Block) (c : Nat) : (b.ringsStopped c).odb = b.odb := rfl

@[simp] theorem Block.dropWork_odb (b : Block) (c : Nat) : (b.dropWork c).odb = b.odb := rfl

@[simp] theorem Block.stopCtx_odb (b : Block) (c : Nat) : (b.stopCtx c).odb = b.odb := by
  rw [Block.stopCtx_eq, Block.dropWork_odb, Block.abortTasks_odb, Block.ringsStopped_odb]

/-! ### The Clear phase and the records -/

/-- Entries that return to their defaults leave those of other indices. -/
theorem Block.oct_defaults (b : Block) (c : Nat) {l : List Nat} {j : Nat} (hj : j < 65536) (apart : ∀ i ∈ l, i < 65536 ∧ j ≠ i) (k : Nat) :
    (b.defaults c l).oct j k = b.oct j k := by
  induction l generalizing b with
  | nil => rfl
  | cons i l ih =>
    obtain ⟨hi, ne⟩ := apart i (List.mem_cons_self ..)
    refine (ih ((b.setReg i (c + 1) (odDefault i (c + 1))).setOct i (c + 1) (octDefault i (c + 1))) (fun x hx => apart x (List.mem_cons_of_mem _ hx))).trans ?_
    rw [Block.oct_setOct_ne _ _ (odKey_ne ne hj hi _ _)]
    rfl

@[simp] theorem Block.disableCohort_odb (b : Block) (k : Nat) : (b.disableCohort k).odb = b.odb := by
  unfold Block.disableCohort
  dsimp only
  split
  · rfl
  · rw [Block.bump_odb]

@[simp] theorem Block.clearStage_odb (b : Block) (c off : Nat) : (b.clearStage c off).odb = b.odb := by
  unfold Block.clearStage
  split
  · exact (SlowOnly.slowWrite ..).odb
  · rfl

@[simp] theorem Block.forgetSteps_odb (b : Block) (c : Nat) : (b.forgetSteps c).odb = b.odb := by
  unfold Block.forgetSteps
  dsimp only
  split <;> rfl

theorem clearedEntries_apart : ∀ i ∈ clearedEntries, i < 65536 ∧ Od.hazelDecision ≠ i := by decide

@[simp] theorem Block.clearTokens_odb (b : Block) (c : Nat) : (b.clearTokens c).odb = b.odb := rfl
@[simp] theorem Block.clearNorm_odb (b : Block) (c : Nat) : (b.clearNorm c).odb = b.odb := rfl
@[simp] theorem Block.setGate_odb (b : Block) (c : Nat) (g : Gate) : (b.setGate c g).odb = b.odb := rfl

theorem Block.clearStages_odb (b : Block) (c : Nat) (l : List (Nat × Nat)) : (l.foldl (fun b x => b.clearStage c x.2) b).odb = b.odb := by
  induction l generalizing b with
  | nil => rfl
  | cons x r ih => rw [List.foldl_cons, ih, Block.clearStage_odb]

theorem Block.disableCohorts_odb (b : Block) (l : List Nat) : (l.foldl (fun b k => b.disableCohort k) b).odb = b.odb :=
  foldl_keep (·.odb) (fun b k => b.disableCohort_odb k) l b

theorem Block.clearCtx_odb (b : Block) (c : Nat) : (b.clearCtx c).odb = (b.defaults c clearedEntries).odb := by
  unfold Block.clearCtx
  dsimp only
  rw [Block.forgetSteps_odb, Block.setGate_odb, Block.clearStages_odb, Block.disableCohorts_odb, Block.clearNorm_odb, Block.clearTokens_odb]

theorem Block.clearCtx_decision (b : Block) (c k : Nat) : (b.clearCtx c).oct Od.hazelDecision k = b.oct Od.hazelDecision k :=
  (Block.oct_eq_of_odb (b.clearCtx_odb c) _ _).trans (b.oct_defaults c (by decide) clearedEntries_apart k)

theorem StoreOnly.odb {b c : Block} (h : StoreOnly b c) : c.odb = b.odb := by rw [h]

theorem Block.recorded_odb (b : Block) (c : Nat) : (b.recorded c).odb = (b.clearCtx c).odb :=
  foldl_keep (·.odb) (fun b t => (StoreOnly.abortRecord b t).odb) _ _

theorem Block.finishCtx_decision (b : Block) (c k : Nat) : (b.finishCtx c).oct Od.hazelDecision k = b.oct Od.hazelDecision k := by
  refine (Block.oct_eq_of_odb (b := b.clearCtx c) ?_ _ _).trans (b.clearCtx_decision c k)
  rw [Block.finishCtx_eq, Block.raise_odb, Block.setReg_odb, ← Block.recorded_odb]
  rfl

/-! ### A reset as a whole -/

/-- A write that leaves the octet strings does so whether it is taken or refused. -/
theorem Block.onWrite_odb {b : Block} {f : Block → Block} (h : (f b).odb = b.odb) (i : Nat) (recovery : Bool) : (b.onWrite i recovery f).odb = b.odb := by
  unfold Block.onWrite
  split
  · rfl
  · split
    · rfl
    · split
      · rfl
      · exact h

theorem xCtxReset_odb (c v : Nat) (b : Block) : (xCtxReset c v b).odb = b.odb := by
  refine Block.onWrite_odb ?_ _ _
  split
  · rfl
  · split
    · rfl
    · split
      · rfl
      · rw [Block.answer_odb, Block.stopCtx_odb]

theorem contextReset_goes (s : State) (c v k : Nat) : ∀ e ∈ [Instr.ctxReset c v, .ctxResetDone c],
    Goes (exec e s) fun t => t.oct Od.hazelDecision k = s.oct Od.hazelDecision k := by
  intro e he
  rcases List.mem_pair.mp he with rfl | rfl
  · exact goes_run_eq rfl (Block.oct_eq_of_odb ((settle_odb _).trans (xCtxReset_odb ..)) _ _)
  · refine goes_run_eq (f := xCtxResetDone c) rfl ((oct_settle ..).trans ?_)
    unfold xCtxResetDone
    split
    · exact Block.finishCtx_decision ..
    · rfl

/-- Settles O37: each row is one equation for what the decision makes of the block, and each clause is read off the row that applies. -/
theorem decisionTable : Obligations.DecisionTable := by
  unfold Obligations.DecisionTable
  refine ⟨fun _ _ _ _ => rfl, fun _ _ _ => rfl, fun count token apart => ⟨decisionCode_apart apart true, decisionCode_apart apart false⟩,
    decisionCode_equal, Block.commitDecision_count, Block.commitDecision_commits, Block.commitDecision_holds, Block.commitDecision_skips, ?_, ?_, ?_, contextReset_goes⟩
  · intro b c s nf dispute token clip
    rw [Block.commitDecision_decision, Block.decisionRec_stored]
  · exact fun b c s nf dispute token clip x here => b.commitDecision_taken c s nf dispute token clip here
  · exact fun s k x d e he hx kind runs hs first decided inside r row code => updateUncommitted_goes he hx kind runs hs first decided inside row code

end Sys2Proof.Machine
end

section
/-! PROOFS. The slow tier: whole XTS units written, and the header of a state block read back (R349, R352, R388, R493). -/

namespace Sys2Proof.Machine

/-! ### Whole XTS units (R493) -/

theorem mem_wordsOf {a n w : Nat} : w ∈ wordsOf a n ↔ n ≠ 0 ∧ a / 8 ≤ w ∧ w ≤ (a + n - 1) / 8 := by
  unfold wordsOf
  split
  · next none => simp [none]
  · next some_ =>
    rw [List.mem_map]
    constructor
    · rintro ⟨i, hi, rfl⟩
      have := List.mem_range.mp hi
      exact ⟨some_, by omega⟩
    · rintro ⟨-, low, high⟩
      exact ⟨w - a / 8, List.mem_range.mpr (by omega), by omega⟩

/-- The word of a byte in a range is one of the range's words. -/
theorem div_mem_wordsOf {a n i : Nat} (h : i < n) : (a + i) / 8 ∈ wordsOf a n := mem_wordsOf.mpr (by omega)

theorem Mem.poisoned_of_clean {m : Mem} {a n i : Nat} (clean : m.anyPoison a n = false) (h : i < n) : m.poisoned ((a + i) / 8) = false :=
  Bool.eq_false_iff.mpr (List.any_eq_false.mp clean _ (div_mem_wordsOf h))

/-- Clearing those words of a list that satisfy `p`. -/
theorem Mem.poisoned_clearIf (p : Nat → Prop) [DecidablePred p] (l : List Nat) (m : Mem) (w : Nat) :
    (l.foldl (fun c y => if p y then c.setPoison y false else c) m).poisoned w = if w ∈ l ∧ p w then false else m.poisoned w := by
  induction l generalizing m with
  | nil => simp
  | cons y r ih =>
    rw [List.foldl_cons, ih]
    by_cases here : w = y
    · subst here
      by_cases holds : p w
      · simp [holds, Mem.poisoned_setPoison]
      · simp [holds]
    · by_cases holds : p y
      · simp [holds, here, Mem.poisoned_setPoison]
      · simp [holds, here]

/-- A write clears the poison of the words in the XTS units that it covers whole (R493). -/
theorem Mem.poisoned_clearUnits {m : Mem} {a n w : Nat} (aligned : a % 16 = 0) (whole : n % 16 = 0) (h : w ∈ wordsOf a n) : (m.clearFull 16 a n).poisoned w = false := by
  have range := mem_wordsOf.mp h
  refine (m.poisoned_clearIf (fun w => a ≤ 8 * w / 16 * 16 ∧ 8 * w / 16 * 16 + 16 ≤ a + n) (wordsOf a n) w).trans (if_pos ⟨h, ?_⟩)
  omega

theorem Mem.byte_clearUnits (m : Mem) {a n x : Nat} (out : x < a ∨ a + n ≤ x) : (m.clearFull 16 a n).byte x = m.byte x := by
  refine List.foldlRecOn (motive := fun c : Mem => c.byte x = m.byte x) _ _ rfl (fun c ih w _ => ?_)
  dsimp only
  split
  · rw [Mem.byte_setPoison_ne _ _ _ (by omega), ih]
  · exact ih

/-- A write to the slow tier leaves every byte outside its range (R349, R493). -/
theorem Mem.byte_writeUnits_outside (m : Mem) {a : Nat} {v : List Byte} {x : Nat} (out : x < a ∨ a + v.length ≤ x) : (m.write 16 a v).byte x = m.byte x := by
  rw [Mem.write]
  rcases out with low | high
  · rw [Mem.byte_putBytes_before _ _ _ low, m.byte_clearUnits (.inl low)]
  · rw [Mem.byte_putBytes_after _ _ _ high, m.byte_clearUnits (.inr high)]

section Units
variable {a : Nat} {v : List Byte} (aligned : a % 16 = 0) (whole : v.length % 16 = 0)
include aligned whole

/-- A write of whole XTS units leaves no poison in them. -/
theorem Mem.anyPoison_writeUnits (m : Mem) : (m.write 16 a v).anyPoison a v.length = false := by
  refine List.any_eq_false.mpr (fun w hw => Bool.eq_false_iff.mp ?_)
  rw [Mem.write, Mem.poisoned_putBytes, Mem.poisoned_clearUnits aligned whole hw]

/-- A write of whole XTS units reads back. -/
theorem Mem.bytes_writeUnits (m : Mem) : (m.write 16 a v).bytes a v.length = v :=
  Mem.bytes_eq (fun _ hi => Mem.byte_putBytes_in _ _ _ hi (Mem.poisoned_clearUnits aligned whole (div_mem_wordsOf hi)))

end Units

/-! ### The tier while it holds its contents (R387) -/

theorem Block.slowPeek_kept {b : Block} (kept : b.reg Od.slowState 0 ≠ slLost) (a n : Nat) : b.slowPeek a n = (b.slow.bytes a n, b.slow.anyPoison a n) := if_neg kept

theorem Block.slowWrite_slow {b : Block} (kept : b.reg Od.slowState 0 ≠ slLost) (a : Nat) (v : List Byte) : (b.slowWrite a v).slow = b.slow.write 16 a v := by
  have same : (b.bump Od.slowWriteBytes 0 v.length).reg Od.slowState 0 ≠ slLost := by
    rwa [Block.reg_bump_ne _ _ (odKey_ne (by decide) (by decide) (by decide) _ _)]
  exact congrArg Block.slow (if_neg same)

/-- Hazel runs tasks only while the tier is in service, so that its contents are not lost (R341, R387). -/
theorem Block.kept_of_hazelRuns {b : Block} (runs : b.hazelRuns = true) : b.reg Od.slowState 0 ≠ slLost := by
  intro lost
  unfold Block.hazelRuns Block.slowTier at runs
  rw [lost] at runs
  simp [slLost, slTraining, slInService] at runs

/-! ### The header (R352) -/

/-- The part of a header's number below ROWS and COLS. -/
def Header.low (h : Header) : Nat :=
  at' 383 (if h.table then 1 else 0) + at' 382 h.selL + at' 381 h.selR + at' 379 h.rootState + at' 256 h.due + h.rest

theorem Header.num_eq (h : Header) : h.num = 2 ^ 448 * h.step + 2 ^ 416 * h.rows + 2 ^ 384 * h.cols + h.low := by
  unfold Header.num Header.low at'
  simp only [Nat.shiftLeft_eq]
  omega

/-- A header that has been read fits its fields. -/
theorem headerOf_bounds (x : Nat) : (headerOf x).rows < 2 ^ 32 ∧ (headerOf x).cols < 2 ^ 32 ∧ (headerOf x).low < 2 ^ 384 := by
  have selL := bits_lt x 382 382
  have selR := bits_lt x 381 381
  have root := bits_lt x 380 379
  have due := bits_lt x 319 256
  have rest := bits_lt x 378 320
  have last := bits_lt x 255 0
  refine ⟨bits_lt x 447 416, bits_lt x 415 384, ?_⟩
  unfold Header.low headerOf at'
  simp only [Nat.shiftLeft_eq] at *
  have table : (if bit x 383 = true then 1 else 0) ≤ 1 := by split <;> decide
  omega

/-- The step, the rows and the columns of a header with a new step, as its 64 bytes give them back. -/
theorem headerOf_num {h : Header} (rows : h.rows < 2 ^ 32) (cols : h.cols < 2 ^ 32) (low : h.low < 2 ^ 384) (n : Nat) :
    (headerOf (({ h with step := n } : Header).num % 2 ^ 512)).step = wrap 64 n ∧ (headerOf (({ h with step := n } : Header).num % 2 ^ 512)).rows = h.rows
    ∧ (headerOf (({ h with step := n } : Header).num % 2 ^ 512)).cols = h.cols := by
  have low' : ({ h with step := n } : Header).low = h.low := rfl
  rw [Header.num_eq, low']
  dsimp only
  unfold headerOf bits wrap
  simp only [Nat.shiftRight_eq_div_pow]
  generalize h.low = l at low
  generalize h.rows = r at rows
  generalize h.cols = c at cols
  refine ⟨?_, ?_, ?_⟩ <;> omega

/-- A header that the region holds, as the tier's bytes have it. -/
theorem Block.header_kept {b : Block} {c off : Nat} (inside : b.inRegion c off 64 = true) (kept : b.reg Od.slowState 0 ≠ slLost) :
    b.header c off = some (headerOf (ofLE (b.slow.bytes ((b.region c).1 + off) 64)), b.slow.anyPoison ((b.region c).1 + off) 64) := by
  unfold Block.header
  rw [if_neg (by simp [inside])]
  dsimp only
  rw [Block.slowPeek_kept kept]

theorem Block.inRegion_of_header {b : Block} {c off : Nat} {r : Header × Bool} (h : b.header c off = some r) : b.inRegion c off 64 = true := by
  unfold Block.header at h
  by_contra out
  rw [if_pos (by simpa using out)] at h
  cases h

/-! ### Blocks with the same slow tier -/

theorem Block.region_of_oct {b c : Block} {k : Nat} (h : c.oct Od.hazelRegion (k + 1) = b.oct Od.hazelRegion (k + 1)) : c.region k = b.region k := by
  unfold Block.region
  rw [h]

/-- The slow tier, its state and the regions of `c` are those of `b`: Hazel reads the same of both. -/
structure SameTier (b c : Block) : Prop where
  slow : c.slow = b.slow
  state : c.reg Od.slowState 0 = b.reg Od.slowState 0
  region : ∀ k, c.region k = b.region k

namespace SameTier
variable {b c d : Block} (h : SameTier b c)

theorem trans {a b c : Block} (h : SameTier a b) (k : SameTier b c) : SameTier a c :=
  ⟨k.slow.trans h.slow, k.state.trans h.state, fun n => (k.region n).trans (h.region n)⟩

include h

theorem slowPeek (a n : Nat) : c.slowPeek a n = b.slowPeek a n := by
  unfold Block.slowPeek
  rw [h.state, h.slow]

theorem inRegion (k off n : Nat) : c.inRegion k off n = b.inRegion k off n := by
  unfold Block.inRegion
  rw [h.region]

theorem header (k off : Nat) : c.header k off = b.header k off := by
  unfold Block.header
  simp only [h.inRegion, h.slowPeek, h.region]

theorem loadF (z a n : Nat) : c.loadF z a n = b.loadF z a n := by
  unfold Block.loadF
  simp only [h.slowPeek]

theorem stageEntries (k off cols : Nat) : c.stageEntries k off cols = b.stageEntries k off cols := by
  unfold Block.stageEntries
  simp only [h.inRegion, h.slowPeek, h.region, h.loadF]

theorem denseRows (a : Nat) (x : Header) : c.denseRows a x = b.denseRows a x := by
  unfold Block.denseRows
  simp only [h.loadF]

theorem updateRows (t : Task) (u : Rule) (x : Header) : c.updateRows t u x = b.updateRows t u x := by
  unfold Block.updateRows
  simp only [h.inRegion, h.denseRows, h.region, h.stageEntries]

end SameTier

/-- A new header, written over the old one, as a later read finds it. -/
theorem Block.header_slowWrite {b : Block} {c off : Nat} (inside : b.inRegion c off 64 = true) (kept : b.reg Od.slowState 0 ≠ slLost) (aligned : off % 16 = 0) (n : Nat) :
    (b.slowWrite ((b.region c).1 + off) (leBytes 64 n)).header c off = some (headerOf (n % 2 ^ 512), false) := by
  have len := length_leBytes 64 n
  have base : ((b.region c).1 + off) % 16 = 0 := by unfold Block.region; dsimp only; omega
  have writes := SlowOnly.slowWrite b ((b.region c).1 + off) (leBytes 64 n)
  have region : (b.slowWrite ((b.region c).1 + off) (leBytes 64 n)).region c = b.region c := Block.region_of_oct (Block.oct_eq_of_odb writes.odb _ _)
  have state : (b.slowWrite ((b.region c).1 + off) (leBytes 64 n)).reg Od.slowState 0 ≠ slLost := by
    rwa [RegsKept.slowWrite b _ _ _ _ (by simpa using odKey_ne (by decide) (by decide) (by decide) _ _)]
  rw [Block.header_kept ((Block.inRegion_of_odb writes.odb c off 64).trans inside) state, region, Block.slowWrite_slow kept]
  have bytes := Mem.bytes_writeUnits base (by rw [len]) b.slow (v := leBytes 64 n)
  have clean := Mem.anyPoison_writeUnits base (by rw [len]) b.slow (v := leBytes 64 n)
  rw [len] at bytes clean
  rw [bytes, clean, ofLE_leBytes]

end Sys2Proof.Machine
end

section
/-! PROOFS. A committed UPDATE and the computation of roots: what Hazel's stores leave as it was (R364, R366 to R372). -/

namespace Sys2Proof.Machine

/-! ### Stores (R366 to R372, R388) -/

/-- The counters that Hazel's stores advance. -/
def storeIdx : List Nat := [Od.slowReadBytes, Od.slowWriteBytes, Od.srSaturateCount]

/-- `c` differs from `b` in the slow tier and the counters of stores only. -/
structure TierStores (b c : Block) : Prop where
  frame : c = { b with od := c.od, slow := c.slow }
  regs : IdxKept storeIdx b c

namespace TierStores
variable {a b c : Block}

theorem refl (b : Block) : TierStores b b := ⟨rfl, IdxKept.refl _ b⟩

theorem trans (h : TierStores a b) (k : TierStores b c) : TierStores a c := ⟨by rw [k.frame, h.frame], h.regs.trans k.regs⟩

theorem foldl {α : Type} {f : Block → α → Block} (h : ∀ b x, TierStores b (f b x)) (l : List α) (b : Block) : TierStores b (l.foldl f b) :=
  foldl_has (TierStores b) (fun _ x k => k.trans (h _ x)) l (refl b)

theorem mem (h : TierStores b c) : c.mem = b.mem := by rw [h.frame]
theorem disp (h : TierStores b c) : c.disp = b.disp := by rw [h.frame]
theorem hazel (h : TierStores b c) : c.hazel = b.hazel := by rw [h.frame]
theorem odb (h : TierStores b c) : c.odb = b.odb := by rw [h.frame]
theorem state (h : TierStores b c) : c.reg Od.slowState 0 = b.reg Od.slowState 0 := h.regs _ _ (by decide) (by decide)

theorem bump (b : Block) {i : Nat} (hi : i ∈ storeIdx) (small : i < 65536) (k n : Nat) : TierStores b (b.bump i k n) := ⟨rfl, IdxKept.bump b i k n hi small⟩

theorem slowCount (b : Block) (n : Nat) : TierStores b (b.slowCount n) := bump b (by decide) (by decide) 0 n

theorem slowWrite (b : Block) (at_ : Nat) (v : List Byte) : TierStores b (b.slowWrite at_ v) := by
  have counted := bump b (i := Od.slowWriteBytes) (by decide) (by decide) 0 v.length
  unfold Block.slowWrite
  dsimp only
  split
  · exact counted
  · exact counted.trans ⟨rfl, IdxKept.of_od rfl⟩

theorem slowMark (b : Block) (at_ n : Nat) : TierStores b (b.slowMark at_ n) := by
  unfold Block.slowMark
  dsimp only
  split
  · exact refl b
  · exact ⟨rfl, IdxKept.of_od rfl⟩

theorem storeRun (b : Block) (at_ : Nat) (l : List (Byte × Bool)) : TierStores b (b.storeRun at_ l) :=
  (slowWrite ..).trans (foldl (fun b _ => slowMark b ..) _ _)

theorem storeF (b : Block) (z at_ : Nat) (l : List PV) : TierStores b (b.storeF z at_ l) := storeRun ..

theorem storeM (b : Block) (at_ : Nat) (m : Mat) : TierStores b (b.storeM at_ m) := storeF ..

theorem statistics (b : Block) (e : Upd) (rows : List (Nat × List PV)) : TierStores b (b.statistics e rows).1 := by
  unfold Block.statistics
  dsimp only
  split
  · exact (foldl (fun b _ => storeF b ..) _ _).trans (storeF ..)
  · split
    · exact foldl (fun b _ => storeF b ..) _ _
    · exact refl b

theorem updateRow (b : Block) (e : Upd) (rbar : PV) (us : Option (List (List PV))) (x : Nat × List PV) : TierStores b (b.updateRow e rbar us x).b := by
  have storeF_if : ∀ {p : Prop} [Decidable p] (c : Block) (z at_ : Nat) (l : List PV), TierStores c (if p then c.storeF z at_ l else c) := by
    intro p _ c z at_ l
    split
    · exact storeF ..
    · exact refl c
  have storeF_unless : ∀ {p : Prop} [Decidable p] (c : Block) (z at_ : Nat) (l : List PV), TierStores c (if p then c else c.storeF z at_ l) := by
    intro p _ c z at_ l
    split
    · exact refl c
    · exact storeF ..
  unfold Block.updateRow
  dsimp only
  refine (trans (trans ?_ (storeF_unless ..)) (storeF_if ..)).trans (bump _ (by decide) (by decide) _ _)
  split
  · exact storeRun ..
  · exact (storeRun ..).trans (storeRun ..)

theorem updateBatch (b : Block) (e : Upd) (us : Option (List (List PV))) (rows : List (Nat × List PV)) : TierStores b (b.updateBatch e us rows).b := by
  unfold Block.updateBatch
  dsimp only
  refine List.foldlRecOn (motive := fun r : Batch => TierStores b r.b) _ _ (statistics ..) (fun r kept x _ => ?_)
  exact kept.trans (updateRow ..)

end TierStores

/-! ### What a commit notes (R144, R369, R393) -/

/-- `c` differs from `b` in entries, logs, what Hazel holds and the limits of events only, and reads the same slow tier. -/
structure NotesOnly (b c : Block) : Prop where
  frame : c = { b with od := c.od, odb := c.odb, log := c.log, fatal := c.fatal, hazel := c.hazel, ras := c.ras }
  state : c.reg Od.slowState 0 = b.reg Od.slowState 0
  region : ∀ k, c.oct Od.hazelRegion k = b.oct Od.hazelRegion k

namespace NotesOnly
variable {a b c : Block}

theorem refl (b : Block) : NotesOnly b b := ⟨rfl, rfl, fun _ => rfl⟩

theorem trans (h : NotesOnly a b) (k : NotesOnly b c) : NotesOnly a c :=
  ⟨by rw [k.frame, h.frame], k.state.trans h.state, fun n => (k.region n).trans (h.region n)⟩

theorem mem (h : NotesOnly b c) : c.mem = b.mem := by rw [h.frame]
theorem slow (h : NotesOnly b c) : c.slow = b.slow := by rw [h.frame]
theorem disp (h : NotesOnly b c) : c.disp = b.disp := by rw [h.frame]

theorem tier (h : NotesOnly b c) : SameTier b c := ⟨h.slow, h.state, fun _ => Block.region_of_oct (h.region _)⟩

theorem setReg (b : Block) {i : Nat} (ne : Od.slowState ≠ i) (small : i < 65536) (k v : Nat) : NotesOnly b (b.setReg i k v) :=
  ⟨rfl, b.reg_setReg_ne v (odKey_ne ne (by decide) small _ _), fun _ => rfl⟩

theorem bump (b : Block) {i : Nat} (ne : Od.slowState ≠ i) (small : i < 65536) (k n : Nat) : NotesOnly b (b.bump i k n) := setReg b ne small k _

theorem setOct (b : Block) {i : Nat} (ne : Od.hazelRegion ≠ i) (small : i < 65536) (k : Nat) (v : List Byte) : NotesOnly b (b.setOct i k v) :=
  ⟨rfl, rfl, fun _ => Block.oct_setOct_ne _ _ (odKey_ne ne (by decide) small _ _)⟩

theorem raise (b : Block) (code ctx : Nat) (arg : List Byte) : NotesOnly b (b.raise code ctx arg) := by
  have logged := RegLog.raise b code ctx arg
  unfold RegLog at logged
  exact ⟨by rw [logged], reg_raise_of_idx_ne _ _ _ _ _ (by decide) (by decide), fun _ => Block.oct_raise ..⟩

theorem raise_if {p : Prop} [Decidable p] (b : Block) (code ctx : Nat) (arg : List Byte) : NotesOnly b (if p then b.raise code ctx arg else b) := by
  split
  · exact raise ..
  · exact refl b

theorem hazel (b : Block) (z : Hazel) : NotesOnly b { b with hazel := z } := ⟨rfl, rfl, fun _ => rfl⟩

theorem consumePoison (b : Block) (ctx k : Nat) : NotesOnly b (b.consumePoison ctx k) := by
  have counted := bump b (i := Od.rasPoisonConsumed) (by decide) (by decide) 0 1
  have noted : ∀ (c : Block) (r : Ras), NotesOnly c { c with ras := r } := fun _ _ => ⟨rfl, rfl, fun _ => rfl⟩
  exact (counted.trans (noted _ _)).trans (raise_if ..)

theorem updateNonfinite (b : Block) (ctx step n : Nat) : NotesOnly b (b.updateNonfinite ctx step n) := by
  have counted := bump b (i := Od.hazelUpdateNonfinite) (by decide) (by decide) 0 n
  unfold Block.updateNonfinite
  dsimp only
  split
  · exact refl b
  · split
    · exact counted
    · exact (counted.trans (hazel ..)).trans (raise ..)

theorem silentStep (b : Block) (ctx layer step : Nat) (gs : List F32) : NotesOnly b (b.silentStep ctx layer step gs) := by
  have counted : ∀ c : Block, NotesOnly c (c.countSilent ctx) := fun c => setReg c (by decide) (by decide) _ _
  unfold Block.silentStep
  dsimp only
  split
  · exact refl b
  · split
    · exact (((hazel b _).trans (counted _)).trans (setOct _ (by decide) (by decide) _ _)).trans (raise ..)
    · exact (hazel b _).trans (counted _)

end NotesOnly

end Sys2Proof.Machine
end

section
/-! PROOFS. Committed UPDATEs of kind DENSE and ROOT_COMPUTE (R364, R366, R369, R372). -/

namespace Sys2Proof.Machine

/-- A header that has been read fits its fields. -/
theorem Block.header_bounds {b : Block} {c off : Nat} {r : Header × Bool} (h : b.header c off = some r) : r.1.rows < 2 ^ 32 ∧ r.1.cols < 2 ^ 32 ∧ r.1.low < 2 ^ 384 := by
  have inside := Block.inRegion_of_header h
  unfold Block.header at h
  rw [if_neg (by simp [inside])] at h
  cases h
  exact headerOf_bounds _

/-! ### A run under a decision to commit (R364) -/

/-- Nothing is queued again for a layer without Kronecker factors. -/
theorem Block.requeueRoot_plain {b : Block} {x : Task} {h : Header} (header : b.header x.ctx (updState x.desc) = some (h, false)) (plain : (ruleOf x.rule).second ≠ 5) :
    b.requeueRoot x = b := by
  generalize hf : Block.requeueRoot = f
  delta Block.requeueRoot at hf
  subst hf
  simp only [header]
  exact if_neg (fun k => plain k.1)

theorem Block.runUpdate_commits (b : Block) (x : Task) {d : DecisionRec} (code : d.code = decCommit) : b.runUpdate x d = (b.requeueRoot x).commitUpdate x d := by
  unfold Block.runUpdate
  dsimp only
  rw [code, if_neg (by decide), if_neg (by decide), if_neg (by decide), if_neg (by decide)]

/-- What the record of a committed UPDATE starts from (R378). -/
def Task.committed (x : Task) (d : DecisionRec) : UpdOut := ⟨x.counter, if (ruleOf x.rule).clip then d.clip else one32, 0, 0, 0, false, false, 0, 0⟩

section Commit
variable {b : Block} {x : Task} {d : DecisionRec} {h : Header} (header : b.header x.ctx (updState x.desc) = some (h, false))
include header

/-- A block that stands at the committed step is left as it is (R364). -/
theorem Block.commitUpdate_again (dense : updKind x.desc = 0) (unwritten : updWork x.desc = 0) (again : h.step = x.counter)
    (inside : b.inRegion x.ctx (updState x.desc) (blockSize (ruleOf x.rule) h) = true) :
    ∃ n, b.commitUpdate x d = ((b.slowCount 64).slowCount n).finishUpdate x { x.committed d with decision := 1 } [] := by
  have counted : (b.slowCount 64).inRegion x.ctx (updState x.desc) (blockSize (ruleOf x.rule) h) = true := (Block.inRegion_of_odb rfl ..).trans inside
  have noList : (b.slowCount 64).stageOut x = false := by simp [Block.stageOut, dense]
  generalize hf : Block.commitUpdate = f
  delta Block.commitUpdate at hf
  subst hf
  simp only [header]
  rw [if_pos again, if_neg (by simp [counted]), if_neg (by simp [noList]), if_pos dense, if_pos unwritten]
  exact ⟨_, rfl⟩

/-- A block one step behind is brought to the committed step (R364). -/
theorem Block.commitUpdate_next {rows : List (Nat × List PV)} (plain : (ruleOf x.rule).second ≠ 5) (apart : h.step ≠ x.counter) (next : h.step + 1 = x.counter)
    (rows_ : b.updateRows x (ruleOf x.rule) h = .ok rows) :
    ∃ n, b.commitUpdate x d = ((b.slowCount 64).bump Od.hazelRootWaitUs 0 n).applyUpdate x d (ruleOf x.rule) h rows (x.committed d) := by
  have tier : SameTier b (b.slowCount 64) := (NotesOnly.bump b (by decide) (by decide) 0 64).tier
  have counted : (b.slowCount 64).updateRows x (ruleOf x.rule) h = .ok rows := (tier.updateRows ..).trans rows_
  generalize hf : Block.commitUpdate = f
  delta Block.commitUpdate at hf
  subst hf
  simp only [header]
  rw [if_neg apart, if_neg (by omega), counted]
  dsimp only
  rw [if_neg (by simp [plain])]
  exact ⟨_, rfl⟩

end Commit

/-- What a dense UPDATE without Kronecker factors computes with (R366, R367). -/
def Block.denseUpd (b : Block) (x : Task) (d : DecisionRec) (h : Header) : Upd :=
  let u := ruleOf x.rule
  let second := u.second == 1 || u.second == 2 || u.second == 3 || u.second == 4
  { ctx := x.ctx, base := (b.region x.ctx).1 + updState x.desc, u := u, h := h, k := (x.committed d).clip,
    bc1 := if u.bias && u.mom != 0 then fsub one32 (fpow u.b1 x.counter) else one32,
    bc2 := if u.bias && second then fsub one32 (fpow u.b2 x.counter) else one32,
    lr := updLr x.desc, key := ⟨d.seed, b.reg Od.deviceIndex 0, d.step, siteHazelRem, updTag x.desc⟩ }

/-- The block once the stores of such an UPDATE stand: the rows, then the header with its new step (R366 to R369). -/
def Block.denseStored (b : Block) (x : Task) (d : DecisionRec) (h : Header) (rows : List (Nat × List PV)) : Block :=
  ((b.updateBatch (b.denseUpd x d h) none rows).b.slowCount (bytesRead (ruleOf x.rule) h true rows.length)).slowWrite
    ((b.region x.ctx).1 + updState x.desc) (leBytes 64 { h with step := x.counter }.num)

theorem Block.denseRows_stores (b : Block) (x : Task) (d : DecisionRec) (h : Header) (rows : List (Nat × List PV)) :
    TierStores b ((b.updateBatch (b.denseUpd x d h) none rows).b.slowCount (bytesRead (ruleOf x.rule) h true rows.length)) :=
  (TierStores.updateBatch ..).trans (TierStores.slowCount ..)

theorem Block.denseStored_stores (b : Block) (x : Task) (d : DecisionRec) (h : Header) (rows : List (Nat × List PV)) : TierStores b (b.denseStored x d h rows) :=
  (b.denseRows_stores x d h rows).trans (TierStores.slowWrite ..)

/-- The stores leave the new header where it was, whole and without poison. -/
theorem Block.denseStored_header (b : Block) (x : Task) (d : DecisionRec) (h : Header) (rows : List (Nat × List PV))
    (inside : b.inRegion x.ctx (updState x.desc) 64 = true) (kept : b.reg Od.slowState 0 ≠ slLost) (aligned : updState x.desc % 16 = 0) :
    (b.denseStored x d h rows).header x.ctx (updState x.desc) = some (headerOf (({ h with step := x.counter } : Header).num % 2 ^ 512), false) := by
  have stores := b.denseRows_stores x d h rows
  have region : ∀ c : Block, TierStores b c → b.region x.ctx = c.region x.ctx := fun c t => (Block.region_of_oct (Block.oct_eq_of_odb t.odb _ _)).symm
  unfold Block.denseStored
  generalize (b.updateBatch (b.denseUpd x d h) none rows).b.slowCount (bytesRead (ruleOf x.rule) h true rows.length) = c at stores
  rw [region c stores]
  exact Block.header_slowWrite ((Block.inRegion_of_odb stores.odb ..).trans inside) (by rwa [stores.state]) aligned _

theorem Block.applyUpdate_dense {b : Block} {x : Task} {d : DecisionRec} {h : Header} {rows : List (Nat × List PV)} (dense : updKind x.desc = 0)
    (plain : (ruleOf x.rule).second ≠ 5) : ∃ (c : Block) (o : UpdOut) (work : List (Nat × Bool)),
      NotesOnly (b.denseStored x d h rows) c ∧ b.applyUpdate x d (ruleOf x.rule) h rows (x.committed d) = c.finishUpdate x o work := by
  have kron : ((ruleOf x.rule).second == 5) = false := by simpa using plain
  unfold Block.applyUpdate
  simp only [kron, dense, Bool.false_and, beq_self_eq_true, if_true, Bool.false_eq_true, if_false]
  refine ⟨_, _, _, ?_, rfl⟩
  exact ((NotesOnly.hazel (b.denseStored x d h rows) _).trans (NotesOnly.updateNonfinite ..)).trans (NotesOnly.silentStep ..)

/-! ### The end of an UPDATE without a working copy (R369, R374) -/

theorem Block.finishUpdate_unwritten (b : Block) {x : Task} (o : UpdOut) (work : List (Nat × Bool)) (unwritten : updWork x.desc = 0) :
    b.finishUpdate x o work = ((if bit o.flags 1 then (b.consumePoison x.ctx x.ticket).raise 0x8396 x.ctx [] else b).signalUpdate x.ticket).endUpdate x
      (if bit o.flags 1 then sPoisoned else sOK) o false := by
  unfold Block.finishUpdate Block.writeBack
  dsimp only
  rw [if_pos unwritten]

/-- Waiting for memories moves no state of the slow tier. -/
theorem SameTier.contended {b c : Block} {f : Block → Block} (h : f b = c) : SameTier c (b.contended f) := by
  have drawn : DrawOnly c (b.contended f) := DrawOnly.contended h
  have regs : IdxKept waitIdx c (b.contended f) := h ▸ IdxKept.contention _ _ _
  exact ⟨drawn.slow, regs _ _ (by decide) (by decide), fun _ => Block.region_of_oct (Block.oct_eq_of_odb (by rw [drawn]) _ _)⟩

theorem SameTier.taskOnly {b c : Block} (h : TaskOnly b c) : SameTier b c := ⟨h.slow, h.reg _ _, fun _ => Block.region_of_oct (h.oct _ _)⟩

/-- An UPDATE that met poison consumes it and raises its event (R369, R393). -/
theorem Block.poisonNoted (b : Block) (x : Task) (o : UpdOut) :
    NotesOnly b (if bit o.flags 1 then (b.consumePoison x.ctx x.ticket).raise 0x8396 x.ctx [] else b) := by
  split
  · exact (NotesOnly.consumePoison ..).trans (NotesOnly.raise ..)
  · exact NotesOnly.refl b

/-- The end of an UPDATE that waits for no working copy: its status, and the memories as its stores left them. -/
theorem Block.finishUpdate_ends {b c : Block} {x : Task} {o : UpdOut} {work : List (Nat × Bool)} (unwritten : updWork x.desc = 0) (runs : TaskRuns b x.ticket)
    (drawn : DrawOnly (b.finishUpdate x o work) c) :
    (∃ u, EndedWith c x.ticket (if bit o.flags 1 then sPoisoned else sOK) u) ∧ c.mem = b.mem ∧ c.slow = b.slow := by
  have noted := b.poisonNoted x o
  rw [Block.finishUpdate_unwritten b o work unwritten] at drawn
  generalize (if bit o.flags 1 then (b.consumePoison x.ctx x.ticket).raise 0x8396 x.ctx [] else b) = m at noted drawn
  obtain ⟨y, still, unended⟩ := TaskRuns.signalUpdate (runs.of_disp (congrArg Disp.tasks noted.disp)) x.ticket
  obtain ⟨ended, mem, slow, -⟩ := drawn.endUpdate still unended
  have signalled := TaskOnly.signalUpdate m x.ticket
  exact ⟨ended, mem.trans (signalled.mem.trans noted.mem), slow.trans (signalled.slow.trans noted.slow)⟩

theorem SameTier.finishUpdate (b : Block) {x : Task} (o : UpdOut) (work : List (Nat × Bool)) (unwritten : updWork x.desc = 0) :
    SameTier b (b.finishUpdate x o work) := by
  have noted := b.poisonNoted x o
  rw [Block.finishUpdate_unwritten b o work unwritten]
  exact noted.tier.trans (SameTier.taskOnly ((TaskOnly.signalUpdate ..).trans (TaskOnly.endUpdate ..)))

/-! ### The clauses of O34 -/

/-- An UPDATE of kind DENSE whose task comes first and has its decision applies it; what it waits for memories leaves the slow tier. -/
theorem goes_updateDense {s : State} {k : Nat} {x : Task} {d : DecisionRec} {P : State → Prop} (hx : s.toBlock.starting k opUpdate = some x)
    (dense : updKind x.desc = 0) (runs : s.toBlock.hazelRuns = true) (hs : s.gov.shed = false) (first : s.toBlock.firstUpdate x = true)
    (hd : decisionOf x.decided = some d)
    (hp : ∀ c, DrawOnly (s.toBlock.runUpdate x d) c → SameTier (s.toBlock.runUpdate x d) c → P { s with toBlock := settle c }) : Goes (exec (.updateDense k) s) P := by
  refine goes_run_eq rfl (hp _ (DrawOnly.contended ?_) (SameTier.contended ?_))
  all_goals
    simp only [hx, hd]
    exact if_neg (by simp [dense, runs, hs, first])

theorem updateCommits_goes (s : State) (k : Nat) (x : Task) (d : DecisionRec) (h : Header) (rows : List (Nat × List PV)) (hx : s.toBlock.starting k opUpdate = some x)
    (dense : updKind x.desc = 0) (runs : s.toBlock.hazelRuns = true) (hs : s.gov.shed = false) (first : s.toBlock.firstUpdate x = true)
    (decided : decisionOf x.decided = some d) (code : d.code = decCommit) (header : s.toBlock.header x.ctx (updState x.desc) = some (h, false))
    (unwritten : updWork x.desc = 0) (plain : (ruleOf x.rule).second ≠ 5) (aligned : updState x.desc % 16 = 0) (apart : h.step ≠ x.counter)
    (next : h.step + 1 = x.counter) (rows_ : s.toBlock.updateRows x (ruleOf x.rule) h = .ok rows) : Goes (exec (.updateDense k) s) fun t =>
      (∃ u, EndedWith t.toBlock k sOK u ∨ EndedWith t.toBlock k sPoisoned u) ∧ t.mem = s.mem
      ∧ ∃ g, t.toBlock.header x.ctx (updState x.desc) = some (g, false) ∧ g.step = wrap 64 x.counter ∧ g.rows = h.rows ∧ g.cols = h.cols := by
  obtain ⟨task, running, -⟩ := Block.starting_eq_some hx
  have ticket := Block.task?_ticket task
  subst ticket
  have kept := Block.kept_of_hazelRuns runs
  have inside := Block.inRegion_of_header header
  refine goes_updateDense hx dense runs hs first decided fun t drawn tier => ?_
  rw [Block.runUpdate_commits _ _ code, Block.requeueRoot_plain header plain] at drawn tier
  obtain ⟨n, next_⟩ := Block.commitUpdate_next (d := d) header plain apart next rows_
  rw [next_] at drawn tier
  have waited : NotesOnly s.toBlock ((s.toBlock.slowCount 64).bump Od.hazelRootWaitUs 0 n) :=
    (NotesOnly.bump _ (by decide) (by decide) 0 64).trans (NotesOnly.bump _ (by decide) (by decide) 0 n)
  generalize (s.toBlock.slowCount 64).bump Od.hazelRootWaitUs 0 n = b at waited drawn tier
  obtain ⟨c, o, work, noted, applied⟩ := Block.applyUpdate_dense (b := b) (d := d) (h := h) (rows := rows) dense plain
  rw [applied] at drawn tier
  have stored := b.denseStored_stores x d h rows
  have held := TaskRuns.of_disp (b := s.toBlock) (c := c) ⟨x, task, running⟩ (congrArg Disp.tasks (noted.disp.trans (stored.disp.trans waited.disp)))
  obtain ⟨⟨u, ended⟩, mem, -⟩ := Block.finishUpdate_ends unwritten held drawn
  refine ⟨⟨u, ?_⟩, mem.trans (noted.mem.trans (stored.mem.trans waited.mem)), ?_⟩
  · split at ended
    · exact .inr ended
    · exact .inl ended
  · have header' := b.denseStored_header x d h rows ((waited.tier.inRegion ..).trans inside) (by rwa [waited.state]) aligned
    refine ⟨_, ((noted.tier.trans (SameTier.finishUpdate c o work unwritten)).trans tier).header x.ctx (updState x.desc) |>.trans header', ?_⟩
    obtain ⟨rows, cols, low⟩ := Block.header_bounds header
    exact headerOf_num rows cols low x.counter

theorem updateAgain_goes (s : State) (k : Nat) (x : Task) (d : DecisionRec) (h : Header) (hx : s.toBlock.starting k opUpdate = some x)
    (dense : updKind x.desc = 0) (runs : s.toBlock.hazelRuns = true) (hs : s.gov.shed = false) (first : s.toBlock.firstUpdate x = true)
    (decided : decisionOf x.decided = some d) (code : d.code = decCommit) (header : s.toBlock.header x.ctx (updState x.desc) = some (h, false))
    (unwritten : updWork x.desc = 0) (again : h.step = x.counter) (inside : s.toBlock.inRegion x.ctx (updState x.desc) (blockSize (ruleOf x.rule) h) = true) :
    Goes (exec (.updateDense k) s) fun t => (∃ u, EndedWith t.toBlock k sOK u) ∧ t.slow = s.slow ∧ t.mem = s.mem := by
  obtain ⟨task, running, -⟩ := Block.starting_eq_some hx
  have ticket := Block.task?_ticket task
  subst ticket
  refine goes_updateDense hx dense runs hs first decided fun t drawn _ => ?_
  obtain ⟨z, queued⟩ := s.toBlock.requeueRoot_eq x
  have noted : NotesOnly s.toBlock (s.toBlock.requeueRoot x) := by
    rw [queued]
    exact NotesOnly.hazel ..
  rw [Block.runUpdate_commits _ _ code] at drawn
  generalize s.toBlock.requeueRoot x = b at noted drawn
  obtain ⟨n, again_⟩ := Block.commitUpdate_again (d := d) ((noted.tier.header ..).trans header) dense unwritten again ((noted.tier.inRegion ..).trans inside)
  rw [again_] at drawn
  have counted : NotesOnly s.toBlock ((b.slowCount 64).slowCount n) :=
    noted.trans ((NotesOnly.bump _ (by decide) (by decide) 0 64).trans (NotesOnly.bump _ (by decide) (by decide) 0 n))
  have held := TaskRuns.of_disp (b := s.toBlock) ⟨x, task, running⟩ (congrArg Disp.tasks counted.disp)
  obtain ⟨ended, mem, slow⟩ := Block.finishUpdate_ends unwritten held drawn
  have clean : bit ({ x.committed d with decision := 1 } : UpdOut).flags 1 = false := by simp [Task.committed, bit, bits]
  rw [clean, if_neg Bool.false_ne_true] at ended
  exact ⟨ended, slow.trans counted.slow, mem.trans counted.mem⟩

/-- The roots of both sides stored, and the header that marks them (R372). -/
theorem Block.rootStored_kept (b : Block) (n al ar ah : Nat) (l r : Mat) (v : List Byte) :
    TierStores b ((((b.slowCount n).storeM al l).storeM ar r).slowWrite ah v) :=
  (((TierStores.slowCount ..).trans (TierStores.storeM ..)).trans (TierStores.storeM ..)).trans (TierStores.slowWrite ..)

/-- The block whose oldest root computation has left the queue, with its header read (R372). -/
def Block.rootTaken (b : Block) (rest : List RootJob) : Block := Block.slowCount { b with hazel := { b.hazel with roots := rest } } 64

theorem NotesOnly.rootTaken (b : Block) (rest : List RootJob) : NotesOnly b (b.rootTaken rest) :=
  (NotesOnly.hazel b _).trans (NotesOnly.bump _ (by decide) (by decide) 0 64)

section Roots
variable {b : Block} {j : RootJob} {rest : List RootJob} (queued : b.hazel.roots = j :: rest) (runs : b.hazelRuns = true) (hs : b.gov.shed = false)
include queued runs hs

theorem xRootCompute_poisoned (poison : (b.slowPeek j.block 64).2 = true) : xRootCompute b = (b.rootTaken rest).raise 0x8396 j.ctx [] := by
  have peek : (b.rootTaken rest).slowPeek j.block 64 = b.slowPeek j.block 64 := (NotesOnly.rootTaken b rest).tier.slowPeek ..
  unfold Block.rootTaken at *
  unfold xRootCompute
  rw [queued]
  dsimp only
  rw [if_neg (by simp [runs, hs]), peek, poison, if_pos rfl]

/-- Both roots and the header are stored, and the computation is counted. -/
theorem xRootCompute_stores (clean : (b.slowPeek j.block 64).2 = false) :
    ∃ c, TierStores (b.rootTaken rest) c ∧ xRootCompute b = c.bump Od.hazelRootsComputed 0 1 := by
  have peek : (b.rootTaken rest).slowPeek j.block 64 = b.slowPeek j.block 64 := (NotesOnly.rootTaken b rest).tier.slowPeek ..
  unfold Block.rootTaken at *
  unfold xRootCompute
  rw [queued]
  dsimp only
  rw [if_neg (by simp [runs, hs]), peek, clean, if_neg Bool.false_ne_true]
  exact ⟨_, Block.rootStored_kept .., rfl⟩

end Roots

theorem rootCompute_goes (s : State) (j : RootJob) (rest : List RootJob) (queued : s.hazel.roots = j :: rest) (runs : s.toBlock.hazelRuns = true)
    (hs : s.gov.shed = false) : Goes (exec .rootCompute s) fun t =>
      t.hazel.roots = rest ∧ t.mem = s.mem ∧ t.disp = s.disp
      ∧ ((s.toBlock.slowPeek j.block 64).2 = false → t.reg Od.hazelRootsComputed 0 = wrap (odWidth Od.hazelRootsComputed 0) (s.reg Od.hazelRootsComputed 0 + 1))
      ∧ ((s.toBlock.slowPeek j.block 64).2 = true → LastEvent t.toBlock 0x8396 j.ctx [] ∧ t.slow = s.slow) := by
  have taken := NotesOnly.rootTaken s.toBlock rest
  have roots : (s.toBlock.rootTaken rest).hazel.roots = rest := rfl
  have count : (s.toBlock.rootTaken rest).reg Od.hazelRootsComputed 0 = s.reg Od.hazelRootsComputed 0 :=
    Block.reg_setReg_ne _ _ (odKey_ne (by decide) (by decide) (by decide) _ _)
  cases poison : (s.toBlock.slowPeek j.block 64).2 with
  | true =>
    have raised := xRootCompute_poisoned queued runs hs poison
    generalize s.toBlock.rootTaken rest = b at *
    exact goes_run_eq raised ⟨(congrArg Hazel.roots (Block.raise_hazel ..)).trans roots, (Block.raise_mem ..).trans taken.mem, (Block.raise_disp ..).trans taken.disp,
      fun clean => Bool.noConfusion clean, fun _ => ⟨lastEvent_of_log rfl rfl (lastEvent_raise ..), (Block.raise_slow ..).trans taken.slow⟩⟩
  | false =>
    obtain ⟨c, stores, counted⟩ := xRootCompute_stores queued runs hs poison
    generalize s.toBlock.rootTaken rest = b at *
    refine goes_run_eq counted ⟨(congrArg Hazel.roots stores.hazel).trans roots, stores.mem.trans taken.mem, stores.disp.trans taken.disp, fun _ => ?_,
      fun poisoned => Bool.noConfusion poisoned⟩
    rw [reg_settle, Block.reg_bump_self, stores.regs _ _ (by decide) (by decide), count]

/-- Settles O34: a commit is one equation for its stores and one for its end, and a header written whole reads back. -/
theorem updateCommits : Obligations.UpdateCommits := by
  unfold Obligations.UpdateCommits
  exact ⟨updateCommits_goes, updateAgain_goes, rootCompute_goes⟩

end Sys2Proof.Machine
end

section
/-! PROOFS. GATHER and SCATTER_ADD: how their tasks end, and what they leave as it was (R379 to R385). -/

namespace Sys2Proof.Machine

/-! ### The two memories -/

/-- `c` differs from `b` in entries, logs, device memory, the taint table, the limits of events and drawn values only. -/
def MemStep (b c : Block) : Prop :=
  c = { b with od := c.od, odb := c.odb, log := c.log, fatal := c.fatal, se := c.se, mem := c.mem, hbm := c.hbm, ras := c.ras, freeCount := c.freeCount }

/-- `c` differs from `b` in entries, logs, the slow tier, the taint table, the limits of events and drawn values only. -/
def SlowStep (b c : Block) : Prop :=
  c = { b with od := c.od, odb := c.odb, log := c.log, fatal := c.fatal, se := c.se, slow := c.slow, ras := c.ras, freeCount := c.freeCount }

/-- `c` differs from `b` in entries, logs, the taint table, the limits of events and drawn values only: both memories stay. -/
def AccessNotes (b c : Block) : Prop :=
  c = { b with od := c.od, odb := c.odb, log := c.log, fatal := c.fatal, se := c.se, ras := c.ras, freeCount := c.freeCount }

namespace AccessNotes
variable {a b c : Block}

theorem refl (b : Block) : AccessNotes b b := rfl

theorem trans (h : AccessNotes a b) (k : AccessNotes b c) : AccessNotes a c := by unfold AccessNotes at *; rw [k, h]

theorem mem (h : AccessNotes b c) : MemStep b c := by unfold MemStep; unfold AccessNotes at h; rw [h]
theorem slow (h : AccessNotes b c) : SlowStep b c := by unfold SlowStep; unfold AccessNotes at h; rw [h]

theorem of_regLog (h : RegLog b c) : AccessNotes b c := by unfold AccessNotes; unfold RegLog at h; rw [h]
theorem of_regOnly (h : RegOnly b c) : AccessNotes b c := of_regLog h.regLog
theorem of_markStep (h : MarkStep b c) : AccessNotes b c := by unfold AccessNotes; rw [h.frame]
theorem of_drawOnly (h : DrawOnly b c) : AccessNotes b c := by unfold AccessNotes; unfold DrawOnly at h; rw [h]

theorem consumePoison (b : Block) (ctx k : Nat) : AccessNotes b (b.consumePoison ctx k) := by
  have raised : ∀ {p : Prop} [Decidable p] {c : Block}, AccessNotes b c → AccessNotes b (if p then c.raise 0x83A1 ctx (beBytes 4 k) else c) := by
    intro p _ c h
    split
    · exact h.trans (of_regLog (RegLog.raise ..))
    · exact h
  exact raised rfl

theorem consumePoison_if {p : Prop} [Decidable p] (b : Block) (ctx k : Nat) : AccessNotes b (if p then b.consumePoison ctx k else b) := by
  split
  · exact consumePoison ..
  · exact refl b

theorem scatterNonfinite (b : Block) (t : Task) (xs : List F32) : AccessNotes b (b.scatterNonfinite t xs) := by
  have marked := of_markStep (MarkStep.nonfinite b t.ctx t.step)
  unfold Block.scatterNonfinite
  dsimp only
  split
  · split
    · exact marked.trans (of_regLog (RegLog.raise ..))
    · exact marked
  · exact refl b

end AccessNotes

namespace MemStep
variable {a b c : Block}

theorem refl (b : Block) : MemStep b b := rfl

theorem trans (h : MemStep a b) (k : MemStep b c) : MemStep a c := by unfold MemStep at *; rw [k, h]

theorem foldl {α : Type} {f : Block → α → Block} (h : ∀ b x, MemStep b (f b x)) (l : List α) (b : Block) : MemStep b (l.foldl f b) :=
  foldl_has (MemStep b) (fun _ x k => k.trans (h _ x)) l rfl

theorem disp (h : MemStep b c) : c.disp = b.disp := by rw [h]

theorem of_storeOnly (h : StoreOnly b c) : MemStep b c := by unfold MemStep; unfold StoreOnly at h; rw [h]
theorem of_regOnly (h : RegOnly b c) : MemStep b c := (AccessNotes.of_regOnly h).mem

theorem slowCount (b : Block) (n : Nat) : MemStep b (b.slowCount n) := of_regOnly (RegOnly.bump ..)

theorem poisonPhys (b : Block) (pa n : Nat) : MemStep b (b.poisonPhys pa n) := by
  unfold Block.poisonPhys
  split <;> rfl

theorem writeVirt (from_ : Option Nat) (ctx n : Nat) : ∀ (b : Block) (va : Nat) (v : List (Byte × Bool)), MemStep b (b.writeVirt from_ ctx n va v).1 := by
  induction n with
  | zero => exact fun _ _ _ => rfl
  | succ n ih =>
    intro b va v
    have walked := of_regOnly (RegOnly.countWalk b from_ ctx va)
    unfold Block.writeVirt
    split
    · rfl
    · split
      · rfl
      · split
        · exact walked
        · exact walked
        · refine trans (trans ?_ (foldl (fun b w => poisonPhys b (8 * w) 8) _ _)) (ih ..)
          exact (walked.trans (of_regOnly (RegOnly.countAcross ..))).trans (of_storeOnly (StoreOnly.writePhys ..))

theorem countIndex (b : Block) (t : Task) (n : Nat) : MemStep b (b.countIndex t n) := of_regOnly (RegOnly.countVirt ..)

/-- A row of a GATHER reads the slow tier and writes device memory (R379, R380). -/
theorem gatherRow (t : Task) (u : Rule) (h : Header) (off : Nat) (l : Loop) (n : Nat) : MemStep l.b (Block.gatherRow t u h off l n).b := by
  have counted := countIndex l.b t n
  unfold Block.gatherRow
  split
  · rfl
  · dsimp only
    split
    · exact counted
    · split
      · exact counted
      · split
        · exact counted
        · next idx _ _ _ =>
          have read : MemStep (l.b.countIndex t n) (if idx = noTicket then l.b.countIndex t n else (l.b.countIndex t n).slowCount (rowCost u h (gsFmt t.desc))) := by
            split
            · rfl
            · exact slowCount ..
          split
          · exact (counted.trans read).trans (writeVirt ..)
          · exact (counted.trans read).trans (writeVirt ..)

end MemStep

namespace SlowStep
variable {a b c : Block}

theorem refl (b : Block) : SlowStep b b := rfl

theorem trans (h : SlowStep a b) (k : SlowStep b c) : SlowStep a c := by unfold SlowStep at *; rw [k, h]

theorem disp (h : SlowStep b c) : c.disp = b.disp := by rw [h]

theorem of_regOnly (h : RegOnly b c) : SlowStep b c := (AccessNotes.of_regOnly h).slow
theorem of_stores (h : TierStores b c) : SlowStep b c := by unfold SlowStep; rw [h.frame]

theorem countIndex (b : Block) (t : Task) (n : Nat) : SlowStep b (b.countIndex t n) := of_regOnly (RegOnly.countVirt ..)

/-- A row of a SCATTER_ADD reads device memory and writes the slow tier (R382). -/
theorem scatterRow (t : Task) (u : Rule) (h : Header) (base st : Nat) (l : Loop) (n : Nat) : SlowStep l.b (Block.scatterRow t u h base st l n).b := by
  have counted := countIndex l.b t n
  unfold Block.scatterRow
  split
  · rfl
  · split
    · exact counted
    · extract_lets b₁ z b₂ size mk entry
      split
      · exact counted
      · split
        · exact counted
        · have fetched : SlowStep l.b b₂ := counted.trans (of_regOnly (RegOnly.countVirt ..))
          split
          · exact fetched
          · extract_lets b₃ hd len cap m end_ p er b₄ old b₅ b₆
            have read : SlowStep l.b b₄ := (fetched.trans (AccessNotes.scatterNonfinite ..).slow).trans (of_regOnly (RegOnly.bump ..))
            clear_value b₄
            split
            · exact read
            · split
              · exact read
              · split
                · exact read
                · split
                  · split
                    · exact read.trans (of_stores (TierStores.slowCount ..))
                    · exact read.trans (of_stores ((TierStores.slowCount ..).trans (TierStores.storeF ..)))
                  · split
                    · exact read
                    · split
                      · exact read
                      · exact read.trans (of_stores (((TierStores.slowWrite ..).trans (TierStores.slowWrite ..)).trans (TierStores.slowWrite ..)))

end SlowStep

/-! ### How a GATHER ends (R229, R385) -/

/-- From `b`, the task of `k` has ended in `c`; the slow tier, time and the units of the fabric are as they were. -/
structure GatherEnded (k : Nat) (b c : Block) : Prop where
  ended : ∃ st u, EndedWith c k st u
  dt : c.dt = b.dt
  emith : c.emith = b.emith
  plz : c.plz = b.plz
  slow : c.slow = b.slow

theorem AccessNotes.endGather (b : Block) (x : Task) (st o u : Nat) (dst : List (Nat × Nat)) : AccessNotes (b.endTask x.ticket st u) (b.endGather x st o u dst) := by
  unfold Block.endGather
  dsimp only
  split
  · exact refl _
  · exact of_markStep (MarkStep.addTaint ..)

theorem endedWith_of_running {b : Block} {k : Nat} (runs : TaskRuns b k) (st u : Nat) : EndedWith (b.endTask k st u) k st u := by
  obtain ⟨y, here, unended⟩ := runs
  exact endedWith_endTask here unended st u

section Gather
variable {b : Block} {x : Task} (runs : TaskRuns b x.ticket)
include runs

theorem endedWith_endGather (st o u : Nat) (dst : List (Nat × Nat)) : EndedWith (b.endGather x st o u dst) x.ticket st u :=
  endedWith_of_disp (AccessNotes.endGather b x st o u dst).mem.disp (endedWith_of_running runs st u)

theorem gatherEnded_endGather {c : Block} (step : MemStep b c) (st o u : Nat) (dst : List (Nat × Nat)) : GatherEnded x.ticket b (c.endGather x st o u dst) := by
  have ended := endedWith_endGather (runs.of_disp (congrArg Disp.tasks step.disp)) st o u dst
  have notes := AccessNotes.endGather c x st o u dst
  unfold AccessNotes at notes
  unfold MemStep at step
  refine ⟨⟨st, u, ended⟩, ?_, ?_, ?_, ?_⟩
  all_goals
    rw [notes, Block.endTask, Block.setTask, step]

end Gather

theorem GatherEnded.of_notes {k : Nat} {b c d : Block} (h : GatherEnded k b c) (notes : AccessNotes c d) : GatherEnded k b d := by
  obtain ⟨⟨st, u, ended⟩, dt, emith, plz, slow⟩ := h
  have disp := notes.mem.disp
  unfold AccessNotes at notes
  exact ⟨⟨st, u, endedWith_of_disp disp ended⟩, by rw [notes, ← dt], by rw [notes, ← emith], by rw [notes, ← plz], by rw [notes, ← slow]⟩

theorem GatherEnded.ite {p : Prop} [Decidable p] {k : Nat} {b c d : Block} (h : GatherEnded k b c) (other : GatherEnded k b d) : GatherEnded k b (if p then c else d) := by
  split
  · exact h
  · exact other

/-! ### Headers that a task reads (R369) -/

/-- What holds of the end of a task whose header cannot be read, and of its work with one that can, holds of it. -/
theorem Block.withHeader_has (p : Block → Prop) {b : Block} {t : Task} {fail : Block → Nat → Nat → Block} {f : Header → Block} (out : p (fail b sAddrFault 4))
    (poisoned : p (fail (((b.slowCount 64).consumePoison t.ctx t.ticket).raise 0x8396 t.ctx []) sPoisoned 0)) (reads : ∀ h, p (f h)) : p (b.withHeader t fail f) := by
  generalize hf : Block.withHeader = g
  delta Block.withHeader at hf
  subst hf
  cases header : b.header t.ctx (gsBlock t.desc) with
  | none =>
    simp only [header]
    exact out
  | some r =>
    obtain ⟨h, poison⟩ := r
    cases poison with
    | true =>
      simp only [header]
      exact poisoned
    | false =>
      simp only [header]
      exact reads h

theorem Block.withHeader_reads {b : Block} {t : Task} {h : Header} (header : b.header t.ctx (gsBlock t.desc) = some (h, false)) (fail : Block → Nat → Nat → Block)
    (f : Header → Block) : b.withHeader t fail f = f h := by
  generalize hf : Block.withHeader = g
  delta Block.withHeader at hf
  subst hf
  simp only [header]

/-- A poisoned header is counted, consumed and told (R369). -/
theorem AccessNotes.poisonedHeader (b : Block) (ctx k : Nat) : AccessNotes b (((b.slowCount 64).consumePoison ctx k).raise 0x8396 ctx []) :=
  ((of_regOnly (RegOnly.bump ..)).trans (consumePoison ..)).trans (of_regLog (RegLog.raise ..))

/-! ### Every GATHER ends (R379, R380, R385) -/

section GatherEnds
variable {b : Block} {x : Task} (runs : TaskRuns b x.ticket)
include runs

/-- The end that a stop gives a GATHER. -/
theorem gatherEnded_stopped {c : Block} (step : MemStep b c) {p : Prop} [Decidable p] (st o u : Nat) (dst : List (Nat × Nat)) :
    GatherEnded x.ticket b ((if p then c.consumePoison x.ctx x.ticket else c).endGather x st o u dst) :=
  gatherEnded_endGather runs (step.trans (AccessNotes.consumePoison_if ..).mem) st o u dst

theorem gatherEnded_gatherRows : GatherEnded x.ticket b (b.gatherRows x) := by
  have still := fun st o u dst => gatherEnded_endGather runs (MemStep.refl b) st o u dst
  unfold Block.gatherRows
  split
  · next tainted =>
    obtain ⟨_, _, rfl⟩ := Option.map_eq_some_iff.mp tainted
    exact still ..
  · refine Block.withHeader_has (GatherEnded x.ticket b) (still ..) (gatherEnded_endGather runs (AccessNotes.poisonedHeader ..).mem ..) (fun h => ?_)
    extract_lets off u dst l
    have walked : MemStep b l.b := List.foldlRecOn (motive := fun l : Loop => MemStep b l.b) _ _ (MemStep.slowCount ..)
      (fun l kept n _ => kept.trans (MemStep.gatherRow ..))
    clear_value l
    split
    · exact gatherEnded_endGather runs walked ..
    · exact gatherEnded_stopped runs walked ..

theorem gatherEnded_gatherSpan : GatherEnded x.ticket b (b.gatherSpan x) := by
  unfold Block.gatherSpan
  extract_lets n off fit dst w
  have written : MemStep b w.1 := (MemStep.slowCount ..).trans (MemStep.writeVirt ..)
  clear_value w
  split
  · exact gatherEnded_stopped runs written ..
  · split
    · exact gatherEnded_endGather runs written ..
    · exact gatherEnded_endGather runs written ..

theorem gatherEnded_gatherWorking : GatherEnded x.ticket b (b.gatherWorking x) := by
  have still := fun st o u dst => gatherEnded_endGather runs (MemStep.refl b) st o u dst
  unfold Block.gatherWorking
  refine Block.withHeader_has (GatherEnded x.ticket b) (still ..) (gatherEnded_endGather runs (AccessNotes.poisonedHeader ..).mem ..) (fun h => ?_)
  extract_lets off u dst n work w
  have written : MemStep b w.1 := (MemStep.slowCount ..).trans (MemStep.writeVirt ..)
  clear_value w
  refine GatherEnded.ite (still ..) ?_
  split
  · exact gatherEnded_stopped runs written ..
  · exact (gatherEnded_endGather runs written ..).of_notes rfl

end GatherEnds

/-! ### How a SCATTER_ADD ends (R383, R385) -/

/-- From `b`, the task of `k` has ended in `c`; device memory, time and the units of the fabric are as they were. -/
structure ScatterEnded (k : Nat) (b c : Block) : Prop where
  ended : ∃ st u, EndedWith c k st u
  dt : c.dt = b.dt
  emith : c.emith = b.emith
  plz : c.plz = b.plz
  mem : c.mem = b.mem

theorem AccessNotes.endScatter (b : Block) (x : Task) (st u : Nat) : AccessNotes (b.endTask x.ticket st u) (b.endScatter x st u) := by
  unfold Block.endScatter
  dsimp only
  split
  · exact refl _
  · exact of_markStep (MarkStep.nonfinite ..)

theorem ScatterEnded.of_notes {k : Nat} {b c d : Block} (h : ScatterEnded k b c) (notes : AccessNotes c d) : ScatterEnded k b d := by
  obtain ⟨⟨st, u, ended⟩, dt, emith, plz, mem⟩ := h
  have disp := notes.mem.disp
  unfold AccessNotes at notes
  exact ⟨⟨st, u, endedWith_of_disp disp ended⟩, by rw [notes, ← dt], by rw [notes, ← emith], by rw [notes, ← plz], by rw [notes, ← mem]⟩

section ScatterEnds
variable {b : Block} {x : Task} (runs : TaskRuns b x.ticket)
include runs

theorem endedWith_endScatter (st u : Nat) : EndedWith (b.endScatter x st u) x.ticket st u :=
  endedWith_of_disp (AccessNotes.endScatter b x st u).mem.disp (endedWith_of_running runs st u)

theorem scatterEnded_endScatter {c : Block} (step : SlowStep b c) (st u : Nat) : ScatterEnded x.ticket b (c.endScatter x st u) := by
  have ended := endedWith_endScatter (runs.of_disp (congrArg Disp.tasks step.disp)) st u
  have notes := AccessNotes.endScatter c x st u
  unfold AccessNotes at notes
  unfold SlowStep at step
  refine ⟨⟨st, u, ended⟩, ?_, ?_, ?_, ?_⟩
  all_goals
    rw [notes, Block.endTask, Block.setTask, step]

/-- The end that a stop gives a SCATTER_ADD. -/
theorem scatterEnded_stopped {c : Block} (step : SlowStep b c) {p : Prop} [Decidable p] (st : Nat) (u : Block → Nat) :
    ScatterEnded x.ticket b ((if p then c.consumePoison x.ctx x.ticket else c).endScatter x st (u (if p then c.consumePoison x.ctx x.ticket else c))) :=
  scatterEnded_endScatter runs (step.trans (AccessNotes.consumePoison_if ..).slow) st _

theorem scatterEnded_scatterRows : ScatterEnded x.ticket b (b.scatterRows x) := by
  have still := fun st u => scatterEnded_endScatter runs (SlowStep.refl b) st u
  unfold Block.scatterRows
  split
  · exact still ..
  · refine Block.withHeader_has (ScatterEnded x.ticket b) (still ..) (scatterEnded_endScatter runs (AccessNotes.poisonedHeader ..).slow ..) (fun h => ?_)
    extract_lets c off u stage st l
    have walked : SlowStep b l.b := List.foldlRecOn (motive := fun l : Loop => SlowStep b l.b) _ _ (SlowStep.of_stores (TierStores.slowCount ..))
      (fun l kept n _ => kept.trans (SlowStep.scatterRow ..))
    clear_value l
    split_ifs
    · exact still ..
    · exact still ..
    · exact still ..
    · split
      · exact scatterEnded_endScatter runs walked ..
      · next st cause va pos _ =>
        exact scatterEnded_stopped runs walked st (fun b => gsUnit l.done cause va pos (b.scatterLen x))

theorem scatterEnded_scatterSpan : ScatterEnded x.ticket b (b.scatterSpan x) := by
  unfold Block.scatterSpan
  split
  · exact scatterEnded_endScatter runs (SlowStep.refl b) ..
  · extract_lets n off fit r a c
    have stored : SlowStep b c := (SlowStep.of_regOnly (RegOnly.countVirt ..)).trans (SlowStep.of_stores (TierStores.storeRun ..))
    clear_value c
    split
    · next s cause va pos _ => exact scatterEnded_stopped runs stored s (fun _ => gsUnit r.1.length cause va pos 0)
    · split
      · exact scatterEnded_endScatter runs stored ..
      · exact scatterEnded_endScatter runs stored ..

end ScatterEnds

/-! ### The commands -/

theorem Block.gsCmd_runs {b : Block} {k op n : Nat} {x : Task} (hx : b.starting k op = some x) (kind : gsKind x.desc = n) (runs : b.hazelRuns = true)
    (hs : b.gov.shed = false) (f : Task → Block) : b.gsCmd op n k f = f x := by
  unfold Block.gsCmd
  simp only [hx]
  exact if_pos ⟨kind, runs, by simp [hs]⟩

theorem TaskRuns.of_starting {b : Block} {k op : Nat} {x : Task} (hx : b.starting k op = some x) : x.ticket = k ∧ TaskRuns b k := by
  obtain ⟨task, running, -⟩ := Block.starting_eq_some hx
  exact ⟨Block.task?_ticket task, x, task, running⟩

/-- A command whose task Hazel runs does its work, and counts the waiting for memories. -/
theorem goes_gs {s : State} {k op n : Nat} {x : Task} (f : Block → Task → Block) (hx : s.toBlock.starting k op = some x) (kind : gsKind x.desc = n)
    (runs : s.toBlock.hazelRuns = true) (hs : s.gov.shed = false) {P : State → Prop}
    (hp : ∀ c, DrawOnly (f s.toBlock x) c → P { s with toBlock := settle c }) :
    Goes (.next (s.run (fun b => b.contended (fun b => b.gsCmd op n k (f b))))) P :=
  goes_run_eq rfl (hp _ (DrawOnly.contended (Block.gsCmd_runs hx kind runs hs _)))

/-- What the first clause of O35 says of the state in which a task has ended. -/
def EmbeddingEnded (k op : Nat) (s t : State) : Prop :=
  (∃ st u, EndedWith t.toBlock k st u) ∧ t.dt = s.dt ∧ t.emith = s.emith ∧ t.plz = s.plz ∧ (op = opGather → t.slow = s.slow) ∧ (op = opScatter → t.mem = s.mem)

theorem GatherEnded.embedding {k : Nat} {s : State} {b c : Block} (h : GatherEnded k s.toBlock b) (drawn : DrawOnly b c) :
    EmbeddingEnded k opGather s { s with toBlock := settle c } := by
  obtain ⟨ended, dt, emith, plz, slow⟩ := h.of_notes (AccessNotes.of_drawOnly drawn)
  exact ⟨ended, dt, emith, plz, fun _ => slow, fun other => absurd other (by decide)⟩

theorem ScatterEnded.embedding {k : Nat} {s : State} {b c : Block} (h : ScatterEnded k s.toBlock b) (drawn : DrawOnly b c) :
    EmbeddingEnded k opScatter s { s with toBlock := settle c } := by
  obtain ⟨ended, dt, emith, plz, mem⟩ := h.of_notes (AccessNotes.of_drawOnly drawn)
  exact ⟨ended, dt, emith, plz, fun other => absurd other (by decide), fun _ => mem⟩

/-- The five commands with their opcodes and kinds. -/
def gsCommands (k : Nat) : List (Instr × Nat × Nat) :=
  [(.gatherRows k, opGather, 0), (.gatherSpan k, opGather, 1), (.gatherWorking k, opGather, 2), (.scatterAddRows k, opScatter, 0), (.scatterAddSpan k, opScatter, 1)]

theorem embedding_ends (s : State) (k : Nat) (x : Task) : ∀ e ∈ gsCommands k, s.toBlock.starting k e.2.1 = some x → gsKind x.desc = e.2.2 →
    s.toBlock.hazelRuns = true → s.gov.shed = false → (e.2 = (opScatter, 0) → s.toBlock.firstScatter x = true) → Goes (exec e.1 s) (EmbeddingEnded k e.2.1 s) := by
  intro e he hx kind runs hs first
  obtain ⟨ticket, held⟩ := TaskRuns.of_starting hx
  subst ticket
  simp only [gsCommands, List.mem_cons, List.not_mem_nil, or_false] at he
  rcases he with rfl | rfl | rfl | rfl | rfl
  · exact goes_gs (fun b y => b.gatherRows y) hx kind runs hs (fun _ => (gatherEnded_gatherRows held).embedding)
  · exact goes_gs (fun b y => b.gatherSpan y) hx kind runs hs (fun _ => (gatherEnded_gatherSpan held).embedding)
  · exact goes_gs (fun b y => b.gatherWorking y) hx kind runs hs (fun _ => (gatherEnded_gatherWorking held).embedding)
  · refine goes_gs (fun b y => if b.firstScatter y then b.scatterRows y else b) hx kind runs hs (fun c drawn => ?_)
    rw [if_pos (first rfl)] at drawn
    exact (scatterEnded_scatterRows held).embedding drawn
  · exact goes_gs (fun b y => b.scatterSpan y) hx kind runs hs (fun _ => (scatterEnded_scatterSpan held).embedding)

/-- A GATHER of no rows reads its header and ends OK (R379). -/
theorem gatherNone_goes (s : State) (k : Nat) (x : Task) (h : Header) (hx : s.toBlock.starting k opGather = some x) (kind : gsKind x.desc = 0)
    (runs : s.toBlock.hazelRuns = true) (hs : s.gov.shed = false) (none_ : gsCount x.desc = 0) (untainted : s.toBlock.tainted x.ctx (idxExtent x.desc) = none)
    (header : s.toBlock.header x.ctx (gsBlock x.desc) = some (h, false)) :
    Goes (exec (.gatherRows k) s) fun t => EndedWith t.toBlock k sOK (gsUnit 0 0 0 noPos 0) ∧ t.mem = s.mem := by
  obtain ⟨ticket, held⟩ := TaskRuns.of_starting hx
  subst ticket
  have work : s.toBlock.gatherRows x = (s.toBlock.slowCount 64).endGather x sOK x.ticket (gsUnit 0 0 0 noPos 0) (s.toBlock.gatherDst x) := by
    have runs_ : s.toBlock.gatherTainted x = none := by rw [Block.gatherTainted, untainted]; rfl
    unfold Block.gatherRows
    rw [runs_]
    dsimp only
    rw [Block.withHeader_reads header, none_]
    rfl
  refine goes_gs (fun b y => b.gatherRows y) hx kind runs hs (fun c drawn => ?_)
  rw [work] at drawn
  exact ⟨endedWith_of_disp drawn.disp (endedWith_endGather (held.of_disp (c := s.toBlock.slowCount 64) rfl) ..), drawn.mem⟩

end Sys2Proof.Machine
end

section
/-! PROOFS. SPAN: bytes within one page, unchanged from the slow tier to device memory and back (R178, R185, R224, R380, R381). -/

namespace Sys2Proof.Machine

/-! ### Whole lines of device memory (R163, R182, R185) -/

/-- `m'` is `m` with the bytes `v` at `a`. -/
structure RangeWritten (a : Nat) (v : List Byte) (m m' : Mem) : Prop where
  inside : ∀ i (hi : i < v.length), m'.byte (a + i) = v[i]
  outside : ∀ x, x < a ∨ a + v.length ≤ x → m'.byte x = m.byte x

namespace RangeWritten
variable {a : Nat} {v w : List Byte} {m m' m'' : Mem}

theorem nil (a : Nat) (m : Mem) : RangeWritten a [] m m := ⟨fun _ hi => absurd hi (Nat.not_lt_zero _), fun _ _ => rfl⟩

theorem bytes (h : RangeWritten a v m m') : m'.bytes a v.length = v := Mem.bytes_eq h.inside

/-- Two ranges, one behind the other. -/
theorem append (h : RangeWritten a v m m') (k : RangeWritten (a + v.length) w m' m'') : RangeWritten a (v ++ w) m m'' := by
  refine ⟨fun i hi => ?_, fun x out => ?_⟩
  · rw [List.length_append] at hi
    by_cases first : i < v.length
    · rw [k.outside _ (.inl (by omega)), h.inside i first, List.getElem_append_left first]
    · have second := k.inside (i - v.length) (by omega)
      rw [show a + v.length + (i - v.length) = a + i by omega] at second
      rw [second, List.getElem_append_right (by omega)]
  · rw [List.length_append] at out
    rw [k.outside x (by omega), h.outside x (by omega)]

theorem of_line (len : v.length = 64) (h : LineWritten a v m m') : RangeWritten a v m m' := by
  obtain ⟨read, outside⟩ := h
  refine ⟨fun i hi => ?_, fun x out => outside x (by omega)⟩
  have same : (m'.bytes a 64)[i]'(by rw [Mem.length_bytes]; omega) = v[i] := List.getElem_of_eq read _
  rw [← same]
  simp [Mem.bytes]

/-- Whole lines in a Terrace. -/
theorem write (aligned : a % 64 = 0) (whole : v.length % 64 = 0) (m : Mem) : RangeWritten a v m (m.write 8 a v) :=
  ⟨fun _ hi => Mem.byte_putBytes_in _ _ _ hi (Mem.poisoned_clearFull m (by omega) (by omega)), fun _ out => m.byte_write_outside a v out⟩

end RangeWritten

/-- One whole line through the write-combining buffers; which stacks are lost does not depend on it. -/
theorem Block.enterLine_written (b : Block) {a : Nat} {v : List Byte} (aligned : a % 64 = 0) (len : v.length = 64) :
    RangeWritten a v b.mem (Block.enterLine { b with mem := b.mem.putRaw a v } a 64).mem
    ∧ ∀ x, (Block.enterLine { b with mem := b.mem.putRaw a v } a 64).lostAt x = b.lostAt x := by
  obtain ⟨c, entered⟩ := Block.enterLine_mem { b with mem := b.mem.putRaw a v } aligned
  refine ⟨.of_line len ?_, Block.lostAt_of_idxKept (IdxKept.enterLine { b with mem := b.mem.putRaw a v } a 64) (by decide +kernel)⟩
  rw [entered]
  exact Mem.lineWritten_putRaw aligned len b.mem (mem_coveredWords_line _ c)

/-- Whole lines through the buffers, where no stack is lost. -/
theorem Block.writeHbm_written (k : Nat) : ∀ (b : Block) (a : Nat) (v : List Byte), a % 64 = 0 → v.length % 64 = 0 → v.length ≤ 64 * k →
    (∀ i < v.length, b.lostAt (a + i) = false) → RangeWritten a v b.mem (b.writeHbm a v k).mem := by
  induction k with
  | zero =>
    intro b a v _ _ lines _
    rw [show v = [] from List.eq_nil_of_length_eq_zero (by omega)]
    exact RangeWritten.nil ..
  | succ k ih =>
    intro b a v aligned whole lines kept
    unfold Block.writeHbm
    split
    · next empty =>
      rw [List.isEmpty_iff.mp empty]
      exact RangeWritten.nil ..
    · next full =>
      have some_ : 0 < v.length := List.length_pos_iff.mpr (by simpa using full)
      have count : lineCount a v.length = 64 := by rw [lineCount]; omega
      have part : (v.take 64).length = 64 := by rw [List.length_take]; omega
      have left : (v.drop 64).length = v.length - 64 := List.length_drop
      dsimp only
      rw [show b.lostAt a = false from kept 0 some_, if_neg Bool.false_ne_true, count]
      obtain ⟨line, lost⟩ := b.enterLine_written aligned part
      generalize Block.enterLine { b with mem := b.mem.putRaw a (v.take 64) } a 64 = d at line lost ⊢
      have rest : RangeWritten (a + (v.take 64).length) (v.drop 64) d.mem (d.writeHbm (a + 64) (v.drop 64) k).mem := by
        rw [part]
        refine ih d _ _ (by omega) (by omega) (by omega) (fun i hi => ?_)
        rw [lost, Nat.add_assoc]
        exact kept _ (by omega)
      have all := line.append rest
      rwa [List.take_append_drop] at all

/-- A plain write of whole lines where no stack is lost (R152, R178, R182). -/
theorem Block.writePhys_written (b : Block) {a : Nat} {v : List Byte} (aligned : a % 64 = 0) (whole : v.length % 64 = 0)
    (kept : ∀ i < v.length, b.lostAt (a + i) = false) : RangeWritten a v b.mem (b.writePhys a v).mem := by
  rw [← Block.countWrite_mem b a v.length]
  unfold Block.writePhys Block.storePhys
  have here : ∀ i < v.length, (b.countWrite a v.length).lostAt (a + i) = false := fun i hi =>
    (Block.lostAt_of_idxKept (IdxKept.countWrite b a v.length) (by decide +kernel) _).trans (kept i hi)
  split
  · exact RangeWritten.write aligned whole _
  · exact Block.writeHbm_written _ _ a v aligned whole (by omega) here

/-! ### A range within one page (R224) -/

/-- Bytes without poison, as a range access takes them. -/
def unpoisoned (v : List Byte) : List (Byte × Bool) := v.map (fun y => (y, false))

@[simp] theorem length_unpoisoned (v : List Byte) : (unpoisoned v).length = v.length := List.length_map _

@[simp] theorem map_fst_unpoisoned (v : List Byte) : (unpoisoned v).map (·.1) = v := (List.map_map ..).trans (List.map_id v)

/-- No byte of them is one that a store would mark. -/
theorem unpoisoned_marks (v : List Byte) : (unpoisoned v).zipIdx.filter (fun x => x.1.2) = [] := by
  refine List.filter_eq_nil_iff.mpr (fun x hx => ?_)
  obtain ⟨y, -, eq⟩ := List.mem_map.mp (List.fst_mem_of_mem_zipIdx hx)
  simp [← eq]

section Page
variable {b : Block} {ctx va pa k : Nat} (low : va < 2 ^ 48)
include low

theorem Block.writeVirt_page (walk : b.walk ctx va true false = .ok pa) {v : List Byte} (some_ : 0 < v.length) (fits : va % pageSize + v.length ≤ pageSize) :
    b.writeVirt none ctx (k + 1) va (unpoisoned v) = ((b.countWalk none ctx va).writePhys pa v, v.length, .all) := by
  have full : (unpoisoned v).isEmpty = false := by
    cases v with
    | nil => cases some_
    | cons _ _ => rfl
  have all : min (unpoisoned v).length (pageSize - va % pageSize) = v.length := by rw [length_unpoisoned]; omega
  have ends : ∀ c : Block, c.writeVirt none ctx k (va + v.length) [] = (c, 0, .all) := by
    intro c
    cases k <;> rfl
  rw [Block.writeVirt, full, if_neg Bool.false_ne_true, if_neg (by omega), walk]
  dsimp only
  rw [all, List.take_of_length_le (by rw [length_unpoisoned]), List.drop_of_length_le (by rw [length_unpoisoned]), unpoisoned_marks, map_fst_unpoisoned, ends]
  rfl

theorem Block.readVirt_page (walk : b.walk ctx va false false = .ok pa) {n : Nat} (some_ : 0 < n) (fits : va % pageSize + n ≤ pageSize) :
    b.readVirt ctx (k + 1) va n = (b.bytesAt pa n, .all) := by
  have all : min n (pageSize - va % pageSize) = n := by omega
  have ends : b.readVirt ctx k (va + n) 0 = ([], .all) := by cases k <;> rfl
  rw [Block.readVirt, if_neg (by omega), if_neg (by omega), walk]
  dsimp only
  rw [all, Nat.sub_self, ends, List.append_nil]

end Page

/-! ### Bytes at their source (R380, R381) -/

theorem Mem.bytes_one (m : Mem) (a : Nat) : nth 0 (m.bytes a 1) 0 = m.byte a := rfl

theorem Mem.anyPoison_one (m : Mem) (a : Nat) : m.anyPoison a 1 = m.poisoned (a / 8) := by
  have one : wordsOf a 1 = [a / 8] := by
    rw [wordsOf, if_neg (by decide), show a + 1 - 1 = a by omega, Nat.sub_self]
    rfl
  rw [Mem.anyPoison, one, List.any_cons, List.any_nil, Bool.or_false]

/-- Bytes of a range of a memory without poison, one by one. -/
theorem Mem.bytes_unpoisoned {m : Mem} {a n : Nat} (clean : m.anyPoison a n = false) :
    (List.range n).map (fun i => (nth 0 (m.bytes (a + i) 1) 0, m.anyPoison (a + i) 1)) = unpoisoned (m.bytes a n) := by
  unfold unpoisoned
  rw [Mem.bytes, List.map_map]
  refine List.map_congr_left (fun i hi => ?_)
  rw [Mem.bytes_one, Mem.anyPoison_one, Mem.poisoned_of_clean clean (List.mem_range.mp hi)]
  rfl

theorem Block.slowBytes_clean {b : Block} (kept : b.reg Od.slowState 0 ≠ slLost) {a n : Nat} (clean : b.slow.anyPoison a n = false) :
    b.slowBytes a n = unpoisoned (b.slow.bytes a n) := by
  rw [← Mem.bytes_unpoisoned clean]
  unfold Block.slowBytes
  simp only [Block.slowPeek_kept kept]

theorem Block.bytesAt_clean {b : Block} {a n : Nat} (kept : ∀ i < n, b.lostAt (a + i) = false) (clean : b.mem.anyPoison a n = false) :
    b.bytesAt a n = unpoisoned (b.mem.bytes a n) := by
  rw [← Mem.bytes_unpoisoned clean]
  refine List.map_congr_left (fun i hi => ?_)
  rw [Block.readPhys, if_neg (by rw [kept i (List.mem_range.mp hi)]; exact Bool.false_ne_true)]

theorem Block.storeRun_unpoisoned (b : Block) (a : Nat) (v : List Byte) : b.storeRun a (unpoisoned v) = b.slowWrite a v := by
  rw [Block.storeRun, unpoisoned_marks, map_fst_unpoisoned]
  rfl

/-! ### The clauses of O35 on SPAN -/

theorem DrawOnly.of_regOnly {b c : Block} (h : RegOnly b c) : DrawOnly b c := by
  unfold DrawOnly
  unfold RegOnly at h
  rw [h]

theorem IdxKept.countVirt (ctx : Nat) (from_ : Option Nat) (k : Nat) : ∀ (b : Block) (va n : Nat), IdxKept accessIdx b (b.countVirt from_ ctx k va n) := by
  induction k with
  | zero => exact fun b _ _ => IdxKept.refl _ b
  | succ k ih =>
    intro b va n
    have walked := IdxKept.countWalk b from_ ctx va
    unfold Block.countVirt
    split
    · exact IdxKept.refl _ b
    · split
      · exact ((walked.trans (IdxKept.countRead _ _ _)).trans (IdxKept.countAcross _ _ _ _)).trans (ih _ _ _)
      · exact walked

theorem SameTables.slowCount (b : Block) (n : Nat) : SameTables b (b.slowCount n) :=
  ⟨rfl, rfl, rfl, rfl, fun i hi _ => reg_setReg_of_idx_ne b _ _ _ (by rintro rfl; revert hi; decide) (by revert i; decide) (by decide)⟩

/-- A range access has fuel for at least one page. -/
theorem pagesOf_succ (n : Nat) : ∃ k, pagesOf n = k + 1 := ⟨n / pageSize + 1, rfl⟩

/-- What a SPAN moves where its region holds all of it (R380, R381). -/
theorem min_sub_of_inside {n off size : Nat} (inside : off + n ≤ size) : min n (size - off) = n := by omega

theorem Block.gatherSpan_page {b : Block} {x : Task} {pa : Nat} (kept : b.reg Od.slowState 0 ≠ slLost) (some_ : 0 < gsCount x.desc)
    (inside : gsBlock x.desc + gsCount x.desc ≤ (b.region x.ctx).2) (clean : b.slow.anyPoison ((b.region x.ctx).1 + gsBlock x.desc) (gsCount x.desc) = false)
    (low : gsVa x.desc < 2 ^ 48) (fits : gsVa x.desc % pageSize + gsCount x.desc ≤ pageSize) (walk : b.walk x.ctx (gsVa x.desc) true false = .ok pa) :
    b.gatherSpan x = Block.endGather (((b.slowCount (gsCount x.desc)).countWalk none x.ctx (gsVa x.desc)).writePhys pa
      (b.slow.bytes ((b.region x.ctx).1 + gsBlock x.desc) (gsCount x.desc))) x sOK x.ticket (gsUnit (gsCount x.desc) 0 0 noPos 0) (b.gatherDst x) := by
  obtain ⟨k, pages⟩ := pagesOf_succ (gsCount x.desc)
  have len := b.slow.length_bytes ((b.region x.ctx).1 + gsBlock x.desc) (gsCount x.desc)
  have written := Block.writeVirt_page (b := b.slowCount (gsCount x.desc)) (k := k) low (((SameTables.slowCount b _).walk ..).trans walk)
    (v := b.slow.bytes ((b.region x.ctx).1 + gsBlock x.desc) (gsCount x.desc)) (by rwa [len]) (by rwa [len])
  unfold Block.gatherSpan
  dsimp only
  rw [min_sub_of_inside inside, pages, Block.slowBytes_clean kept clean, written]
  simp only [Ended.stop]
  rw [if_neg (Nat.lt_irrefl _)]

theorem gatherSpan_goes (s : State) (k pa a : Nat) (x : Task) (hx : s.toBlock.starting k opGather = some x) (kind : gsKind x.desc = 1)
    (runs : s.toBlock.hazelRuns = true) (hs : s.gov.shed = false) (whole : gsCount x.desc % 64 = 0) (some_ : 0 < gsCount x.desc)
    (inside : gsBlock x.desc + gsCount x.desc ≤ (s.toBlock.region x.ctx).2) (at_ : a = (s.toBlock.region x.ctx).1 + gsBlock x.desc)
    (clean : s.slow.anyPoison a (gsCount x.desc) = false) (low : gsVa x.desc < 2 ^ 48) (fits : gsVa x.desc % pageSize + gsCount x.desc ≤ pageSize)
    (walk : s.toBlock.walk x.ctx (gsVa x.desc) true false = .ok pa) (aligned : pa % 64 = 0) (served : ∀ i < gsCount x.desc, s.toBlock.lostAt (pa + i) = false) :
    Goes (exec (.gatherSpan k) s) fun t =>
      EndedWith t.toBlock k sOK (gsUnit (gsCount x.desc) 0 0 noPos 0) ∧ t.mem.bytes pa (gsCount x.desc) = s.slow.bytes a (gsCount x.desc)
      ∧ ∀ b, b < pa ∨ pa + gsCount x.desc ≤ b → t.mem.byte b = s.mem.byte b := by
  obtain ⟨ticket, held⟩ := TaskRuns.of_starting hx
  subst ticket at_
  have work := Block.gatherSpan_page (Block.kept_of_hazelRuns runs) some_ inside clean low fits walk
  have len := s.slow.length_bytes ((s.toBlock.region x.ctx).1 + gsBlock x.desc) (gsCount x.desc)
  generalize s.slow.bytes ((s.toBlock.region x.ctx).1 + gsBlock x.desc) (gsCount x.desc) = v at work len ⊢
  have counted : DrawOnly s.toBlock ((s.toBlock.slowCount (gsCount x.desc)).countWalk none x.ctx (gsVa x.desc)) :=
    .of_regOnly ((RegOnly.bump ..).trans (RegOnly.countWalk ..))
  have served' : ∀ i < v.length, ((s.toBlock.slowCount (gsCount x.desc)).countWalk none x.ctx (gsVa x.desc)).lostAt (pa + i) = false := by
    intro i hi
    rw [Block.lostAt_of_idxKept (IdxKept.countWalk _ _ _ _) (by decide +kernel),
      Block.lostAt_of_idxKept (TierStores.slowCount s.toBlock (gsCount x.desc)).regs (by decide)]
    exact served i (by omega)
  have written := Block.writePhys_written _ aligned (by rwa [len]) served'
  have stored := StoreOnly.writePhys ((s.toBlock.slowCount (gsCount x.desc)).countWalk none x.ctx (gsVa x.desc)) pa v
  have disp := stored.disp.trans counted.disp
  rw [counted.mem] at written
  refine goes_gs (fun b y => b.gatherSpan y) hx kind runs hs (fun c drawn => ?_)
  rw [work] at drawn
  generalize ((s.toBlock.slowCount (gsCount x.desc)).countWalk none x.ctx (gsVa x.desc)).writePhys pa v = d at *
  have mem : c.mem = d.mem := drawn.mem
  refine ⟨endedWith_of_disp drawn.disp (endedWith_endGather (held.of_disp (congrArg Disp.tasks disp)) ..), ?_, fun y out => ?_⟩
  · rw [settle_mem, mem, ← len]
    exact written.bytes
  · rw [settle_mem, mem]
    exact written.outside y (by rwa [len])

theorem Block.scatterSpan_page {b : Block} {x : Task} {pa : Nat} (untainted : b.tainted x.ctx (b.scatterSrc x) = none) (some_ : 0 < gsCount x.desc)
    (inside : gsBlock x.desc + gsCount x.desc ≤ (b.region x.ctx).2) (clean : b.mem.anyPoison pa (gsCount x.desc) = false)
    (served : ∀ i < gsCount x.desc, b.lostAt (pa + i) = false) (low : gsVa x.desc < 2 ^ 48) (fits : gsVa x.desc % pageSize + gsCount x.desc ≤ pageSize)
    (walk : b.walk x.ctx (gsVa x.desc) false false = .ok pa) :
    b.scatterSpan x = Block.endScatter ((b.countVirt none x.ctx (pagesOf (gsCount x.desc)) (gsVa x.desc) (gsCount x.desc)).slowWrite
      ((b.region x.ctx).1 + gsBlock x.desc) (b.mem.bytes pa (gsCount x.desc))) x sOK (gsUnit (gsCount x.desc) 0 0 noPos 0) := by
  obtain ⟨k, pages⟩ := pagesOf_succ (gsCount x.desc)
  have read := Block.readVirt_page (b := b) (k := k) low walk some_ fits
  unfold Block.scatterSpan
  rw [untainted]
  dsimp only
  rw [min_sub_of_inside inside, pages, read, Block.bytesAt_clean served clean, Block.storeRun_unpoisoned]
  simp only [Ended.stop]
  rw [if_neg (Nat.lt_irrefl _)]

theorem scatterSpan_goes (s : State) (k pa a : Nat) (x : Task) (hx : s.toBlock.starting k opScatter = some x) (kind : gsKind x.desc = 1)
    (runs : s.toBlock.hazelRuns = true) (hs : s.gov.shed = false) (untainted : s.toBlock.tainted x.ctx (s.toBlock.scatterSrc x) = none)
    (whole : gsCount x.desc % 64 = 0) (some_ : 0 < gsCount x.desc) (inside : gsBlock x.desc + gsCount x.desc ≤ (s.toBlock.region x.ctx).2)
    (at_ : a = (s.toBlock.region x.ctx).1 + gsBlock x.desc) (aligned : a % 16 = 0) (low : gsVa x.desc < 2 ^ 48)
    (fits : gsVa x.desc % pageSize + gsCount x.desc ≤ pageSize) (walk : s.toBlock.walk x.ctx (gsVa x.desc) false false = .ok pa)
    (clean : s.mem.anyPoison pa (gsCount x.desc) = false) (served : ∀ i < gsCount x.desc, s.toBlock.lostAt (pa + i) = false) :
    Goes (exec (.scatterAddSpan k) s) fun t =>
      EndedWith t.toBlock k sOK (gsUnit (gsCount x.desc) 0 0 noPos 0) ∧ t.slow.bytes a (gsCount x.desc) = s.mem.bytes pa (gsCount x.desc)
      ∧ ∀ b, b < a ∨ a + gsCount x.desc ≤ b → t.slow.byte b = s.slow.byte b := by
  obtain ⟨ticket, held⟩ := TaskRuns.of_starting hx
  subst ticket at_
  have work := Block.scatterSpan_page untainted some_ inside clean served low fits walk
  have len := s.mem.length_bytes pa (gsCount x.desc)
  generalize s.mem.bytes pa (gsCount x.desc) = v at work len ⊢
  have counted := DrawOnly.of_regOnly (RegOnly.countVirt x.ctx none (pagesOf (gsCount x.desc)) s.toBlock (gsVa x.desc) (gsCount x.desc))
  have regs := IdxKept.countVirt x.ctx none (pagesOf (gsCount x.desc)) s.toBlock (gsVa x.desc) (gsCount x.desc)
  generalize s.toBlock.countVirt none x.ctx (pagesOf (gsCount x.desc)) (gsVa x.desc) (gsCount x.desc) = d at *
  have kept : d.reg Od.slowState 0 ≠ slLost := by
    rw [regs _ _ (by decide) (by decide +kernel)]
    exact Block.kept_of_hazelRuns runs
  generalize (s.toBlock.region x.ctx).1 + gsBlock x.desc = a at *
  have slow : (d.slowWrite a v).slow = s.slow.write 16 a v := by rw [Block.slowWrite_slow kept, counted.slow]
  have stores := TierStores.slowWrite d a v
  refine goes_gs (fun b y => b.scatterSpan y) hx kind runs hs (fun c drawn => ?_)
  rw [work] at drawn
  have tier : c.slow = s.slow.write 16 a v := by
    have ended : ((d.slowWrite a v).endScatter x sOK (gsUnit (gsCount x.desc) 0 0 noPos 0)).slow = (d.slowWrite a v).slow := rfl
    rw [drawn.slow, ended, slow]
  refine ⟨endedWith_of_disp drawn.disp (endedWith_endScatter (held.of_disp (congrArg Disp.tasks (stores.disp.trans counted.disp))) ..), ?_, fun y out => ?_⟩
  · rw [settle_slow, tier, ← len]
    exact Mem.bytes_writeUnits aligned (by omega) _
  · rw [settle_slow, tier]
    exact Mem.byte_writeUnits_outside _ (by rwa [len])

/-- Settles O35: every branch of a task is an end of it, and a SPAN within one page is one write of bytes without poison. -/
theorem embeddingTasks : Obligations.EmbeddingTasks := by
  unfold Obligations.EmbeddingTasks
  exact ⟨⟨embedding_ends, gatherNone_goes⟩, gatherSpan_goes, scatterSpan_goes⟩

end Sys2Proof.Machine
end
